-- ==== Sys2Proof/Word.lean ====
section
/-! DEFINITION. The plain value types: bytes, 64-bit words, the index types of the units of ZT-1
(00_scope, 01_the_package_at_work) and the element-format codes of R77. -/

namespace Sys2Proof

/-- A byte of device memory or of a bunker slice. -/
abbrev Byte := BitVec 8

/-- A register or scalar word: every register is 64 bits wide (R13). -/
abbrev Word := BitVec 64

/-- A hardware context: `4 * q + c` for context `c` of sequencer `q` (R112, R143). -/
abbrev Cid := Fin 8

/-- A station, 0 to 95 (R19). -/
abbrev StationId := Fin 96

/-- A haulage hub, 0 to 3 (R250). -/
abbrev HubId := Fin 4

/-- A stream queue of a hub, 0 to 15 (R250). -/
abbrev QueueId := Fin 16

/-- A Berken port, 0 to 47 (R390). -/
abbrev PortId := Fin 48

/-- A bunker handle number (R212). -/
abbrev HandleId := BitVec 12

/-- A 96-bit station set (R160). -/
abbrev StationSet := BitVec 96

/-- A fabric identity or position, x [16:11], y [10:5], z [4:0] (R409, R410). -/
abbrev NodeId := BitVec 17

/-- The four variants of R1. -/
inductive Variant where
  | full | memory | link | base
  deriving DecidableEq, Repr

/-- Who makes a register request (R15, R616, R680). -/
inductive Requester where
  | host | mgmt | config | debug | sideband
  deriving DecidableEq, Repr

/-- The words of one Nente instruction without its opcode (R158): NEXT, the operand bits [53:0]
and the first extension word (zero when there is none). -/
structure NWords where
  next : BitVec 2
  opnd : BitVec 54
  ext  : BitVec 64
  deriving DecidableEq, Repr

/-- A Lalux request flit (R460, R461): the header fields and the payload. -/
structure LFlit where
  dst     : BitVec 6
  src     : BitVec 6
  typ     : BitVec 4
  len     : BitVec 8
  tag     : BitVec 8
  addr    : BitVec 48
  status  : BitVec 8
  aux     : BitVec 64
  check   : BitVec 32
  payload : List Byte
  deriving DecidableEq, Repr

/-- A Berken message (R396): header word 0 apart, words 1 to 7 and the data. -/
structure FMsg where
  dst    : NodeId
  src    : NodeId
  vl     : BitVec 3
  detour : Bool
  kind   : BitVec 4
  plane  : BitVec 2
  w1     : Word
  w2     : Word
  w3     : Word
  w4     : Word
  w5     : Word
  w6     : Word
  w7     : Word
  data   : List Byte
  deriving DecidableEq, Repr

/-- A link port: a Berken port, or a Lalux port (UP, DN). -/
inductive LinkPort where
  | berken (p : PortId)
  | llxUp
  | llxDn
  deriving DecidableEq, Repr

/-- A flit of a frame (R395, R459). `dataFlit` stands for a message's head, or a body flit of it;
the message they carry arrives with its own command. -/
inductive Flit where
  | idle
  | dataFlit (head : Bool) (vl : BitVec 3) (cls : BitVec 2)
  | control
  deriving DecidableEq, Repr

/-- A flit's tag (R395): VL, CLASS, TYPE. -/
def Flit.tag : Flit → Byte
  | .idle => 0
  | .dataFlit head vl cls => BitVec.ofNat 8 (vl.toNat + 8 * cls.toNat + 32 * (if head then 1 else 2))
  | .control => 0x60

/-- The outcome of decoding one FEC codeword (R393, R454). -/
inductive Fec where
  | clean | corrected | uncorrectable
  deriving DecidableEq, Repr

/-- The retry fields and credit counts of a control flit (R400, R401). -/
structure Control where
  credits : List (BitVec 12)
  ack     : BitVec 16
  nak     : Bool
  nakNo   : BitVec 16
  deriving DecidableEq, Repr

/-- What a port-pairing exchange shows of the peer (R405); the two signature outcomes are facts of
the exchange (Ed25519 is named, not restated, by the manual). -/
structure PairInfo where
  ident  : NodeId
  pos    : NodeId
  port   : BitVec 6
  certOk : Bool
  sigOk  : Bool
  asym   : Int
  deriving DecidableEq, Repr

/-- The sensors' samples of one surface cycle (R571, R584): the 72 junction readings in 1/16 °C, the
means of the 1 MHz samples, the least and greatest voltage, and the mean power of the cycle. -/
structure Sensors where
  temps   : List Nat
  volt    : Nat
  current : Nat
  power   : Nat
  vmin    : Nat
  vmax    : Nat
  deriving DecidableEq, Repr

/-- The cause of a station hold (R58, R69). -/
inductive HoldCause where
  | throttle | crossing | debug
  deriving DecidableEq, Repr

/-- A hold of a station (R58). -/
structure Hold where
  st    : StationId
  cause : HoldCause
  deriving DecidableEq, Repr

/-- What a port decodes of a frame: its flits, and the symbols corrected on each lane (R394, R403). -/
structure RxFrame where
  flits : List Flit
  sym   : List Nat
  deriving DecidableEq, Repr

/-- A lane that fails (R403): weak, or without its signal. -/
structure LaneFail where
  lane : Fin 4
  lost : Bool
  deriving DecidableEq, Repr

/-- A message with the port it came in on and its class there (R399, R435). -/
structure Arrival where
  port : PortId
  msg  : FMsg
  cls  : BitVec 2
  deriving DecidableEq, Repr

end Sys2Proof
end

