-- ==== Sys2Proof/Syntax.lean ====
section
/-! DEFINITION. The commands of the block: one constructor for each row of spec/opcode_table.json, in the table's
order. A Nente instruction's command carries its context and its words (R158); an event's command carries the
unit it happens at and what the outside world brings to it. -/

namespace Sys2Proof

inductive Instr where
  /-- NOP (R166). The sequencer executes a no-operation instruction. -/
  | nop (c : Cid) (w : Word)
  /-- HALT (R173). Ends the segment's issue; at commit the context becomes IDLE and its handles are freed. -/
  | halt (c : Cid) (w : NWords)
  /-- BR (R167). Unconditional branch by a signed word offset. -/
  | br (c : Cid) (w : NWords)
  /-- BRC (R167). Conditional branch comparing two scalars, or a scalar with zero. -/
  | brc (c : Cid) (w : NWords)
  /-- LOOP (R168). Loads a loop counter and its loop address, or skips the body when the count is zero. -/
  | loop (c : Cid) (w : NWords)
  /-- ENDLOOP (R168). Decrements a loop counter and branches back while it is non-zero. -/
  | endloop (c : Cid) (w : NWords)
  /-- CALL (R169). Writes the return address into a link scalar and branches. -/
  | call (c : Cid) (w : NWords)
  /-- RET (R169). Branches to the address held in the link scalar. -/
  | ret (c : Cid) (w : NWords)
  /-- SETS (R170). Writes an immediate, a scalar or an extension value into a scalar or a mask. -/
  | sets (c : Cid) (w : NWords)
  /-- SALU (R171). Scalar ALU operation on two registers. -/
  | salu (c : Cid) (w : NWords)
  /-- SALUI (R171). Scalar ALU operation on a register and a sign-extended immediate. -/
  | salui (c : Cid) (w : NWords)
  /-- LDS (R172). Loads 8 bytes from HBM, a bunker handle or a context item into a scalar. -/
  | lds (c : Cid) (w : NWords)
  /-- LDS_RETURN (R161). The data of an outstanding LDS returns, releasing instructions that wait on the scalar. -/
  | ldsReturn (c : Cid) (sd : Fin 32)
  /-- STS (R172). Stores a scalar to HBM or a bunker handle. -/
  | sts (c : Cid) (w : NWords)
  /-- SEGMENT (R122). Begins a segment, optionally increasing the step, and sets the segment budget. -/
  | segment (c : Cid) (w : NWords)
  /-- COMMIT (R124). Ends the segment's issue so that it can become complete and wait for the bell. -/
  | commit (c : Cid) (w : NWords)
  /-- BELLWAIT (R124). Ends the segment and makes the next n segments empty. -/
  | bellwait (c : Cid) (w : NWords)
  /-- BARRIER (R175). Orders station instructions dispatched after it behind those dispatched before it. -/
  | barrier (c : Cid) (w : NWords)
  /-- BARRIER_PASS (R175). All earlier covered station instructions and member streams have finished and the barrier passes. -/
  | barrierPass (c : Cid)
  /-- FENCE (R176). Stops the sequencer until the selected classes of earlier instructions are done. -/
  | fence (c : Cid) (w : NWords)
  /-- FENCE_PASS (R176). The selected conditions of a waiting FENCE hold and the sequencer resumes. -/
  | fencePass (c : Cid)
  /-- MMA (R178). Dispatches a matrix multiply-accumulate member of a ring group to the stations of a mask. -/
  | mma (c : Cid) (w : NWords)
  /-- ACCLOAD (R179). Dispatches a load of an accumulator bank from a source. -/
  | accload (c : Cid) (w : NWords)
  /-- DRAIN (R180). Dispatches the drain of a bank through a drain program into a handle. -/
  | drain (c : Cid) (w : NWords)
  /-- RINGINJ (R182). Dispatches a pass of K slices onto a lane at an origin station, binding its members. -/
  | ringinj (c : Cid) (w : NWords)
  /-- RINGRET (R183). Dispatches a capture of a pass into a destination handle. -/
  | ringret (c : Cid) (w : NWords)
  /-- ARRAY_ISSUE (R42). An array instruction at the head of its station queue finds all its conditions met and issues. -/
  | arrayIssue (st : StationId)
  /-- RING_GROUP_ISSUE (R55). A RINGINJ and all its members become ready and issue together in one cycle, reserving hops. -/
  | ringGroupIssue (c : Cid) (tag : Fin 16)
  /-- BANK_EXCHANGE_END (R37). A drain, load or fused exchange of a bank finishes moving rows. -/
  | bankExchangeEnd (st : StationId) (bank : Fin 2)
  /-- MMA_RESIDUE_OUTCOME (R66). The residue outcome of an MMA becomes known and, if clean, drained rows are counted in the fill. -/
  | mmaResidueOutcome (st : StationId) (bank : Fin 2) (clean : Bool) (row col : Fin 128)
  /-- RESIDUE_FAULT (R61). A residue mismatch aborts the MMA and starts a replay of its pass. -/
  | residueFault (st : StationId) (bank : Fin 2) (row col : Fin 128)
  /-- REPLAY_PASS_ISSUE (R61). After the reload, the origin re-issues the faulted pass once its hops and port are free. -/
  | replayPassIssue (st : StationId) (bank : Fin 2)
  /-- PASS_RETIRE (R52). A pass's last word leaves the last position of its span and circuits. -/
  | passRetire (c : Cid) (tag : Fin 16)
  /-- RINGRET_CAPTURE_END (R183). A capture ends and the destination's fill counter advances. -/
  | ringretCaptureEnd (st : StationId) (tag : Fin 16)
  /-- STATION_HOLD_START (R58). A throttle, crossing under-run or debug stop holds a whole station in one cycle. -/
  | stationHoldStart (st : StationId) (cause : HoldCause)
  /-- STATION_HOLD_END (R58). A station hold of a cause ends; with no other hold, every part of the station resumes in the same cycle. -/
  | stationHoldEnd (hold : Hold)
  /-- VOP (R185). Elementwise vector operation over the rows of handles. -/
  | vop (c : Cid) (w : NWords)
  /-- VOP_LOAD_PROG (R186). VOP with PROG = 1 loads a drain-program image into a drain-program slot. -/
  | vopLoadProg (c : Cid) (w : NWords)
  /-- VRED (R187). Row reduction with station or run scope into one or two result handles. -/
  | vred (c : Cid) (w : NWords)
  /-- VLUT (R188). Evaluates a function table at every element (FORM 0). -/
  | vlut (c : Cid) (w : NWords)
  /-- VLUT_BACK (R106). Computes dx = dy times f-prime of the saved input (FORM 1). -/
  | vlutBack (c : Cid) (w : NWords)
  /-- VLUT_LOAD (R107). Copies a table pair image into a function-table slot (FORM 2). -/
  | vlutLoad (c : Cid) (w : NWords)
  /-- VCVT (R189). Converts a handle to a format with a rounding mode, exponent or scale record. -/
  | vcvt (c : Cid) (w : NWords)
  /-- VRNG (R190). Writes random numbers of a chosen distribution into a handle. -/
  | vrng (c : Cid) (w : NWords)
  /-- VECTOR_ISSUE (R98). A vector instruction at the head of its queue finds its handles and ports ready and issues. -/
  | vectorIssue (st : StationId)
  /-- VECTOR_FINISH (R111). A vector instruction finishes at every station and its flag word is written. -/
  | vectorFinish (no : Nat)
  /-- STREAM (R192). Starts or re-arms a queue on a descriptor or address program. -/
  | stream (c : Cid) (w : NWords)
  /-- STREAMP (R193). Issues a provisional fill stream for the next segment. -/
  | streamp (c : Cid) (w : NWords)
  /-- WAITH (R194). Stops the sequencer until a handle's fill counter reaches a count. -/
  | waith (c : Cid) (w : NWords)
  /-- WAITH_RELEASE (R194). The awaited fill count or completeness is reached and the sequencer resumes. -/
  | waithRelease (c : Cid)
  /-- SAVEACT (R195). Writes a handle to HBM as a coded activation record. -/
  | saveact (c : Cid) (w : NWords)
  /-- LOADACT (R195). Reads an activation record back into a handle, optionally turned or provisional. -/
  | loadact (c : Cid) (w : NWords)
  /-- HALLOC (R197). Allocates a bunker handle with its station set, shape and region. -/
  | halloc (c : Cid) (w : NWords)
  /-- HFREE (R198). Makes a handle purge-pending under the hold rule. -/
  | hfree (c : Cid) (w : NWords)
  /-- HPURGE (R198). Zero-fills a handle's region and keeps it allocated. -/
  | hpurge (c : Cid) (w : NWords)
  /-- HANDLE_HOLD_END (R223). The last registered reader or writer of a held handle finishes and a pending free takes effect. -/
  | handleHoldEnd (h : HandleId)
  /-- MILLSTEP (R200). Gives a mill a tensor record to update when its reduction hands over. -/
  | millstep (c : Cid) (w : NWords)
  /-- COEFSET (R201). Writes a scalar into a field of a shadow coefficient-table entry. -/
  | coefset (c : Cid) (w : NWords)
  /-- COEFSWAP (R201). Requests that the shadow coefficient table become active at the next bell. -/
  | coefswap (c : Cid) (w : NWords)
  /-- VUPDATE (R202). Runs the factored-moment recurrence on the vector units of CZT1-B. -/
  | vupdate (c : Cid) (w : NWords)
  /-- REDUCE (R205). Sends a gradient handle to the I/O dies for a deadline-bounded sum over a group. -/
  | reduce (c : Cid) (w : NWords)
  /-- GATHER (R206). Gathers every member's handle into a destination in rank order. -/
  | gather (c : Cid) (w : NWords)
  /-- BCAST (R206). Copies a handle from a root member to every other member. -/
  | bcast (c : Cid) (w : NWords)
  /-- SEND (R206). Delivers a handle to a node with a message tag. -/
  | send (c : Cid) (w : NWords)
  /-- RECV (R206). Fills a handle with the matching message from a node. -/
  | recv (c : Cid) (w : NWords)
  /-- SECURE (R208). Starts a securing to the reliefs under a securing plan, if due. -/
  | secure (c : Cid) (w : NWords)
  /-- MARKPOS (R208). Writes the data position as a 64-byte record. -/
  | markpos (c : Cid) (w : NWords)
  /-- RNGSAVE (R208). Writes the job seed, step and evaluation state as a 32-byte record. -/
  | rngsave (c : Cid) (w : NWords)
  /-- EVALBEGIN (R138). Begins an evaluation after SEGMENT. -/
  | evalbegin (c : Cid) (w : NWords)
  /-- EVALEND (R138). Ends an evaluation before the closing COMMIT or BELLWAIT. -/
  | evalend (c : Cid) (w : NWords)
  /-- TOKEN_TRANSFER (R119). The charge token passes to the requesting sequencer after 12 cycles and its epoch increases. -/
  | tokenTransfer
  /-- SPLIT_CHARGE (R121). Two issues or claims under one epoch freeze, all-stop, abort and restore the joined context. -/
  | splitCharge (c : Fin 4)
  /-- SEGMENT_COMPLETE (R123). All work of a segment has finished and the context becomes WAITING. -/
  | segmentComplete (c : Cid)
  /-- BELL (R30). The timebase reaches the next bell and the device performs the ordered bell actions. -/
  | bell
  /-- SLOT_PREREAD (R141). 2 µs before a bell, each scanning context reads the header of its next submission slot. -/
  | slotPreread
  /-- CMD_STOP (R137). A STOP command written to SEQ_CTX_CMD for the next bell. -/
  | cmdStop (c : Cid)
  /-- CMD_RESUME (R137). A RESUME command re-runs the uncommitted segment of a stopped context at the next bell. -/
  | cmdResume (c : Cid)
  /-- CMD_KILL (R137). A KILL command aborts the context and purges its regions from the next bell. -/
  | cmdKill (c : Cid)
  /-- CMD_PREEMPT (R137). A PREEMPT command hands the seam to a READY target at the next bell. -/
  | cmdPreempt (c : Cid) (target : BitVec 2)
  /-- CONTEXT_PURGE_DONE (R230). All regions of a PURGING context are zero-filled and it becomes IDLE. -/
  | contextPurgeDone (c : Cid)
  /-- SEQ_BELL_ORIGIN_WRITE (R155). A write of the bell origin takes effect at once and sets the numbering of the next bell. -/
  | seqBellOriginWrite (who : Requester) (v : Word)
  /-- SEQ_BELL_WRITE (R154). A write of the bell period goes to a shadow, or is discarded out of range. -/
  | seqBellWrite (who : Requester) (v : Word)
  /-- BNK_HSEL_WRITE (R239). Selects a handle-table entry and snapshots it into BNK_HENT0 to BNK_HENT3. -/
  | bnkHselWrite (who : Requester) (v : Word)
  /-- BNK_HENT0_READ (R239). A read of BNK_HENT0 takes the snapshot of the selected entry again. -/
  | bnkHent0Read (who : Requester)
  /-- BANK_SLEEP_REQ (R233). A power-down request makes an empty AWAKE bank DEFERRING, or is refused. -/
  | bankSleepReq (st : StationId) (v : Word)
  /-- BANK_WAKE_REQ (R235). A wake request powers a sleeping bank up or cancels a deferral. -/
  | bankWakeReq (st : StationId) (v : Word)
  /-- BANK_POWER_DOWN (R234). A DEFERRING bank's in-flight write counter reaches zero and it becomes ASLEEP. -/
  | bankPowerDown (st : StationId) (bank : Fin 16)
  /-- PWR_DEFER (R234). A deferral not drained within 16 µs is cancelled and the bank returns to AWAKE. -/
  | pwrDefer (st : StationId) (bank : Fin 16)
  /-- BANK_WAKE_DONE (R235). A WAKING bank finishes its power-up and zero-fill and becomes AWAKE. -/
  | bankWakeDone (st : StationId) (bank : Fin 16)
  /-- BANK_AUTO_SLEEP (R236). A bank idle for the configured time is put to sleep automatically. -/
  | bankAutoSleep (st : StationId) (bank : Fin 16)
  /-- SCRUB_READ (R225). The scrubber reads a line in a free port cycle, correcting or recording errors. -/
  | scrubRead (st : StationId) (line : Fin 32768)
  /-- BNK_SCRUB_SLOW (R227). A scrub round exceeds its time limit. -/
  | bnkScrubSlow (st : StationId)
  /-- BNK_PURGE_DONE (R228). The purge engine finishes zero-filling a region at every station and the handle becomes FREE or complete. -/
  | bnkPurgeDone (h : HandleId)
  /-- STREAM_CHECK_DONE (R272). A stream's descriptor, program or record header is fetched and checked before any byte moves. -/
  | streamCheckDone (hub : HubId) (q : QueueId)
  /-- ENGINE_GRANT (R257). A waiting stream is granted a turn or coding engine and starts running. -/
  | engineGrant (hub : HubId) (q : QueueId)
  /-- STREAM_ROW_WRITE (R273). A generated row is written at its stations and counted in the handle's fill in order. -/
  | streamRowWrite (hub : HubId) (q : QueueId)
  /-- LOADACT_SECTION_CHECK (R287). A section's CRC is checked as it streams in; a failure faults the LOADACT. -/
  | loadactSectionCheck (hub : HubId) (q : QueueId)
  /-- STREAM_FINISH (R274). A stream's last row is written or last write accepted and the stream finishes. -/
  | streamFinish (hub : HubId) (q : QueueId)
  /-- SHADOW_START (R291). The shadow stream takes effect when the running stream of its queue finishes. -/
  | shadowStart (hub : HubId) (q : QueueId)
  /-- QUEUE_DRAIN_DONE (R289). A DRAINING queue's marked reorder lines have all arrived and it becomes IDLE. -/
  | queueDrainDone (hub : HubId) (q : QueueId) (lines : Nat)
  /-- CROSSBAR_ROUND (R258). A hub's arbitration round ends and grant counts refresh. -/
  | crossbarRound (hub : HubId) (grants : List (Fin 20))
  /-- RGN_ALLOCATE (R307). A privileged write of STATE = 1 allocates a FREE region-table entry. -/
  | rgnAllocate (who : Requester) (r : Fin 256) (v : Word)
  /-- RGN_RELEASE (R307). A privileged write of STATE = 2 makes an allocated region PURGE_PENDING. -/
  | rgnRelease (who : Requester) (r : Fin 256) (v : Word)
  /-- HBM_PURGE_DONE (R308). A hub's purge client finishes zero-filling an HBM region, which becomes FREE. -/
  | hbmPurgeDone (r : Fin 256)
  /-- PATROL_SCRUB (R311). A memory controller's patrol scrub reads a word and corrects or records errors. -/
  | patrolScrub (ctrl : Fin 14) (offset : Nat)
  /-- SAMPLE_PUSH_WRITE (R314). Ingress writes a whole push into its slot and weight and advances the write head. -/
  | samplePushWrite (store : Fin 16) (weight : BitVec 16) (bytes : List Byte)
  /-- MEM_SMP_LOAD (R324). A write loads a data-position record into a sampler position. -/
  | memSmpLoad (c : Cid) (v : Word)
  /-- MILL_ACCEPT (R344). A mill checks a tensor record, snapshots the coefficients and accepts the MILLSTEP. -/
  | millAccept (m : Fin 2)
  /-- MILL_UPDATE_START (R346). A hand-over completes and the mill starts the accepted update. -/
  | millUpdateStart (m : Fin 2)
  /-- MILL_UPDATE_FINISH (R348). An update writes its status words and ends its write-back. -/
  | millUpdateFinish (m : Fin 2)
  /-- KRON_REFRESH_DONE (R371). The background Newton refresh of a tensor's matrices finishes. -/
  | kronRefreshDone (m : Fin 2)
  /-- STOCKPILE_PURGE_DONE (R374). A mill finishes zero-filling a stockpile region, which becomes FREE. -/
  | stockpilePurgeDone (r : Fin 256)
  /-- VUPDATE_ISSUE (R378). VUPDATE issues once its reduced tensor and statistics are complete. -/
  | vupdateIssue (c : Cid)
  /-- FRAME_RECEIVE (R394). A port receives a frame and decodes its two FEC codewords and five flits. -/
  | frameReceive (p : LinkPort) (no : BitVec 16) (cwA cwB : Fec) (frame : RxFrame)
  /-- LINK_REPLAY (R401). A sender receiving a NAK replays from the named frame. -/
  | linkReplay (p : LinkPort) (no : BitVec 16)
  /-- CONTROL_FLIT (R400). A received control flit returns credits and acknowledges frames. -/
  | controlFlit (p : LinkPort) (ctl : Control)
  /-- LINK_DOWN (R402). Repeated NAKs, lost lock or a stuck replay buffer take the link down for retrain. -/
  | linkDown (p : LinkPort)
  /-- LANE_SPARE (R403). A weak or lost lane makes the port retrain on three lanes. -/
  | laneSpare (p : PortId) (lane : LaneFail)
  /-- LINK_RETRAIN_DONE (R403). A port's retrain finishes and it runs again. -/
  | linkRetrainDone (p : LinkPort) (lanes : BitVec 8)
  /-- BKN_RETRAIN_CMD (R453). A write of RETRAIN commands a retrain of a port on all four lanes. -/
  | bknRetrainCmd (p : PortId)
  /-- PORT_PAIRING (R405). A port-pairing message is exchanged and checked on VL5. -/
  | portPairing (p : PortId) (info : PairInfo)
  /-- PAIRING_RETRY (R405). An unpaired port retries pairing 1 s after a failure. -/
  | pairingRetry (p : PortId)
  /-- REMOTE_WRITE (R406). A remote-write message is performed if a window permits it. -/
  | remoteWrite (msg : FMsg)
  /-- SAMPLE_PUSH_MSG (R397). A Berken sample-push message delivers a sample to a store through a window. -/
  | samplePushMsg (msg : FMsg)
  /-- MANAGEMENT_MSG (R504). A management message between reliefs, covered devices, twins and anchors is received. -/
  | managementMsg (msg : FMsg)
  /-- FABRIC_RESET_MSG (R408). A signed fabric reset message asks its destination for the PEER reset. -/
  | fabricResetMsg (p : PortId) (msg : FMsg) (sigOk : Bool)
  /-- MESSAGE_ROUTE (R415). A router forwards a message by its route table, detouring or discarding as needed. -/
  | messageRoute (p : PortId) (msg : FMsg) (cls : BitVec 2)
  /-- HEARTBEAT_RECEIVE (R417). A heartbeat arrives, is judged late or not, and disciplines the timebase. -/
  | heartbeatReceive (p : PortId) (msg : FMsg)
  /-- BKN_TIME_LOST (R437). The offset has exceeded 10 ns for 16 bells. -/
  | bknTimeLost
  /-- NEIGHBOUR_SUSPECT (R419). A neighbour misses three bells or loses signal; its link-sets go down and a notice floods. -/
  | neighbourSuspect (dir : Fin 6) (allLost : Bool)
  /-- FAILURE_NOTICE (R420). A failure notice arrives and its first copy is forwarded. -/
  | failureNotice (p : PortId) (w1 w2 w3 : Word)
  /-- BKN_RT_DATA_WRITE (R445). A write stores eight route-table entries and advances the address. -/
  | bknRtDataWrite (who : Requester) (v : Word)
  /-- REDUCE_READ_HS (R432). A dispatched REDUCE issues and reads its source handle. -/
  | reduceReadHs (no : Nat)
  /-- PARTIAL_RECEIVE (R429). A partial arrives and is held or summed with the local contribution and forwarded. -/
  | partialReceive (msg : FMsg)
  /-- REDUCE_DECIDE (R432). A member decides at the decision bell or at a full count and releases its partials. -/
  | reduceDecide (no : Nat)
  /-- GATHER_BLOCK_RECEIVE (R431). A gather block arrives and is delivered to the mill or to HDST and HSTAT. -/
  | gatherBlockReceive (msg : FMsg)
  /-- HANDOVER_COMPLETE (R431). Every block of a reduction is delivered and the hand-over completes. -/
  | handoverComplete (no : Nat)
  /-- SEND_MSG_RECEIVE (R435). A SEND message is placed in a matching RECV or waits in the landing region. -/
  | sendMsgReceive (a : Arrival)
  /-- REG_RD (R469). A Lalux register read request returns one register word. -/
  | regRd (f : LFlit)
  /-- REG_WR (R469). A Lalux register write request is applied field by field with a status. -/
  | regWr (f : LFlit)
  /-- REG_WRITE (R18). A write to a register with no behaviour of its own, applied by access codes. -/
  | regWrite (who : Requester) (off : BitVec 24) (v : Word)
  /-- MEM_WR (R471). A posted host write to device memory through a host window. -/
  | memWr (f : LFlit)
  /-- MEM_RD (R472). A host read of device memory returned in MEM_DATA flits and a RESP. -/
  | memRd (f : LFlit)
  /-- FLUSH (R471). Answered once every earlier MEM_WR has been accepted by memory. -/
  | flush (f : LFlit)
  /-- ENUM (R466). The first untallied device takes a tally and answers with its identity. -/
  | enum (f : LFlit)
  /-- UNTALLY (R467). Clears the tally of every device with no running context. -/
  | untally (f : LFlit)
  /-- RESET_REQ (R468). Asks the addressed device for the LLX reset after answering. -/
  | resetReq (f : LFlit)
  /-- PUSH (R473). A Lalux flit of a sample push is written at its offset into its slot. -/
  | push (f : LFlit)
  /-- IMG_WR (R480). Writes payload into the recovery buffer. -/
  | imgWr (f : LFlit)
  /-- IMG_GO (R480). Has the security block verify and run the recovery image. `u` carries nothing. -/
  | imgGo (f : LFlit) (u : Unit)
  /-- FLIT_FORWARD (R464). A flit not addressed to the device is forwarded cut-through along the chain. -/
  | flitForward (fromDn : Bool) (chan : BitVec 3) (f : LFlit)
  /-- DN_PORT_TRAIN_DONE (R466). A newly tallied device's DN port comes up or is reported down. -/
  | dnPortTrainDone (up : Bool)
  /-- EVENT (R476). A queued event frame is sent to the host on the UP port. -/
  | event
  /-- LLX_EVT_LOST (R477). When queue space returns, a frame reporting lost raises is queued. -/
  | llxEvtLost
  /-- CANARY_CYCLE (R493). Each surface cycle the canary takes its inputs and computes the risk level. -/
  | canaryCycle
  /-- SURFACE_CYCLE (R571). Each 1 ms the surface computes sensor summaries and runs the envelope loop. -/
  | surfaceCycle (x : Sensors)
  /-- SECURING_COMMIT_RECORD (R510). After every earlier write is applied, the commit record is sent. -/
  | securingCommitRecord
  /-- SECURING_ACK (R512). Every relief's acknowledgement arrives and the securing commits. -/
  | securingAck (relief : Fin 2)
  /-- SECURING_ABANDON (R512). No acknowledgement within 8 bells, or a failed relief, abandons the securing. -/
  | securingAbandon
  /-- RELIEF_PAIR_REQ (R502). A write of VALID = 1 in RLF_RELIEFn starts pairing with a relief. -/
  | reliefPairReq (who : Requester) (n : Fin 2) (v : Word)
  /-- DECLARATION (R502). A relief receives a declaration and grants a cover entry or refuses. -/
  | declaration (msg : FMsg)
  /-- RELIEF_PAIR_RETRY (R502). A refused or unanswered pairing is retried every 1 s. -/
  | reliefPairRetry (n : Fin 2)
  /-- RLF_ROLE_WRITE (R499). A write of ROLE or COVER divides the relief's memory or ends its pairings. -/
  | rlfRoleWrite (who : Requester) (v : Word)
  /-- RLF_ACTIVATED (R515). A relief holding a confirmed notice for a covered identity activates and restores it. -/
  | rlfActivated (entry : Fin 8)
  /-- REJOIN_REPLY (R517). The anchor's reply sets the restored step and REDUCE counts. -/
  | rejoinReply (sa : Word)
  /-- REJOIN_TIMEOUT (R517). No rejoin reply within 100 µs raises RLF_SLOW and queries again at each bell. -/
  | rejoinTimeout
  /-- ASSAY (R520). The relief's mills compare each restored tensor's digests. `u` and `v` carry nothing. -/
  | assay (idx : Nat) (u v : Unit)
  /-- CATCHUP_REQUEST (R522). A twin receives a request for a catch-up copy of a step. -/
  | catchupRequest (msg : FMsg)
  /-- CATCHUP_COPY (R522). The twin takes the catch-up copy at the first NEWSTEP segment after the step. -/
  | catchupCopy
  /-- CATCHUP_APPLY (R523). The relief applies a received copy once its own earlier updates have finished. -/
  | catchupApply
  /-- RELEASE (R525). A Release message frees the activated relief's kept entry. -/
  | release (msg : FMsg)
  /-- SERVED_COPY (R526). An activated relief streams a kept live slot to a replacement relief. -/
  | servedCopy (entry : Fin 8) (dst : NodeId)
  /-- SFC_PROFILE_WRITE (R560). A write of the profile sets clock mode, numerics, resilience and seam layout. -/
  | sfcProfileWrite (who : Requester) (v : Word)
  /-- CLK_STEP_AT (R555). A write requests a step at a future step point. -/
  | clkStepAt (who : Requester) (v : Word)
  /-- STEP_POINT (R554). At a step point, data-plane regions change to the new effective step. -/
  | stepPoint (point : Nat)
  /-- DROOP_STRETCH (R550). A region's supply falls below threshold and its cycles stretch until it recovers. -/
  | droopStretch (r : Fin 60) (on : Bool)
  /-- XING_FALLBACK (R548). A crossing's pointer drift exceeds two entries and it falls back to handshake. -/
  | xingFallback (r : Fin 60) (xing : Fin 64)
  /-- FAST_LIMITER_TRIGGER (R565). Input current over 70 A for 50 µs or the cap triggers the fast limiter. -/
  | fastLimiterTrigger
  /-- LIMITER_STRETCH_TIMEOUT (R565). Limiter stretching held 1 ms lowers the limiter ceiling. -/
  | limiterStretchTimeout
  /-- LIMITER_STRETCH_END (R565). Current at or below 66 A for 100 µs ends limiter stretching. -/
  | limiterStretchEnd
  /-- LIMITER_CEIL_RISE (R565). Each 10 ms at or below 66 A raises the limiter ceiling one step. -/
  | limiterCeilRise
  /-- INPUT_CAP (R566). The input cap engages and station groups are throttled in rotation. -/
  | inputCap
  /-- INPUT_CAP_RELEASE (R566). 100 µs after the cap releases, throttling ends. -/
  | inputCapRelease
  /-- SURGE_SPENT (R567). The surge credit reaches zero and the surge ceiling becomes 5. -/
  | surgeSpent
  /-- SURGE_RESTORED (R567). The credit returns to 30 s and the surge ceiling returns to 7. -/
  | surgeRestored
  /-- THERM_CEIL_RISE (R568). 100 ms below 95 °C raises the thermal ceiling one step. -/
  | thermCeilRise
  /-- THERM_TRIP (R569). A junction at 110 °C removes data-plane power and asserts THERM. -/
  | thermTrip
  /-- PWR_INPUT (R570). The 48 V input out of range for 20 µs removes data-plane power and asserts PWRFAIL. -/
  | pwrInput (ok : Bool)
  /-- AUX_LOSS (R570). The 12 V input out of range removes data-plane power and asserts PWRFAIL. -/
  | auxLoss (ok : Bool)
  /-- PWR_DOM_REQ (R574). A privileged request turns a power domain off or on. -/
  | pwrDomReq (who : Requester) (v : Word)
  /-- DOMAIN_POWER_ON (R574). A requested domain is powered and passes through a domain reset. -/
  | domainPowerOn (d : Fin 50)
  /-- POR (R592). The surface rail browns out or powers up, asserting a full reset. -/
  | por
  /-- PIN (R592). RST_N low asserts a full reset. -/
  | pin (level : Bool)
  /-- WDT (R618). No watchdog kick within the timeout asserts a full reset. -/
  | wdt
  /-- PEER (R592). An accepted fabric reset asserts a data-reach reset. -/
  | peer
  /-- DBG (R592). A debug-port reset request asserts a data-reach reset. -/
  | dbg
  /-- RESET_RELEASE (R594). The last source covering a domain is released and it re-enters the release order. -/
  | resetRelease (src : Fin 9)
  /-- RELEASE_STEP_DONE (R595). A release-order step completes and its counted gap elapses: the strap's readings, the flash's trim block
  and configuration copies as their bytes (log entry 63). -/
  | releaseStepDone (strap : List (BitVec 4)) (trim copyA copyB : List Byte)
  /-- MEMORY_ZERO_FILL_DONE (R597). A post-reset zero-fill of an HBM stack or stockpile half ends. -/
  | memoryZeroFillDone (unit : Fin 14)
  /-- SYSREF_EDGE (R682). A SYSREF rising edge sets the reference divider phase in step 3. -/
  | sysrefEdge
  /-- RST_SWREQ (R598). A privileged request asserts a domain or context reset. -/
  | rstSwreq (who : Requester) (v : Word)
  /-- CFG_STORE_WRITE (R607). The management core writes a new signed configuration copy. -/
  | cfgStoreWrite (head body : List Byte)
  /-- LAST_GASP (R608). On power or thermal loss the surface writes a last-gasp record. -/
  | lastGasp
  /-- IMAGE_VERIFY (R609). The boot ROM verifies the selected firmware image and the core starts it. -/
  | imageVerify (slot0 slot1 : List Byte)
  /-- SEC_ROLLBACK_WRITE (R612). A privileged write raises the fused rollback count. -/
  | secRollbackWrite (who : Requester) (v : Word)
  /-- SPDM_REQUEST (R615). A write of GO runs the SPDM request in the mailbox and sets the response. -/
  | spdmRequest (response : List Byte)
  /-- KICK (R618). A watchdog kick services the watchdog and counts a surface cycle. -/
  | kick (who : Requester)
  /-- HOLDUP_CHARGED (R575). The hold-up store reaches 90 % of capacity. -/
  | holdupCharged (energy : Nat)
  /-- STOP (R646). A privileged debug write takes a device or context all-stop. -/
  | stop (who : Requester) (v : Word)
  /-- ALLSTOP_RELEASE (R649). A RELEASE write restarts stopped regions. -/
  | allstopRelease (who : Requester)
  /-- DBGRST (R659). A debug-port write asserts the DBG reset. -/
  | dbgrst (who : Requester)
  /-- DBG_UNLOCK (R653). A write of GO checks the debug token and unlocks levels or refuses. -/
  | dbgUnlock (who : Requester) (v : Word)
  /-- DBG_RD_SEL_WRITE (R650). A write of the selector reads one word of a debug space. -/
  | dbgRdSelWrite (who : Requester) (v : Word)
  /-- DBG_TR_MARK (R666). A write produces a Marker trace record. -/
  | dbgTrMark (v : Word)
  /-- DBG_PC_CTL_WRITE (R638). A write of EN starts or stops the programmable counters at the next bell. -/
  | dbgPcCtlWrite (who : Requester) (v : Word)
  /-- TRACE_RECORD_WRITE (R639). A hub writes buffered trace records to its tailings ring or drops them. -/
  | traceRecordWrite (hub : HubId)
  /-- REMOTE_TRACE (R645). A KIND 10 trace message is accepted into hub 0's ring or discarded. -/
  | remoteTrace (msg : FMsg)
  /-- EXTEST (R654). TAP instruction drives the boundary register. -/
  | extest (drive : List Bool)
  /-- SAMPLE_PRELOAD (R654). TAP instruction samples or preloads the boundary register. -/
  | samplePreload (load : Option (List Bool))
  /-- IDCODE (R654). TAP instruction returns the device identification code. -/
  | idcode
  /-- DBGACC (R654). TAP instruction reads or writes a surface-window register. -/
  | dbgacc (op : BitVec 2) (off : BitVec 24) (v : Word)
  /-- SCANSEL (R654). TAP instruction selects the region to scan. -/
  | scansel (r : BitVec 6)
  /-- SCAN (R651). TAP instruction shifts a stopped region's scan chain and marks it scanned. -/
  | scan
  /-- TAP_STOP (R654). TAP instruction takes a device all-stop. -/
  | tapStop (bit : Bool)
  /-- BYPASS (R654). TAP instruction selects the one-bit bypass register. -/
  | bypass
  /-- TRST (R654). TRST_N resets the TAP only. -/
  | trst
  /-- I2C_READ (R680). A sideband I2C read returns one register word, or NACKs. -/
  | i2cRead (off : BitVec 24)
  /-- PWRGD_IN_LOW (R592). PWRGD_IN driven low by the board for at least 1 µs asserts the PWRFAIL reset and removes data-plane power. -/
  | pwrgdInLow
  /-- LINK_TRAINING_DONE (R405). A Berken or Lalux port that was released or enabled finishes its first link training, numbers frames from 0 and, for Berken, begins pairing. -/
  | linkTrainingDone (p : LinkPort)
  /-- FRAME_SEND (R400). At each frame time a port picks its next flits by the priority order (control, VL0, VL5, weighted VLs, idle) or sends an alignment frame. -/
  | frameSend (p : LinkPort)
  /-- COLLECTIVE_MSG_RECEIVE (R435). A GATHER or BCAST message on VL1 arrives, is forwarded along the ring or tree and written into the destination handle. -/
  | collectiveMsgReceive (msg : FMsg)
  /-- LLX_INVALID_REQUEST (R461). A Lalux request flit of an invalid TYPE reaches its destination and is answered with STATUS RANGE. -/
  | llxInvalidRequest (f : LFlit)
  /-- RELIEF_PAIR_TIMEOUT (R502). A declaration unanswered for 10 ms is refused with reason 8, raising RLF_PAIR and recording RLF_PAIR_LAST. -/
  | reliefPairTimeout (n : Fin 2)
  /-- SECURING_ITEM_READ (R511). A securing finishes reading an item or its stage copy, ending the SECURE's bunker reads and releasing updates and drain streams that wait on the item. -/
  | securingItemRead (idx : Nat)
  /-- RELIEF_RESTORE_DONE (R515). An activated relief finishes restoring configuration, handles and bunker images, and once the rejoin reply is also in, the context becomes READY. -/
  | reliefRestoreDone
  /-- PORT_EN_WRITE (R453). A write of BKN_P_CFG.EN holds a port down (0) or lets it train again (1). -/
  | portEnWrite (who : Requester) (p : PortId) (en : Bool)
  deriving DecidableEq, Repr

end Sys2Proof
end

