-- ==== Sys2Proof/Decode.lean ====
section
/-! DEFINITION. Commands from words. The block's table of commands gives no row any bits (the manual's commands come
from outside, by name and operands), so no word of the table's kind spells one. A Nente instruction word does spell its command: its
OP picks it (R158, R166, R174, R177, R184, R191, R196, R199, R204, R207). The operand fields are read in Machine/Operands.lean. -/

namespace Sys2Proof

/-- The command that a word spells: none, since no row of the table has bits. -/
def decodeTableWord (_nbits _w : Nat) : Option Instr := none

/-! ### Nente words (R158, R159) -/

/-- The parts of an instruction word beside its OP, with the extension word where NEXT names one. -/
def nenteWords (word ext : Word) : NWords :=
  let next := word.extractLsb' 54 2
  ⟨next, word.extractLsb' 0 54, if next = 0 then 0 else ext⟩

/-- The command of a context's instruction word and the word that follows it. An OP that no table assigns, and FORM 3 of VLUT, spell no
instruction: the command is NOP's with the whole word, which faults with SEQ_OPCODE (R159). -/
def nenteInstr (c : Cid) (word ext : Word) : Instr :=
  let w := nenteWords word ext
  match (word.extractLsb' 56 8).toNat with
  | 0x01 => .halt c w
  | 0x02 => .br c w
  | 0x03 => .brc c w
  | 0x04 => .loop c w
  | 0x05 => .endloop c w
  | 0x06 => .call c w
  | 0x07 => .ret c w
  | 0x08 => .sets c w
  | 0x09 => .salu c w
  | 0x0A => .salui c w
  | 0x0B => .lds c w
  | 0x0C => .sts c w
  | 0x10 => .segment c w
  | 0x11 => .commit c w
  | 0x12 => .bellwait c w
  | 0x13 => .barrier c w
  | 0x14 => .fence c w
  | 0x20 => .mma c w
  | 0x21 => .accload c w
  | 0x22 => .drain c w
  | 0x23 => .ringinj c w
  | 0x24 => .ringret c w
  | 0x30 => if w.opnd.getLsbD 50 then .vopLoadProg c w else .vop c w
  | 0x31 => .vred c w
  | 0x32 =>
    match (w.opnd.extractLsb' 49 2).toNat with
    | 0 => .vlut c w
    | 1 => .vlutBack c w
    | 2 => .vlutLoad c w
    | _ => .nop c word
  | 0x33 => .vcvt c w
  | 0x34 => .vrng c w
  | 0x40 => .stream c w
  | 0x41 => .streamp c w
  | 0x42 => .waith c w
  | 0x43 => .saveact c w
  | 0x44 => .loadact c w
  | 0x48 => .halloc c w
  | 0x49 => .hfree c w
  | 0x4A => .hpurge c w
  | 0x50 => .millstep c w
  | 0x51 => .coefset c w
  | 0x52 => .coefswap c w
  | 0x53 => .vupdate c w
  | 0x60 => .reduce c w
  | 0x61 => .gather c w
  | 0x62 => .bcast c w
  | 0x63 => .send c w
  | 0x64 => .recv c w
  | 0x70 => .secure c w
  | 0x71 => .markpos c w
  | 0x72 => .rngsave c w
  | 0x78 => .evalbegin c w
  | 0x79 => .evalend c w
  | _ => .nop c word

/-- The word of an opcode and the other parts. -/
def NWords.word (op : BitVec 8) (w : NWords) : Word := op ++ w.next ++ w.opnd

/-- The opcode, the context and the parts of a Nente command; none for NOP, which carries its word whole, and for the commands that are
no instruction. -/
def Instr.nente : Instr → Option (BitVec 8 × Cid × NWords)
  | .halt c w => some (0x01, c, w)
  | .br c w => some (0x02, c, w)
  | .brc c w => some (0x03, c, w)
  | .loop c w => some (0x04, c, w)
  | .endloop c w => some (0x05, c, w)
  | .call c w => some (0x06, c, w)
  | .ret c w => some (0x07, c, w)
  | .sets c w => some (0x08, c, w)
  | .salu c w => some (0x09, c, w)
  | .salui c w => some (0x0A, c, w)
  | .lds c w => some (0x0B, c, w)
  | .sts c w => some (0x0C, c, w)
  | .segment c w => some (0x10, c, w)
  | .commit c w => some (0x11, c, w)
  | .bellwait c w => some (0x12, c, w)
  | .barrier c w => some (0x13, c, w)
  | .fence c w => some (0x14, c, w)
  | .mma c w => some (0x20, c, w)
  | .accload c w => some (0x21, c, w)
  | .drain c w => some (0x22, c, w)
  | .ringinj c w => some (0x23, c, w)
  | .ringret c w => some (0x24, c, w)
  | .vop c w => some (0x30, c, w)
  | .vopLoadProg c w => some (0x30, c, w)
  | .vred c w => some (0x31, c, w)
  | .vlut c w => some (0x32, c, w)
  | .vlutBack c w => some (0x32, c, w)
  | .vlutLoad c w => some (0x32, c, w)
  | .vcvt c w => some (0x33, c, w)
  | .vrng c w => some (0x34, c, w)
  | .stream c w => some (0x40, c, w)
  | .streamp c w => some (0x41, c, w)
  | .waith c w => some (0x42, c, w)
  | .saveact c w => some (0x43, c, w)
  | .loadact c w => some (0x44, c, w)
  | .halloc c w => some (0x48, c, w)
  | .hfree c w => some (0x49, c, w)
  | .hpurge c w => some (0x4A, c, w)
  | .millstep c w => some (0x50, c, w)
  | .coefset c w => some (0x51, c, w)
  | .coefswap c w => some (0x52, c, w)
  | .vupdate c w => some (0x53, c, w)
  | .reduce c w => some (0x60, c, w)
  | .gather c w => some (0x61, c, w)
  | .bcast c w => some (0x62, c, w)
  | .send c w => some (0x63, c, w)
  | .recv c w => some (0x64, c, w)
  | .secure c w => some (0x70, c, w)
  | .markpos c w => some (0x71, c, w)
  | .rngsave c w => some (0x72, c, w)
  | .evalbegin c w => some (0x78, c, w)
  | .evalend c w => some (0x79, c, w)
  | _ => none

/-- The words of a Nente command: the instruction word and the extension word, zero where there is none. -/
def Instr.nenteEncode (i : Instr) : Option (Word × Word) :=
  match i with
  | .nop _ w => some (w, 0)
  | i => i.nente.map fun p => (p.2.2.word p.1, p.2.2.ext)

end Sys2Proof
end

