-- ==== Sys2Proof/Config.lean ====
section
/-! DEFINITION. What the manual leaves open: free values (opaque constants without a body) and the
functions it names without giving. No proof can see a value of these. -/

namespace Sys2Proof

/-- A fresh free word for each use, indexed by `State.freeCtr` (the random DBG_NONCE of R658, the scan
chain of R651). -/
opaque Config.free : Nat → Word

/-- The hash of SRC, DST, VL and MTAG that chooses PLANE and the port of a direction (R412): named,
not given. -/
opaque Config.planeHash : NodeId → NodeId → BitVec 3 → BitVec 8 → Nat

/-- The sign (true is negative) of the maximum (`true`) or minimum of two zeros of opposite sign, the first having the sign given:
R99 and R100 name the operation only. -/
opaque Config.zeroSign : Bool → Bool → Bool

/-- Whether a quotient that is no whole number is shown rounded up: the manual names the unit of PWR_TEMP.SLOPE and of
PWR_INPUT.POWER (R584, R585) and no rounding. Dividend, divisor. -/
opaque Config.roundUp : Int → Nat → Bool

/-- CLK_FUSE.MAX_VOLT, a per-part value (R579), before it is held within the bounds the manual gives. -/
opaque Config.maxVolt : Nat

/-- The device's public key, derived from the fused seed (R613): bytes 0 to 31. -/
opaque Config.deviceKey : Nat → Word

/-- Ed25519 (R605, R613): whether a signature by a public key verifies over a digest: named, not given. Key, digest, signature. -/
opaque Config.ed25519 : List Byte → List Byte → List Byte → Bool

/-- The fused key digests (R610): index, byte. -/
opaque Config.keyDigest : Nat → Nat → Byte

/-- The revocation fuses (R610). -/
opaque Config.keyRevoked : Nat → Bool

/-- SHA-512 (R466, R614, R652): the message, the number of a byte of the digest: named, not given. -/
opaque Config.sha512 : List Byte → Nat → Byte

/-- Which of two SEQ values 2^31 apart is the greater: serial comparison (R606) leaves it open. -/
opaque Config.serialHalf : BitVec 32 → BitVec 32 → Bool

/-- What a function table gives for an input whose segment number is below zero (R104, R105): not stated. The table's bytes as a
number, the input. -/
opaque Config.lutBelow : Nat → Nat → BitVec 32

end Sys2Proof
end

