-- ==== Sys2Proof/Machine/Bits.lean ====
section
/-! DEFINITION. Bit fields, byte order, sign extension, station sets and the checksums the manual names. -/

namespace Sys2Proof.Machine

/-- Bits `[lo + w - 1 : lo]` of a number. -/
def fieldN (x lo w : Nat) : Nat := x / 2 ^ lo % 2 ^ w

/-- Bits `[lo + w - 1 : lo]` of a bit vector, as a number. -/
def bits {n : Nat} (x : BitVec n) (lo w : Nat) : Nat := fieldN x.toNat lo w

/-- One bit. -/
def bit {n : Nat} (x : BitVec n) (i : Nat) : Bool := x.getLsbD i

/-- A `w`-bit number read as two's complement. -/
def signedN (x w : Nat) : Int := if x % 2 ^ w < 2 ^ (w - 1) then (x % 2 ^ w : Nat) else (x % 2 ^ w : Nat) - (2 ^ w : Nat)

/-- The low 64 bits of an integer. -/
def wordOfInt (i : Int) : Word := BitVec.ofInt 64 i

/-- Bytes of a number, least significant first (R13). -/
def bytesOf (n x : Nat) : List Byte := (List.range n).map fun i => BitVec.ofNat 8 (x / 2 ^ (8 * i))

/-- A number from bytes, least significant first. -/
def ofBytes : List Byte → Nat
  | [] => 0
  | b :: bs => b.toNat + 256 * ofBytes bs

/-- The `n` bytes of a list from position `lo`; missing bytes read zero. -/
def sliceB (l : List Byte) (lo n : Nat) : List Byte := (List.range n).map fun i => l.getD (lo + i) 0

/-- A little-endian field of a byte list. -/
def leAt (l : List Byte) (lo n : Nat) : Nat := ofBytes (sliceB l lo n)

/-- Rounded-up division. -/
def ceilDiv (a b : Nat) : Nat := (a + b - 1) / b

/-- The number of bits of a number: the position of its top bit plus one. -/
def bitLen (n : Nat) : Nat := if n = 0 then 0 else Nat.log2 n + 1

/-- The stations of a set, ascending. -/
def stationsOf (s : StationSet) : List StationId := (List.finRange 96).filter fun i => s.getLsbD i.val

/-- A set of stations. -/
def setOf (l : List StationId) : StationSet := l.foldl (fun a i => a ||| (1#96 <<< i.val)) 0

/-- The singleton set. -/
def single (i : StationId) : StationSet := 1#96 <<< i.val

/-- Membership in a station set. -/
def has (s : StationSet) (i : StationId) : Bool := s.getLsbD i.val

/-- The stations from `lo` to `lo + n - 1`. -/
def rangeSet (lo n : Nat) : StationSet := BitVec.ofNat 96 ((2 ^ n - 1) * 2 ^ lo)

/-- Inclusion of station sets. -/
def subset (a b : StationSet) : Bool := a &&& b == a

/-- One bit step of a reflected CRC. -/
def crcStep (w : Nat) (poly c : BitVec w) : BitVec w := if bit c 0 then (c >>> 1) ^^^ poly else c >>> 1

/-- One byte of a reflected CRC. -/
def crcByte (w : Nat) (poly c : BitVec w) (b : Byte) : BitVec w :=
  (List.range 8).foldl (fun c _ => crcStep w poly c) (c ^^^ b.setWidth w)

/-- A reflected CRC with initial value and final XOR of all ones. -/
def crc (w : Nat) (poly : BitVec w) (l : List Byte) : BitVec w :=
  l.foldl (crcByte w poly) (BitVec.allOnes w) ^^^ BitVec.allOnes w

/-- CRC-32C of RFC 3720 (R278, R460). -/
def crc32c (l : List Byte) : BitVec 32 := crc 32 0x82F63B78#32 l

/-- D1: ECMA-182, reflected (R509). -/
def crcD1 (l : List Byte) : Word := crc 64 0xC96C5795D7870F42#64 l

/-- D2: ISO 3309, reflected (R509). -/
def crcD2 (l : List Byte) : Word := crc 64 0xD800000000000000#64 l

end Sys2Proof.Machine
end

