-- ==== Sys2Proof/Machine/RegMap.lean ====
section
/-! DEFINITION. The register map: every register of the surface window (R13), its place from the offset tables of R67,
R143, R237, R292, R325, R379, R438, R481, R529, R576, R620, R628 and R656 and the block bases of 00_scope, and its
fields with access code and reset value from its field table. Reset values the manual calls Fused, Strap, Flash,
Derived, Random, Variant or R494 stand as 0 here and are given by `regReset`. -/

namespace Sys2Proof.Machine

/-- Access codes (R15). -/
inductive Acc where
  | ro | rw | w1c | wo | rwb | rws | rwp | rwl
  deriving DecidableEq, Repr

/-- One field of a register: bits [lo + width - 1 : lo]. -/
structure FieldDef where
  lo : Nat
  width : Nat
  acc : Acc
  reset : Nat
  deriving DecidableEq, Repr

/-- Every register by name; the registers of one indexed family share a name. -/
inductive Reg where
  /-- SFC_ID, R5 -/
  | SFC_ID
  /-- SFC_CAPS, R6 -/
  | SFC_CAPS
  /-- SFC_PROFILE, R560 -/
  | SFC_PROFILE
  /-- RST_CAUSE, R621 -/
  | RST_CAUSE
  /-- RST_STATUS, R622 -/
  | RST_STATUS
  /-- RST_HELD, R623 -/
  | RST_HELD
  /-- RST_SWREQ, R624 -/
  | RST_SWREQ
  /-- RST_WDT, R625 -/
  | RST_WDT
  /-- RST_STRAP, R626 -/
  | RST_STRAP
  /-- RST_LG0, R627 -/
  | RST_LG
  /-- CLK_STATUS, R577 -/
  | CLK_STATUS
  /-- CLK_STEP_AT, R578 -/
  | CLK_STEP_AT
  /-- CLK_FUSE, R579 -/
  | CLK_FUSE
  /-- CLK_TIMEBASE, R580 -/
  | CLK_TIMEBASE
  /-- CLK_SURGE, R581 -/
  | CLK_SURGE
  /-- CLK_XING_CNT, R582 -/
  | CLK_XING_CNT
  /-- PWR_STATUS, R583 -/
  | PWR_STATUS
  /-- PWR_INPUT, R584 -/
  | PWR_INPUT
  /-- PWR_TEMP, R585 -/
  | PWR_TEMP
  /-- PWR_LIMIT_CNT, R586 -/
  | PWR_LIMIT_CNT
  /-- PWR_DOM_STATE0, R587 -/
  | PWR_DOM_STATE0
  /-- PWR_DOM_STATE1, R587 -/
  | PWR_DOM_STATE1
  /-- PWR_DOM_REQ, R588 -/
  | PWR_DOM_REQ
  /-- PWR_HOLDUP, R589 -/
  | PWR_HOLDUP
  /-- CLK_R_CNT, R590 -/
  | CLK_R_CNT
  /-- CLK_R_STAT, R591 -/
  | CLK_R_STAT
  /-- SEQ_CTX_STATUS, R144 -/
  | SEQ_CTX_STATUS
  /-- SEQ_CTX_CFG, R145 -/
  | SEQ_CTX_CFG
  /-- SEQ_CTX_CMD, R146 -/
  | SEQ_CTX_CMD
  /-- SEQ_CTX_SEED, R147 -/
  | SEQ_CTX_SEED
  /-- SEQ_CTX_STEP, R148 -/
  | SEQ_CTX_STEP
  /-- SEQ_CTX_EVALCNT, R149 -/
  | SEQ_CTX_EVALCNT
  /-- SEQ_CTX_SUBBASE, R150 -/
  | SEQ_CTX_SUBBASE
  /-- SEQ_CTX_SUBSEQ, R151 -/
  | SEQ_CTX_SUBSEQ
  /-- SEQ_CTX_SEGSTAT, R152 -/
  | SEQ_CTX_SEGSTAT
  /-- SEQ_CTX_CNT, R153 -/
  | SEQ_CTX_CNT
  /-- SEQ_BELL, R154 -/
  | SEQ_BELL
  /-- SEQ_BELL_ORIGIN, R155 -/
  | SEQ_BELL_ORIGIN
  /-- SEQ_BELL_NUM, R156 -/
  | SEQ_BELL_NUM
  /-- SEQ_CHARGE, R157 -/
  | SEQ_CHARGE
  /-- RING_STATUS, R69 -/
  | RING_STATUS
  /-- RING_SEAM, R70 -/
  | RING_SEAM
  /-- RING_MMA_CNT, R71 -/
  | RING_MMA_CNT
  /-- RING_GATE_CNT, R72 -/
  | RING_GATE_CNT
  /-- RING_HOLD_CNT, R73 -/
  | RING_HOLD_CNT
  /-- RING_RESIDUE, R74 -/
  | RING_RESIDUE
  /-- RING_CTL, R75 -/
  | RING_CTL
  /-- RING_LANE_CNT, R76 -/
  | RING_LANE_CNT
  /-- BNK_STATUS, R238 -/
  | BNK_STATUS
  /-- BNK_HSEL, R239 -/
  | BNK_HSEL
  /-- BNK_SCRUB_CTL, R241 -/
  | BNK_SCRUB_CTL
  /-- BNK_PWR_CTL, R242 -/
  | BNK_PWR_CTL
  /-- BNK_HENT0, R240 -/
  | BNK_HENT
  /-- BNK_CTX_RANGE, R243 -/
  | BNK_CTX_RANGE
  /-- BNK_ST_ECC, R244 -/
  | BNK_ST_ECC
  /-- BNK_ST_ERRADDR, R245 -/
  | BNK_ST_ERRADDR
  /-- BNK_ST_PWR, R246 -/
  | BNK_ST_PWR
  /-- BNK_ST_PWR_REQ, R247 -/
  | BNK_ST_PWR_REQ
  /-- BNK_ST_PURGE, R248 -/
  | BNK_ST_PURGE
  /-- BNK_ST_SCRUB, R249 -/
  | BNK_ST_SCRUB
  /-- HAUL_HUB_STATUS, R294 -/
  | HAUL_HUB_STATUS
  /-- HAUL_HUB_CFG, R295 -/
  | HAUL_HUB_CFG
  /-- HAUL_HUB_LINES, R296 -/
  | HAUL_HUB_LINES
  /-- HAUL_HUB_DISCARD, R297 -/
  | HAUL_HUB_DISCARD
  /-- HAUL_Q_OWN, R298 -/
  | HAUL_Q_OWN
  /-- HAUL_Q_CFG, R299 -/
  | HAUL_Q_CFG
  /-- HAUL_Q_STATUS, R300 -/
  | HAUL_Q_STATUS
  /-- HAUL_Q_POS, R301 -/
  | HAUL_Q_POS
  /-- HAUL_Q_CNT, R302 -/
  | HAUL_Q_CNT
  /-- HAUL_Q_LAST, R303 -/
  | HAUL_Q_LAST
  /-- MEM_MAP, R326 -/
  | MEM_MAP
  /-- MEM_SCRUB_CTL, R327 -/
  | MEM_SCRUB_CTL
  /-- MEM_PURGE, R328 -/
  | MEM_PURGE
  /-- MEM_HC_ECC, R329 -/
  | MEM_HC_ECC
  /-- MEM_HC_ERRADDR, R330 -/
  | MEM_HC_ERRADDR
  /-- MEM_RGN_A, R331 -/
  | MEM_RGN_A
  /-- MEM_RGN_B, R332 -/
  | MEM_RGN_B
  /-- MEM_SS_BASE, R333 -/
  | MEM_SS_BASE
  /-- MEM_SS_CFG, R334 -/
  | MEM_SS_CFG
  /-- MEM_SS_HEAD, R335 -/
  | MEM_SS_HEAD
  /-- MEM_SS_CNT, R336 -/
  | MEM_SS_CNT
  /-- MEM_SMP_CFG, R337 -/
  | MEM_SMP_CFG
  /-- MEM_SMP_LOAD, R338 -/
  | MEM_SMP_LOAD
  /-- MEM_SMP_CNT, R339 -/
  | MEM_SMP_CNT
  /-- MILL_CTX_ENTRY, R381 -/
  | MILL_CTX_ENTRY
  /-- MILL_STATUS, R382 -/
  | MILL_STATUS
  /-- MILL_CNT_UPD, R383 -/
  | MILL_CNT_UPD
  /-- MILL_CNT_FROZEN, R384 -/
  | MILL_CNT_FROZEN
  /-- MILL_CNT_NF, R385 -/
  | MILL_CNT_NF
  /-- MILL_CNT_KRON, R386 -/
  | MILL_CNT_KRON
  /-- MILL_CNT_FOLD, R387 -/
  | MILL_CNT_FOLD
  /-- MILL_UE_ADDR, R388 -/
  | MILL_UE_ADDR
  /-- MILL_PURGE, R389 -/
  | MILL_PURGE
  /-- BKN_TORUS, R439 -/
  | BKN_TORUS
  /-- BKN_CFG, R440 -/
  | BKN_CFG
  /-- BKN_VL_CFG, R441 -/
  | BKN_VL_CFG
  /-- BKN_ARB, R442 -/
  | BKN_ARB
  /-- BKN_LOCK, R444 -/
  | BKN_LOCK
  /-- BKN_RT_ADDR, R445 -/
  | BKN_RT_ADDR
  /-- BKN_RT_DATA, R445 -/
  | BKN_RT_DATA
  /-- BKN_TIME, R446 -/
  | BKN_TIME
  /-- BKN_STATUS, R447 -/
  | BKN_STATUS
  /-- BKN_AUTH0, R443 -/
  | BKN_AUTH
  /-- BKN_WIN_A, R448 -/
  | BKN_WIN_A
  /-- BKN_WIN_B, R448 -/
  | BKN_WIN_B
  /-- BKN_GRP, R449 -/
  | BKN_GRP
  /-- BKN_REMAP, R450 -/
  | BKN_REMAP
  /-- BKN_CTX_BUF, R451 -/
  | BKN_CTX_BUF
  /-- BKN_P_STATUS, R452 -/
  | BKN_P_STATUS
  /-- BKN_P_CFG, R453 -/
  | BKN_P_CFG
  /-- BKN_P_CNT, R454 -/
  | BKN_P_CNT
  /-- LLX_STATUS, R482 -/
  | LLX_STATUS
  /-- LLX_CFG, R483 -/
  | LLX_CFG
  /-- LLX_EVT_MASK, R484 -/
  | LLX_EVT_MASK
  /-- LLX_EVT_CNT, R485 -/
  | LLX_EVT_CNT
  /-- LLX_WR_CNT, R486 -/
  | LLX_WR_CNT
  /-- LLX_P_STATUS, R487 -/
  | LLX_P_STATUS
  /-- LLX_P_CNT, R488 -/
  | LLX_P_CNT
  /-- LLX_HWIN_A, R489 -/
  | LLX_HWIN_A
  /-- LLX_HWIN_B, R489 -/
  | LLX_HWIN_B
  /-- RLF_CFG, R530 -/
  | RLF_CFG
  /-- RLF_STATUS, R531 -/
  | RLF_STATUS
  /-- RLF_CANARY, R532 -/
  | RLF_CANARY
  /-- RLF_INTERVAL, R533 -/
  | RLF_INTERVAL
  /-- RLF_CTX_PLAN, R536 -/
  | RLF_CTX_PLAN
  /-- RLF_CTX_SECURED, R537 -/
  | RLF_CTX_SECURED
  /-- RLF_CTX_STAGE, R538 -/
  | RLF_CTX_STAGE
  /-- RLF_CTX_DLOG, R539 -/
  | RLF_CTX_DLOG
  /-- RLF_CNT, R540 -/
  | RLF_CNT
  /-- RLF_ACT_TIME, R541 -/
  | RLF_ACT_TIME
  /-- RLF_PAIR_LAST, R542 -/
  | RLF_PAIR_LAST
  /-- RLF_RELIEF0, R534 -/
  | RLF_RELIEF
  /-- RLF_DECL0, R535 -/
  | RLF_DECL
  /-- RLF_CAN_IN0, R543 -/
  | RLF_CAN_IN
  /-- RLF_COVER0, R544 -/
  | RLF_COVER
  /-- DBG_STATUS, R657 -/
  | DBG_STATUS
  /-- DBG_NONCE, R658 -/
  | DBG_NONCE
  /-- DBG_UNLOCK, R658 -/
  | DBG_UNLOCK
  /-- DBG_STOP, R659 -/
  | DBG_STOP
  /-- DBG_STOP_STAT, R660 -/
  | DBG_STOP_STAT
  /-- DBG_SNAP_BELL, R658 -/
  | DBG_SNAP_BELL
  /-- DBG_PC_CTL, R662 -/
  | DBG_PC_CTL
  /-- DBG_TR_CFG, R663 -/
  | DBG_TR_CFG
  /-- DBG_TR_FILT, R664 -/
  | DBG_TR_FILT
  /-- DBG_TRIG, R665 -/
  | DBG_TRIG
  /-- DBG_TR_MARK, R666 -/
  | DBG_TR_MARK
  /-- DBG_RD_SEL, R667 -/
  | DBG_RD_SEL
  /-- DBG_RD_DATA, R667 -/
  | DBG_RD_DATA
  /-- DBG_PT_HOP, R668 -/
  | DBG_PT_HOP
  /-- DBG_PT_BP, R668 -/
  | DBG_PT_BP
  /-- DBG_PT_XING, R668 -/
  | DBG_PT_XING
  /-- DBG_PT_HBM, R668 -/
  | DBG_PT_HBM
  /-- DBG_PT_LINK, R668 -/
  | DBG_PT_LINK
  /-- DBG_PT_ECC_A, R668 -/
  | DBG_PT_ECC_A
  /-- DBG_PT_ECC_B, R668 -/
  | DBG_PT_ECC_B
  /-- DBG_PT_RISK, R668 -/
  | DBG_PT_RISK
  /-- DBG_AO0, R661 -/
  | DBG_AO
  /-- DBG_CTX_CNT, R661 -/
  | DBG_CTX_CNT
  /-- DBG_PC_SELn, R662 -/
  | DBG_PC_SEL
  /-- DBG_PC_CNTn, R662 -/
  | DBG_PC_CNT
  /-- DBG_TR_PTRh, R666 -/
  | DBG_TR_PTR
  /-- DBG_TOKEN, R656 -/
  | DBG_TOKEN
  /-- SEC_STATUS, R629 -/
  | SEC_STATUS
  /-- SEC_PRIV, R630 -/
  | SEC_PRIV
  /-- SEC_ROLLBACK, R631 -/
  | SEC_ROLLBACK
  /-- SEC_CFG, R632 -/
  | SEC_CFG
  /-- SEC_MBOX_CTL, R634 -/
  | SEC_MBOX_CTL
  /-- SEC_PUBKEY0, R633 -/
  | SEC_PUBKEY
  /-- SEC_MBOX, R634 -/
  | SEC_MBOX
  deriving DecidableEq, Repr

/-- A register family: its place (base and two levels of stride and count) and its fields. Reserved bits have no
field: they read zero (R14). -/
structure RegDef where
  reg : Reg
  base : Nat
  s1 : Nat
  c1 : Nat
  s2 : Nat
  c2 : Nat
  fields : List FieldDef
  deriving DecidableEq, Repr

/-- The registers of block SFC. -/
def regSfc : List RegDef :=
  [RegDef.mk Reg.SFC_ID 0x0 0x0 1 0x0 1 [FieldDef.mk 0 16 Acc.ro 0x0, FieldDef.mk 16 16 Acc.ro 0x0, FieldDef.mk 32 4 Acc.ro 0x0, FieldDef.mk 36 4 Acc.ro 0x0, FieldDef.mk 40 4 Acc.ro 0x0],
   RegDef.mk Reg.SFC_CAPS 0x8 0x0 1 0x0 1 [FieldDef.mk 0 12 Acc.ro 0x0, FieldDef.mk 12 4 Acc.ro 0x0, FieldDef.mk 16 2 Acc.ro 0x0, FieldDef.mk 18 1 Acc.ro 0x0, FieldDef.mk 19 1 Acc.ro 0x0, FieldDef.mk 20 1 Acc.ro 0x0, FieldDef.mk 21 1 Acc.ro 0x0, FieldDef.mk 22 1 Acc.ro 0x0, FieldDef.mk 24 8 Acc.ro 0x0, FieldDef.mk 32 5 Acc.ro 0x0, FieldDef.mk 40 8 Acc.ro 0x0, FieldDef.mk 48 2 Acc.ro 0x0],
   RegDef.mk Reg.SFC_PROFILE 0x10 0x0 1 0x0 1 [FieldDef.mk 0 2 Acc.rw 0x1, FieldDef.mk 2 1 Acc.rws 0x0, FieldDef.mk 3 1 Acc.rws 0x0, FieldDef.mk 4 2 Acc.rws 0x0]]

/-- The registers of block RST. -/
def regRst : List RegDef :=
  [RegDef.mk Reg.RST_CAUSE 0x100000 0x0 1 0x0 1 [FieldDef.mk 0 9 Acc.w1c 0x1, FieldDef.mk 16 4 Acc.ro 0x0],
   RegDef.mk Reg.RST_STATUS 0x100008 0x0 1 0x0 1 [FieldDef.mk 0 4 Acc.ro 0x0, FieldDef.mk 4 1 Acc.ro 0x1, FieldDef.mk 5 14 Acc.ro 0x0, FieldDef.mk 19 1 Acc.ro 0x0, FieldDef.mk 32 32 Acc.ro 0x0],
   RegDef.mk Reg.RST_HELD 0x100010 0x0 1 0x0 1 [FieldDef.mk 0 50 Acc.ro 0x3ffffffffffff],
   RegDef.mk Reg.RST_SWREQ 0x100018 0x0 1 0x0 1 [FieldDef.mk 0 6 Acc.rwp 0x0, FieldDef.mk 6 1 Acc.rwp 0x0, FieldDef.mk 7 1 Acc.rwp 0x0, FieldDef.mk 8 2 Acc.rwp 0x0, FieldDef.mk 10 1 Acc.rwp 0x0, FieldDef.mk 11 1 Acc.rwp 0x0],
   RegDef.mk Reg.RST_WDT 0x100020 0x0 1 0x0 1 [FieldDef.mk 0 8 Acc.rwp 0x10, FieldDef.mk 8 1 Acc.wo 0x0, FieldDef.mk 16 16 Acc.ro 0x0, FieldDef.mk 32 32 Acc.ro 0x0],
   RegDef.mk Reg.RST_STRAP 0x100028 0x0 1 0x0 1 [FieldDef.mk 0 4 Acc.ro 0x0, FieldDef.mk 4 1 Acc.ro 0x0],
   RegDef.mk Reg.RST_LG 0x100800 0x8 32 0x0 1 [FieldDef.mk 0 64 Acc.ro 0x0]]

/-- The registers of block CLK. -/
def regClk : List RegDef :=
  [RegDef.mk Reg.CLK_STATUS 0x200000 0x0 1 0x0 1 [FieldDef.mk 0 3 Acc.ro 0x0, FieldDef.mk 3 3 Acc.ro 0x0, FieldDef.mk 6 3 Acc.ro 0x5, FieldDef.mk 9 3 Acc.ro 0x7, FieldDef.mk 12 3 Acc.ro 0x7, FieldDef.mk 15 3 Acc.ro 0x0, FieldDef.mk 18 1 Acc.ro 0x0, FieldDef.mk 19 3 Acc.ro 0x0, FieldDef.mk 22 1 Acc.ro 0x0, FieldDef.mk 23 1 Acc.ro 0x0, FieldDef.mk 24 3 Acc.ro 0x7],
   RegDef.mk Reg.CLK_STEP_AT 0x200008 0x0 1 0x0 1 [FieldDef.mk 0 60 Acc.rw 0x0, FieldDef.mk 61 3 Acc.rw 0x0],
   RegDef.mk Reg.CLK_FUSE 0x200010 0x0 1 0x0 1 [FieldDef.mk 0 3 Acc.ro 0x0, FieldDef.mk 3 8 Acc.ro 0x0],
   RegDef.mk Reg.CLK_TIMEBASE 0x200018 0x0 1 0x0 1 [FieldDef.mk 0 64 Acc.ro 0x0],
   RegDef.mk Reg.CLK_SURGE 0x200020 0x0 1 0x0 1 [FieldDef.mk 0 17 Acc.ro 0x1d4c0, FieldDef.mk 17 1 Acc.ro 0x0, FieldDef.mk 18 1 Acc.ro 0x0, FieldDef.mk 32 16 Acc.ro 0x0],
   RegDef.mk Reg.CLK_XING_CNT 0x200028 0x0 1 0x0 1 [FieldDef.mk 0 32 Acc.ro 0x0, FieldDef.mk 32 32 Acc.ro 0x0],
   RegDef.mk Reg.PWR_STATUS 0x200100 0x0 1 0x0 1 [FieldDef.mk 0 1 Acc.ro 0x0, FieldDef.mk 1 1 Acc.ro 0x0, FieldDef.mk 2 1 Acc.ro 0x0, FieldDef.mk 3 1 Acc.ro 0x0],
   RegDef.mk Reg.PWR_INPUT 0x200108 0x0 1 0x0 1 [FieldDef.mk 0 16 Acc.ro 0x0, FieldDef.mk 16 16 Acc.ro 0x0, FieldDef.mk 32 16 Acc.ro 0x0, FieldDef.mk 48 16 Acc.ro 0x0]] ++
  [RegDef.mk Reg.PWR_TEMP 0x200110 0x0 1 0x0 1 [FieldDef.mk 0 12 Acc.ro 0x0, FieldDef.mk 12 8 Acc.ro 0x0, FieldDef.mk 32 16 Acc.ro 0x0],
   RegDef.mk Reg.PWR_LIMIT_CNT 0x200118 0x0 1 0x0 1 [FieldDef.mk 0 16 Acc.ro 0x0, FieldDef.mk 16 16 Acc.ro 0x0, FieldDef.mk 32 16 Acc.ro 0x0, FieldDef.mk 48 8 Acc.ro 0x0, FieldDef.mk 56 8 Acc.ro 0x0],
   RegDef.mk Reg.PWR_DOM_STATE0 0x200120 0x0 1 0x0 1 [FieldDef.mk 0 64 Acc.ro 0x0],
   RegDef.mk Reg.PWR_DOM_STATE1 0x200128 0x0 1 0x0 1 [FieldDef.mk 0 36 Acc.ro 0x0],
   RegDef.mk Reg.PWR_DOM_REQ 0x200130 0x0 1 0x0 1 [FieldDef.mk 0 6 Acc.rwp 0x0, FieldDef.mk 6 1 Acc.rwp 0x0],
   RegDef.mk Reg.PWR_HOLDUP 0x200138 0x0 1 0x0 1 [FieldDef.mk 0 16 Acc.ro 0x0, FieldDef.mk 16 1 Acc.ro 0x0],
   RegDef.mk Reg.CLK_R_CNT 0x201000 0x10 60 0x0 1 [FieldDef.mk 0 64 Acc.ro 0x0],
   RegDef.mk Reg.CLK_R_STAT 0x201008 0x10 60 0x0 1 [FieldDef.mk 0 32 Acc.ro 0x0, FieldDef.mk 32 16 Acc.ro 0x0]]

/-- The registers of block SEQ. -/
def regSeq : List RegDef :=
  [RegDef.mk Reg.SEQ_CTX_STATUS 0x300000 0x1000 8 0x0 1 [FieldDef.mk 0 3 Acc.ro 0x0, FieldDef.mk 3 1 Acc.ro 0x0, FieldDef.mk 4 1 Acc.ro 0x0, FieldDef.mk 5 1 Acc.ro 0x0, FieldDef.mk 6 1 Acc.ro 0x0, FieldDef.mk 7 1 Acc.ro 0x0, FieldDef.mk 16 16 Acc.ro 0x0],
   RegDef.mk Reg.SEQ_CTX_CFG 0x300008 0x1000 8 0x0 1 [FieldDef.mk 0 3 Acc.rws 0x0, FieldDef.mk 3 1 Acc.rws 0x0, FieldDef.mk 4 1 Acc.rws 0x0, FieldDef.mk 5 1 Acc.rws 0x0],
   RegDef.mk Reg.SEQ_CTX_CMD 0x300010 0x1000 8 0x0 1 [FieldDef.mk 0 3 Acc.wo 0x0, FieldDef.mk 4 2 Acc.wo 0x0],
   RegDef.mk Reg.SEQ_CTX_SEED 0x300018 0x1000 8 0x0 1 [FieldDef.mk 0 64 Acc.rws 0x0],
   RegDef.mk Reg.SEQ_CTX_STEP 0x300020 0x1000 8 0x0 1 [FieldDef.mk 0 63 Acc.rws 0x0],
   RegDef.mk Reg.SEQ_CTX_EVALCNT 0x300028 0x1000 8 0x0 1 [FieldDef.mk 0 63 Acc.rws 0x0],
   RegDef.mk Reg.SEQ_CTX_SUBBASE 0x300030 0x1000 8 0x0 1 [FieldDef.mk 0 4 Acc.rws 0x0, FieldDef.mk 12 52 Acc.rws 0x0],
   RegDef.mk Reg.SEQ_CTX_SUBSEQ 0x300038 0x1000 8 0x0 1 [FieldDef.mk 0 32 Acc.rws 0x0, FieldDef.mk 32 32 Acc.ro 0x0]] ++
  [RegDef.mk Reg.SEQ_CTX_SEGSTAT 0x300040 0x1000 8 0x0 1 [FieldDef.mk 0 32 Acc.ro 0x0, FieldDef.mk 32 32 Acc.ro 0x0],
   RegDef.mk Reg.SEQ_CTX_CNT 0x300048 0x1000 8 0x0 1 [FieldDef.mk 0 16 Acc.ro 0x0, FieldDef.mk 16 16 Acc.ro 0x0, FieldDef.mk 32 16 Acc.ro 0x0, FieldDef.mk 48 16 Acc.ro 0x0],
   RegDef.mk Reg.SEQ_BELL 0x308000 0x0 1 0x0 1 [FieldDef.mk 0 7 Acc.rwb 0x5],
   RegDef.mk Reg.SEQ_BELL_ORIGIN 0x308008 0x0 1 0x0 1 [FieldDef.mk 0 64 Acc.rws 0x0],
   RegDef.mk Reg.SEQ_BELL_NUM 0x308010 0x0 1 0x0 1 [FieldDef.mk 0 64 Acc.ro 0x0],
   RegDef.mk Reg.SEQ_CHARGE 0x308018 0x0 1 0x0 1 [FieldDef.mk 0 1 Acc.ro 0x0, FieldDef.mk 1 1 Acc.ro 0x0, FieldDef.mk 16 16 Acc.ro 0x0, FieldDef.mk 32 32 Acc.ro 0x0]]

/-- The registers of block RING. -/
def regRing : List RegDef :=
  [RegDef.mk Reg.RING_STATUS 0x400000 0x1000 96 0x0 1 [FieldDef.mk 0 3 Acc.ro 0x0, FieldDef.mk 3 3 Acc.ro 0x0, FieldDef.mk 6 4 Acc.ro 0x0, FieldDef.mk 10 1 Acc.ro 0x0, FieldDef.mk 11 2 Acc.ro 0x0, FieldDef.mk 13 1 Acc.ro 0x0],
   RegDef.mk Reg.RING_SEAM 0x400008 0x1000 96 0x0 1 [FieldDef.mk 0 3 Acc.ro 0x0, FieldDef.mk 3 2 Acc.ro 0x0, FieldDef.mk 5 7 Acc.ro 0x0, FieldDef.mk 12 1 Acc.ro 0x0, FieldDef.mk 13 2 Acc.ro 0x0, FieldDef.mk 15 1 Acc.ro 0x0],
   RegDef.mk Reg.RING_MMA_CNT 0x400010 0x1000 96 0x0 1 [FieldDef.mk 0 64 Acc.ro 0x0],
   RegDef.mk Reg.RING_GATE_CNT 0x400018 0x1000 96 0x0 1 [FieldDef.mk 0 64 Acc.ro 0x0],
   RegDef.mk Reg.RING_HOLD_CNT 0x400020 0x1000 96 0x0 1 [FieldDef.mk 0 32 Acc.ro 0x0, FieldDef.mk 32 32 Acc.ro 0x0],
   RegDef.mk Reg.RING_RESIDUE 0x400028 0x1000 96 0x0 1 [FieldDef.mk 0 16 Acc.ro 0x0, FieldDef.mk 16 16 Acc.ro 0x0, FieldDef.mk 32 8 Acc.ro 0x0, FieldDef.mk 40 7 Acc.ro 0x0, FieldDef.mk 48 7 Acc.ro 0x0],
   RegDef.mk Reg.RING_CTL 0x400030 0x1000 96 0x0 1 [FieldDef.mk 0 1 Acc.rws 0x1],
   RegDef.mk Reg.RING_LANE_CNT 0x400038 0x1000 96 0x0 1 [FieldDef.mk 0 32 Acc.ro 0x0, FieldDef.mk 32 32 Acc.ro 0x0]]

/-- The registers of block BNK. -/
def regBnk : List RegDef :=
  [RegDef.mk Reg.BNK_STATUS 0x500000 0x0 1 0x0 1 [FieldDef.mk 0 13 Acc.ro 0x0, FieldDef.mk 13 13 Acc.ro 0x0, FieldDef.mk 26 13 Acc.ro 0x0, FieldDef.mk 39 1 Acc.ro 0x0],
   RegDef.mk Reg.BNK_HSEL 0x500008 0x0 1 0x0 1 [FieldDef.mk 0 12 Acc.rw 0x0],
   RegDef.mk Reg.BNK_SCRUB_CTL 0x500030 0x0 1 0x0 1 [FieldDef.mk 0 1 Acc.rw 0x1, FieldDef.mk 8 16 Acc.rw 0x3e8],
   RegDef.mk Reg.BNK_PWR_CTL 0x500038 0x0 1 0x0 1 [FieldDef.mk 0 1 Acc.rw 0x0, FieldDef.mk 8 8 Acc.rw 0x64],
   RegDef.mk Reg.BNK_HENT 0x500010 0x8 4 0x0 1 [FieldDef.mk 0 64 Acc.ro 0x0],
   RegDef.mk Reg.BNK_CTX_RANGE 0x500100 0x8 8 0x0 1 [FieldDef.mk 0 12 Acc.rwp 0x0, FieldDef.mk 12 13 Acc.rwp 0x1000],
   RegDef.mk Reg.BNK_ST_ECC 0x510000 0x100 96 0x0 1 [FieldDef.mk 0 16 Acc.ro 0x0, FieldDef.mk 16 16 Acc.ro 0x0, FieldDef.mk 32 8 Acc.ro 0x0, FieldDef.mk 40 8 Acc.ro 0x0],
   RegDef.mk Reg.BNK_ST_ERRADDR 0x510008 0x100 96 0x0 1 [FieldDef.mk 0 4 Acc.ro 0x0, FieldDef.mk 4 11 Acc.ro 0x0, FieldDef.mk 15 5 Acc.ro 0x0, FieldDef.mk 20 7 Acc.ro 0x0, FieldDef.mk 27 1 Acc.ro 0x0, FieldDef.mk 28 1 Acc.ro 0x0, FieldDef.mk 29 1 Acc.ro 0x0, FieldDef.mk 30 12 Acc.ro 0x0, FieldDef.mk 42 1 Acc.ro 0x0]] ++
  [RegDef.mk Reg.BNK_ST_PWR 0x510010 0x100 96 0x0 1 [FieldDef.mk 0 32 Acc.ro 0x0, FieldDef.mk 32 16 Acc.ro 0x0, FieldDef.mk 48 16 Acc.ro 0x0],
   RegDef.mk Reg.BNK_ST_PWR_REQ 0x510018 0x100 96 0x0 1 [FieldDef.mk 0 16 Acc.wo 0x0, FieldDef.mk 16 16 Acc.wo 0x0],
   RegDef.mk Reg.BNK_ST_PURGE 0x510020 0x100 96 0x0 1 [FieldDef.mk 0 16 Acc.ro 0x0, FieldDef.mk 16 32 Acc.ro 0x0],
   RegDef.mk Reg.BNK_ST_SCRUB 0x510028 0x100 96 0x0 1 [FieldDef.mk 0 32 Acc.ro 0x0, FieldDef.mk 32 32 Acc.ro 0x0]]

/-- The registers of block HAUL. -/
def regHaul : List RegDef :=
  [RegDef.mk Reg.HAUL_HUB_STATUS 0x600000 0x10000 4 0x0 1 [FieldDef.mk 0 16 Acc.ro 0x0, FieldDef.mk 16 2 Acc.ro 0x0, FieldDef.mk 18 2 Acc.ro 0x0, FieldDef.mk 20 14 Acc.ro 0x0],
   RegDef.mk Reg.HAUL_HUB_CFG 0x600008 0x10000 4 0x0 1 [FieldDef.mk 0 3 Acc.rw 0x6, FieldDef.mk 4 3 Acc.rw 0x7, FieldDef.mk 8 3 Acc.rw 0x7, FieldDef.mk 12 3 Acc.rw 0x1],
   RegDef.mk Reg.HAUL_HUB_LINES 0x600010 0x10000 4 0x0 1 [FieldDef.mk 0 64 Acc.ro 0x0],
   RegDef.mk Reg.HAUL_HUB_DISCARD 0x600018 0x10000 4 0x0 1 [FieldDef.mk 0 32 Acc.ro 0x0, FieldDef.mk 32 32 Acc.ro 0x0],
   RegDef.mk Reg.HAUL_Q_OWN 0x601000 0x10000 4 0x100 16 [FieldDef.mk 0 1 Acc.rwp 0x0, FieldDef.mk 1 1 Acc.rwp 0x0, FieldDef.mk 2 2 Acc.rwp 0x0, FieldDef.mk 4 1 Acc.rwp 0x0],
   RegDef.mk Reg.HAUL_Q_CFG 0x601008 0x10000 4 0x100 16 [FieldDef.mk 0 1 Acc.rws 0x0, FieldDef.mk 1 3 Acc.rw 0x3, FieldDef.mk 4 1 Acc.rws 0x0, FieldDef.mk 5 7 Acc.rws 0x0],
   RegDef.mk Reg.HAUL_Q_STATUS 0x601010 0x10000 4 0x100 16 [FieldDef.mk 0 3 Acc.ro 0x0, FieldDef.mk 3 1 Acc.ro 0x0, FieldDef.mk 4 1 Acc.ro 0x0, FieldDef.mk 5 1 Acc.ro 0x0, FieldDef.mk 6 1 Acc.ro 0x0, FieldDef.mk 7 12 Acc.ro 0x0, FieldDef.mk 48 16 Acc.ro 0x0],
   RegDef.mk Reg.HAUL_Q_POS 0x601018 0x10000 4 0x100 16 [FieldDef.mk 0 21 Acc.ro 0x0, FieldDef.mk 21 21 Acc.ro 0x0]] ++
  [RegDef.mk Reg.HAUL_Q_CNT 0x601020 0x10000 4 0x100 16 [FieldDef.mk 0 16 Acc.ro 0x0, FieldDef.mk 16 16 Acc.ro 0x0, FieldDef.mk 32 16 Acc.ro 0x0, FieldDef.mk 48 16 Acc.ro 0x0],
   RegDef.mk Reg.HAUL_Q_LAST 0x601028 0x10000 4 0x100 16 [FieldDef.mk 0 40 Acc.ro 0x0, FieldDef.mk 40 2 Acc.ro 0x0]]

/-- The registers of block MEM. -/
def regMem : List RegDef :=
  [RegDef.mk Reg.MEM_MAP 0x700000 0x0 1 0x0 1 [FieldDef.mk 0 2 Acc.ro 0x0, FieldDef.mk 2 2 Acc.ro 0x0, FieldDef.mk 4 5 Acc.ro 0x0],
   RegDef.mk Reg.MEM_SCRUB_CTL 0x700008 0x0 1 0x0 1 [FieldDef.mk 0 1 Acc.rw 0x1, FieldDef.mk 8 8 Acc.rw 0x18],
   RegDef.mk Reg.MEM_PURGE 0x700010 0x0 1 0x0 1 [FieldDef.mk 0 9 Acc.ro 0x0, FieldDef.mk 32 32 Acc.ro 0x0],
   RegDef.mk Reg.MEM_HC_ECC 0x701000 0x100 14 0x0 1 [FieldDef.mk 0 24 Acc.ro 0x0, FieldDef.mk 24 24 Acc.ro 0x0, FieldDef.mk 48 16 Acc.ro 0x0],
   RegDef.mk Reg.MEM_HC_ERRADDR 0x701008 0x100 14 0x0 1 [FieldDef.mk 0 48 Acc.ro 0x0, FieldDef.mk 48 7 Acc.ro 0x0, FieldDef.mk 55 1 Acc.ro 0x0, FieldDef.mk 56 1 Acc.ro 0x0],
   RegDef.mk Reg.MEM_RGN_A 0x702000 0x10 256 0x0 1 [FieldDef.mk 0 27 Acc.rwp 0x0, FieldDef.mk 27 26 Acc.rwp 0x0],
   RegDef.mk Reg.MEM_RGN_B 0x702008 0x10 256 0x0 1 [FieldDef.mk 0 2 Acc.rwp 0x0, FieldDef.mk 2 2 Acc.rwp 0x0, FieldDef.mk 4 1 Acc.rwp 0x0, FieldDef.mk 5 2 Acc.rwp 0x0],
   RegDef.mk Reg.MEM_SS_BASE 0x704000 0x40 16 0x0 1 [FieldDef.mk 0 40 Acc.rws 0x0, FieldDef.mk 40 24 Acc.rws 0x0]] ++
  [RegDef.mk Reg.MEM_SS_CFG 0x704008 0x40 16 0x0 1 [FieldDef.mk 0 1 Acc.rws 0x0, FieldDef.mk 1 1 Acc.rws 0x0, FieldDef.mk 2 20 Acc.rws 0x0, FieldDef.mk 22 31 Acc.rws 0x0, FieldDef.mk 53 11 Acc.rws 0x0],
   RegDef.mk Reg.MEM_SS_HEAD 0x704010 0x40 16 0x0 1 [FieldDef.mk 0 64 Acc.ro 0x0],
   RegDef.mk Reg.MEM_SS_CNT 0x704018 0x40 16 0x0 1 [FieldDef.mk 0 32 Acc.ro 0x0, FieldDef.mk 32 32 Acc.ro 0x0],
   RegDef.mk Reg.MEM_SMP_CFG 0x705000 0x40 8 0x0 1 [FieldDef.mk 0 4 Acc.rws 0x0, FieldDef.mk 4 4 Acc.rws 0x0, FieldDef.mk 8 1 Acc.rws 0x0, FieldDef.mk 9 7 Acc.rws 0x1, FieldDef.mk 16 32 Acc.rws 0x0],
   RegDef.mk Reg.MEM_SMP_LOAD 0x705008 0x40 8 0x0 1 [FieldDef.mk 6 42 Acc.wo 0x0],
   RegDef.mk Reg.MEM_SMP_CNT 0x705010 0x40 8 0x0 1 [FieldDef.mk 0 32 Acc.ro 0x0, FieldDef.mk 32 16 Acc.ro 0x0, FieldDef.mk 48 16 Acc.ro 0x0]]

/-- The registers of block MILL. -/
def regMill : List RegDef :=
  [RegDef.mk Reg.MILL_CTX_ENTRY 0x800100 0x8 8 0x0 1 [FieldDef.mk 0 12 Acc.rwp 0x0, FieldDef.mk 12 13 Acc.rwp 0xfff],
   RegDef.mk Reg.MILL_STATUS 0x801000 0x1000 2 0x0 1 [FieldDef.mk 0 7 Acc.ro 0x0, FieldDef.mk 7 1 Acc.ro 0x0, FieldDef.mk 8 1 Acc.ro 0x0, FieldDef.mk 9 1 Acc.ro 0x0, FieldDef.mk 10 8 Acc.ro 0x0],
   RegDef.mk Reg.MILL_CNT_UPD 0x801008 0x1000 2 0x0 1 [FieldDef.mk 0 32 Acc.ro 0x0, FieldDef.mk 32 16 Acc.ro 0x0, FieldDef.mk 48 16 Acc.ro 0x0],
   RegDef.mk Reg.MILL_CNT_FROZEN 0x801010 0x1000 2 0x0 1 [FieldDef.mk 0 64 Acc.ro 0x0],
   RegDef.mk Reg.MILL_CNT_NF 0x801018 0x1000 2 0x0 1 [FieldDef.mk 0 16 Acc.ro 0x0, FieldDef.mk 16 48 Acc.ro 0x0],
   RegDef.mk Reg.MILL_CNT_KRON 0x801020 0x1000 2 0x0 1 [FieldDef.mk 0 16 Acc.ro 0x0, FieldDef.mk 16 16 Acc.ro 0x0, FieldDef.mk 32 16 Acc.ro 0x0, FieldDef.mk 48 16 Acc.ro 0x0],
   RegDef.mk Reg.MILL_CNT_FOLD 0x801028 0x1000 2 0x0 1 [FieldDef.mk 0 32 Acc.ro 0x0, FieldDef.mk 32 32 Acc.ro 0x0],
   RegDef.mk Reg.MILL_UE_ADDR 0x801030 0x1000 2 0x0 1 [FieldDef.mk 0 48 Acc.ro 0x0, FieldDef.mk 48 16 Acc.ro 0x0]] ++
  [RegDef.mk Reg.MILL_PURGE 0x801038 0x1000 2 0x0 1 [FieldDef.mk 0 9 Acc.ro 0x0, FieldDef.mk 32 32 Acc.ro 0x0]]

/-- The registers of block BKN. -/
def regBkn : List RegDef :=
  [RegDef.mk Reg.BKN_TORUS 0x900000 0x0 1 0x0 1 [FieldDef.mk 0 6 Acc.rws 0x0, FieldDef.mk 6 6 Acc.rws 0x0, FieldDef.mk 12 5 Acc.rws 0x0, FieldDef.mk 17 17 Acc.rws 0x0, FieldDef.mk 34 17 Acc.rws 0x0],
   RegDef.mk Reg.BKN_CFG 0x900008 0x0 1 0x0 1 [FieldDef.mk 0 4 Acc.rws 0x0, FieldDef.mk 4 1 Acc.rws 0x1, FieldDef.mk 5 11 Acc.rw 0x5],
   RegDef.mk Reg.BKN_VL_CFG 0x900010 0x0 1 0x0 1 [FieldDef.mk 0 8 Acc.rws 0x4, FieldDef.mk 8 8 Acc.rws 0x60, FieldDef.mk 16 8 Acc.rws 0x30, FieldDef.mk 24 8 Acc.rws 0x30, FieldDef.mk 32 8 Acc.rws 0x20, FieldDef.mk 40 8 Acc.rws 0x8, FieldDef.mk 48 8 Acc.rws 0x10, FieldDef.mk 56 8 Acc.rws 0x4],
   RegDef.mk Reg.BKN_ARB 0x900018 0x0 1 0x0 1 [FieldDef.mk 0 4 Acc.rw 0x8, FieldDef.mk 4 4 Acc.rw 0x2, FieldDef.mk 8 4 Acc.rw 0x4, FieldDef.mk 12 4 Acc.rw 0x2, FieldDef.mk 16 4 Acc.rw 0x1],
   RegDef.mk Reg.BKN_LOCK 0x900040 0x0 1 0x0 1 [FieldDef.mk 0 1 Acc.rwl 0x0, FieldDef.mk 1 1 Acc.rwl 0x0],
   RegDef.mk Reg.BKN_RT_ADDR 0x900048 0x0 1 0x0 1 [FieldDef.mk 0 17 Acc.rwp 0x0],
   RegDef.mk Reg.BKN_RT_DATA 0x900050 0x0 1 0x0 1 [FieldDef.mk 0 64 Acc.wo 0x0],
   RegDef.mk Reg.BKN_TIME 0x900058 0x0 1 0x0 1 [FieldDef.mk 0 17 Acc.rwp 0x0, FieldDef.mk 17 17 Acc.rwp 0x0, FieldDef.mk 34 1 Acc.ro 0x0, FieldDef.mk 35 1 Acc.ro 0x0, FieldDef.mk 36 16 Acc.ro 0x0]] ++
  [RegDef.mk Reg.BKN_STATUS 0x900060 0x0 1 0x0 1 [FieldDef.mk 0 16 Acc.ro 0x0, FieldDef.mk 16 16 Acc.ro 0x0, FieldDef.mk 32 16 Acc.ro 0x0, FieldDef.mk 48 8 Acc.ro 0x0, FieldDef.mk 56 6 Acc.ro 0x0],
   RegDef.mk Reg.BKN_AUTH 0x900020 0x8 4 0x0 1 [FieldDef.mk 0 64 Acc.rwl 0x0],
   RegDef.mk Reg.BKN_WIN_A 0x901000 0x10 64 0x0 1 [FieldDef.mk 0 27 Acc.rwl 0x0, FieldDef.mk 27 26 Acc.rwl 0x0],
   RegDef.mk Reg.BKN_WIN_B 0x901008 0x10 64 0x0 1 [FieldDef.mk 0 17 Acc.rwl 0x0, FieldDef.mk 17 17 Acc.rwl 0x0, FieldDef.mk 34 8 Acc.rwl 0x0, FieldDef.mk 42 1 Acc.rwl 0x0],
   RegDef.mk Reg.BKN_GRP 0x902000 0x8 1024 0x0 1 [FieldDef.mk 0 17 Acc.rwp 0x0, FieldDef.mk 17 6 Acc.rwp 0x0, FieldDef.mk 23 6 Acc.rwp 0x0, FieldDef.mk 29 5 Acc.rwp 0x0, FieldDef.mk 34 1 Acc.rwp 0x0, FieldDef.mk 35 1 Acc.rwp 0x0, FieldDef.mk 36 1 Acc.rwp 0x0, FieldDef.mk 37 1 Acc.rwp 0x0, FieldDef.mk 38 2 Acc.rwp 0x0, FieldDef.mk 40 1 Acc.rwp 0x0],
   RegDef.mk Reg.BKN_REMAP 0x904000 0x8 64 0x0 1 [FieldDef.mk 0 17 Acc.rwp 0x0, FieldDef.mk 17 17 Acc.rwp 0x0, FieldDef.mk 34 1 Acc.rwp 0x0],
   RegDef.mk Reg.BKN_CTX_BUF 0x904400 0x8 8 0x0 1 [FieldDef.mk 0 8 Acc.rws 0x0, FieldDef.mk 8 8 Acc.rws 0x0, FieldDef.mk 16 1 Acc.rws 0x0, FieldDef.mk 17 1 Acc.rws 0x0],
   RegDef.mk Reg.BKN_P_STATUS 0x908000 0x40 48 0x0 1 [FieldDef.mk 0 3 Acc.ro 0x0, FieldDef.mk 3 4 Acc.ro 0x0, FieldDef.mk 7 1 Acc.ro 0x0, FieldDef.mk 8 17 Acc.ro 0x0]] ++
  [RegDef.mk Reg.BKN_P_CFG 0x908008 0x40 48 0x0 1 [FieldDef.mk 0 1 Acc.rw 0x1, FieldDef.mk 1 1 Acc.wo 0x0, FieldDef.mk 2 22 Acc.rw 0x10000],
   RegDef.mk Reg.BKN_P_CNT 0x908010 0x40 48 0x0 1 [FieldDef.mk 0 24 Acc.ro 0x0, FieldDef.mk 24 12 Acc.ro 0x0, FieldDef.mk 36 12 Acc.ro 0x0, FieldDef.mk 48 8 Acc.ro 0x0, FieldDef.mk 56 8 Acc.ro 0x0]]

/-- The registers of block LLX. -/
def regLlx : List RegDef :=
  [RegDef.mk Reg.LLX_STATUS 0xa00000 0x0 1 0x0 1 [FieldDef.mk 0 6 Acc.ro 0x0, FieldDef.mk 6 1 Acc.ro 0x0, FieldDef.mk 7 1 Acc.ro 0x0],
   RegDef.mk Reg.LLX_CFG 0xa00008 0x0 1 0x0 1 [FieldDef.mk 0 6 Acc.rw 0x20],
   RegDef.mk Reg.LLX_EVT_MASK 0xa00010 0x0 1 0x0 1 [FieldDef.mk 0 16 Acc.rw 0x0],
   RegDef.mk Reg.LLX_EVT_CNT 0xa00018 0x0 1 0x0 1 [FieldDef.mk 0 32 Acc.ro 0x0, FieldDef.mk 32 16 Acc.ro 0x0, FieldDef.mk 48 16 Acc.ro 0x0],
   RegDef.mk Reg.LLX_WR_CNT 0xa00020 0x0 1 0x0 1 [FieldDef.mk 0 32 Acc.ro 0x0, FieldDef.mk 32 16 Acc.ro 0x0],
   RegDef.mk Reg.LLX_P_STATUS 0xa00100 0x40 2 0x0 1 [FieldDef.mk 0 2 Acc.ro 0x0, FieldDef.mk 2 8 Acc.ro 0x0],
   RegDef.mk Reg.LLX_P_CNT 0xa00108 0x40 2 0x0 1 [FieldDef.mk 0 24 Acc.ro 0x0, FieldDef.mk 24 12 Acc.ro 0x0, FieldDef.mk 36 12 Acc.ro 0x0, FieldDef.mk 48 8 Acc.ro 0x0, FieldDef.mk 56 8 Acc.ro 0x0],
   RegDef.mk Reg.LLX_HWIN_A 0xa01000 0x10 16 0x0 1 [FieldDef.mk 0 27 Acc.rwp 0x0, FieldDef.mk 27 26 Acc.rwp 0x0]] ++
  [RegDef.mk Reg.LLX_HWIN_B 0xa01008 0x10 16 0x0 1 [FieldDef.mk 0 1 Acc.rwp 0x0, FieldDef.mk 1 1 Acc.rwp 0x0, FieldDef.mk 2 1 Acc.rwp 0x0, FieldDef.mk 3 1 Acc.rwp 0x0]]

/-- The registers of block RLF. -/
def regRlf : List RegDef :=
  [RegDef.mk Reg.RLF_CFG 0xb00000 0x0 1 0x0 1 [FieldDef.mk 0 1 Acc.rwp 0x0, FieldDef.mk 1 1 Acc.rwp 0x0, FieldDef.mk 2 3 Acc.rwp 0x0, FieldDef.mk 5 1 Acc.rws 0x0, FieldDef.mk 6 2 Acc.rws 0x0, FieldDef.mk 8 1 Acc.rws 0x0, FieldDef.mk 9 8 Acc.rws 0x10, FieldDef.mk 17 17 Acc.rwp 0x0, FieldDef.mk 34 1 Acc.rwp 0x0],
   RegDef.mk Reg.RLF_STATUS 0xb00008 0x0 1 0x0 1 [FieldDef.mk 0 2 Acc.ro 0x0, FieldDef.mk 2 1 Acc.ro 0x0, FieldDef.mk 3 17 Acc.ro 0x0, FieldDef.mk 20 3 Acc.ro 0x0, FieldDef.mk 23 1 Acc.ro 0x0, FieldDef.mk 24 1 Acc.ro 0x0, FieldDef.mk 25 1 Acc.ro 0x0],
   RegDef.mk Reg.RLF_CANARY 0xb00010 0x0 1 0x0 1 [FieldDef.mk 0 3 Acc.ro 0x0, FieldDef.mk 3 3 Acc.rwp 0x0, FieldDef.mk 6 30 Acc.ro 0x0],
   RegDef.mk Reg.RLF_INTERVAL 0xb00018 0x0 1 0x0 1 [FieldDef.mk 0 8 Acc.rw 0x40, FieldDef.mk 8 8 Acc.rw 0x20, FieldDef.mk 16 8 Acc.rw 0x10, FieldDef.mk 24 8 Acc.rw 0x8, FieldDef.mk 32 8 Acc.rw 0x4, FieldDef.mk 40 8 Acc.rw 0x2, FieldDef.mk 48 8 Acc.rw 0x1, FieldDef.mk 56 8 Acc.rw 0x1],
   RegDef.mk Reg.RLF_CTX_PLAN 0xb00040 0x0 1 0x0 1 [FieldDef.mk 6 42 Acc.rws 0x0],
   RegDef.mk Reg.RLF_CTX_SECURED 0xb00048 0x0 1 0x0 1 [FieldDef.mk 0 63 Acc.ro 0x0, FieldDef.mk 63 1 Acc.ro 0x0],
   RegDef.mk Reg.RLF_CTX_STAGE 0xb00050 0x0 1 0x0 1 [FieldDef.mk 0 32 Acc.rws 0x0, FieldDef.mk 32 4 Acc.rws 0x0],
   RegDef.mk Reg.RLF_CTX_DLOG 0xb00058 0x0 1 0x0 1 [FieldDef.mk 0 8 Acc.rws 0x0, FieldDef.mk 8 1 Acc.rws 0x0]] ++
  [RegDef.mk Reg.RLF_CNT 0xb00060 0x0 1 0x0 1 [FieldDef.mk 0 16 Acc.ro 0x0, FieldDef.mk 16 16 Acc.ro 0x0, FieldDef.mk 32 8 Acc.ro 0x0, FieldDef.mk 40 8 Acc.ro 0x0, FieldDef.mk 48 8 Acc.ro 0x0, FieldDef.mk 56 8 Acc.ro 0x0],
   RegDef.mk Reg.RLF_ACT_TIME 0xb00068 0x0 1 0x0 1 [FieldDef.mk 0 16 Acc.ro 0x0, FieldDef.mk 16 16 Acc.ro 0x0, FieldDef.mk 32 16 Acc.ro 0x0, FieldDef.mk 48 16 Acc.ro 0x0],
   RegDef.mk Reg.RLF_PAIR_LAST 0xb00070 0x0 1 0x0 1 [FieldDef.mk 0 4 Acc.ro 0x0, FieldDef.mk 4 17 Acc.ro 0x0],
   RegDef.mk Reg.RLF_RELIEF 0xb00020 0x8 2 0x0 1 [FieldDef.mk 0 17 Acc.rwp 0x0, FieldDef.mk 17 1 Acc.rwp 0x0, FieldDef.mk 18 1 Acc.ro 0x0, FieldDef.mk 19 3 Acc.ro 0x0],
   RegDef.mk Reg.RLF_DECL 0xb00030 0x8 2 0x0 1 [FieldDef.mk 0 64 Acc.rws 0xffffffffffffffff],
   RegDef.mk Reg.RLF_CAN_IN 0xb00100 0x8 10 0x0 1 [FieldDef.mk 0 16 Acc.rwp 0x0, FieldDef.mk 16 4 Acc.rwp 0x0, FieldDef.mk 20 1 Acc.rwp 0x0, FieldDef.mk 21 4 Acc.rwp 0x0],
   RegDef.mk Reg.RLF_COVER 0xb00200 0x8 8 0x0 1 [FieldDef.mk 0 17 Acc.ro 0x0, FieldDef.mk 17 1 Acc.ro 0x0, FieldDef.mk 18 1 Acc.ro 0x0, FieldDef.mk 19 1 Acc.ro 0x0, FieldDef.mk 20 2 Acc.ro 0x0, FieldDef.mk 22 1 Acc.ro 0x0, FieldDef.mk 23 1 Acc.ro 0x0, FieldDef.mk 24 40 Acc.ro 0x0]]

/-- The registers of block DBG. -/
def regDbg : List RegDef :=
  [RegDef.mk Reg.DBG_STATUS 0xc00000 0x0 1 0x0 1 [FieldDef.mk 0 1 Acc.ro 0x0, FieldDef.mk 1 3 Acc.ro 0x0, FieldDef.mk 4 1 Acc.ro 0x0, FieldDef.mk 5 1 Acc.ro 0x0, FieldDef.mk 16 16 Acc.ro 0x0],
   RegDef.mk Reg.DBG_NONCE 0xc00008 0x0 1 0x0 1 [FieldDef.mk 0 64 Acc.ro 0x0],
   RegDef.mk Reg.DBG_UNLOCK 0xc00010 0x0 1 0x0 1 [FieldDef.mk 0 1 Acc.wo 0x0],
   RegDef.mk Reg.DBG_STOP 0xc00018 0x0 1 0x0 1 [FieldDef.mk 0 1 Acc.wo 0x0, FieldDef.mk 1 1 Acc.wo 0x0, FieldDef.mk 2 1 Acc.rwp 0x0, FieldDef.mk 3 1 Acc.rwp 0x0, FieldDef.mk 4 2 Acc.rwp 0x0, FieldDef.mk 6 1 Acc.wo 0x0],
   RegDef.mk Reg.DBG_STOP_STAT 0xc00020 0x0 1 0x0 1 [FieldDef.mk 0 1 Acc.ro 0x0, FieldDef.mk 1 1 Acc.ro 0x0, FieldDef.mk 2 3 Acc.ro 0x0, FieldDef.mk 16 16 Acc.ro 0x0, FieldDef.mk 32 16 Acc.ro 0x0],
   RegDef.mk Reg.DBG_SNAP_BELL 0xc00028 0x0 1 0x0 1 [FieldDef.mk 0 64 Acc.ro 0x0],
   RegDef.mk Reg.DBG_PC_CTL 0xc00400 0x0 1 0x0 1 [FieldDef.mk 0 1 Acc.rwp 0x0, FieldDef.mk 1 1 Acc.rwp 0x1],
   RegDef.mk Reg.DBG_TR_CFG 0xc00600 0x0 1 0x0 1 [FieldDef.mk 0 1 Acc.rwp 0x0, FieldDef.mk 1 1 Acc.rwp 0x0, FieldDef.mk 2 1 Acc.rwp 0x0, FieldDef.mk 3 17 Acc.rwp 0x0, FieldDef.mk 20 1 Acc.rwp 0x0, FieldDef.mk 21 17 Acc.rwp 0x0, FieldDef.mk 38 17 Acc.rwp 0x0]] ++
  [RegDef.mk Reg.DBG_TR_FILT 0xc00608 0x0 1 0x0 1 [FieldDef.mk 0 16 Acc.rwp 0x0, FieldDef.mk 16 9 Acc.rwp 0x0, FieldDef.mk 25 8 Acc.rwp 0x0, FieldDef.mk 33 1 Acc.rwp 0x0, FieldDef.mk 34 7 Acc.rwp 0x0, FieldDef.mk 41 7 Acc.rwp 0x5f],
   RegDef.mk Reg.DBG_TRIG 0xc00610 0x0 1 0x0 1 [FieldDef.mk 0 1 Acc.rwp 0x0, FieldDef.mk 1 2 Acc.rwp 0x0, FieldDef.mk 3 4 Acc.rwp 0x0, FieldDef.mk 7 4 Acc.rwp 0x0, FieldDef.mk 11 8 Acc.rwp 0x0, FieldDef.mk 19 4 Acc.rwp 0x0, FieldDef.mk 23 1 Acc.rwp 0x0, FieldDef.mk 24 24 Acc.rwp 0x0, FieldDef.mk 48 1 Acc.w1c 0x0],
   RegDef.mk Reg.DBG_TR_MARK 0xc00618 0x0 1 0x0 1 [FieldDef.mk 0 64 Acc.wo 0x0],
   RegDef.mk Reg.DBG_RD_SEL 0xc00700 0x0 1 0x0 1 [FieldDef.mk 0 3 Acc.rwp 0x0, FieldDef.mk 4 48 Acc.rwp 0x0, FieldDef.mk 62 2 Acc.ro 0x0],
   RegDef.mk Reg.DBG_RD_DATA 0xc00708 0x0 1 0x0 1 [FieldDef.mk 0 64 Acc.ro 0x0],
   RegDef.mk Reg.DBG_PT_HOP 0xc00800 0x0 1 0x0 1 [FieldDef.mk 0 7 Acc.rwp 0x0, FieldDef.mk 7 7 Acc.rwp 0x0, FieldDef.mk 14 3 Acc.rwp 0x0],
   RegDef.mk Reg.DBG_PT_BP 0xc00808 0x0 1 0x0 1 [FieldDef.mk 0 3 Acc.rwp 0x0, FieldDef.mk 3 8 Acc.rwp 0x0, FieldDef.mk 11 4 Acc.rwp 0x0],
   RegDef.mk Reg.DBG_PT_XING 0xc00810 0x0 1 0x0 1 [FieldDef.mk 0 60 Acc.rwp 0x0]] ++
  [RegDef.mk Reg.DBG_PT_HBM 0xc00818 0x0 1 0x0 1 [FieldDef.mk 0 14 Acc.rwp 0x0, FieldDef.mk 14 12 Acc.rwp 0x0],
   RegDef.mk Reg.DBG_PT_LINK 0xc00820 0x0 1 0x0 1 [FieldDef.mk 0 6 Acc.rwp 0x0, FieldDef.mk 6 2 Acc.rwp 0x0, FieldDef.mk 8 8 Acc.rwp 0x0, FieldDef.mk 16 20 Acc.rwp 0x0],
   RegDef.mk Reg.DBG_PT_ECC_A 0xc00828 0x0 1 0x0 1 [FieldDef.mk 0 2 Acc.rwp 0x0, FieldDef.mk 2 48 Acc.rwp 0x0],
   RegDef.mk Reg.DBG_PT_ECC_B 0xc00830 0x0 1 0x0 1 [FieldDef.mk 0 7 Acc.rwp 0x0, FieldDef.mk 7 7 Acc.rwp 0x0, FieldDef.mk 14 1 Acc.rwp 0x0],
   RegDef.mk Reg.DBG_PT_RISK 0xc00838 0x0 1 0x0 1 [FieldDef.mk 0 3 Acc.rwp 0x0, FieldDef.mk 3 1 Acc.rwp 0x0],
   RegDef.mk Reg.DBG_AO 0xc00030 0x8 12 0x0 1 [FieldDef.mk 0 64 Acc.ro 0x0],
   RegDef.mk Reg.DBG_CTX_CNT 0xc00200 0x40 8 0x8 6 [FieldDef.mk 0 64 Acc.ro 0x0],
   RegDef.mk Reg.DBG_PC_SEL 0xc00500 0x10 16 0x0 1 [FieldDef.mk 0 6 Acc.rwp 0x0, FieldDef.mk 6 8 Acc.rwp 0x0, FieldDef.mk 14 1 Acc.rwp 0x0]] ++
  [RegDef.mk Reg.DBG_PC_CNT 0xc00508 0x10 16 0x0 1 [FieldDef.mk 0 64 Acc.rwp 0x0],
   RegDef.mk Reg.DBG_TR_PTR 0xc00620 0x8 4 0x0 1 [FieldDef.mk 0 25 Acc.rws 0x0, FieldDef.mk 25 1 Acc.ro 0x0, FieldDef.mk 26 1 Acc.ro 0x0, FieldDef.mk 32 32 Acc.ro 0x0],
   RegDef.mk Reg.DBG_TOKEN 0xc01000 0x8 24 0x0 1 [FieldDef.mk 0 64 Acc.wo 0x0]]

/-- The registers of block SEC. -/
def regSec : List RegDef :=
  [RegDef.mk Reg.SEC_STATUS 0xd00000 0x0 1 0x0 1 [FieldDef.mk 0 1 Acc.ro 0x0, FieldDef.mk 1 1 Acc.ro 0x0, FieldDef.mk 2 1 Acc.ro 0x0, FieldDef.mk 3 1 Acc.ro 0x0, FieldDef.mk 32 32 Acc.ro 0x0],
   RegDef.mk Reg.SEC_PRIV 0xd00008 0x0 1 0x0 1 [FieldDef.mk 0 1 Acc.rwl 0x0, FieldDef.mk 1 1 Acc.rwl 0x0],
   RegDef.mk Reg.SEC_ROLLBACK 0xd00010 0x0 1 0x0 1 [FieldDef.mk 0 6 Acc.rwp 0x0],
   RegDef.mk Reg.SEC_CFG 0xd00018 0x0 1 0x0 1 [FieldDef.mk 0 2 Acc.ro 0x2, FieldDef.mk 2 1 Acc.ro 0x0, FieldDef.mk 3 1 Acc.ro 0x0, FieldDef.mk 4 1 Acc.ro 0x0, FieldDef.mk 32 32 Acc.ro 0x0],
   RegDef.mk Reg.SEC_MBOX_CTL 0xd00040 0x0 1 0x0 1 [FieldDef.mk 0 12 Acc.rw 0x0, FieldDef.mk 12 1 Acc.wo 0x0, FieldDef.mk 13 1 Acc.ro 0x0, FieldDef.mk 14 1 Acc.w1c 0x0],
   RegDef.mk Reg.SEC_PUBKEY 0xd00020 0x8 4 0x0 1 [FieldDef.mk 0 64 Acc.ro 0x0],
   RegDef.mk Reg.SEC_MBOX 0xd01000 0x8 512 0x0 1 [FieldDef.mk 0 64 Acc.rw 0x0]]

/-- The register families of a block by the top bits of an offset. -/
def regBlock : Nat → List RegDef
  | 0 => regSfc
  | 1 => regRst
  | 2 => regClk
  | 3 => regSeq
  | 4 => regRing
  | 5 => regBnk
  | 6 => regHaul
  | 7 => regMem
  | 8 => regMill
  | 9 => regBkn
  | 10 => regLlx
  | 11 => regRlf
  | 12 => regDbg
  | 13 => regSec
  | _ => []

end Sys2Proof.Machine
end

