-- ==== Sys2Proof/Machine/RegFields.lean ====
section
/-! DEFINITION. A name for every field of every register, `Fld.<REGISTER>_<FIELD>`, from the field tables, with its place
in the surface window. -/

namespace Sys2Proof.Machine

/-- A register field by place: the offset of the first register of its family, the strides, and its bits. -/
structure Fld where
  base : Nat
  s1 : Nat
  s2 : Nat
  lo : Nat
  width : Nat
  /-- Reset value; what the manual calls Fused, Strap, Variant and the like is given by `Fld.dflt`. -/
  reset : Nat
  deriving DecidableEq, Repr

namespace Fld
abbrev SFC_ID_VENDOR : Fld := Fld.mk 0x0 0x0 0x0 0 16 0x0
abbrev SFC_ID_PART : Fld := Fld.mk 0x0 0x0 0x0 16 16 0x0
abbrev SFC_ID_REV_MINOR : Fld := Fld.mk 0x0 0x0 0x0 32 4 0x0
abbrev SFC_ID_REV_MAJOR : Fld := Fld.mk 0x0 0x0 0x0 36 4 0x0
abbrev SFC_ID_VARIANT : Fld := Fld.mk 0x0 0x0 0x0 40 4 0x0
abbrev SFC_CAPS_HBM_PRESENT : Fld := Fld.mk 0x8 0x0 0x0 0 12 0x0
abbrev SFC_CAPS_IOD_PRESENT : Fld := Fld.mk 0x8 0x0 0x0 12 4 0x0
abbrev SFC_CAPS_MILL_PRESENT : Fld := Fld.mk 0x8 0x0 0x0 16 2 0x0
abbrev SFC_CAPS_KRON : Fld := Fld.mk 0x8 0x0 0x0 18 1 0x0
abbrev SFC_CAPS_ADAPT_CLK : Fld := Fld.mk 0x8 0x0 0x0 19 1 0x0
abbrev SFC_CAPS_SURGE : Fld := Fld.mk 0x8 0x0 0x0 20 1 0x0
abbrev SFC_CAPS_VUPDATE : Fld := Fld.mk 0x8 0x0 0x0 21 1 0x0
abbrev SFC_CAPS_SOLORI_EXACT : Fld := Fld.mk 0x8 0x0 0x0 22 1 0x0
abbrev SFC_CAPS_STATIONS : Fld := Fld.mk 0x8 0x0 0x0 24 8 0x0
abbrev SFC_CAPS_STOCKPILE_PKGS : Fld := Fld.mk 0x8 0x0 0x0 32 5 0x0
abbrev SFC_CAPS_BKN_PORTS : Fld := Fld.mk 0x8 0x0 0x0 40 8 0x0
abbrev SFC_CAPS_LLX_PORTS : Fld := Fld.mk 0x8 0x0 0x0 48 2 0x0
abbrev SFC_PROFILE_CLOCK : Fld := Fld.mk 0x10 0x0 0x0 0 2 0x1
abbrev SFC_PROFILE_NUMERICS : Fld := Fld.mk 0x10 0x0 0x0 2 1 0x0
abbrev SFC_PROFILE_RESILIENCE : Fld := Fld.mk 0x10 0x0 0x0 3 1 0x0
abbrev SFC_PROFILE_SEAM : Fld := Fld.mk 0x10 0x0 0x0 4 2 0x0
abbrev RST_CAUSE_SOURCES : Fld := Fld.mk 0x100000 0x0 0x0 0 9 0x1
abbrev RST_CAUSE_LAST : Fld := Fld.mk 0x100000 0x0 0x0 16 4 0x0
abbrev RST_STATUS_STEP : Fld := Fld.mk 0x100008 0x0 0x0 0 4 0x0
abbrev RST_STATUS_DATA_HELD : Fld := Fld.mk 0x100008 0x0 0x0 4 1 0x1
abbrev RST_STATUS_MEMINIT : Fld := Fld.mk 0x100008 0x0 0x0 5 14 0x0
abbrev RST_STATUS_AUX_LOSS : Fld := Fld.mk 0x100008 0x0 0x0 19 1 0x0
abbrev RST_STATUS_POR_COUNT : Fld := Fld.mk 0x100008 0x0 0x0 32 32 0x0
abbrev RST_HELD_HELD : Fld := Fld.mk 0x100010 0x0 0x0 0 50 0x3ffffffffffff
abbrev RST_SWREQ_DOMAIN : Fld := Fld.mk 0x100018 0x0 0x0 0 6 0x0
abbrev RST_SWREQ_CONTEXT : Fld := Fld.mk 0x100018 0x0 0x0 6 1 0x0
abbrev RST_SWREQ_SEQ : Fld := Fld.mk 0x100018 0x0 0x0 7 1 0x0
abbrev RST_SWREQ_CTX : Fld := Fld.mk 0x100018 0x0 0x0 8 2 0x0
abbrev RST_SWREQ_FORCE : Fld := Fld.mk 0x100018 0x0 0x0 10 1 0x0
abbrev RST_SWREQ_HOLD : Fld := Fld.mk 0x100018 0x0 0x0 11 1 0x0
abbrev RST_WDT_TIMEOUT : Fld := Fld.mk 0x100020 0x0 0x0 0 8 0x10
abbrev RST_WDT_KICK : Fld := Fld.mk 0x100020 0x0 0x0 8 1 0x0
abbrev RST_WDT_EXPIRIES : Fld := Fld.mk 0x100020 0x0 0x0 16 16 0x0
abbrev RST_WDT_SURF_CYCLES : Fld := Fld.mk 0x100020 0x0 0x0 32 32 0x0
abbrev RST_STRAP_CODE : Fld := Fld.mk 0x100028 0x0 0x0 0 4 0x0
abbrev RST_STRAP_AMBIG : Fld := Fld.mk 0x100028 0x0 0x0 4 1 0x0
abbrev RST_LG_WORD : Fld := Fld.mk 0x100800 0x8 0x0 0 64 0x0
abbrev CLK_STATUS_STEP : Fld := Fld.mk 0x200000 0x0 0x0 0 3 0x0
abbrev CLK_STATUS_REQ : Fld := Fld.mk 0x200000 0x0 0x0 3 3 0x0
abbrev CLK_STATUS_MODE_CEIL : Fld := Fld.mk 0x200000 0x0 0x0 6 3 0x5
abbrev CLK_STATUS_THERM_CEIL : Fld := Fld.mk 0x200000 0x0 0x0 9 3 0x7
abbrev CLK_STATUS_LIMIT_CEIL : Fld := Fld.mk 0x200000 0x0 0x0 12 3 0x7
abbrev CLK_STATUS_SURGE_CEIL : Fld := Fld.mk 0x200000 0x0 0x0 15 3 0x0
abbrev CLK_STATUS_PENDING : Fld := Fld.mk 0x200000 0x0 0x0 18 1 0x0
abbrev CLK_STATUS_PEND_STEP : Fld := Fld.mk 0x200000 0x0 0x0 19 3 0x0
abbrev CLK_STATUS_LIMIT_STRETCH : Fld := Fld.mk 0x200000 0x0 0x0 22 1 0x0
abbrev CLK_STATUS_CAP : Fld := Fld.mk 0x200000 0x0 0x0 23 1 0x0
abbrev CLK_STATUS_TRIM_CEIL : Fld := Fld.mk 0x200000 0x0 0x0 24 3 0x7
abbrev CLK_STEP_AT_POINT : Fld := Fld.mk 0x200008 0x0 0x0 0 60 0x0
abbrev CLK_STEP_AT_STEP : Fld := Fld.mk 0x200008 0x0 0x0 61 3 0x0
abbrev CLK_FUSE_MAX_STEP : Fld := Fld.mk 0x200010 0x0 0x0 0 3 0x0
abbrev CLK_FUSE_MAX_VOLT : Fld := Fld.mk 0x200010 0x0 0x0 3 8 0x0
abbrev CLK_TIMEBASE_NS : Fld := Fld.mk 0x200018 0x0 0x0 0 64 0x0
abbrev CLK_SURGE_CREDIT : Fld := Fld.mk 0x200020 0x0 0x0 0 17 0x1d4c0
abbrev CLK_SURGE_ACTIVE : Fld := Fld.mk 0x200020 0x0 0x0 17 1 0x0
abbrev CLK_SURGE_SPENT : Fld := Fld.mk 0x200020 0x0 0x0 18 1 0x0
abbrev CLK_SURGE_SPENT_CNT : Fld := Fld.mk 0x200020 0x0 0x0 32 16 0x0
abbrev CLK_XING_CNT_FALLBACKS : Fld := Fld.mk 0x200028 0x0 0x0 0 32 0x0
abbrev CLK_XING_CNT_REALIGNS : Fld := Fld.mk 0x200028 0x0 0x0 32 32 0x0
abbrev PWR_STATUS_IN_OK : Fld := Fld.mk 0x200100 0x0 0x0 0 1 0x0
abbrev PWR_STATUS_AUX_OK : Fld := Fld.mk 0x200100 0x0 0x0 1 1 0x0
abbrev PWR_STATUS_THROTTLE : Fld := Fld.mk 0x200100 0x0 0x0 2 1 0x0
abbrev PWR_STATUS_DATA_ON : Fld := Fld.mk 0x200100 0x0 0x0 3 1 0x0
abbrev PWR_INPUT_VOLT : Fld := Fld.mk 0x200108 0x0 0x0 0 16 0x0
abbrev PWR_INPUT_CURRENT : Fld := Fld.mk 0x200108 0x0 0x0 16 16 0x0
abbrev PWR_INPUT_POWER : Fld := Fld.mk 0x200108 0x0 0x0 32 16 0x0
abbrev PWR_INPUT_RIPPLE : Fld := Fld.mk 0x200108 0x0 0x0 48 16 0x0
abbrev PWR_TEMP_MAX : Fld := Fld.mk 0x200110 0x0 0x0 0 12 0x0
abbrev PWR_TEMP_SENSOR : Fld := Fld.mk 0x200110 0x0 0x0 12 8 0x0
abbrev PWR_TEMP_SLOPE : Fld := Fld.mk 0x200110 0x0 0x0 32 16 0x0
abbrev PWR_LIMIT_CNT_TRIGGERS : Fld := Fld.mk 0x200118 0x0 0x0 0 16 0x0
abbrev PWR_LIMIT_CNT_CAPS : Fld := Fld.mk 0x200118 0x0 0x0 16 16 0x0
abbrev PWR_LIMIT_CNT_THERM_STEPS : Fld := Fld.mk 0x200118 0x0 0x0 32 16 0x0
abbrev PWR_LIMIT_CNT_LIMIT_STEPS : Fld := Fld.mk 0x200118 0x0 0x0 48 8 0x0
abbrev PWR_LIMIT_CNT_TRIPS : Fld := Fld.mk 0x200118 0x0 0x0 56 8 0x0
abbrev PWR_DOM_STATE0_STATE : Fld := Fld.mk 0x200120 0x0 0x0 0 64 0x0
abbrev PWR_DOM_STATE1_STATE : Fld := Fld.mk 0x200128 0x0 0x0 0 36 0x0
abbrev PWR_DOM_REQ_DOMAIN : Fld := Fld.mk 0x200130 0x0 0x0 0 6 0x0
abbrev PWR_DOM_REQ_OFF : Fld := Fld.mk 0x200130 0x0 0x0 6 1 0x0
abbrev PWR_HOLDUP_ENERGY : Fld := Fld.mk 0x200138 0x0 0x0 0 16 0x0
abbrev PWR_HOLDUP_CHARGED : Fld := Fld.mk 0x200138 0x0 0x0 16 1 0x0
abbrev CLK_R_CNT_CYCLES : Fld := Fld.mk 0x201000 0x10 0x0 0 64 0x0
abbrev CLK_R_STAT_STRETCHED : Fld := Fld.mk 0x201008 0x10 0x0 0 32 0x0
abbrev CLK_R_STAT_DROOPS : Fld := Fld.mk 0x201008 0x10 0x0 32 16 0x0
abbrev SEQ_CTX_STATUS_STATE : Fld := Fld.mk 0x300000 0x1000 0x0 0 3 0x0
abbrev SEQ_CTX_STATUS_OWNER : Fld := Fld.mk 0x300000 0x1000 0x0 3 1 0x0
abbrev SEQ_CTX_STATUS_EVAL : Fld := Fld.mk 0x300000 0x1000 0x0 4 1 0x0
abbrev SEQ_CTX_STATUS_PAST_RETURN : Fld := Fld.mk 0x300000 0x1000 0x0 5 1 0x0
abbrev SEQ_CTX_STATUS_SLIPPED : Fld := Fld.mk 0x300000 0x1000 0x0 6 1 0x0
abbrev SEQ_CTX_STATUS_JOINED : Fld := Fld.mk 0x300000 0x1000 0x0 7 1 0x0
abbrev SEQ_CTX_STATUS_STOP_EVENT : Fld := Fld.mk 0x300000 0x1000 0x0 16 16 0x0
abbrev SEQ_CTX_CFG_SEAM : Fld := Fld.mk 0x300008 0x1000 0x0 0 3 0x0
abbrev SEQ_CTX_CFG_JOIN : Fld := Fld.mk 0x300008 0x1000 0x0 3 1 0x0
abbrev SEQ_CTX_CFG_SLIP_EN : Fld := Fld.mk 0x300008 0x1000 0x0 4 1 0x0
abbrev SEQ_CTX_CFG_SCAN_EN : Fld := Fld.mk 0x300008 0x1000 0x0 5 1 0x0
abbrev SEQ_CTX_CMD_CMD : Fld := Fld.mk 0x300010 0x1000 0x0 0 3 0x0
abbrev SEQ_CTX_CMD_TARGET : Fld := Fld.mk 0x300010 0x1000 0x0 4 2 0x0
abbrev SEQ_CTX_SEED_SEED : Fld := Fld.mk 0x300018 0x1000 0x0 0 64 0x0
abbrev SEQ_CTX_STEP_STEP : Fld := Fld.mk 0x300020 0x1000 0x0 0 63 0x0
abbrev SEQ_CTX_EVALCNT_COUNT : Fld := Fld.mk 0x300028 0x1000 0x0 0 63 0x0
abbrev SEQ_CTX_SUBBASE_DEPTH : Fld := Fld.mk 0x300030 0x1000 0x0 0 4 0x0
abbrev SEQ_CTX_SUBBASE_BASE : Fld := Fld.mk 0x300030 0x1000 0x0 12 52 0x0
abbrev SEQ_CTX_SUBSEQ_NEXT_SEQ : Fld := Fld.mk 0x300038 0x1000 0x0 0 32 0x0
abbrev SEQ_CTX_SUBSEQ_TAKEN : Fld := Fld.mk 0x300038 0x1000 0x0 32 32 0x0
abbrev SEQ_CTX_SEGSTAT_LAST : Fld := Fld.mk 0x300040 0x1000 0x0 0 32 0x0
abbrev SEQ_CTX_SEGSTAT_MAX : Fld := Fld.mk 0x300040 0x1000 0x0 32 32 0x0
abbrev SEQ_CTX_CNT_OVERRUNS : Fld := Fld.mk 0x300048 0x1000 0x0 0 16 0x0
abbrev SEQ_CTX_CNT_SLIPS : Fld := Fld.mk 0x300048 0x1000 0x0 16 16 0x0
abbrev SEQ_CTX_CNT_OVER_BUDGET : Fld := Fld.mk 0x300048 0x1000 0x0 32 16 0x0
abbrev SEQ_CTX_CNT_CANCELS : Fld := Fld.mk 0x300048 0x1000 0x0 48 16 0x0
abbrev SEQ_BELL_PERIOD : Fld := Fld.mk 0x308000 0x0 0x0 0 7 0x5
abbrev SEQ_BELL_ORIGIN_ORIGIN : Fld := Fld.mk 0x308008 0x0 0x0 0 64 0x0
abbrev SEQ_BELL_NUM_NUMBER : Fld := Fld.mk 0x308010 0x0 0x0 0 64 0x0
abbrev SEQ_CHARGE_HELD : Fld := Fld.mk 0x308018 0x0 0x0 0 1 0x0
abbrev SEQ_CHARGE_HOLDER : Fld := Fld.mk 0x308018 0x0 0x0 1 1 0x0
abbrev SEQ_CHARGE_SPLITS : Fld := Fld.mk 0x308018 0x0 0x0 16 16 0x0
abbrev SEQ_CHARGE_EPOCH : Fld := Fld.mk 0x308018 0x0 0x0 32 32 0x0
abbrev RING_STATUS_BANK0 : Fld := Fld.mk 0x400000 0x1000 0x0 0 3 0x0
abbrev RING_STATUS_BANK1 : Fld := Fld.mk 0x400000 0x1000 0x0 3 3 0x0
abbrev RING_STATUS_PASS_TAG : Fld := Fld.mk 0x400000 0x1000 0x0 6 4 0x0
abbrev RING_STATUS_PASS_ACTIVE : Fld := Fld.mk 0x400000 0x1000 0x0 10 1 0x0
abbrev RING_STATUS_HOLD : Fld := Fld.mk 0x400000 0x1000 0x0 11 2 0x0
abbrev RING_STATUS_REPLAY : Fld := Fld.mk 0x400000 0x1000 0x0 13 1 0x0
abbrev RING_SEAM_SEAM : Fld := Fld.mk 0x400008 0x1000 0x0 0 3 0x0
abbrev RING_SEAM_SIZE : Fld := Fld.mk 0x400008 0x1000 0x0 3 2 0x0
abbrev RING_SEAM_POSITION : Fld := Fld.mk 0x400008 0x1000 0x0 5 7 0x0
abbrev RING_SEAM_HALF : Fld := Fld.mk 0x400008 0x1000 0x0 12 1 0x0
abbrev RING_SEAM_CONTEXT : Fld := Fld.mk 0x400008 0x1000 0x0 13 2 0x0
abbrev RING_SEAM_OWNED : Fld := Fld.mk 0x400008 0x1000 0x0 15 1 0x0
abbrev RING_MMA_CNT_MMA_CYCLES : Fld := Fld.mk 0x400010 0x1000 0x0 0 64 0x0
abbrev RING_GATE_CNT_GATED : Fld := Fld.mk 0x400018 0x1000 0x0 0 64 0x0
abbrev RING_HOLD_CNT_THROTTLE : Fld := Fld.mk 0x400020 0x1000 0x0 0 32 0x0
abbrev RING_HOLD_CNT_CROSSING : Fld := Fld.mk 0x400020 0x1000 0x0 32 32 0x0
abbrev RING_RESIDUE_FAULTS : Fld := Fld.mk 0x400028 0x1000 0x0 0 16 0x0
abbrev RING_RESIDUE_REPLAYS : Fld := Fld.mk 0x400028 0x1000 0x0 16 16 0x0
abbrev RING_RESIDUE_HARD : Fld := Fld.mk 0x400028 0x1000 0x0 32 8 0x0
abbrev RING_RESIDUE_LAST_ROW : Fld := Fld.mk 0x400028 0x1000 0x0 40 7 0x0
abbrev RING_RESIDUE_LAST_COL : Fld := Fld.mk 0x400028 0x1000 0x0 48 7 0x0
abbrev RING_CTL_ZG_EN : Fld := Fld.mk 0x400030 0x1000 0x0 0 1 0x1
abbrev RING_LANE_CNT_INBYE : Fld := Fld.mk 0x400038 0x1000 0x0 0 32 0x0
abbrev RING_LANE_CNT_OUTBYE : Fld := Fld.mk 0x400038 0x1000 0x0 32 32 0x0
abbrev BNK_STATUS_ALLOCATED : Fld := Fld.mk 0x500000 0x0 0x0 0 13 0x0
abbrev BNK_STATUS_PROVISIONAL : Fld := Fld.mk 0x500000 0x0 0x0 13 13 0x0
abbrev BNK_STATUS_PURGE_PENDING : Fld := Fld.mk 0x500000 0x0 0x0 26 13 0x0
abbrev BNK_STATUS_PURGE_BUSY : Fld := Fld.mk 0x500000 0x0 0x0 39 1 0x0
abbrev BNK_HSEL_HANDLE : Fld := Fld.mk 0x500008 0x0 0x0 0 12 0x0
abbrev BNK_SCRUB_CTL_EN : Fld := Fld.mk 0x500030 0x0 0x0 0 1 0x1
abbrev BNK_SCRUB_CTL_LIMIT : Fld := Fld.mk 0x500030 0x0 0x0 8 16 0x3e8
abbrev BNK_PWR_CTL_AUTO : Fld := Fld.mk 0x500038 0x0 0x0 0 1 0x0
abbrev BNK_PWR_CTL_IDLE : Fld := Fld.mk 0x500038 0x0 0x0 8 8 0x64
abbrev BNK_HENT_WORD : Fld := Fld.mk 0x500010 0x8 0x0 0 64 0x0
abbrev BNK_CTX_RANGE_BASE : Fld := Fld.mk 0x500100 0x8 0x0 0 12 0x0
abbrev BNK_CTX_RANGE_COUNT : Fld := Fld.mk 0x500100 0x8 0x0 12 13 0x1000
abbrev BNK_ST_ECC_CE : Fld := Fld.mk 0x510000 0x100 0x0 0 16 0x0
abbrev BNK_ST_ECC_CE_SCRUB : Fld := Fld.mk 0x510000 0x100 0x0 16 16 0x0
abbrev BNK_ST_ECC_UE : Fld := Fld.mk 0x510000 0x100 0x0 32 8 0x0
abbrev BNK_ST_ECC_CE_SIDEBAND : Fld := Fld.mk 0x510000 0x100 0x0 40 8 0x0
abbrev BNK_ST_ERRADDR_BANK : Fld := Fld.mk 0x510008 0x100 0x0 0 4 0x0
abbrev BNK_ST_ERRADDR_LINE : Fld := Fld.mk 0x510008 0x100 0x0 4 11 0x0
abbrev BNK_ST_ERRADDR_WORD : Fld := Fld.mk 0x510008 0x100 0x0 15 5 0x0
abbrev BNK_ST_ERRADDR_POSITION : Fld := Fld.mk 0x510008 0x100 0x0 20 7 0x0
abbrev BNK_ST_ERRADDR_UE : Fld := Fld.mk 0x510008 0x100 0x0 27 1 0x0
abbrev BNK_ST_ERRADDR_SIDEBAND : Fld := Fld.mk 0x510008 0x100 0x0 28 1 0x0
abbrev BNK_ST_ERRADDR_SCRUB : Fld := Fld.mk 0x510008 0x100 0x0 29 1 0x0
abbrev BNK_ST_ERRADDR_HANDLE : Fld := Fld.mk 0x510008 0x100 0x0 30 12 0x0
abbrev BNK_ST_ERRADDR_HVALID : Fld := Fld.mk 0x510008 0x100 0x0 42 1 0x0
abbrev BNK_ST_PWR_STATE : Fld := Fld.mk 0x510010 0x100 0x0 0 32 0x0
abbrev BNK_ST_PWR_REFUSED : Fld := Fld.mk 0x510010 0x100 0x0 32 16 0x0
abbrev BNK_ST_PWR_DEFERS : Fld := Fld.mk 0x510010 0x100 0x0 48 16 0x0
abbrev BNK_ST_PWR_REQ_SLEEP : Fld := Fld.mk 0x510018 0x100 0x0 0 16 0x0
abbrev BNK_ST_PWR_REQ_WAKE : Fld := Fld.mk 0x510018 0x100 0x0 16 16 0x0
abbrev BNK_ST_PURGE_LINES_PENDING : Fld := Fld.mk 0x510020 0x100 0x0 0 16 0x0
abbrev BNK_ST_PURGE_LINES_DONE : Fld := Fld.mk 0x510020 0x100 0x0 16 32 0x0
abbrev BNK_ST_SCRUB_ROUNDS : Fld := Fld.mk 0x510028 0x100 0x0 0 32 0x0
abbrev BNK_ST_SCRUB_LAST_ROUND : Fld := Fld.mk 0x510028 0x100 0x0 32 32 0x0
abbrev HAUL_HUB_STATUS_BUSY : Fld := Fld.mk 0x600000 0x10000 0x0 0 16 0x0
abbrev HAUL_HUB_STATUS_TURN : Fld := Fld.mk 0x600000 0x10000 0x0 16 2 0x0
abbrev HAUL_HUB_STATUS_CODER : Fld := Fld.mk 0x600000 0x10000 0x0 18 2 0x0
abbrev HAUL_HUB_STATUS_REORDER : Fld := Fld.mk 0x600000 0x10000 0x0 20 14 0x0
abbrev HAUL_HUB_CFG_INGRESS_PRI : Fld := Fld.mk 0x600008 0x10000 0x0 0 3 0x6
abbrev HAUL_HUB_CFG_COLL_PRI : Fld := Fld.mk 0x600008 0x10000 0x0 4 3 0x7
abbrev HAUL_HUB_CFG_MILL_PRI : Fld := Fld.mk 0x600008 0x10000 0x0 8 3 0x7
abbrev HAUL_HUB_CFG_PURGE_PRI : Fld := Fld.mk 0x600008 0x10000 0x0 12 3 0x1
abbrev HAUL_HUB_LINES_LINES : Fld := Fld.mk 0x600010 0x10000 0x0 0 64 0x0
abbrev HAUL_HUB_DISCARD_LINES : Fld := Fld.mk 0x600018 0x10000 0x0 0 32 0x0
abbrev HAUL_HUB_DISCARD_STREAMS : Fld := Fld.mk 0x600018 0x10000 0x0 32 32 0x0
abbrev HAUL_Q_OWN_VALID : Fld := Fld.mk 0x601000 0x10000 0x100 0 1 0x0
abbrev HAUL_Q_OWN_SEQ : Fld := Fld.mk 0x601000 0x10000 0x100 1 1 0x0
abbrev HAUL_Q_OWN_CTX : Fld := Fld.mk 0x601000 0x10000 0x100 2 2 0x0
abbrev HAUL_Q_OWN_JOINED : Fld := Fld.mk 0x601000 0x10000 0x100 4 1 0x0
abbrev HAUL_Q_CFG_MODE : Fld := Fld.mk 0x601008 0x10000 0x100 0 1 0x0
abbrev HAUL_Q_CFG_PRI : Fld := Fld.mk 0x601008 0x10000 0x100 1 3 0x3
abbrev HAUL_Q_CFG_SB : Fld := Fld.mk 0x601008 0x10000 0x100 4 1 0x0
abbrev HAUL_Q_CFG_DEAL : Fld := Fld.mk 0x601008 0x10000 0x100 5 7 0x0
abbrev HAUL_Q_STATUS_STATE : Fld := Fld.mk 0x601010 0x10000 0x100 0 3 0x0
abbrev HAUL_Q_STATUS_SHADOW : Fld := Fld.mk 0x601010 0x10000 0x100 3 1 0x0
abbrev HAUL_Q_STATUS_PROV : Fld := Fld.mk 0x601010 0x10000 0x100 4 1 0x0
abbrev HAUL_Q_STATUS_SHADOW_PROV : Fld := Fld.mk 0x601010 0x10000 0x100 5 1 0x0
abbrev HAUL_Q_STATUS_DIR : Fld := Fld.mk 0x601010 0x10000 0x100 6 1 0x0
abbrev HAUL_Q_STATUS_HANDLE : Fld := Fld.mk 0x601010 0x10000 0x100 7 12 0x0
abbrev HAUL_Q_STATUS_GEN : Fld := Fld.mk 0x601010 0x10000 0x100 48 16 0x0
abbrev HAUL_Q_POS_GENERATED : Fld := Fld.mk 0x601018 0x10000 0x100 0 21 0x0
abbrev HAUL_Q_POS_COUNTED : Fld := Fld.mk 0x601018 0x10000 0x100 21 21 0x0
abbrev HAUL_Q_CNT_STREAMS : Fld := Fld.mk 0x601020 0x10000 0x100 0 16 0x0
abbrev HAUL_Q_CNT_REARMS : Fld := Fld.mk 0x601020 0x10000 0x100 16 16 0x0
abbrev HAUL_Q_CNT_INDEX_OOB : Fld := Fld.mk 0x601020 0x10000 0x100 32 16 0x0
abbrev HAUL_Q_CNT_CANCELS : Fld := Fld.mk 0x601020 0x10000 0x100 48 16 0x0
abbrev HAUL_Q_LAST_LENGTH : Fld := Fld.mk 0x601028 0x10000 0x100 0 40 0x0
abbrev HAUL_Q_LAST_CODE : Fld := Fld.mk 0x601028 0x10000 0x100 40 2 0x0
abbrev MEM_MAP_STACKS : Fld := Fld.mk 0x700000 0x0 0x0 0 2 0x0
abbrev MEM_MAP_HALVES : Fld := Fld.mk 0x700000 0x0 0x0 2 2 0x0
abbrev MEM_MAP_TAIL : Fld := Fld.mk 0x700000 0x0 0x0 4 5 0x0
abbrev MEM_SCRUB_CTL_EN : Fld := Fld.mk 0x700008 0x0 0x0 0 1 0x1
abbrev MEM_SCRUB_CTL_PERIOD : Fld := Fld.mk 0x700008 0x0 0x0 8 8 0x18
abbrev MEM_PURGE_PENDING : Fld := Fld.mk 0x700010 0x0 0x0 0 9 0x0
abbrev MEM_PURGE_DROPPED : Fld := Fld.mk 0x700010 0x0 0x0 32 32 0x0
abbrev MEM_HC_ECC_CE : Fld := Fld.mk 0x701000 0x100 0x0 0 24 0x0
abbrev MEM_HC_ECC_CE_SCRUB : Fld := Fld.mk 0x701000 0x100 0x0 24 24 0x0
abbrev MEM_HC_ECC_UE : Fld := Fld.mk 0x701000 0x100 0x0 48 16 0x0
abbrev MEM_HC_ERRADDR_ADDR : Fld := Fld.mk 0x701008 0x100 0x0 0 48 0x0
abbrev MEM_HC_ERRADDR_POSITION : Fld := Fld.mk 0x701008 0x100 0x0 48 7 0x0
abbrev MEM_HC_ERRADDR_UE : Fld := Fld.mk 0x701008 0x100 0x0 55 1 0x0
abbrev MEM_HC_ERRADDR_SCRUB : Fld := Fld.mk 0x701008 0x100 0x0 56 1 0x0
abbrev MEM_RGN_A_BASE : Fld := Fld.mk 0x702000 0x10 0x0 0 27 0x0
abbrev MEM_RGN_A_SIZE : Fld := Fld.mk 0x702000 0x10 0x0 27 26 0x0
abbrev MEM_RGN_B_STATE : Fld := Fld.mk 0x702008 0x10 0x0 0 2 0x0
abbrev MEM_RGN_B_CLASS : Fld := Fld.mk 0x702008 0x10 0x0 2 2 0x0
abbrev MEM_RGN_B_SEQ : Fld := Fld.mk 0x702008 0x10 0x0 4 1 0x0
abbrev MEM_RGN_B_CTX : Fld := Fld.mk 0x702008 0x10 0x0 5 2 0x0
abbrev MEM_SS_BASE_SBASE : Fld := Fld.mk 0x704000 0x40 0x0 0 40 0x0
abbrev MEM_SS_BASE_WBASE : Fld := Fld.mk 0x704000 0x40 0x0 40 24 0x0
abbrev MEM_SS_CFG_VALID : Fld := Fld.mk 0x704008 0x40 0x0 0 1 0x0
abbrev MEM_SS_CFG_WEIGHTED : Fld := Fld.mk 0x704008 0x40 0x0 1 1 0x0
abbrev MEM_SS_CFG_SLOT : Fld := Fld.mk 0x704008 0x40 0x0 2 20 0x0
abbrev MEM_SS_CFG_N : Fld := Fld.mk 0x704008 0x40 0x0 22 31 0x0
abbrev MEM_SS_CFG_G : Fld := Fld.mk 0x704008 0x40 0x0 53 11 0x0
abbrev MEM_SS_HEAD_HEAD : Fld := Fld.mk 0x704010 0x40 0x0 0 64 0x0
abbrev MEM_SS_CNT_DROPPED : Fld := Fld.mk 0x704018 0x40 0x0 0 32 0x0
abbrev MEM_SS_CNT_HELD : Fld := Fld.mk 0x704018 0x40 0x0 32 32 0x0
abbrev MEM_SMP_CFG_STORE : Fld := Fld.mk 0x705000 0x40 0x0 0 4 0x0
abbrev MEM_SMP_CFG_EVAL_STORE : Fld := Fld.mk 0x705000 0x40 0x0 4 4 0x0
abbrev MEM_SMP_CFG_NOREPL : Fld := Fld.mk 0x705000 0x40 0x0 8 1 0x0
abbrev MEM_SMP_CFG_RPS : Fld := Fld.mk 0x705000 0x40 0x0 9 7 0x1
abbrev MEM_SMP_CFG_WLIM : Fld := Fld.mk 0x705000 0x40 0x0 16 32 0x0
abbrev MEM_SMP_LOAD_ADDR : Fld := Fld.mk 0x705008 0x40 0x0 6 42 0x0
abbrev MEM_SMP_CNT_STALE : Fld := Fld.mk 0x705010 0x40 0x0 0 32 0x0
abbrev MEM_SMP_CNT_EMPTY : Fld := Fld.mk 0x705010 0x40 0x0 32 16 0x0
abbrev MEM_SMP_CNT_EPOCHS : Fld := Fld.mk 0x705010 0x40 0x0 48 16 0x0
abbrev MILL_CTX_ENTRY_BASE : Fld := Fld.mk 0x800100 0x8 0x0 0 12 0x0
abbrev MILL_CTX_ENTRY_COUNT : Fld := Fld.mk 0x800100 0x8 0x0 12 13 0xfff
abbrev MILL_STATUS_QUEUED : Fld := Fld.mk 0x801000 0x1000 0x0 0 7 0x0
abbrev MILL_STATUS_BUSY : Fld := Fld.mk 0x801000 0x1000 0x0 7 1 0x0
abbrev MILL_STATUS_REFRESH : Fld := Fld.mk 0x801000 0x1000 0x0 8 1 0x0
abbrev MILL_STATUS_PURGE : Fld := Fld.mk 0x801000 0x1000 0x0 9 1 0x0
abbrev MILL_STATUS_PENDING : Fld := Fld.mk 0x801000 0x1000 0x0 10 8 0x0
abbrev MILL_CNT_UPD_DONE : Fld := Fld.mk 0x801008 0x1000 0x0 0 32 0x0
abbrev MILL_CNT_UPD_ALL_FROZEN : Fld := Fld.mk 0x801008 0x1000 0x0 32 16 0x0
abbrev MILL_CNT_UPD_NO_CONTRIB : Fld := Fld.mk 0x801008 0x1000 0x0 48 16 0x0
abbrev MILL_CNT_FROZEN_ELEMENTS : Fld := Fld.mk 0x801010 0x1000 0x0 0 64 0x0
abbrev MILL_CNT_NF_SKIPPED : Fld := Fld.mk 0x801018 0x1000 0x0 0 16 0x0
abbrev MILL_CNT_NF_KEPT : Fld := Fld.mk 0x801018 0x1000 0x0 16 48 0x0
abbrev MILL_CNT_KRON_REFRESHED : Fld := Fld.mk 0x801020 0x1000 0x0 0 16 0x0
abbrev MILL_CNT_KRON_STALE : Fld := Fld.mk 0x801020 0x1000 0x0 16 16 0x0
abbrev MILL_CNT_KRON_FALLBACK : Fld := Fld.mk 0x801020 0x1000 0x0 32 16 0x0
abbrev MILL_CNT_KRON_RECOVERED : Fld := Fld.mk 0x801020 0x1000 0x0 48 16 0x0
abbrev MILL_CNT_FOLD_LATE : Fld := Fld.mk 0x801028 0x1000 0x0 0 32 0x0
abbrev MILL_CNT_FOLD_HANDOVERS : Fld := Fld.mk 0x801028 0x1000 0x0 32 32 0x0
abbrev MILL_UE_ADDR_ADDR : Fld := Fld.mk 0x801030 0x1000 0x0 0 48 0x0
abbrev MILL_UE_ADDR_COUNT : Fld := Fld.mk 0x801030 0x1000 0x0 48 16 0x0
abbrev MILL_PURGE_PENDING : Fld := Fld.mk 0x801038 0x1000 0x0 0 9 0x0
abbrev MILL_PURGE_DONE : Fld := Fld.mk 0x801038 0x1000 0x0 32 32 0x0
abbrev BKN_TORUS_XS : Fld := Fld.mk 0x900000 0x0 0x0 0 6 0x0
abbrev BKN_TORUS_YS : Fld := Fld.mk 0x900000 0x0 0x0 6 6 0x0
abbrev BKN_TORUS_ZS : Fld := Fld.mk 0x900000 0x0 0x0 12 5 0x0
abbrev BKN_TORUS_POS : Fld := Fld.mk 0x900000 0x0 0x0 17 17 0x0
abbrev BKN_TORUS_ID : Fld := Fld.mk 0x900000 0x0 0x0 34 17 0x0
abbrev BKN_CFG_PLANES : Fld := Fld.mk 0x900008 0x0 0x0 0 4 0x0
abbrev BKN_CFG_CONFIRM : Fld := Fld.mk 0x900008 0x0 0x0 4 1 0x1
abbrev BKN_CFG_HB_LATE : Fld := Fld.mk 0x900008 0x0 0x0 5 11 0x5
abbrev BKN_VL_CFG_VL0 : Fld := Fld.mk 0x900010 0x0 0x0 0 8 0x4
abbrev BKN_VL_CFG_VL1 : Fld := Fld.mk 0x900010 0x0 0x0 8 8 0x60
abbrev BKN_VL_CFG_VL2 : Fld := Fld.mk 0x900010 0x0 0x0 16 8 0x30
abbrev BKN_VL_CFG_VL3 : Fld := Fld.mk 0x900010 0x0 0x0 24 8 0x30
abbrev BKN_VL_CFG_VL4 : Fld := Fld.mk 0x900010 0x0 0x0 32 8 0x20
abbrev BKN_VL_CFG_VL5 : Fld := Fld.mk 0x900010 0x0 0x0 40 8 0x8
abbrev BKN_VL_CFG_VL6 : Fld := Fld.mk 0x900010 0x0 0x0 48 8 0x10
abbrev BKN_VL_CFG_VL7 : Fld := Fld.mk 0x900010 0x0 0x0 56 8 0x4
abbrev BKN_ARB_W1 : Fld := Fld.mk 0x900018 0x0 0x0 0 4 0x8
abbrev BKN_ARB_W2 : Fld := Fld.mk 0x900018 0x0 0x0 4 4 0x2
abbrev BKN_ARB_W3 : Fld := Fld.mk 0x900018 0x0 0x0 8 4 0x4
abbrev BKN_ARB_W4 : Fld := Fld.mk 0x900018 0x0 0x0 12 4 0x2
abbrev BKN_ARB_W6 : Fld := Fld.mk 0x900018 0x0 0x0 16 4 0x1
abbrev BKN_LOCK_WIN : Fld := Fld.mk 0x900040 0x0 0x0 0 1 0x0
abbrev BKN_LOCK_AUTH : Fld := Fld.mk 0x900040 0x0 0x0 1 1 0x0
abbrev BKN_RT_ADDR_ADDR : Fld := Fld.mk 0x900048 0x0 0x0 0 17 0x0
abbrev BKN_RT_DATA_ENTRIES : Fld := Fld.mk 0x900050 0x0 0x0 0 64 0x0
abbrev BKN_TIME_MASTER : Fld := Fld.mk 0x900058 0x0 0x0 0 17 0x0
abbrev BKN_TIME_BACKUP : Fld := Fld.mk 0x900058 0x0 0x0 17 17 0x0
abbrev BKN_TIME_HOLDOVER : Fld := Fld.mk 0x900058 0x0 0x0 34 1 0x0
abbrev BKN_TIME_LOCKED : Fld := Fld.mk 0x900058 0x0 0x0 35 1 0x0
abbrev BKN_TIME_OFFSET : Fld := Fld.mk 0x900058 0x0 0x0 36 16 0x0
abbrev BKN_STATUS_WIN_DENY : Fld := Fld.mk 0x900060 0x0 0x0 0 16 0x0
abbrev BKN_STATUS_UNREACH : Fld := Fld.mk 0x900060 0x0 0x0 16 16 0x0
abbrev BKN_STATUS_FOLD_DROP : Fld := Fld.mk 0x900060 0x0 0x0 32 16 0x0
abbrev BKN_STATUS_RESET_DROP : Fld := Fld.mk 0x900060 0x0 0x0 48 8 0x0
abbrev BKN_STATUS_FAULTS : Fld := Fld.mk 0x900060 0x0 0x0 56 6 0x0
abbrev BKN_AUTH_KEY : Fld := Fld.mk 0x900020 0x8 0x0 0 64 0x0
abbrev BKN_WIN_A_BASE : Fld := Fld.mk 0x901000 0x10 0x0 0 27 0x0
abbrev BKN_WIN_A_SIZE : Fld := Fld.mk 0x901000 0x10 0x0 27 26 0x0
abbrev BKN_WIN_B_SRC : Fld := Fld.mk 0x901008 0x10 0x0 0 17 0x0
abbrev BKN_WIN_B_SRC_MASK : Fld := Fld.mk 0x901008 0x10 0x0 17 17 0x0
abbrev BKN_WIN_B_VLS : Fld := Fld.mk 0x901008 0x10 0x0 34 8 0x0
abbrev BKN_WIN_B_VALID : Fld := Fld.mk 0x901008 0x10 0x0 42 1 0x0
abbrev BKN_GRP_BASE : Fld := Fld.mk 0x902000 0x8 0x0 0 17 0x0
abbrev BKN_GRP_NX : Fld := Fld.mk 0x902000 0x8 0x0 17 6 0x0
abbrev BKN_GRP_NY : Fld := Fld.mk 0x902000 0x8 0x0 23 6 0x0
abbrev BKN_GRP_NZ : Fld := Fld.mk 0x902000 0x8 0x0 29 5 0x0
abbrev BKN_GRP_VALID : Fld := Fld.mk 0x902000 0x8 0x0 34 1 0x0
abbrev BKN_GRP_FOLD : Fld := Fld.mk 0x902000 0x8 0x0 35 1 0x0
abbrev BKN_GRP_DROP : Fld := Fld.mk 0x902000 0x8 0x0 36 1 0x0
abbrev BKN_GRP_SEQ : Fld := Fld.mk 0x902000 0x8 0x0 37 1 0x0
abbrev BKN_GRP_CTX : Fld := Fld.mk 0x902000 0x8 0x0 38 2 0x0
abbrev BKN_GRP_JOINED : Fld := Fld.mk 0x902000 0x8 0x0 40 1 0x0
abbrev BKN_REMAP_IDENT : Fld := Fld.mk 0x904000 0x8 0x0 0 17 0x0
abbrev BKN_REMAP_POS : Fld := Fld.mk 0x904000 0x8 0x0 17 17 0x0
abbrev BKN_REMAP_VALID : Fld := Fld.mk 0x904000 0x8 0x0 34 1 0x0
abbrev BKN_CTX_BUF_LAND : Fld := Fld.mk 0x904400 0x8 0x0 0 8 0x0
abbrev BKN_CTX_BUF_FOLD : Fld := Fld.mk 0x904400 0x8 0x0 8 8 0x0
abbrev BKN_CTX_BUF_LAND_V : Fld := Fld.mk 0x904400 0x8 0x0 16 1 0x0
abbrev BKN_CTX_BUF_FOLD_V : Fld := Fld.mk 0x904400 0x8 0x0 17 1 0x0
abbrev BKN_P_STATUS_STATE : Fld := Fld.mk 0x908000 0x40 0x0 0 3 0x0
abbrev BKN_P_STATUS_LANES : Fld := Fld.mk 0x908000 0x40 0x0 3 4 0x0
abbrev BKN_P_STATUS_SPARED : Fld := Fld.mk 0x908000 0x40 0x0 7 1 0x0
abbrev BKN_P_STATUS_PEER : Fld := Fld.mk 0x908000 0x40 0x0 8 17 0x0
abbrev BKN_P_CFG_EN : Fld := Fld.mk 0x908008 0x40 0x0 0 1 0x1
abbrev BKN_P_CFG_RETRAIN : Fld := Fld.mk 0x908008 0x40 0x0 1 1 0x0
abbrev BKN_P_CFG_SPARE_THR : Fld := Fld.mk 0x908008 0x40 0x0 2 22 0x10000
abbrev BKN_P_CNT_CORRECTED : Fld := Fld.mk 0x908010 0x40 0x0 0 24 0x0
abbrev BKN_P_CNT_UNCORR : Fld := Fld.mk 0x908010 0x40 0x0 24 12 0x0
abbrev BKN_P_CNT_RETRIES : Fld := Fld.mk 0x908010 0x40 0x0 36 12 0x0
abbrev BKN_P_CNT_RETRAINS : Fld := Fld.mk 0x908010 0x40 0x0 48 8 0x0
abbrev BKN_P_CNT_PROTO : Fld := Fld.mk 0x908010 0x40 0x0 56 8 0x0
abbrev LLX_STATUS_TALLY : Fld := Fld.mk 0xa00000 0x0 0x0 0 6 0x0
abbrev LLX_STATUS_RECOVERY : Fld := Fld.mk 0xa00000 0x0 0x0 6 1 0x0
abbrev LLX_STATUS_HALF : Fld := Fld.mk 0xa00000 0x0 0x0 7 1 0x0
abbrev LLX_CFG_CHAIN : Fld := Fld.mk 0xa00008 0x0 0x0 0 6 0x20
abbrev LLX_EVT_MASK_MASK : Fld := Fld.mk 0xa00010 0x0 0x0 0 16 0x0
abbrev LLX_EVT_CNT_SENT : Fld := Fld.mk 0xa00018 0x0 0x0 0 32 0x0
abbrev LLX_EVT_CNT_LOST : Fld := Fld.mk 0xa00018 0x0 0x0 32 16 0x0
abbrev LLX_EVT_CNT_MASKED : Fld := Fld.mk 0xa00018 0x0 0x0 48 16 0x0
abbrev LLX_WR_CNT_DENIED : Fld := Fld.mk 0xa00020 0x0 0x0 0 32 0x0
abbrev LLX_WR_CNT_PUSH_BAD : Fld := Fld.mk 0xa00020 0x0 0x0 32 16 0x0
abbrev LLX_P_STATUS_STATE : Fld := Fld.mk 0xa00100 0x40 0x0 0 2 0x0
abbrev LLX_P_STATUS_LANES : Fld := Fld.mk 0xa00100 0x40 0x0 2 8 0x0
abbrev LLX_P_CNT_CORRECTED : Fld := Fld.mk 0xa00108 0x40 0x0 0 24 0x0
abbrev LLX_P_CNT_UNCORR : Fld := Fld.mk 0xa00108 0x40 0x0 24 12 0x0
abbrev LLX_P_CNT_RETRIES : Fld := Fld.mk 0xa00108 0x40 0x0 36 12 0x0
abbrev LLX_P_CNT_RETRAINS : Fld := Fld.mk 0xa00108 0x40 0x0 48 8 0x0
abbrev LLX_P_CNT_BADFLIT : Fld := Fld.mk 0xa00108 0x40 0x0 56 8 0x0
abbrev LLX_HWIN_A_BASE : Fld := Fld.mk 0xa01000 0x10 0x0 0 27 0x0
abbrev LLX_HWIN_A_SIZE : Fld := Fld.mk 0xa01000 0x10 0x0 27 26 0x0
abbrev LLX_HWIN_B_VALID : Fld := Fld.mk 0xa01008 0x10 0x0 0 1 0x0
abbrev LLX_HWIN_B_RD : Fld := Fld.mk 0xa01008 0x10 0x0 1 1 0x0
abbrev LLX_HWIN_B_WR : Fld := Fld.mk 0xa01008 0x10 0x0 2 1 0x0
abbrev LLX_HWIN_B_PUSH : Fld := Fld.mk 0xa01008 0x10 0x0 3 1 0x0
abbrev RLF_CFG_ROLE : Fld := Fld.mk 0xb00000 0x0 0x0 0 1 0x0
abbrev RLF_CFG_FEED_OVR : Fld := Fld.mk 0xb00000 0x0 0x0 1 1 0x0
abbrev RLF_CFG_COVER : Fld := Fld.mk 0xb00000 0x0 0x0 2 3 0x0
abbrev RLF_CFG_SEQ : Fld := Fld.mk 0xb00000 0x0 0x0 5 1 0x0
abbrev RLF_CFG_CTX : Fld := Fld.mk 0xb00000 0x0 0x0 6 2 0x0
abbrev RLF_CFG_JOINED : Fld := Fld.mk 0xb00000 0x0 0x0 8 1 0x0
abbrev RLF_CFG_L : Fld := Fld.mk 0xb00000 0x0 0x0 9 8 0x10
abbrev RLF_CFG_TWIN : Fld := Fld.mk 0xb00000 0x0 0x0 17 17 0x0
abbrev RLF_CFG_TWIN_V : Fld := Fld.mk 0xb00000 0x0 0x0 34 1 0x0
abbrev RLF_STATUS_FEED : Fld := Fld.mk 0xb00008 0x0 0x0 0 2 0x0
abbrev RLF_STATUS_ACTIVE : Fld := Fld.mk 0xb00008 0x0 0x0 2 1 0x0
abbrev RLF_STATUS_ASSUMED : Fld := Fld.mk 0xb00008 0x0 0x0 3 17 0x0
abbrev RLF_STATUS_ACT_ENTRY : Fld := Fld.mk 0xb00008 0x0 0x0 20 3 0x0
abbrev RLF_STATUS_SECURING : Fld := Fld.mk 0xb00008 0x0 0x0 23 1 0x0
abbrev RLF_STATUS_HOLD : Fld := Fld.mk 0xb00008 0x0 0x0 24 1 0x0
abbrev RLF_STATUS_COPY : Fld := Fld.mk 0xb00008 0x0 0x0 25 1 0x0
abbrev RLF_CANARY_RISK : Fld := Fld.mk 0xb00010 0x0 0x0 0 3 0x0
abbrev RLF_CANARY_FLOOR : Fld := Fld.mk 0xb00010 0x0 0x0 3 3 0x0
abbrev RLF_CANARY_LEVELS : Fld := Fld.mk 0xb00010 0x0 0x0 6 30 0x0
abbrev RLF_INTERVAL_I0 : Fld := Fld.mk 0xb00018 0x0 0x0 0 8 0x40
abbrev RLF_INTERVAL_I1 : Fld := Fld.mk 0xb00018 0x0 0x0 8 8 0x20
abbrev RLF_INTERVAL_I2 : Fld := Fld.mk 0xb00018 0x0 0x0 16 8 0x10
abbrev RLF_INTERVAL_I3 : Fld := Fld.mk 0xb00018 0x0 0x0 24 8 0x8
abbrev RLF_INTERVAL_I4 : Fld := Fld.mk 0xb00018 0x0 0x0 32 8 0x4
abbrev RLF_INTERVAL_I5 : Fld := Fld.mk 0xb00018 0x0 0x0 40 8 0x2
abbrev RLF_INTERVAL_I6 : Fld := Fld.mk 0xb00018 0x0 0x0 48 8 0x1
abbrev RLF_INTERVAL_I7 : Fld := Fld.mk 0xb00018 0x0 0x0 56 8 0x1
abbrev RLF_CTX_PLAN_ADDR : Fld := Fld.mk 0xb00040 0x0 0x0 6 42 0x0
abbrev RLF_CTX_SECURED_STEP : Fld := Fld.mk 0xb00048 0x0 0x0 0 63 0x0
abbrev RLF_CTX_SECURED_VALID : Fld := Fld.mk 0xb00048 0x0 0x0 63 1 0x0
abbrev RLF_CTX_STAGE_REGION : Fld := Fld.mk 0xb00050 0x0 0x0 0 32 0x0
abbrev RLF_CTX_STAGE_VALID : Fld := Fld.mk 0xb00050 0x0 0x0 32 4 0x0
abbrev RLF_CTX_DLOG_REGION : Fld := Fld.mk 0xb00058 0x0 0x0 0 8 0x0
abbrev RLF_CTX_DLOG_VALID : Fld := Fld.mk 0xb00058 0x0 0x0 8 1 0x0
abbrev RLF_CNT_SECURED : Fld := Fld.mk 0xb00060 0x0 0x0 0 16 0x0
abbrev RLF_CNT_NOT_DUE : Fld := Fld.mk 0xb00060 0x0 0x0 16 16 0x0
abbrev RLF_CNT_BUSY_SKIP : Fld := Fld.mk 0xb00060 0x0 0x0 32 8 0x0
abbrev RLF_CNT_ABANDONED : Fld := Fld.mk 0xb00060 0x0 0x0 40 8 0x0
abbrev RLF_CNT_HOLDS : Fld := Fld.mk 0xb00060 0x0 0x0 48 8 0x0
abbrev RLF_CNT_ASSAY_FAIL : Fld := Fld.mk 0xb00060 0x0 0x0 56 8 0x0
abbrev RLF_ACT_TIME_FIRST_WORK : Fld := Fld.mk 0xb00068 0x0 0x0 0 16 0x0
abbrev RLF_ACT_TIME_BUNKER : Fld := Fld.mk 0xb00068 0x0 0x0 16 16 0x0
abbrev RLF_ACT_TIME_ASSAY : Fld := Fld.mk 0xb00068 0x0 0x0 32 16 0x0
abbrev RLF_ACT_TIME_COUNT : Fld := Fld.mk 0xb00068 0x0 0x0 48 16 0x0
abbrev RLF_PAIR_LAST_REASON : Fld := Fld.mk 0xb00070 0x0 0x0 0 4 0x0
abbrev RLF_PAIR_LAST_PEER : Fld := Fld.mk 0xb00070 0x0 0x0 4 17 0x0
abbrev RLF_RELIEF_IDENT : Fld := Fld.mk 0xb00020 0x8 0x0 0 17 0x0
abbrev RLF_RELIEF_VALID : Fld := Fld.mk 0xb00020 0x8 0x0 17 1 0x0
abbrev RLF_RELIEF_PAIRED : Fld := Fld.mk 0xb00020 0x8 0x0 18 1 0x0
abbrev RLF_RELIEF_ENTRY : Fld := Fld.mk 0xb00020 0x8 0x0 19 3 0x0
abbrev RLF_DECL_REGIONS : Fld := Fld.mk 0xb00030 0x8 0x0 0 64 0xffffffffffffffff
abbrev RLF_CAN_IN_BASE : Fld := Fld.mk 0xb00100 0x8 0x0 0 16 0x0
abbrev RLF_CAN_IN_STEP : Fld := Fld.mk 0xb00100 0x8 0x0 16 4 0x0
abbrev RLF_CAN_IN_LIN : Fld := Fld.mk 0xb00100 0x8 0x0 20 1 0x0
abbrev RLF_CAN_IN_W : Fld := Fld.mk 0xb00100 0x8 0x0 21 4 0x0
abbrev RLF_COVER_IDENT : Fld := Fld.mk 0xb00200 0x8 0x0 0 17 0x0
abbrev RLF_COVER_VALID : Fld := Fld.mk 0xb00200 0x8 0x0 17 1 0x0
abbrev RLF_COVER_ACTIVE : Fld := Fld.mk 0xb00200 0x8 0x0 18 1 0x0
abbrev RLF_COVER_FEED_OVR : Fld := Fld.mk 0xb00200 0x8 0x0 19 1 0x0
abbrev RLF_COVER_FEED : Fld := Fld.mk 0xb00200 0x8 0x0 20 2 0x0
abbrev RLF_COVER_LIVE_V : Fld := Fld.mk 0xb00200 0x8 0x0 22 1 0x0
abbrev RLF_COVER_LIVE_SLOT : Fld := Fld.mk 0xb00200 0x8 0x0 23 1 0x0
abbrev RLF_COVER_SEQ : Fld := Fld.mk 0xb00200 0x8 0x0 24 40 0x0
abbrev DBG_STATUS_UNLOCKED : Fld := Fld.mk 0xc00000 0x0 0x0 0 1 0x0
abbrev DBG_STATUS_LEVEL : Fld := Fld.mk 0xc00000 0x0 0x0 1 3 0x0
abbrev DBG_STATUS_STOPPED : Fld := Fld.mk 0xc00000 0x0 0x0 4 1 0x0
abbrev DBG_STATUS_SCANNED : Fld := Fld.mk 0xc00000 0x0 0x0 5 1 0x0
abbrev DBG_STATUS_REFUSALS : Fld := Fld.mk 0xc00000 0x0 0x0 16 16 0x0
abbrev DBG_NONCE_NONCE : Fld := Fld.mk 0xc00008 0x0 0x0 0 64 0x0
abbrev DBG_UNLOCK_GO : Fld := Fld.mk 0xc00010 0x0 0x0 0 1 0x0
abbrev DBG_STOP_STOP : Fld := Fld.mk 0xc00018 0x0 0x0 0 1 0x0
abbrev DBG_STOP_RELEASE : Fld := Fld.mk 0xc00018 0x0 0x0 1 1 0x0
abbrev DBG_STOP_SCOPE : Fld := Fld.mk 0xc00018 0x0 0x0 2 1 0x0
abbrev DBG_STOP_SEQ : Fld := Fld.mk 0xc00018 0x0 0x0 3 1 0x0
abbrev DBG_STOP_CTX : Fld := Fld.mk 0xc00018 0x0 0x0 4 2 0x0
abbrev DBG_STOP_DBGRST : Fld := Fld.mk 0xc00018 0x0 0x0 6 1 0x0
abbrev DBG_STOP_STAT_STOPPED : Fld := Fld.mk 0xc00020 0x0 0x0 0 1 0x0
abbrev DBG_STOP_STAT_SCOPE : Fld := Fld.mk 0xc00020 0x0 0x0 1 1 0x0
abbrev DBG_STOP_STAT_CAUSE : Fld := Fld.mk 0xc00020 0x0 0x0 2 3 0x0
abbrev DBG_STOP_STAT_BELLS_SKIPPED : Fld := Fld.mk 0xc00020 0x0 0x0 16 16 0x0
abbrev DBG_STOP_STAT_STOPS : Fld := Fld.mk 0xc00020 0x0 0x0 32 16 0x0
abbrev DBG_SNAP_BELL_BELL : Fld := Fld.mk 0xc00028 0x0 0x0 0 64 0x0
abbrev DBG_PC_CTL_EN : Fld := Fld.mk 0xc00400 0x0 0x0 0 1 0x0
abbrev DBG_PC_CTL_FREEZE : Fld := Fld.mk 0xc00400 0x0 0x0 1 1 0x1
abbrev DBG_TR_CFG_EN : Fld := Fld.mk 0xc00600 0x0 0x0 0 1 0x0
abbrev DBG_TR_CFG_STOPFULL : Fld := Fld.mk 0xc00600 0x0 0x0 1 1 0x0
abbrev DBG_TR_CFG_REMOTE : Fld := Fld.mk 0xc00600 0x0 0x0 2 1 0x0
abbrev DBG_TR_CFG_DEST : Fld := Fld.mk 0xc00600 0x0 0x0 3 17 0x0
abbrev DBG_TR_CFG_ACCEPT : Fld := Fld.mk 0xc00600 0x0 0x0 20 1 0x0
abbrev DBG_TR_CFG_ASRC : Fld := Fld.mk 0xc00600 0x0 0x0 21 17 0x0
abbrev DBG_TR_CFG_AMASK : Fld := Fld.mk 0xc00600 0x0 0x0 38 17 0x0
abbrev DBG_TR_FILT_TYPES : Fld := Fld.mk 0xc00608 0x0 0x0 0 16 0x0
abbrev DBG_TR_FILT_SOURCES : Fld := Fld.mk 0xc00608 0x0 0x0 16 9 0x0
abbrev DBG_TR_FILT_CTXS : Fld := Fld.mk 0xc00608 0x0 0x0 25 8 0x0
abbrev DBG_TR_FILT_NOCTX : Fld := Fld.mk 0xc00608 0x0 0x0 33 1 0x0
abbrev DBG_TR_FILT_FIRST : Fld := Fld.mk 0xc00608 0x0 0x0 34 7 0x0
abbrev DBG_TR_FILT_LAST : Fld := Fld.mk 0xc00608 0x0 0x0 41 7 0x5f
abbrev DBG_TRIG_EN : Fld := Fld.mk 0xc00610 0x0 0x0 0 1 0x0
abbrev DBG_TRIG_ACTION : Fld := Fld.mk 0xc00610 0x0 0x0 1 2 0x0
abbrev DBG_TRIG_TYPE : Fld := Fld.mk 0xc00610 0x0 0x0 3 4 0x0
abbrev DBG_TRIG_SOURCE : Fld := Fld.mk 0xc00610 0x0 0x0 7 4 0x0
abbrev DBG_TRIG_UNIT : Fld := Fld.mk 0xc00610 0x0 0x0 11 8 0x0
abbrev DBG_TRIG_CTX : Fld := Fld.mk 0xc00610 0x0 0x0 19 4 0x0
abbrev DBG_TRIG_CTX_ANY : Fld := Fld.mk 0xc00610 0x0 0x0 23 1 0x0
abbrev DBG_TRIG_POST : Fld := Fld.mk 0xc00610 0x0 0x0 24 24 0x0
abbrev DBG_TRIG_FIRED : Fld := Fld.mk 0xc00610 0x0 0x0 48 1 0x0
abbrev DBG_TR_MARK_VALUE : Fld := Fld.mk 0xc00618 0x0 0x0 0 64 0x0
abbrev DBG_RD_SEL_SPACE : Fld := Fld.mk 0xc00700 0x0 0x0 0 3 0x0
abbrev DBG_RD_SEL_ADDR : Fld := Fld.mk 0xc00700 0x0 0x0 4 48 0x0
abbrev DBG_RD_SEL_STATUS : Fld := Fld.mk 0xc00700 0x0 0x0 62 2 0x0
abbrev DBG_RD_DATA_DATA : Fld := Fld.mk 0xc00708 0x0 0x0 0 64 0x0
abbrev DBG_PT_HOP_FIRST : Fld := Fld.mk 0xc00800 0x0 0x0 0 7 0x0
abbrev DBG_PT_HOP_LAST : Fld := Fld.mk 0xc00800 0x0 0x0 7 7 0x0
abbrev DBG_PT_HOP_DELAY : Fld := Fld.mk 0xc00800 0x0 0x0 14 3 0x0
abbrev DBG_PT_BP_TARGET : Fld := Fld.mk 0xc00808 0x0 0x0 0 3 0x0
abbrev DBG_PT_BP_UNIT : Fld := Fld.mk 0xc00808 0x0 0x0 3 8 0x0
abbrev DBG_PT_BP_DUTY : Fld := Fld.mk 0xc00808 0x0 0x0 11 4 0x0
abbrev DBG_PT_XING_REGIONS : Fld := Fld.mk 0xc00810 0x0 0x0 0 60 0x0
abbrev DBG_PT_HBM_CTRL : Fld := Fld.mk 0xc00818 0x0 0x0 0 14 0x0
abbrev DBG_PT_HBM_EXTRA : Fld := Fld.mk 0xc00818 0x0 0x0 14 12 0x0
abbrev DBG_PT_LINK_PORT : Fld := Fld.mk 0xc00820 0x0 0x0 0 6 0x0
abbrev DBG_PT_LINK_MODE : Fld := Fld.mk 0xc00820 0x0 0x0 6 2 0x0
abbrev DBG_PT_LINK_LANES : Fld := Fld.mk 0xc00820 0x0 0x0 8 8 0x0
abbrev DBG_PT_LINK_PERIOD : Fld := Fld.mk 0xc00820 0x0 0x0 16 20 0x0
abbrev DBG_PT_ECC_A_TARGET : Fld := Fld.mk 0xc00828 0x0 0x0 0 2 0x0
abbrev DBG_PT_ECC_A_ADDR : Fld := Fld.mk 0xc00828 0x0 0x0 2 48 0x0
abbrev DBG_PT_ECC_B_BIT1 : Fld := Fld.mk 0xc00830 0x0 0x0 0 7 0x0
abbrev DBG_PT_ECC_B_BIT2 : Fld := Fld.mk 0xc00830 0x0 0x0 7 7 0x0
abbrev DBG_PT_ECC_B_ARMED : Fld := Fld.mk 0xc00830 0x0 0x0 14 1 0x0
abbrev DBG_PT_RISK_LEVEL : Fld := Fld.mk 0xc00838 0x0 0x0 0 3 0x0
abbrev DBG_PT_RISK_EN : Fld := Fld.mk 0xc00838 0x0 0x0 3 1 0x0
abbrev DBG_AO_COUNT : Fld := Fld.mk 0xc00030 0x8 0x0 0 64 0x0
abbrev DBG_CTX_CNT_COUNT : Fld := Fld.mk 0xc00200 0x40 0x8 0 64 0x0
abbrev DBG_PC_SEL_EVENT : Fld := Fld.mk 0xc00500 0x10 0x0 0 6 0x0
abbrev DBG_PC_SEL_UNIT : Fld := Fld.mk 0xc00500 0x10 0x0 6 8 0x0
abbrev DBG_PC_SEL_ALL : Fld := Fld.mk 0xc00500 0x10 0x0 14 1 0x0
abbrev DBG_PC_CNT_COUNT : Fld := Fld.mk 0xc00508 0x10 0x0 0 64 0x0
abbrev DBG_TR_PTR_NEXT : Fld := Fld.mk 0xc00620 0x8 0x0 0 25 0x0
abbrev DBG_TR_PTR_WRAPPED : Fld := Fld.mk 0xc00620 0x8 0x0 25 1 0x0
abbrev DBG_TR_PTR_FULL : Fld := Fld.mk 0xc00620 0x8 0x0 26 1 0x0
abbrev DBG_TR_PTR_LOST : Fld := Fld.mk 0xc00620 0x8 0x0 32 32 0x0
abbrev DBG_TOKEN_WORD : Fld := Fld.mk 0xc01000 0x8 0x0 0 64 0x0
abbrev SEC_STATUS_RECOVERY : Fld := Fld.mk 0xd00000 0x0 0x0 0 1 0x0
abbrev SEC_STATUS_SLOT : Fld := Fld.mk 0xd00000 0x0 0x0 1 1 0x0
abbrev SEC_STATUS_VERIFIED : Fld := Fld.mk 0xd00000 0x0 0x0 2 1 0x0
abbrev SEC_STATUS_DEBUG : Fld := Fld.mk 0xd00000 0x0 0x0 3 1 0x0
abbrev SEC_STATUS_VERSION : Fld := Fld.mk 0xd00000 0x0 0x0 32 32 0x0
abbrev SEC_PRIV_HOST : Fld := Fld.mk 0xd00008 0x0 0x0 0 1 0x0
abbrev SEC_PRIV_LOCK : Fld := Fld.mk 0xd00008 0x0 0x0 1 1 0x0
abbrev SEC_ROLLBACK_COUNT : Fld := Fld.mk 0xd00010 0x0 0x0 0 6 0x0
abbrev SEC_CFG_SEL : Fld := Fld.mk 0xd00018 0x0 0x0 0 2 0x2
abbrev SEC_CFG_VALID_A : Fld := Fld.mk 0xd00018 0x0 0x0 2 1 0x0
abbrev SEC_CFG_VALID_B : Fld := Fld.mk 0xd00018 0x0 0x0 3 1 0x0
abbrev SEC_CFG_TRIM_OK : Fld := Fld.mk 0xd00018 0x0 0x0 4 1 0x0
abbrev SEC_CFG_SEQ : Fld := Fld.mk 0xd00018 0x0 0x0 32 32 0x0
abbrev SEC_MBOX_CTL_LEN : Fld := Fld.mk 0xd00040 0x0 0x0 0 12 0x0
abbrev SEC_MBOX_CTL_GO : Fld := Fld.mk 0xd00040 0x0 0x0 12 1 0x0
abbrev SEC_MBOX_CTL_BUSY : Fld := Fld.mk 0xd00040 0x0 0x0 13 1 0x0
abbrev SEC_MBOX_CTL_DONE : Fld := Fld.mk 0xd00040 0x0 0x0 14 1 0x0
abbrev SEC_PUBKEY_KEY : Fld := Fld.mk 0xd00020 0x8 0x0 0 64 0x0
abbrev SEC_MBOX_WORD : Fld := Fld.mk 0xd01000 0x8 0x0 0 64 0x0
end Fld

end Sys2Proof.Machine
end

