-- ==== Sys2Proof/Machine/SMap.lean ====
section
/-! DEFINITION. Sparse tables: sorted lists of (key, value) pairs in one canonical form. Keys rise strictly and no listed
value equals the value an unlisted key reads as, so that equal tables are equal data. All of the block's indexed storage
(memories, register file, handle table, queues) is held so. -/

namespace Sys2Proof.Machine

/-- A sparse table: what is not listed reads as a default that the reader supplies. -/
abbrev SMap (α : Type) := List (Nat × α)

variable {α : Type}

/-- The value at key `k`, `d` where none is listed. -/
def SMap.val (m : SMap α) (d : α) (k : Nat) : α :=
  match m with
  | [] => d
  | (j, v) :: t => if j = k then v else SMap.val t d k

/-- Insertion at a key's place in rising order. -/
def SMap.ins (m : SMap α) (k : Nat) (v : α) : SMap α :=
  match m with
  | [] => [(k, v)]
  | (j, w) :: t =>
    if k < j then (k, v) :: (j, w) :: t
    else if j = k then (k, v) :: t
    else (j, w) :: SMap.ins t k v

/-- Removal of a key. -/
def SMap.del (m : SMap α) (k : Nat) : SMap α := List.filter (fun p => p.1 != k) m

/-- Writing keeps the canonical form: writing the default removes the entry. -/
def SMap.put [DecidableEq α] (m : SMap α) (d : α) (k : Nat) (v : α) : SMap α :=
  if v = d then SMap.del m k else SMap.ins (SMap.del m k) k v

/-- Read, change, write. -/
def SMap.upd [DecidableEq α] (m : SMap α) (d : α) (k : Nat) (f : α → α) : SMap α :=
  SMap.put m d k (f (SMap.val m d k))

/-- A run of values written from key `k` upward. -/
def SMap.putList [DecidableEq α] (m : SMap α) (d : α) (k : Nat) : List α → SMap α
  | [] => m
  | v :: vs => SMap.putList (SMap.put m d k v) d (k + 1) vs

/-- A run of `n` values read from key `k` upward. -/
def SMap.vals (m : SMap α) (d : α) (k n : Nat) : List α := (List.range n).map fun i => SMap.val m d (k + i)

/-- All keys in `[lo, lo + n)` removed: they read as the default again. -/
def SMap.clear (m : SMap α) (lo n : Nat) : SMap α := List.filter (fun p => p.1 < lo || lo + n ≤ p.1) m

/-- Keys rise strictly. -/
def SMap.rising (m : SMap α) : Bool :=
  match m with
  | [] => true
  | (j, _) :: t => (match t with | [] => true | (k, _) :: _ => decide (j < k)) && SMap.rising t

/-- The canonical form: rising keys, no entry equal to the default of its key. -/
def SMap.wf [DecidableEq α] (m : SMap α) (d : Nat → α) : Bool :=
  SMap.rising m && List.all m fun p => decide (p.2 ≠ d p.1)

end Sys2Proof.Machine
end

