-- ==== Sys2Proof/Machine/State.lean ====
section
/-! DEFINITION. The state of the block: everything the manual gives ZT-1, as plain data. Registers with no home of their own
live in `State.regs`; what a register only shows is computed from the unit's own state (Machine/RegView.lean).
The defaults below are the values right after a full reset. -/

namespace Sys2Proof.Machine

/-- The device's own faults are events and context stops inside the state (R163, R476): no step of the model ends the machine
with a fault, so this type has no constructor. -/
inductive Fault where
  deriving DecidableEq, Repr

/-- Why a command has no meaning. -/
inductive Refusal where
  /-- Raised by an arm of `exec` that has no meaning yet; safe: nothing can be proved of what follows. -/
  | notModelled (mnemonic : String)
  deriving DecidableEq, Repr

/-! ### Sequencers (R113, R114, R119) -/

/-- The states of a context (R114). -/
inductive CtxSt where
  | idle | ready | running | waiting | stopped | purging
  deriving DecidableEq, Repr

/-- The program state that the last-bell image copies (R113). -/
structure ProgState where
  /-- Program position: address of the next instruction. -/
  pc : Word := 0
  /-- s0 to s31. -/
  sregs : SMap Word := []
  /-- c0 to c3. -/
  loops : SMap (BitVec 32) := []
  /-- The loop addresses of c0 to c3. -/
  loopAddr : SMap Word := []
  /-- m0 to m7. -/
  masks : SMap StationSet := []
  step : BitVec 63 := 0
  evalCnt : BitVec 63 := 0
  evalFlag : Bool := false
  /-- Cross-half count (R113, R119). -/
  cross : BitVec 32 := 0
  deriving DecidableEq, Repr

/-- An outstanding LDS: the scalar it fills and where the data come from (R172). -/
structure LdsOut where
  sd : Fin 32
  space : Nat
  addr : Nat
  h : HandleId
  no : Nat
  /-- Its ordinal among the LDSs that its sequencer has executed. -/
  ord : Nat
  deriving DecidableEq, Repr

/-- The kinds of station instruction. -/
inductive SKind where
  | mma | accload | drain | ringinj | ringret | vop | vopLoad | vred | vlut | vlutBack | vlutLoad | vcvt | vrng | vupdate
  deriving DecidableEq, Repr

/-- A ring-group member (R181): its ordinal in program order, its instruction and effective offset. -/
structure Member where
  ord : Nat
  kind : SKind
  tag : Fin 16
  set : StationSet
  w : NWords
  off : Nat
  deriving DecidableEq, Repr

/-- What a context's sequencer stands at, if it waits (R175, R176, R194). -/
inductive SeqWait where
  | none
  | fence (sel : BitVec 4) (no : Nat)
  | waith (h : HandleId) (count : Nat) (no : Nat)
  deriving DecidableEq, Repr

/-- A barrier that has not passed (R175): the dispatch numbers at which the West and the East sequencer reached it. -/
structure Barrier where
  noW : Option Nat
  noE : Option Nat
  set : StationSet
  /-- Its ordinal among the BARRIERs of the segment, by which the two sequencers of a joined context know it. -/
  ord : Nat := 0
  deriving DecidableEq, Repr

/-- A hardware context (R113, R114, R144) and its running segment (R122 to R129). -/
structure Ctx where
  st : CtxSt := .idle
  prog : ProgState := {}
  image : ProgState := {}
  owner : Bool := false
  /-- The segment's SEGMENT has executed. -/
  inSeg : Bool := false
  /-- Nothing executed since the SEGMENT (R138). -/
  atStart : Bool := false
  /-- The SEGMENT carried NEWSTEP. -/
  newstep : Bool := false
  /-- EVALEND was the last instruction (R138). -/
  evalEnded : Bool := false
  /-- COMMIT, BELLWAIT or HALT was reached. -/
  ended : Bool := false
  /-- The segment ended by HALT (R173). -/
  halting : Bool := false
  /-- Empty segments to follow the commit (R124). -/
  waitBells : Nat := 0
  /-- The current segment is empty (R124, R498). -/
  emptySeg : Bool := false
  /-- A fault has been raised: STOPPED at the next bell with this event (R163). -/
  faulted : Option (BitVec 16) := none
  pastReturn : Bool := false
  slipped : Bool := false
  stopEvent : BitVec 16 := 0
  budget : BitVec 16 := 0
  /-- The segment has been counted in OVER_BUDGET (R122). -/
  overBudget : Bool := false
  /-- Sequencer-region cycles when the SEGMENT issued, and the completed length (R152). -/
  segStart : Nat := 0
  segLen : Nat := 0
  /-- Pending command of SEQ_CTX_CMD (R136), and a pending context reset (R599). -/
  cmd : BitVec 3 := 0
  cmdTarget : BitVec 2 := 0
  resetReq : Bool := false
  wait : SeqWait := .none
  lds : List LdsOut := []
  /-- LDSs executed, and values that the other half of a joined context has taken first, by ordinal (R165). -/
  ldsOrd : Nat := 0
  ldsPeer : List (Nat × Word) := []
  /-- Scalars a vector instruction's flag word will write, with the instruction's ordinal among those that name one (R184);
  the next ordinal; words that came before this copy of a joined context reached the instruction (R165). -/
  flagWait : List (Nat × Nat) := []
  flagOrd : Nat := 0
  flagPeer : List (Nat × Word) := []
  /-- Stores not yet visible in HBM (R172): (address, data), oldest first. -/
  stores : List (Nat × Word) := []
  barriers : List Barrier := []
  /-- BARRIERs that its sequencer has reached in the segment. -/
  barOrd : Nat := 0
  /-- Ring-group members not bound yet, oldest first (R181); the next ordinal. -/
  unbound : List Member := []
  memOrd : Nat := 0
  /-- The header of the next submission slot as pre-read, 32 bytes (R141). -/
  preread : Option (List Byte) := none
  /-- The sequence number for which SEQ_SLOT was raised (R475). -/
  slotBad : Option (BitVec 32) := none
  /-- RTAGs of REDUCEs since the last MILLSTEP with that tag (R200). -/
  tags : List (BitVec 12) := []
  tagImage : List (BitVec 12) := []
  /-- Provisional fills issued in this segment: handle numbers (R131). -/
  provH : List Nat := []
  /-- The step with which the submission was taken (R496). -/
  takenStep : BitVec 63 := 0
  /-- First dispatch number of the current segment. -/
  segNo : Nat := 0
  /-- A command was refused because its segment was stopped by MILL_UE (R375). -/
  millUe : Bool := false
  deriving DecidableEq, Repr

/-- The charge token (R119, R157). `holder` is true for East. -/
structure Token where
  holder : Option Bool := none
  epoch : BitVec 32 := 0
  last : BitVec 32 := 0
  /-- Each sequencer's copy of the epoch, while it takes itself for the holder (R120). -/
  copyWest : Option (BitVec 32) := none
  copyEast : Option (BitVec 32) := none
  reqWest : Bool := false
  reqEast : Bool := false
  deriving DecidableEq, Repr

/-! ### Stations (R33 to R66) -/

/-- The states of an accumulator bank (R36). -/
inductive BankSt where
  | empty | exchanging | loaded | computing | done | replay
  deriving DecidableEq, Repr

/-- An ACCLOAD whose set a bank holds or began from: its dispatch number, and its source, which R44 keeps held (R61). -/
structure LoadSrc where
  no : Nat
  cid : Cid
  src : Nat
  h : HandleId
  off : Nat
  deriving DecidableEq, Repr

/-- An accumulator bank: its state, its accumulators (key 128 row + column, FP40) and the set from which the MMA whose outcome is
awaited began, where no ACCLOAD gave it. -/
structure Bank where
  st : BankSt := .empty
  acc : SMap (BitVec 40) := []
  init : SMap (BitVec 40) := []
  /-- The ACCLOAD that filled the waiting initial set, and the one whose set the MMA began from (R44). -/
  load : Option LoadSrc := none
  mmaLoad : Option LoadSrc := none
  /-- The result of the MMA whose outcome is awaited. -/
  res : SMap (BitVec 40) := []
  /-- The MMA computing, or whose outcome is awaited. -/
  mma : Option Nat := none
  /-- The drain and the load of a running exchange. -/
  exDrain : Option Nat := none
  exLoad : Option Nat := none
  /-- The bank, in REPLAY, has been reloaded and the pass is on its lane again (R61, R62). -/
  replayed : Bool := false
  /-- The DRAIN whose rows are written and await the outcome (R45); during a replay, the one to drain again. -/
  drained : Option Nat := none
  /-- The ACCLOAD of the later initial set that a replay displaced: it is loaded again when the replay ends (R61). -/
  later : Option LoadSrc := none
  deriving DecidableEq, Repr

/-- A loaded image of a slot (R107, R186): its owner and its bytes. -/
structure Slot where
  owner : Option Cid := none
  img : List Byte := []
  deriving DecidableEq, Repr

/-- The power states of a bunker bank (R232). -/
inductive BankPwr where
  | awake | deferring | asleep | waking
  deriving DecidableEq, Repr

/-- A bunker bank's power state, the timebase of its last change and since when it has held no line (R233 to R236). -/
structure BPwr where
  st : BankPwr := .awake
  since : Nat := 0
  idleSince : Nat := 0
  /-- The in-flight write counter as it stood at the last accepted request (R234). -/
  inFlight : Nat := 0
  deriving DecidableEq, Repr

/-- The local maximum and saturation count of a scale record at one station (R90): the maximum is `m * 2^e`. -/
structure ScaleLoc where
  m : Nat := 0
  e : Int := 0
  sat : Nat := 0
  deriving DecidableEq, Repr

/-- A station: its array banks, queue, slots and bunker slice engines. -/
structure Station where
  bank0 : Bank := {}
  bank1 : Bank := {}
  /-- The station queue: dispatch numbers, head first (R161). -/
  queue : List Nat := []
  tables : SMap Slot := []
  drains : SMap Slot := []
  /-- The holds in force by cause, oldest first, the input cap's and the all-stop's aside (R58). -/
  hold : List HoldCause := []
  /-- A replay of either bank is pending or running: the seam issues no pass (R61, R69). -/
  replay : Bool := false
  /-- Gated cell-cycles not yet counted (R72). -/
  gateRem : Nat := 0
  /-- Region cycles at which the slices of the last MMA have left read port 0 and at which its last MAC is done (R35, R71). -/
  portEnd : Nat := 0
  macEnd : Nat := 0
  scales : SMap ScaleLoc := []
  bpwr : SMap BPwr := []
  /-- The slice's zero-fill that a reset owes has not been done (R597). -/
  fillDue : Bool := true
  /-- Scrubber: lines read in the round, cycle count at its start, the round's quarter, the slow event given (R226, R227). -/
  scrubDone : Nat := 0
  scrubStart : Nat := 0
  scrubQuarter : Nat := 0
  scrubSlow : Bool := false
  /-- Lines of the round already read, one bit each, and the timebase of its start. -/
  scrubSeen : Nat := 0
  scrubTime : Nat := 0
  /-- The corner-turn buffers in use by a turned drain's writes (R40). -/
  turn0 : Bool := false
  turn1 : Bool := false
  /-- Cycle counts of holds in 1/5000 cycles, not yet counted. -/
  holdCyc : Nat := 0
  /-- Time the instruction at the head has waited, in 1/5000 cycle (R637, R641). -/
  headWait : Nat := 0
  deriving DecidableEq, Repr

/-- A dispatched station instruction, by dispatch number: its words, mask, effective offset (R164) and progress. -/
structure SInst where
  cid : Cid
  kind : SKind
  w : NWords
  mask : StationSet
  off : Nat := 0
  /-- The step, or evaluation count, and the evaluation flag at dispatch (R108). -/
  step : BitVec 63 := 0
  eval : Bool := false
  /-- For a member: its ordinal in program order. -/
  ord : Nat := 0
  /-- For a RINGINJ: its members; the cross-half count of its group, if it has members in both halves (R55). -/
  members : List Member := []
  cross : Option (BitVec 32) := none
  issued : StationSet := 0
  done : StationSet := 0
  /-- Flags so far: bits NV, OF, UF, SAT, NAN_IN and the saturated count (R111). -/
  flags : BitVec 5 := 0
  satCnt : Nat := 0
  /-- Its ordinal among the context's instructions that name a scalar for the flag word. -/
  flagNo : Option Nat := none
  /-- Region cycles at issue, by station (R641). -/
  issueCyc : SMap Nat := []
  deriving DecidableEq, Repr

/-- A pass on the ring (R51 to R56), by its RINGINJ's dispatch number. -/
structure Pass where
  cid : Cid
  tag : Fin 16
  orig : StationId
  lane : Bool
  span : Nat
  rc : Nat
  fmt : BitVec 4
  hs : HandleId
  soff : Nat
  k : Nat
  retired : Bool := false
  /-- Members whose capture or outcome is awaited: (member, station set). -/
  awaiting : List (Nat × StationSet) := []
  deriving DecidableEq, Repr

/-- A registered reader or writer of a handle (R221), with the stations where it is unfinished. -/
structure Access where
  no : Nat
  h : HandleId
  set : StationSet
  rd : Bool
  wr : Bool
  /-- A mill or VUPDATE write-back. -/
  wb : Bool := false
  /-- A provisional fill. -/
  prov : Bool := false
  deriving DecidableEq, Repr

/-! ### Bunker handles (R212, R213) -/

/-- The states of a handle (R213). -/
inductive HState where
  | free | allocated | provisional | purgePending
  deriving DecidableEq, Repr

/-- A handle-table entry (R212). READERS, WRITERS and WRITEBACK are read from the registered accesses. -/
structure Handle where
  set : StationSet := 0
  bank : BitVec 4 := 0
  off : BitVec 11 := 0
  fmt : BitVec 4 := 0
  cls : BitVec 2 := 0
  st : HState := .free
  seq : Bool := false
  ctx : BitVec 2 := 0
  joined : Bool := false
  rows : BitVec 20 := 0
  stride : BitVec 12 := 0
  cols : BitVec 7 := 0
  fill : BitVec 21 := 0
  zeroing : Bool := false
  freePending : Bool := false
  /-- An HPURGE that waits for the hold to end, by its dispatch number (R44). -/
  purgeNo : Option Nat := none
  tentative : Bool := false
  gen : BitVec 16 := 0
  deriving DecidableEq, Repr

/-! ### Haulage (R250 to R303) -/

/-- The states of a queue (R256). -/
inductive QState where
  | idle | fetch | waiting | running | draining
  deriving DecidableEq, Repr

/-- What a stream does. -/
inductive StreamKind where
  | block
  | saveact (code : BitVec 2)
  | loadact (trans : Bool)
  deriving DecidableEq, Repr

/-- An open loop of an address program (R270). -/
structure PLoop where
  start : Nat
  count : Nat
  astr : Int
  dstr : Int
  a0 : Int
  d0 : Int
  iter : Nat
  deriving DecidableEq, Repr

/-- A stream of a queue: what was asked, what its check found, and how far it is. -/
structure Stream where
  no : Nat
  cid : Cid
  kind : StreamKind
  h : HandleId
  /-- True drains the handle. -/
  dir : Bool
  prov : Bool
  addr : Nat
  /-- The step and evaluation flag in effect at dispatch (R318). -/
  step : BitVec 63
  eval : Bool
  /-- The block's words, once checked; the record header's bytes for a LOADACT. -/
  checked : Bool := false
  /-- Its draws are made (R318). -/
  drawn : Bool := false
  blk : List Word := []
  /-- Indices of an index-driven stream, once drawn or read (`none` is an empty draw) (R265, R322). -/
  idx : List (Option Nat) := []
  served : StationSet := 0
  sb : Bool := false
  /-- Row moves made, row indices generated, rows counted in FILL, sections checked. -/
  moved : Nat := 0
  generated : Nat := 0
  counted : Nat := 0
  sections : Nat := 0
  /-- Interpreter of an address program (R270). -/
  ppc : Nat := 0
  pa : Int := 0
  pd : Int := 0
  pj : Nat := 0
  pstack : List PLoop := []
  pend : Bool := false
  /-- Of a program: the row indices generated, and those not counted yet with the stations written, in generation order (R273). -/
  rowsGen : List Nat := []
  rowsOpen : List (Nat × StationSet) := []
  /-- Of a SAVEACT: the sections written, by offset / 256 and check, the offset of the next one, its coded rows so far (R279). -/
  saved : List (Nat × BitVec 32) := []
  saveOff : Nat := 0
  sect : List Byte := []
  /-- HAUL_INDEX, SMP_EMPTY given. -/
  oobRaised : Bool := false
  needTurn : Bool := false
  needCoder : Bool := false
  deriving DecidableEq, Repr

/-- A stream queue (R255 to R257, R291). -/
structure Queue where
  st : QState := .idle
  run : Option Stream := none
  shadow : Option Stream := none
  /-- Its reorder lines in use (R252, R289, R294). -/
  lines : Nat := 0
  deriving DecidableEq, Repr

/-- A haulage hub. -/
structure Hub where
  /-- Queues holding the turn and coding engines, and the queues waiting for one, oldest first (R257). -/
  turn : List Nat := []
  coder : List Nat := []
  req : List Nat := []
  /-- Priorities in effect in this round, by client (R258, R299). -/
  pri : SMap Nat := []
  /-- Trace: buffered records (32 bytes each), records made, dropped since the last LOST record (R639, R640). -/
  trBuf : List (List Byte) := []
  trNo : BitVec 32 := 0
  trDropped : Nat := 0
  /-- Records still to be written after the trigger with ACTION 0 (R644). -/
  trPost : Option Nat := none
  deriving DecidableEq, Repr

/-! ### Sample stores and samplers (R313 to R323) -/

/-- A push in progress over Lalux (R473). -/
structure Push where
  tag : BitVec 8
  store : Nat
  slot : Nat
  total : Nat
  weight : BitVec 16
  next : Nat
  /-- What became of the push: its further flits are not written. -/
  bad : Bool := false
  denied : Bool := false
  /-- It waits for the next bell, with the bytes that have come (R314). -/
  held : Bool := false
  buf : List Byte := []
  deriving DecidableEq, Repr

/-- A push held back to the next bell (R314): one that came whole, one under way over Lalux, by its TAG, or one that has all come over
Lalux. -/
inductive HeldPush where
  | whole (weight : BitVec 16) (bytes : List Byte)
  | lalux (tag : BitVec 8)
  | come (p : Push)
  deriving DecidableEq, Repr

/-- A sample store's write head, its pushes since the last publication, and the pushes held back, oldest first (R314). -/
structure Store where
  head : Nat := 0
  since : Nat := 0
  held : List HeldPush := []
  deriving DecidableEq, Repr

/-- A data position (R316). -/
structure DataPos where
  pub : Word := 0
  tail : Word := 0
  ebase : Word := 0
  ew : BitVec 32 := 0
  epoch : BitVec 32 := 0
  pseed : Word := 0
  draws : Word := 0
  tries : Word := 0
  /-- An epoch has begun (R321). -/
  begun : Bool := false
  deriving DecidableEq, Repr

/-- A context's sampler: committed and working copies of both positions (R316). -/
structure Sampler where
  train : DataPos := {}
  trainW : DataPos := {}
  eval : DataPos := {}
  evalW : DataPos := {}
  deriving DecidableEq, Repr

/-! ### Mills (R340 to R375) -/

/-- A snapshot of a coefficient entry (R347): its fields 0x00 to 0x13 and the context's GSCALE. -/
structure Snap where
  fields : SMap Word := []
  gscale : BitVec 32 := 0
  deriving DecidableEq, Repr

/-- A tile of a tile map (R343). -/
structure Tile where
  stn : Nat
  t : Bool
  hrow : Nat
  i0 : Nat
  j0 : Nat
  r : Nat
  c : Nat
  deriving DecidableEq, Repr

/-- A tensor record (R342) as accepted, its addresses where they lie in memory (R516). -/
structure TRec where
  entry : Nat := 0
  wfmt : Nat := 0
  we : Int := 0
  rows : Nat := 0
  cols : Nat := 0
  master : Nat := 0
  mask : Nat := 0
  slots : List Nat := []
  wb : Nat := 0
  ebase : Nat := 0
  gmap : List Tile := []
  wmap : List Tile := []
  deriving DecidableEq, Repr

/-- A MILLSTEP or VUPDATE dispatched, accepted or running. -/
structure Update where
  no : Nat
  cid : Cid
  recAddr : Nat
  hw : HandleId
  hwv : Bool
  rtag : BitVec 12
  step : BitVec 63
  /-- The reduction it waits for: the dispatch number of its REDUCE (R200). -/
  red : Nat
  snap : Snap := {}
  t : TRec := {}
  /-- Its state areas: address and length (R344). -/
  areas : List (Nat × Nat) := []
  /-- The job seed at acceptance (R355). -/
  seed : Word := 0
  accepted : Bool := false
  running : Bool := false
  /-- Status and words 16 to 20 once the pass has run (R348). -/
  status : Nat := 0
  words : List Word := []
  frozen : Nat := 0
  kept : Nat := 0
  /-- The masters that the write-back converts, row-major; none where the pass did not get to (R358, R375). -/
  wb : List (Option (BitVec 32)) := []
  /-- MILL_CTX_ENTRY at its dispatch: BASE and COUNT (R381). -/
  entries : Nat × Nat := (0, 0)
  deriving DecidableEq, Repr

/-- A background Newton refresh (R370): the KRON slot it works on, and its blocks' outcomes once done:
(failed, iterations) of L and R in block order. -/
structure Refresh where
  slot : Nat
  rows : Nat
  cols : Nat
  blk : Nat
  keps : BitVec 32
  ktol : BitVec 32
  finished : Bool := false
  outcomes : List (Bool × Nat × Bool × Nat) := []
  deriving DecidableEq, Repr

/-- A COEFSET made after a COEFSWAP of its table in the same segment: it writes the table that the swap makes the shadow
(R201, R347). -/
structure CoefWrite where
  tgt : Nat
  cid : Cid
  entry : Nat
  field : Nat
  v : Word
  deriving DecidableEq, Repr

/-- A mill. -/
structure Mill where
  queue : List Update := []
  refresh : List Refresh := []
  purge : List Nat := []
  /-- ALL_FROZEN was raised since the last bell (R479). -/
  frozenGiven : Bool := false
  deriving DecidableEq, Repr

/-! ### Fabric (R390 to R437) -/

/-- A block of a reduction as the owner rounds it and the all-gather carries it (R430, R431). -/
structure RBlock where
  vals : List (BitVec 16) := []
  rows : List (BitVec 32) := []
  cols : List (BitVec 32) := []
  er : Int := 0
  emin : Int := 63
  n : Nat := 0
  nlate : Nat := 0
  nonfinite : Bool := false
  deriving DecidableEq, Repr

/-- A partial of a block: FP32 sums and what it carries (R429, R430). -/
structure Partial where
  dim : Nat
  block : Nat
  vals : List (BitVec 32)
  n : Nat
  emin : Int
  nlate : Nat
  nonfinite : Bool
  deriving DecidableEq, Repr

/-- A late contribution held in the fold region (R434). -/
structure Fold where
  cid : Cid
  group : BitVec 10
  rtag : BitVec 12
  exp : Int
  fmt : BitVec 4
  vals : List (BitVec 16)
  /-- Its place in the fold region. -/
  off : Nat := 0
  deriving DecidableEq, Repr

/-- A reduction the device takes part in (R426 to R434), keyed by the dispatch number of its REDUCE, or by a number
above all dispatches while only partials have come. -/
structure Red where
  no : Nat
  cid : Cid
  group : BitVec 10
  rtag : BitVec 12
  gen : Nat
  hs : HandleId := 0
  /-- The station set and the shape of HS at dispatch. -/
  set : StationSet := 0
  rows : Nat := 0
  cols : Nat := 0
  hsr : HandleId := 0
  dest : Bool := false
  stats : Bool := false
  hdst : HandleId := 0
  hstat : HandleId := 0
  deadline : Nat := 0
  count : Nat := 0
  exp : Int := 0
  fmt : BitVec 4 := 0
  dispatched : Bool := false
  /-- The elements of HS, block by block, once read. -/
  src : List (BitVec 16) := []
  /-- A partial whose n has reached COUNT has arrived (R432); blocks were lost for want of landing room (R434); restarts (R433). -/
  full : Bool := false
  lost : Bool := false
  restarts : Nat := 0
  /-- HS has been read once (R433); the number of blocks; the late contribution taken in at the decision; messages of a run that
  this device has not restarted into; partials of own shares sent (2^20 dim + block). -/
  firstRead : Bool := false
  nblk : Nat := 0
  fold : Option Fold := none
  early : List FMsg := []
  started : SMap Bool := []
  /-- HS has been read (R432). -/
  issued : Bool := false
  decided : Bool := false
  contributes : Bool := false
  atBell : Bool := false
  dbell : Nat := 0
  /-- Partials that came before the decision, oldest first. -/
  held : List Partial := []
  /-- FP32 shares owned after a dimension, by 2^20 dim + block (R429). -/
  shares : SMap (Option Partial) := []
  /-- Blocks delivered to the mill or to HDST and HSTAT. -/
  blocks : SMap (Option RBlock) := []
  complete : Bool := false
  deriving DecidableEq, Repr

/-- A GATHER, BCAST, SEND or RECV in progress (R435). -/
inductive CollKind where
  | gather | bcast | send | recv
  deriving DecidableEq, Repr

/-- A collective other than a reduction. -/
structure Coll where
  no : Nat
  cid : Cid
  kind : CollKind
  hs : HandleId
  hd : HandleId
  group : BitVec 10
  node : NodeId
  mtag : BitVec 8
  /-- Bytes or blocks taken, and whether the source has been read. -/
  got : Nat := 0
  read : Bool := false
  /-- Blocks of a GATHER in place: 2^20 rank + block. -/
  pieces : List Nat := []
  /-- Rows it has counted in FILL of HD (R222). -/
  counted : Nat := 0
  /-- Its ordinal among the device's GATHERs, or BCASTs, of the group. -/
  ord : Nat := 0
  deriving DecidableEq, Repr

/-- A message waiting in a context's landing region, and its place there (R434, R435). -/
structure Landed where
  cid : Cid
  off : Nat
  msg : FMsg
  deriving DecidableEq, Repr

/-- A message that the receiving die keeps because the landing region has no room: of a SEND, with the port and the class whose buffer it
lies in (R435). -/
structure Kept where
  msg : FMsg
  cid : Option Cid := none
  buf : Option (PortId × BitVec 2) := none
  deriving DecidableEq, Repr

/-- A flit group waiting at a port for sending: a message, its buffer class and the flits already sent. -/
structure TxMsg where
  msg : FMsg
  cls : BitVec 2
  sent : Nat := 0
  /-- The context whose collective sends it (R637). -/
  own : Option Cid := none
  /-- The port and class whose receive buffer its flits leave as they are sent, and how many have left (R399). -/
  buf : Option (PortId × BitVec 2) := none
  freed : Nat := 0
  deriving DecidableEq, Repr

/-- The link state of a port (R452, R487). -/
inductive PortSt where
  | down | training | pairing | paired | retraining
  deriving DecidableEq, Repr

/-- A link port's link layer (R399 to R405): Berken port, or a Lalux port. -/
structure Port where
  st : PortSt := .down
  lanes : BitVec 8 := 0
  spared : Bool := false
  peer : NodeId := 0
  everUp : Bool := false
  /-- Frame numbers: next to send, next expected (R401). -/
  txNo : BitVec 16 := 0
  rxNo : BitVec 16 := 0
  /-- Frames sent and not acknowledged: number and flit count. -/
  replay : List (BitVec 16 × List Flit) := []
  /-- Frames sent (alignment frames included), frames since the last control flit, flits since VL5 last had one. -/
  frames : Nat := 0
  sinceCtl : Nat := 0
  sinceVl5 : Nat := 15
  /-- A control flit is pending, with NAK and its frame number. -/
  ctlDue : Bool := false
  nak : Option (BitVec 16) := none
  /-- NAKs received in a row of one frame number (R402). -/
  nakNo : BitVec 16 := 0
  nakCnt : Nat := 0
  /-- Credits held for sending by 4 VL + class, and credits to return (R399). -/
  credits : SMap Nat := []
  owed : SMap Nat := []
  tx : List TxMsg := []
  wrr : List Nat := []
  downSince : Nat := 0
  /-- Timebase of the last fabric reset sent or forwarded, of the last pairing failure (R405, R408). -/
  lastReset : Option Nat := none
  pairFail : Option Nat := none
  /-- Stamps of the last heartbeat received: its send stamp and its arrival (R418). -/
  hbStamp : Word := 0
  hbArrive : Word := 0
  asym : Int := 0
  /-- Messages wholly sent whose last flit, in the frame named, is not acknowledged (R401). -/
  flight : List (BitVec 16 × TxMsg) := []
  /-- Frames to send again (R401), and since when the replay buffer has been full (R402). -/
  resend : List (BitVec 16 × List Flit) := []
  fullSince : Option Nat := none
  /-- The content of the last control flit sent, and the tags of the last frame sent (R395). -/
  ctlSent : Option Control := none
  tags : List Byte := []
  /-- Flits in the receive buffer, by 4 VL + class, whose credits are not yet owed (R399). -/
  rx : SMap Nat := []
  /-- Codewords received since link-up, and the corrected symbols of the last 2^20 of them: codeword count, lane, symbols (R403). -/
  cws : Nat := 0
  weak : List (Nat × Nat × Nat) := []
  /-- The port was paired when it last went down, so that a short retrain does not repeat pairing (R405). -/
  keepPair : Bool := false
  deriving DecidableEq, Repr

/-- A failure notice's words 1 to 3 (R420). -/
structure Notice where
  w1 : Word
  w2 : Word
  w3 : Word
  deriving DecidableEq, Repr

/-- The fabric's state outside its ports. -/
structure Fabric where
  ports : SMap Port := []
  routes : SMap (BitVec 6) := []
  faults : List NodeId := []
  /-- Notices seen, and reporters of each suspected position with their bell (R420, R421). -/
  notices : List Notice := []
  reports : List (NodeId × NodeId × Nat) := []
  /-- Link-sets taken down: plane * 8 + direction (R404, R419). -/
  downSets : List Nat := []
  /-- Positions a confirmed notice made absent (R421). -/
  absent : List NodeId := []
  /-- Heartbeats that have arrived, by direction and bell number, and bells missed in a row (R417, R419). -/
  hbSeen : List (Nat × Nat) := []
  missed : SMap Nat := []
  reds : List Red := []
  folds : List Fold := []
  colls : List Coll := []
  /-- SEND messages and gather blocks waiting in a landing region (R434, R435). -/
  landing : List Landed := []
  /-- Messages for which a landing region has no room; messages for a failed member that wait for its relief (R425). -/
  kept : List Kept := []
  parked : List (FMsg × Option Cid) := []
  /-- REDUCE counts of each GROUP and RTAG: key 4096 group + rtag (R426). -/
  redCnt : SMap Nat := []
  /-- Events raised at most once per bell, and bad-offset bells in a row (R406, R415, R437). -/
  winGiven : Bool := false
  unreachGiven : Bool := false
  offBells : Nat := 0
  firstMeasure : Bool := false
  /-- Messages for other ports and units that a unit has handed to the fabric and no port has taken (no route). -/
  sent : List FMsg := []
  /-- Identities the device answers to besides its own (R422, R515). -/
  assumed : List NodeId := []
  /-- Each window refusal, reset acceptance. -/
  resetAsked : Bool := false
  deriving DecidableEq, Repr

/-! ### Lalux (R455 to R480) -/

/-- A queued event frame (R476, R477). -/
structure EvFrame where
  code : BitVec 16
  source : BitVec 8
  unit : BitVec 8
  ctx : BitVec 8
  time : Word
  bell : Word
  number : BitVec 32
  rep : BitVec 32
  detail : Word
  deriving DecidableEq, Repr

/-- The Lalux ports and the host's view. -/
structure Llx where
  up : Port := {}
  dn : Port := {}
  tally : BitVec 6 := 0
  events : List EvFrame := []
  evNo : BitVec 32 := 0
  /-- Raises lost since the last LLX_EVT_LOST frame (R477). -/
  evLost : Nat := 0
  /-- The last eight raises, newest first (R608). -/
  recent : List EvFrame := []
  /-- Flits waiting on UP and on DN, oldest first, and flits sent in a frame that is not acknowledged. -/
  upq : List LFlit := []
  dnq : List LFlit := []
  upFlight : List (BitVec 16 × LFlit) := []
  dnFlight : List (BitVec 16 × LFlit) := []
  /-- Forwarded flits sent on UP since the last own flit, by channel (R465). -/
  ratio : SMap Nat := []
  pushes : List Push := []
  wrDenyGiven : Bool := false
  /-- The answer to a RESET_REQ that has not left: the reset follows it (R468). -/
  resetDue : Option LFlit := none
  /-- The recovery buffer, 8 MiB (R480). -/
  img : SMap Byte := []
  deriving DecidableEq, Repr

/-! ### Securing and relief (R490 to R528) -/

/-- An item of a securing plan (R505). -/
structure PItem where
  kind : Nat
  repl : Bool
  aux : BitVec 12
  w1 : Word
  w2 : Word
  deriving DecidableEq, Repr

/-- A securing, or a catch-up copy, in flight (R510, R522). -/
structure Securing where
  cid : Cid
  no : Nat
  items : List PItem
  anchor : NodeId
  unread : List Nat
  /-- D1 and D2 of each item read (R509). -/
  digests : SMap (Word × Word) := []
  risk : Nat
  l : Nat
  /-- The SECURE's segment has committed: step S, bell, image and position records at that moment. -/
  committed : Bool := false
  step : BitVec 63 := 0
  bell : Word := 0
  /-- The commit record went out at this bell number. -/
  sentAt : Option Nat := none
  acks : List Nat := []
  /-- A catch-up copy for this identity (R522). -/
  copyTo : Option NodeId := none
  /-- The reliefs it goes to, and the slot's bases of a copy's target. -/
  targets : List Nat := []
  bases : List Nat := []
  /-- The state areas of each TENSOR item, by item (R507). -/
  areas : SMap (List (Nat × Nat)) := []
  /-- The station image once taken, and the control block. -/
  stn : Option (List Byte) := none
  ctl : List Byte := []
  deriving DecidableEq, Repr

/-- A relief's cover entry (R502, R544). -/
structure Cover where
  ident : NodeId := 0
  valid : Bool := false
  active : Bool := false
  feedOvr : Bool := false
  feed : BitVec 2 := 0
  other : NodeId := 0
  twin : Option NodeId := none
  /-- Kept after another activation (R525); its live slot came as a served copy (R526). -/
  kept : Bool := false
  served : Bool := false
  deriving DecidableEq, Repr

/-- A covered device's pairing attempt (R502). -/
structure Pairing where
  asked : Option Nat := none
  refused : Option Nat := none
  paired : Bool := false
  entry : BitVec 3 := 0
  /-- Slot bases granted: hubs 0 to 3 and halves 0 and 1, slots A and B. -/
  bases : List Nat := []
  deriving DecidableEq, Repr

/-- An activation in progress or done (R515). -/
structure Activation where
  entry : Fin 8
  ident : NodeId
  slot : Bool
  cid : Cid
  step : BitVec 63
  anchor : NodeId
  items : List PItem
  /-- Sa, once the anchor has replied (R517). -/
  sa : Nat := 0
  /-- The identity's declared regions, base and size in bytes, in declaration order (R501, R508). -/
  decl : List (Nat × Nat) := []
  restored : Bool := false
  rejoined : Bool := false
  ready : Bool := false
  queriedAt : Nat := 0
  /-- RLF_SLOW was raised: the anchor is asked again at each bell (R517). -/
  slow : Bool := false
  noticeAt : Nat := 0
  /-- TENSOR items whose assay is not done, by index. -/
  assay : List Nat := []
  failed : List Nat := []
  /-- The twin's answers by item: whether its log has the step, and the digests (R520). -/
  replies : SMap (Option (Bool × Word × Word)) := []
  drop : Bool := false
  /-- A copy asked for, its step once arrived. -/
  copyAsked : Bool := false
  copyStep : Option (BitVec 63) := none
  /-- First work was recorded (R541). -/
  worked : Bool := false
  /-- The restored window table, as pairs of the two words of an entry (R516). -/
  wins : List (Word × Word) := []
  deriving DecidableEq, Repr

/-- The resilience unit. -/
structure Rlf where
  /-- Canary counts of the present surface cycle and of past cycles, newest first (R491). -/
  cur : List Nat := [0, 0, 0, 0, 0, 0, 0, 0]
  window : List (List Nat) := []
  securing : Option Securing := none
  copy : Option Securing := none
  /-- SEQ of the two reliefs named now, and of every relief named before (R512). -/
  seq0 : Nat := 1
  seq1 : Nat := 1
  seqs : SMap Nat := []
  pairChanged : Bool := false
  /-- A catch-up copy asked of this device: by whom, the step named, the bases of its slot (R522). -/
  copyReq : Option (NodeId × BitVec 63) := none
  copyBases : List Nat := []
  /-- The activated relief that ended a pairing with reason 5 (R525). -/
  former : Option NodeId := none
  pair0 : Pairing := {}
  pair1 : Pairing := {}
  covers : SMap Cover := []
  /-- A new value of ROLE and COVER that waits for the old parts' purge (R499). -/
  rolePending : Option (Bool × BitVec 3) := none
  act : Option Activation := none
  dlogHead : Nat := 0
  hold : Bool := false
  /-- When the first notice that names a covered identity came (R541). -/
  firstNotice : List (NodeId × Nat) := []
  deriving DecidableEq, Repr

/-! ### Clocks, power, thermal (R545 to R575) -/

/-- A ceiling of R553: the value decided, the value in force, and the decisions that wait for their step point, oldest first:
(the first time at which a step point may take the value, the value) (R556). -/
structure Ceil where
  val : BitVec 3 := 7
  act : BitVec 3 := 7
  wait : List (Nat × BitVec 3) := []
  deriving DecidableEq, Repr

/-- A pending request (R555, R562, R564): its step point's index and its step; whether a write of the clock mode made it. -/
structure StepPlan where
  point : Nat
  step : BitVec 3
  byMode : Bool
  deriving DecidableEq, Repr

/-- The timebase, the bell and the region clocks. -/
structure Time where
  ns : Word := 0
  frac : BitVec 32 := 0
  /-- Rate correction in parts per billion, within 50,000 (R558). -/
  corr : Int := 0
  counting : Bool := false
  /-- The next bell: its time and number (R27, R155). -/
  nextBell : Nat := 0
  nextNum : Nat := 0
  /-- Region cycle counts and stretched cycles in 1/5000 cycle (R559, R550). -/
  cyc : SMap Nat := []
  strCyc : SMap Nat := []
  /-- Regions whose supply is low (R550). -/
  droop : List (Fin 60) := []
  /-- Crossings in fallback: 64 region + crossing; all of them after a step change (R548, R554). -/
  fallback : List Nat := []
  allFallback : Bool := false
  deriving DecidableEq, Repr

/-- The power block. -/
structure Pwr where
  step : BitVec 3 := 0
  req : BitVec 3 := 0
  mode : Ceil := { val := 5, act := 5 }
  therm : Ceil := {}
  limit : Ceil := {}
  surge : Ceil := {}
  trim : Ceil := {}
  plan : Option StepPlan := none
  stretching : Bool := false
  stretchSince : Nat := 0
  /-- When the limiter ceiling last moved (R565). -/
  limitSince : Nat := 0
  /-- The input cap is engaged, or released less than 100 µs ago: the groups are throttled in rotation (R566). -/
  cap : Bool := false
  /-- Surge credit in 1/5 ns, spent flag (R567). -/
  credit : Nat := 600000000000
  spent : Bool := false
  /-- Readings below 95 °C in a row since the ceiling last changed (R568). -/
  coolRun : Nat := 0
  temps : List Nat := []
  /-- Hottest readings of past surface cycles, newest first, up to 1,025 (R571). -/
  hist : List Nat := []
  powers : List Nat := []
  inOk : Bool := false
  auxOk : Bool := false
  dataOn : Bool := false
  /-- Domains software turned off; those of them asked on again; those powered and passing through their reset (R574). -/
  off : List (Fin 50) := []
  turningOn : List (Fin 50) := []
  waking : List (Fin 50) := []
  /-- Surface cycles in a row with the power below 95 % of the envelope (R564). -/
  envLow : Nat := 0
  /-- Energy of the hold-up store in mJ, and whether it has reached 90 % (R575). -/
  energy : Nat := 0
  charged : Bool := false
  deriving DecidableEq, Repr

/-! ### Reset, boot, trust (R592 to R619) -/

/-- The reset sequencer, the flash, the fuses. -/
structure Rst where
  /-- Sources asserted, as bits of RST_CAUSE. -/
  asserted : BitVec 9 := 0
  /-- Domains held. -/
  held : BitVec 50 := BitVec.allOnes 50
  /-- Domains a SWDOM request holds, and those it covers for 64 reference cycles (R598, R624). -/
  swHeld : BitVec 50 := 0
  swPulse : BitVec 50 := 0
  /-- Domains asked for a reset once named contexts are reset (FORCE, R598): (domain, HOLD). -/
  forced : List (Fin 50 × Bool) := []
  /-- The release order: the last step completed (R595). -/
  step : Nat := 0
  /-- Memory units under post-reset zero-fill, and units to be filled when their step completes (R597). -/
  memInit : BitVec 14 := 0
  memDue : BitVec 14 := 0
  auxLoss : Bool := false
  porCount : BitVec 32 := 0
  strap : BitVec 4 := 0
  ambig : Bool := false
  /-- Flash: last-gasp slots (256 bytes, newest first), the copies A and B, fused rollback count. -/
  gasps : List (List Byte) := []
  lg : List Byte := []
  copyA : List Byte := []
  copyB : List Byte := []
  tail : BitVec 5 := 0
  rollback : BitVec 6 := 0
  /-- The image that the management core runs, header and body (R609). -/
  running : Option (List Byte) := none
  imageSlot : Bool := false
  verified : Bool := false
  recovery : Bool := false
  /-- The watchdog: timebase of the last kick (R618). -/
  lastKick : Nat := 0
  /-- A SYSREF edge has set the phase of the reference divider (R682). -/
  sysrefSeen : Bool := false
  deriving DecidableEq, Repr

/-! ### Observability and debug (R635 to R668) -/

/-- An all-stop (R646). -/
structure AllStop where
  ctx : Option Cid
  cause : BitVec 3
  deriving DecidableEq, Repr

/-- The debug unit and the TAP. -/
structure Dbg where
  /-- Live always-on counters 0 to 11 (AO1 in 1/5000 cycle) and per-context counters, key 8 cid + k (R635, R637). -/
  ao : SMap Nat := []
  cnt : SMap Nat := []
  /-- DBG_PC_CTL.EN as written, taken at the next bell (R638). -/
  pcPend : Option Bool := none
  pcOn : Bool := false
  stop : Option AllStop := none
  scanned : List (Fin 59) := []
  level : BitVec 3 := 0
  unlocked : Bool := false
  token : SMap Byte := []
  /-- The unlock token whose digest measurement 6 holds (R614, R653). -/
  measured : List Byte := []
  refusedAt : Option Nat := none
  trOn : Bool := true
  /-- TAP: instruction register, selected region, result of the last DBGACC, boundary register, last data register shifted out. -/
  ir : BitVec 8 := 0x02
  scansel : BitVec 6 := 0
  accRes : BitVec 90 := 0
  boundary : List Bool := []
  driving : Bool := false
  tdo : List Bool := []
  bypass : Bool := false
  deriving DecidableEq, Repr

/-- The pins of R674 the block reads or drives. -/
structure Pins where
  rstN : Bool := true
  pwrgdIn : Bool := true
  /-- The last answer of the I²C target: its eight bytes, none for a NACK (R680). -/
  i2c : Option (List Byte) := none
  deriving DecidableEq, Repr

/-! ### The whole -/

/-- The block. -/
structure State where
  /-- Commands waiting, first in, first out. -/
  pending : List Instr := []
  /-- The fused variant (R1, R5). -/
  variant : Variant := .full
  /-- The register file: key is the window offset (R13). -/
  regs : SMap Word := []
  /-- Shadows of bell-latched registers written since the last bell (R15, R16). -/
  shadow : SMap (Option Word) := []
  time : Time := {}
  ctxs : SMap Ctx := []
  token : Token := {}
  stations : SMap Station := []
  insts : SMap (Option SInst) := []
  passes : SMap (Option Pass) := []
  /-- The next dispatch number. -/
  dispNo : Nat := 1
  accs : List Access := []
  handles : SMap Handle := []
  /-- The bunker purge engines' work, oldest first: (handle, true for a purge that keeps it) (R228). -/
  purgeQ : List (HandleId × Bool) := []
  /-- Device memory bytes, and bits flipped in stored code words by word address / 8 (R304, R310). -/
  mem : List Host.Cell := []
  memErr : SMap (BitVec 72) := []
  /-- Bunker bytes by 2^23 station + slice byte; sideband by 2^19 station + 16 line + byte; errors by word. -/
  bunk : SMap Byte := []
  bunkErr : SMap (BitVec 72) := []
  side : SMap Byte := []
  sideErr : SMap (BitVec 72) := []
  hubs : SMap Hub := []
  queues : SMap Queue := []
  /-- HBM regions in purge order, per hub window (R308). -/
  hbmPurge : List Nat := []
  stores : SMap Store := []
  samplers : SMap Sampler := []
  mill0 : Mill := {}
  mill1 : Mill := {}
  /-- VUPDATEs (R376). -/
  vus : List Update := []
  vuFrozen : List StationSet := []
  /-- Coefficient tables: key ((target * 2 + buffer) * 4096 + entry) * 256 + field; targets 0, 1 the mills, 2 + cid the
  vector tables; at entry 0xFFF the field is the context (R362, R376). -/
  coef : SMap Word := []
  /-- Select bits and pending swaps: key 8 target + cid. -/
  coefSel : SMap Bool := []
  coefSwap : SMap Bool := []
  coefLate : List CoefWrite := []
  fab : Fabric := {}
  llx : Llx := {}
  rlf : Rlf := {}
  pwr : Pwr := {}
  rst : Rst := {}
  dbg : Dbg := {}
  pins : Pins := {}
  /-- The model's own counter of free values used (Config.free). -/
  freeCtr : Nat := 0
  deriving DecidableEq, Repr

/-- The block right after a full power-up reset (R592, R595): every domain held, nothing released yet. -/
def State.reset : State := {}

end Sys2Proof.Machine
end

