-- ==== Sys2Proof/Machine/Ops.lean ====
section
/-! DEFINITION. The named operations on the state that the meanings share: unit accessors, register fields, what is fitted, time,
events and trace, memory with its word correction, handles and their registered accesses, aborting a context. -/

namespace Sys2Proof.Machine

/-! ### Unit accessors -/

def State.ctx (s : State) (c : Cid) : Ctx := SMap.val s.ctxs {} c.val
def State.setCtx (s : State) (c : Cid) (x : Ctx) : State := { s with ctxs := SMap.put s.ctxs {} c.val x }
def State.modCtx (s : State) (c : Cid) (f : Ctx → Ctx) : State := s.setCtx c (f (s.ctx c))

def State.stn (s : State) (i : StationId) : Station := SMap.val s.stations {} i.val
def State.setStn (s : State) (i : StationId) (x : Station) : State := { s with stations := SMap.put s.stations {} i.val x }
def State.modStn (s : State) (i : StationId) (f : Station → Station) : State := s.setStn i (f (s.stn i))

def State.hnd (s : State) (h : HandleId) : Handle := SMap.val s.handles {} h.toNat
def State.setHnd (s : State) (h : HandleId) (x : Handle) : State := { s with handles := SMap.put s.handles {} h.toNat x }
def State.modHnd (s : State) (h : HandleId) (f : Handle → Handle) : State := s.setHnd h (f (s.hnd h))

def State.inst (s : State) (no : Nat) : Option SInst := SMap.val s.insts none no
def State.setInst (s : State) (no : Nat) (x : Option SInst) : State := { s with insts := SMap.put s.insts none no x }
def State.modInst (s : State) (no : Nat) (f : SInst → SInst) : State :=
  match s.inst no with
  | some x => s.setInst no (some (f x))
  | none => s

def State.pass (s : State) (no : Nat) : Option Pass := SMap.val s.passes none no
def State.setPass (s : State) (no : Nat) (x : Option Pass) : State := { s with passes := SMap.put s.passes none no x }

def qKey (h : HubId) (q : QueueId) : Nat := 16 * h.val + q.val
def State.hub (s : State) (h : HubId) : Hub := SMap.val s.hubs {} h.val
def State.setHub (s : State) (h : HubId) (x : Hub) : State := { s with hubs := SMap.put s.hubs {} h.val x }
def State.modHub (s : State) (h : HubId) (f : Hub → Hub) : State := s.setHub h (f (s.hub h))
def State.que (s : State) (h : HubId) (q : QueueId) : Queue := SMap.val s.queues {} (qKey h q)
def State.setQue (s : State) (h : HubId) (q : QueueId) (x : Queue) : State :=
  { s with queues := SMap.put s.queues {} (qKey h q) x }
def State.modQue (s : State) (h : HubId) (q : QueueId) (f : Queue → Queue) : State := s.setQue h q (f (s.que h q))

def State.mill (s : State) (m : Fin 2) : Mill := if m = 0 then s.mill0 else s.mill1
def State.setMill (s : State) (m : Fin 2) (x : Mill) : State := if m = 0 then { s with mill0 := x } else { s with mill1 := x }
def State.modMill (s : State) (m : Fin 2) (f : Mill → Mill) : State := s.setMill m (f (s.mill m))

def State.store (s : State) (i : Nat) : Store := SMap.val s.stores {} i
def State.setStore (s : State) (i : Nat) (x : Store) : State := { s with stores := SMap.put s.stores {} i x }
def State.smp (s : State) (c : Cid) : Sampler := SMap.val s.samplers {} c.val
def State.setSmp (s : State) (c : Cid) (x : Sampler) : State := { s with samplers := SMap.put s.samplers {} c.val x }

def State.bport (s : State) (p : PortId) : Port := SMap.val s.fab.ports {} p.val
def State.setBport (s : State) (p : PortId) (x : Port) : State :=
  { s with fab := { s.fab with ports := SMap.put s.fab.ports {} p.val x } }
def State.port (s : State) (p : LinkPort) : Port :=
  match p with
  | .berken p => s.bport p
  | .llxUp => s.llx.up
  | .llxDn => s.llx.dn
def State.setPort (s : State) (p : LinkPort) (x : Port) : State :=
  match p with
  | .berken p => s.setBport p x
  | .llxUp => { s with llx := { s.llx with up := x } }
  | .llxDn => { s with llx := { s.llx with dn := x } }

def Station.bank (x : Station) (b : Fin 2) : Bank := if b = 0 then x.bank0 else x.bank1
def Station.setBank (x : Station) (b : Fin 2) (y : Bank) : Station := if b = 0 then { x with bank0 := y } else { x with bank1 := y }
def State.setBank (s : State) (i : StationId) (b : Fin 2) (y : Bank) : State := s.modStn i fun x => x.setBank b y

/-- A free value: what the manual leaves open, one for each use. -/
def State.takeFree (s : State) : Word × State := (Config.free s.freeCtr, { s with freeCtr := s.freeCtr + 1 })

/-! ### What is fitted (R1, R7, R11) -/

end Sys2Proof.Machine

namespace Sys2Proof

/-- Stacks of each hub. -/
def Variant.stacks : Variant → Nat
  | .full => 3
  | .memory => 3
  | .link => 2
  | .base => 2
def Variant.hasMill (v : Variant) (m : Nat) : Bool :=
  match v with
  | .full => m < 2
  | .memory => m < 2
  | .link => m == 0
  | .base => false
def Variant.hasIod (v : Variant) (d : Nat) : Bool :=
  match v with
  | .full => d < 4
  | .link => d < 4
  | .memory => d == 0 || d == 2
  | .base => d == 0 || d == 2
def Variant.hasStack (v : Variant) (n : Nat) : Bool := n < 12 && n % 3 < v.stacks
/-- SFC_CAPS (R7). -/
def Variant.caps : Variant → Word
  | .full => 0x00023010605FFFFF#64
  | .memory => 0x0002181060475FFF#64
  | .link => 0x000230086045F6DB#64
  | .base => 0x00021800606056DB#64
/-- SFC_ID (R5), revision A0. -/
def Variant.ident : Variant → Word
  | .full => 0x000001007A010C4D#64
  | .memory => 0x000002007A010C4D#64
  | .link => 0x000003007A010C4D#64
  | .base => 0x000004007A010C4D#64
def Variant.code : Variant → Nat
  | .full => 1
  | .memory => 2
  | .link => 3
  | .base => 4
def Variant.maxStep : Variant → BitVec 3
  | .full => 7
  | _ => 5
/-- The fitted I/O dies as a mask (R440's reset value). -/
def Variant.planes : Variant → Nat
  | .full => 15
  | .link => 15
  | _ => 5

end Sys2Proof

namespace Sys2Proof.Machine

/-! ### Register fields (R13) -/

/-- The canary inputs' reset values BASE, STEP, LIN, W (R494). -/
def canReset : List (Nat × Nat × Nat × Nat) :=
  [(4, 2, 0, 2), (16, 2, 0, 2), (16, 2, 0, 2), (1, 1, 0, 2), (8, 2, 0, 2), (64, 2, 0, 1), (80, 4, 1, 2), (2, 2, 1, 1),
   (400, 200, 1, 1), (1, 1, 0, 1)]

/-- The reset value of a field's cell. -/
def Fld.dflt (F : Fld) (v : Variant) (i : Nat) : Word :=
  if F.base = 0xB00100 then
    let r := canReset.getD i (0, 0, 0, 0)
    BitVec.ofNat 64 (if F.lo = 0 then r.1 else if F.lo = 16 then r.2.1 else if F.lo = 20 then r.2.2.1 else r.2.2.2)
  else if F.base = 0x900008 ∧ F.lo = 0 then BitVec.ofNat 64 v.planes
  else BitVec.ofNat 64 F.reset

/-- The cell of a field in the register file: 64 × offset + low bit. -/
def Fld.key (F : Fld) (i j : Nat) : Nat := (F.base + i * F.s1 + j * F.s2) * 64 + F.lo

/-- The value in effect of field `F` of the register's `i`-th (and `j`-th) one. -/
def State.fld (s : State) (F : Fld) (i : Nat := 0) (j : Nat := 0) : Nat :=
  (SMap.val s.regs (F.dflt s.variant i) (F.key i j)).toNat

/-- A field set; it keeps its width. -/
def State.setFld (s : State) (F : Fld) (v : Nat) (i : Nat := 0) (j : Nat := 0) : State :=
  { s with regs := SMap.put s.regs (F.dflt s.variant i) (F.key i j) (BitVec.ofNat 64 (v % 2 ^ F.width)) }

/-- A counter field counts, wrapping. -/
def State.bump (s : State) (F : Fld) (n : Nat := 1) (i : Nat := 0) (j : Nat := 0) : State :=
  s.setFld F (s.fld F i j + n) i j

def State.flag (s : State) (F : Fld) (i : Nat := 0) (j : Nat := 0) : Bool := s.fld F i j == 1

/-- Every cell of the registers in a range of offsets back at its reset value. -/
def State.resetRegs (s : State) (lo hi : Nat) : State := { s with regs := SMap.clear s.regs (lo * 64) ((hi - lo) * 64) }

/-! ### Modes, seams, contexts (R48, R115 to R118) -/

def State.numSolori (s : State) : Bool := s.flag Fld.SFC_PROFILE_NUMERICS
def State.layout (s : State) : Nat := s.fld Fld.SFC_PROFILE_SEAM
/-- Stations per seam of a layout code (R48). -/
def seamSize : Nat → Nat
  | 0 => 96
  | 1 => 48
  | 2 => 24
  | _ => 12
/-- The circuit length of a layout (R48, R49). -/
def circuit (l : Nat) : Nat := if l = 0 then 96 else 2 * seamSize l
def cSeq (c : Cid) : Nat := c.val / 4
def cLow (c : Cid) : Nat := c.val % 4
/-- The West context of the pair. -/
def west (c : Cid) : Cid := ⟨c.val % 4, by omega⟩
def east (c : Cid) : Cid := ⟨4 + c.val % 4, by omega⟩
def peer (c : Cid) : Cid := if c.val < 4 then east c else west c
/-- A joined context: layout 0, and both of the pair have JOIN = 1 and SEAM = 0 (R117). -/
def State.joined (s : State) (c : Cid) : Bool :=
  s.layout == 0 && s.flag Fld.SEQ_CTX_CFG_JOIN (west c).val && s.flag Fld.SEQ_CTX_CFG_JOIN (east c).val &&
    s.fld Fld.SEQ_CTX_CFG_SEAM (west c).val == 0 && s.fld Fld.SEQ_CTX_CFG_SEAM (east c).val == 0
/-- The instance that controls the context: the West one of a joined context. -/
def State.lead (s : State) (c : Cid) : Cid := if s.joined c then west c else c
def State.seamOf (s : State) (c : Cid) : Nat := s.fld Fld.SEQ_CTX_CFG_SEAM c.val
/-- The stations of the context's seam. -/
def State.seamSet (s : State) (c : Cid) : StationSet :=
  let n := seamSize s.layout
  rangeSet (s.seamOf (s.lead c) * n) n
def State.seamFirst (s : State) (c : Cid) : Nat := s.seamOf (s.lead c) * seamSize s.layout
/-- R115, R117: may the context use the seam it names. -/
def State.seamOk (s : State) (c : Cid) : Bool :=
  let j := s.flag Fld.SEQ_CTX_CFG_JOIN c.val
  let m := s.seamOf c
  if s.layout = 0 then s.joined c
  else
    let half := 48 / seamSize s.layout
    !j && (if cSeq c = 0 then m < half else half ≤ m && m < 2 * half)
def westHalf : StationSet := rangeSet 0 48
def eastHalf : StationSet := rangeSet 48 48
def halfSet (c : Cid) : StationSet := if cSeq c = 0 then westHalf else eastHalf
/-- Stations of both halves. -/
def bothHalves (m : StationSet) : Bool := m &&& westHalf != 0 && m &&& eastHalf != 0
def CtxSt.code : CtxSt → Nat
  | .idle => 0
  | .ready => 1
  | .running => 2
  | .waiting => 3
  | .stopped => 4
  | .purging => 5
def allCids : List Cid := List.finRange 8
def State.busyCtx (s : State) (c : Cid) : Bool := (s.ctx c).st == .running || (s.ctx c).st == .waiting
/-- Some context of either sequencer is RUNNING or WAITING. -/
def State.anyBusy (s : State) : Bool := allCids.any s.busyCtx
/-- The context that owns the seam holding a station. -/
def State.ownerOf (s : State) (i : StationId) : Option Cid :=
  allCids.find? fun c => (s.ctx c).owner && has (s.seamSet c) i
def hubOfStn (i : StationId) : HubId := ⟨i.val / 24, by omega⟩
def groupOf (i : StationId) : Fin 24 := ⟨i.val / 4, by omega⟩

/-! ### Domains, regions, clocks (R545, R552, R572, R573) -/

def domFitted (v : Variant) (d : Nat) : Bool :=
  if d < 24 then true
  else if d < 36 then v.hasStack (d - 24)
  else if d < 40 then v.hasIod (d - 36)
  else if d < 42 then v.hasMill (d - 40)
  else if d < 44 then v.hasMill (d - 42)
  else true
def State.held (s : State) (d : Nat) : Bool := s.rst.held.getLsbD d
/-- Powered and out of reset. -/
def State.domOn (s : State) (d : Nat) : Bool :=
  domFitted s.variant d && !s.held d && (d == 49 || s.pwr.dataOn) && !(s.pwr.off.any fun x => x.val == d)
/-- R573's code: 0 OFF, 1 ON, 2 GATED, 3 ABSENT. -/
def State.domState (s : State) (d : Nat) : Nat :=
  if !domFitted s.variant d then 3
  else if d = 49 then 1
  else if !s.pwr.dataOn || (s.pwr.off.any fun x => x.val == d) then 0
  else if s.pwr.cap && d < 24 && s.time.ns.toNat / 1000 % 4 == d % 4 then 2
  else 1
def regionDom (r : Nat) : Nat :=
  if r < 48 then r / 2 else if r < 52 then 44 + (r - 48) else if r < 56 then 36 + (r - 52)
  else if r < 58 then 40 + (r - 56) else if r = 58 then 48 else 49
def stepMHz : BitVec 3 → Nat
  | 0 => 400
  | 1 => 500
  | 2 => 600
  | 3 => 700
  | 4 => 775
  | 5 => 850
  | 6 => 925
  | _ => 1000
def State.stopDevice (s : State) : Bool :=
  match s.dbg.stop with
  | some a => a.ctx.isNone
  | none => false
/-- An all-stop covers the context (R646). -/
def State.ctxStopped (s : State) (c : Cid) : Bool :=
  match s.dbg.stop with
  | some a => match a.ctx with
    | none => true
    | some d => d == c || (s.joined c && west d == west c)
  | none => false
def State.stnStopped (s : State) (i : StationId) : Bool :=
  match s.dbg.stop with
  | some a => match a.ctx with
    | none => true
    | some d => has (s.seamSet d) i
  | none => false
/-- What holds the station: an all-stop, the input cap's turn of its group, else the oldest of its holds (R58, R566, R646). -/
def State.holdOf (s : State) (i : StationId) : Option HoldCause :=
  if s.stnStopped i then some .debug
  else match (s.stn i).hold with
  | h :: _ => some h
  | [] => if s.domState (i.val / 4) = 2 then some .throttle else none
/-- The region's clock runs. -/
def State.regionRuns (s : State) (r : Nat) : Bool := s.domOn (regionDom r) && (r == 59 || !s.stopDevice)
def State.stretched (s : State) (r : Nat) : Bool :=
  s.variant == .full && (s.time.droop.any (fun x => x.val == r) || (s.pwr.stretching && r < 48))
/-- Cycles of a region in 1/5000 for `dns` of timebase (R550, R559). -/
def State.regionUnits (s : State) (r dns : Nat) : Nat :=
  if !s.regionRuns r then 0
  else if r = 59 then dns * 400 * 5
  else dns * stepMHz s.pwr.step * (if s.stretched r then 4 else 5)
/-- Whole sequencer-region cycles so far. -/
def State.seqCyc (s : State) : Nat := SMap.val s.time.cyc 0 58 / 5000
def State.now (s : State) : Nat := s.time.ns.toNat

def State.ao (s : State) (k n : Nat) : State := { s with dbg := { s.dbg with ao := SMap.upd s.dbg.ao 0 k (· + n) } }
def State.cnt (s : State) (c : Cid) (k n : Nat) : State :=
  { s with dbg := { s.dbg with cnt := SMap.upd s.dbg.cnt 0 (8 * (s.lead c).val + k) (· + n) } }
/-- A programmable counter's event at a unit (R638). -/
def State.pcEvent (s : State) (ev unit n : Nat) : State :=
  if !s.dbg.pcOn || (s.dbg.stop.isSome && s.flag Fld.DBG_PC_CTL_FREEZE) then s
  else (List.range 16).foldl (fun s i =>
    if s.fld Fld.DBG_PC_SEL_EVENT i == ev && (s.flag Fld.DBG_PC_SEL_ALL i || s.fld Fld.DBG_PC_SEL_UNIT i == unit)
    then s.bump Fld.DBG_PC_CNT_COUNT n i else s) s

/-- Array instructions (R42). -/
def SKind.array : SKind → Bool
  | .mma => true
  | .accload => true
  | .drain => true
  | .ringinj => true
  | .ringret => true
  | _ => false

/-- `u` units of a station's region, counted always and for the context that uses the station. -/
def State.countUse (u : Nat) (i : StationId) (s : State) : State :=
  match s.ownerOf i with
  | some c => (s.ao 1 u).cnt c 1 u
  | none => s.ao 1 u

/-- The time an instruction has stood at the head of a station's queue without issuing. -/
def State.countHead (u : Nat) (i : StationId) (s : State) : State :=
  match (s.stn i).queue.head?.bind s.inst with
  | some x =>
    if has x.issued i then s
    else
      let w := (s.stn i).headWait
      let t := (s.modStn i fun y => { y with headWait := w + u }).cnt x.cid 2 u
      if x.kind.array then t.pcEvent 4 i.val ((w + u) / 5000 - w / 5000) else t
  | none => s

/-- Nanoseconds before time `t` in which quarter `q` of the 4 µs rotation stands (R566). -/
def quarterNs (q t : Nat) : Nat := t / 4000 * 1000 + min 1000 (t % 4000 - 1000 * q)

/-- Of the `dns` ns from now, those in which the input cap gates station group `d` (R566). -/
def State.capNs (s : State) (d dns : Nat) : Nat :=
  if s.pwr.cap && s.domState d != 3 && s.domState d != 0 then quarterNs (d % 4) (s.time.ns.toNat + dns) - quarterNs (d % 4) s.time.ns.toNat
  else 0

/-- `u` units of hold of one cause at a station (R73). -/
def State.holdUnits (u : Nat) (i : StationId) (s : State) (h : HoldCause) : State :=
  let t := (s.stn i).holdCyc + u
  let s := (s.modStn i fun x => { x with holdCyc := t % 5000 }).ao 3 (t / 5000)
  match h with
  | .throttle => s.bump Fld.RING_HOLD_CNT_THROTTLE (t / 5000) i.val
  | .crossing => s.bump Fld.RING_HOLD_CNT_CROSSING (t / 5000) i.val
  | .debug => s

/-- The time a station has been held, by cause: of `u` units, `g` in which the input cap gates its group. Where several causes hold a
station at once the oldest one counts, and the cap's throttle only where no other holds it (DESIGN CHOICE, log entry 114). -/
def State.countHold (u g : Nat) (i : StationId) (s : State) : State :=
  match (s.stn i).hold with
  | [] => if g = 0 then s else s.holdUnits g i .throttle
  | h :: _ => s.holdUnits u i h

/-- A station counts `u` units of its region, `g` of them gated by the input cap. -/
def State.countStn (u g : Nat) (s : State) (k : Nat) : State :=
  let i : StationId := Fin.ofNat 96 k
  ((s.countUse u i).countHead u i).countHold u g i

/-- A region's crossings into it that are in fallback. -/
def State.fallbacks (s : State) (r : Nat) : Nat :=
  if s.time.allFallback || fieldN (s.fld Fld.DBG_PT_XING_REGIONS) r 1 == 1 then 1 else (s.time.fallback.filter fun x => x / 64 == r).length

/-- `u` units of a region on its own counters. -/
def State.countRegion (u r : Nat) (s : State) : State :=
  let fb := s.fallbacks r
  let t : State := { s with time := { s.time with
    cyc := SMap.upd s.time.cyc 0 r (· + u)
    strCyc := if s.stretched r then SMap.upd s.time.strCyc 0 r (· + u) else s.time.strCyc } }
  let t := if fb = 0 then t else t.pcEvent 17 r (fb * u / 5000)
  if r = 58 then t.pcEvent 1 0 (u / 5000) else if s.stretched r then t.pcEvent 18 r (u / 5000) else t

/-- Region `r`'s cycles of `dns` of timebase counted, with what its stations count by them. -/
def advRegion (dns : Nat) (s : State) (r : Nat) : State :=
  let u := s.regionUnits r dns
  if u = 0 then s
  else if 48 ≤ r then s.countRegion u r
  else
    let g := s.regionUnits r (s.capNs (r / 2) dns)
    ((s.countRegion u r).countStn u g (2 * r)).countStn u g (2 * r + 1)

/-- The timebase goes forward by `dns` whole nanoseconds and every running region counts its cycles (R558, R559, R567). -/
def State.advance (s : State) (dns : Nat) : State :=
  if dns = 0 then s
  else
    let s := (List.range 60).foldl (advRegion dns) s
    let cr := if s.pwr.step.toNat > 5 then s.pwr.credit - 5 * dns else min 600000000000 (s.pwr.credit + dns)
    { s with
      time := { s.time with ns := s.time.ns + BitVec.ofNat 64 dns }
      pwr := { s.pwr with credit := cr } }

/-- Forward to a time, never back. -/
def State.advanceTo (s : State) (t : Nat) : State := s.advance (t - s.now)

/-- One cycle of the 100 MHz reference (R558): 10 ns adjusted by the rate correction, with 32 bits of fraction. -/
def State.tick (s : State) : State :=
  if !s.time.counting then s
  else
    let t := s.time.frac.toNat + (10 * 2 ^ 32 * (1000000000 + s.time.corr).toNat) / 1000000000
    let s := s.advance (t / 2 ^ 32)
    { s with time := { s.time with frac := BitVec.ofNat 32 t } }

/-! ### Events and trace (R476, R477, R639 to R644, R692) -/

/-- Where an event comes from (R692). -/
structure Src where
  source : Nat
  unit : Nat
  /-- The hub its trace records go through, where the unit's number alone does not say it. -/
  via : Option HubId := none
  deriving DecidableEq, Repr

def srcDev : Src := { source := 0, unit := 0 }
def srcSurface : Src := { source := 8, unit := 0 }
def srcSeq (c : Cid) : Src := { source := 1, unit := cSeq c }
def srcStn (i : StationId) : Src := { source := 2, unit := i.val }
def srcHub (h : HubId) : Src := { source := 3, unit := h.val }
def srcHbm (n : Nat) : Src := { source := 4, unit := n }
def srcMill (m : Fin 2) : Src := { source := 5, unit := m.val }
def srcIod (d : Nat) : Src := { source := 6, unit := d, via := some (Fin.ofNat 4 d) }
def srcPort (p : PortId) : Src := { source := 6, unit := p.val, via := some (Fin.ofNat 4 (p.val / 12)) }
def srcLlx (dn : Bool) : Src := { source := 7, unit := dn.toNat }

/-- Byte 4 of a frame and byte 10 of a record: sequencer, context, named. -/
def ctxByte (c : Option Cid) : Nat :=
  match c with
  | none => 0
  | some c => cSeq c + 2 * cLow c + 8

/-- A raise is numbered, and queued, merged, masked or lost (R477). -/
def State.enqueue (s : State) (code : BitVec 16) (src : Src) (c : Option Cid) (detail count : Nat) : State :=
  let f : EvFrame := ⟨code, BitVec.ofNat 8 src.source, BitVec.ofNat 8 src.unit, BitVec.ofNat 8 (ctxByte c), s.time.ns,
    BitVec.ofNat 64 (s.fld Fld.SEQ_BELL_NUM_NUMBER), s.llx.evNo, 0, BitVec.ofNat 64 detail⟩
  let l := { s.llx with evNo := s.llx.evNo + 1, recent := (f :: s.llx.recent).take 8 }
  let s := { s with llx := l }
  let cls := bits code 8 8
  if bit (BitVec.ofNat 16 (s.fld Fld.LLX_EVT_MASK_MASK)) cls then s.bump Fld.LLX_EVT_CNT_MASKED
  else
    let alike (g : EvFrame) : Bool := g.code == code && g.source == f.source && g.unit == f.unit
    let merge (g : EvFrame) : EvFrame :=
      if alike g then
        { g with
          rep := if g.rep = BitVec.allOnes 32 then g.rep else g.rep + 1
          detail := if count = 0 then g.detail else BitVec.ofNat 64 (min (2 ^ 64 - 1) (g.detail.toNat + count)) }
      else g
    if l.events.any alike then { s with llx := { l with events := l.events.map merge } }
    else if 256 ≤ l.events.length then
      { s.bump Fld.LLX_EVT_CNT_LOST with llx := { l with evLost := l.evLost + 1 } }
    else { s with llx := { l with events := l.events ++ [f] } }

/-- The hub a source writes its trace records through (R639). -/
def traceHub (src : Src) : HubId :=
  src.via.getD (match src.source with
    | 2 => Fin.ofNat 4 (src.unit / 24)
    | 3 => Fin.ofNat 4 src.unit
    | 4 => if src.unit < 12 then Fin.ofNat 4 (src.unit / 3) else Fin.ofNat 4 (2 * (src.unit - 12))
    | 5 => Fin.ofNat 4 (2 * src.unit)
    | _ => 0)

/-- A trace record's 32 bytes (R640). -/
def traceBytes (time : Word) (src : Src) (c : Option Cid) (typ : Nat) (no : BitVec 32) (payload : List Byte) : List Byte :=
  bytesOf 8 time.toNat ++ [BitVec.ofNat 8 src.source, BitVec.ofNat 8 src.unit, BitVec.ofNat 8 (ctxByte c), BitVec.ofNat 8 typ] ++
    bytesOf 4 no.toNat ++ sliceB payload 0 16

/-- The record passes the filter (R643). -/
def State.tracePass (s : State) (src : Src) (c : Option Cid) (typ : Nat) : Bool :=
  typ == 0xB || typ == 0xC ||
  (fieldN (s.fld Fld.DBG_TR_FILT_TYPES) typ 1 == 1 && fieldN (s.fld Fld.DBG_TR_FILT_SOURCES) src.source 1 == 1 &&
    (match c with
      | none => s.flag Fld.DBG_TR_FILT_NOCTX
      | some c => fieldN (s.fld Fld.DBG_TR_FILT_CTXS) c.val 1 == 1) &&
    (src.source != 2 || (s.fld Fld.DBG_TR_FILT_FIRST ≤ src.unit && src.unit ≤ s.fld Fld.DBG_TR_FILT_LAST)))

/-- A record goes to its hub's buffer, or is dropped when 512 records stand there (R639); the trigger's POST count ends it (R644). -/
def State.traceRec (s : State) (src : Src) (c : Option Cid) (typ : Nat) (payload : List Byte) : State :=
  if !(s.flag Fld.DBG_TR_CFG_EN && s.tracePass src c typ) then s
  else
    let h := traceHub src
    let x := s.hub h
    if x.trPost = some 0 then s
    else if 512 ≤ x.trBuf.length then s.setHub h { x with trNo := x.trNo + 1, trDropped := x.trDropped + 1 }
    else s.setHub h { x with
      trNo := x.trNo + 1
      trBuf := x.trBuf ++ [traceBytes s.time.ns src c typ x.trNo payload]
      trPost := x.trPost.map (· - 1) }

/-- Raise an event, with its EVENT record, the trigger aside. -/
def State.raise0 (s : State) (code : BitVec 16) (src : Src) (c : Option Cid) (detail : Nat) : State :=
  (s.enqueue code src c detail 0).traceRec src c 6 (bytesOf 4 code.toNat ++ bytesOf 4 detail)

def evDbgAllstop : BitVec 16 := 0x0D03

/-- An all-stop is taken (R646): nothing happens while one stands (R649). -/
def State.takeStop (s : State) (ctx : Option Cid) (cause : BitVec 3) : State :=
  match s.dbg.stop with
  | some _ => s
  | none =>
    let s := { s with dbg := { s.dbg with stop := some ⟨ctx, cause⟩ } }
    let s := s.setFld Fld.DBG_STOP_STAT_SCOPE (if ctx.isSome then 1 else 0)
    let s := s.setFld Fld.DBG_STOP_STAT_CAUSE cause.toNat
    (s.bump Fld.DBG_STOP_STAT_STOPS).raise0 evDbgAllstop srcDev ctx 0

/-- The trigger looks at a record (R644), whether or not trace is enabled (DESIGN CHOICE, log entry 141). -/
def State.trigger (s : State) (src : Src) (c : Option Cid) (typ : Nat) : State :=
  if s.flag Fld.DBG_TRIG_EN && !s.flag Fld.DBG_TRIG_FIRED && s.fld Fld.DBG_TRIG_TYPE == typ &&
     s.fld Fld.DBG_TRIG_SOURCE == src.source && s.fld Fld.DBG_TRIG_UNIT == src.unit &&
     (s.flag Fld.DBG_TRIG_CTX_ANY || s.fld Fld.DBG_TRIG_CTX == ctxByte c) then
    let s := s.setFld Fld.DBG_TRIG_FIRED 1
    match s.fld Fld.DBG_TRIG_ACTION with
    | 0 => (List.finRange 4).foldl (fun s h => s.modHub h fun x => { x with trPost := some (s.fld Fld.DBG_TRIG_POST) }) s
    | 1 => if s.dbg.unlocked then s.takeStop none 2 else s
    | 2 => if s.dbg.unlocked then (match c with | some c => s.takeStop (some c) 2 | none => s) else s
    | _ => s
  else s

/-- An all-stop that a command takes; the trigger looks at its event too. -/
def State.stopNow (s : State) (ctx : Option Cid) (cause : BitVec 3) : State :=
  if s.dbg.stop.isSome then s else (s.takeStop ctx cause).trigger srcDev ctx 6

/-- Make a trace record: the trigger looks at it, the filter decides whether it is written. A stopped region makes none. -/
def State.trace (s : State) (src : Src) (c : Option Cid) (typ : Nat) (payload : List Byte) : State :=
  (s.traceRec src c typ payload).trigger src c typ

/-- Raise an event (R477). -/
def State.raise (s : State) (code : BitVec 16) (src : Src) (c : Option Cid := none) (detail : Nat := 0) : State :=
  (s.raise0 code src c detail).trigger src c 6

/-! The event codes (R479). -/
namespace Ev
abbrev CFG_BUSY : BitVec 16 := 0x0101
abbrev CFG_RANGE : BitVec 16 := 0x0102
abbrev UNIT_ABSENT : BitVec 16 := 0x0103
abbrev CFG_HOLDUP_LOW : BitVec 16 := 0x0104
abbrev SEG_OVERRUN : BitVec 16 := 0x0201
abbrev SEG_SLIP : BitVec 16 := 0x0202
abbrev SEG_BUDGET : BitVec 16 := 0x0203
abbrev SEQ_SEAM : BitVec 16 := 0x0204
abbrev SEQ_NO_SEGMENT : BitVec 16 := 0x0205
abbrev SEQ_BANKS : BitVec 16 := 0x0206
abbrev SEQ_NO_RESTART : BitVec 16 := 0x0207
abbrev SEQ_CMD : BitVec 16 := 0x0208
abbrev SEQ_OPCODE : BitVec 16 := 0x0209
abbrev SEQ_GROUP : BitVec 16 := 0x020A
abbrev SEQ_WAIT : BitVec 16 := 0x020B
abbrev SEQ_TAG : BitVec 16 := 0x020C
abbrev SEQ_SLOT : BitVec 16 := 0x020D
abbrev SPLIT_CHARGE : BitVec 16 := 0x020E
abbrev EVAL_PLACE : BitVec 16 := 0x020F
abbrev EVAL_ILLEGAL : BitVec 16 := 0x0210
abbrev RING_SPAN : BitVec 16 := 0x0301
abbrev RING_BANK : BitVec 16 := 0x0302
abbrev RING_RESIDUE_HARD : BitVec 16 := 0x0303
abbrev NUM_MODE : BitVec 16 := 0x0304
abbrev LUT_FORMAT : BitVec 16 := 0x0305
abbrev RNG_STREAM : BitVec 16 := 0x0306
abbrev BNK_HANDLE : BitVec 16 := 0x0401
abbrev BNK_SHAPE : BitVec 16 := 0x0402
abbrev BNK_OVERLAP : BitVec 16 := 0x0403
abbrev BNK_UE : BitVec 16 := 0x0404
abbrev BNK_SCRUB_SLOW : BitVec 16 := 0x0405
abbrev PWR_DEFER : BitVec 16 := 0x0406
abbrev HAUL_QUEUE : BitVec 16 := 0x0501
abbrev HAUL_DESC : BitVec 16 := 0x0502
abbrev HAUL_PROG : BitVec 16 := 0x0503
abbrev HAUL_DIR : BitVec 16 := 0x0504
abbrev HAUL_REARM_BUSY : BitVec 16 := 0x0505
abbrev HAUL_INDEX : BitVec 16 := 0x0506
abbrev HAUL_RECORD : BitVec 16 := 0x0507
abbrev MEM_ALIGN : BitVec 16 := 0x0601
abbrev MEM_RANGE : BitVec 16 := 0x0602
abbrev MEM_UE : BitVec 16 := 0x0603
abbrev SMP_EMPTY : BitVec 16 := 0x0604
abbrev SMP_RECORD : BitVec 16 := 0x0605
abbrev MILL_RECORD : BitVec 16 := 0x0701
abbrev MILL_ENTRY : BitVec 16 := 0x0702
abbrev MILL_COEF : BitVec 16 := 0x0703
abbrev MILL_NONFINITE : BitVec 16 := 0x0704
abbrev MILL_STALE : BitVec 16 := 0x0705
abbrev MILL_FALLBACK : BitVec 16 := 0x0706
abbrev MILL_UE : BitVec 16 := 0x0707
abbrev ALL_FROZEN : BitVec 16 := 0x0708
abbrev BKN_GROUP : BitVec 16 := 0x0801
abbrev BKN_NODE : BitVec 16 := 0x0802
abbrev BKN_SPARE : BitVec 16 := 0x0803
abbrev BKN_LINK_DOWN : BitVec 16 := 0x0804
abbrev BKN_PAIR : BitVec 16 := 0x0805
abbrev BKN_WINDOW : BitVec 16 := 0x0806
abbrev BKN_UNREACH : BitVec 16 := 0x0807
abbrev BKN_PEER_LOST : BitVec 16 := 0x0808
abbrev BKN_LATE_LOST : BitVec 16 := 0x0809
abbrev BKN_FOLD_DROP : BitVec 16 := 0x080A
abbrev BKN_TIME_LOST : BitVec 16 := 0x080B
abbrev LLX_LINK_DOWN : BitVec 16 := 0x0901
abbrev LLX_WR_DENY : BitVec 16 := 0x0902
abbrev LLX_EVT_LOST : BitVec 16 := 0x0903
abbrev RLF_MODE : BitVec 16 := 0x0A01
abbrev BOUND_EXCEEDED : BitVec 16 := 0x0A02
abbrev RLF_PAIR : BitVec 16 := 0x0A03
abbrev RLF_ACTIVATED : BitVec 16 := 0x0A04
abbrev RLF_SLOW : BitVec 16 := 0x0A05
abbrev RLF_ASSAY : BitVec 16 := 0x0A06
abbrev CANARY_RISK : BitVec 16 := 0x0A07
abbrev CLK_STEP : BitVec 16 := 0x0B01
abbrev PWR_LIMIT : BitVec 16 := 0x0B02
abbrev SURGE_SPENT : BitVec 16 := 0x0B03
abbrev THERM_THROTTLE : BitVec 16 := 0x0B04
abbrev THERM_TRIP : BitVec 16 := 0x0B05
abbrev PWR_INPUT : BitVec 16 := 0x0B06
abbrev RST_DONE : BitVec 16 := 0x0C01
abbrev SEC_IMAGE : BitVec 16 := 0x0C02
abbrev CFG_STORE : BitVec 16 := 0x0C03
abbrev TRIM_DEFAULT : BitVec 16 := 0x0C04
abbrev DBG_UNLOCK : BitVec 16 := 0x0D01
abbrev DBG_TOKEN : BitVec 16 := 0x0D02
end Ev

/-- An event raised by a register write: source device, the offset in DETAIL (R692). -/
def State.regEvent (s : State) (code : BitVec 16) (off : Nat) : State := s.raise code srcDev none off

/-- The canary's count of input `i` in the present surface cycle (R491). -/
def State.canary (s : State) (i n : Nat) : State := { s with rlf := { s.rlf with cur := s.rlf.cur.modify i (· + n) } }

end Sys2Proof.Machine
end

