-- ==== Sys2Proof/Machine/RegAcc.lean ====
section
/-! DEFINITION. Register access by code (R10, R13 to R18, R469, R616): finding a register, privilege, what a write meets, and the
writing of one register's fields where the register has no behaviour of its own. -/

namespace Sys2Proof.Machine

/-! ### Privilege (R616) -/

/-- The requester is privileged. -/
def State.privileged (s : State) : Requester → Bool
  | .host => s.flag Fld.SEC_PRIV_HOST
  | .mgmt => s.rst.running.isSome && s.rst.verified
  | .config => true
  | .debug => s.dbg.unlocked
  | .sideband => false

/-! ### What a write meets (R469) -/

/-- The state after a register write, and what parts of it were refused. -/
structure WOut where
  st : State
  denied : Bool := false
  range : Bool := false
  busy : Bool := false

/-- STATUS of a write (R462, R469). -/
def WOut.status (o : WOut) : BitVec 8 := if o.denied then 1 else if o.range then 2 else if o.busy then 3 else 0

/-- The state of the outcome goes on. -/
def WOut.map (o : WOut) (f : State → State) : WOut := { o with st := f o.st }

/-- Discarded with CFG_RANGE. -/
def WOut.outside (o : WOut) (off : Nat) : WOut := { o with st := o.st.regEvent Ev.CFG_RANGE off, range := true }
/-- Refused with UNIT_ABSENT. -/
def WOut.absent (o : WOut) (off : Nat) : WOut := { o with st := o.st.regEvent Ev.UNIT_ABSENT off, range := true }
/-- Rejected with CFG_BUSY. -/
def WOut.reject (o : WOut) (off : Nat) : WOut := { o with st := o.st.regEvent Ev.CFG_BUSY off, busy := true }
/-- Refused for privilege, and counted (R15, R657). -/
def WOut.refuse (o : WOut) : WOut := { o with st := o.st.bump Fld.DBG_STATUS_REFUSALS, denied := true }

/-- A write that only a privileged requester makes. -/
def State.privWrite (s : State) (who : Requester) (body : WOut → WOut) : WOut :=
  if s.privileged who then body { st := s } else WOut.refuse { st := s }

/-- A write whose whole register is fixed while its block runs (RWS). -/
def State.stoppedWrite (s : State) (busy : Bool) (off : Nat) (body : WOut → WOut) : WOut :=
  if busy then WOut.reject { st := s } off else body { st := s }

/-! ### Finding a register -/

/-- The index pair of the offset in a register family. -/
def RegDef.index (d : RegDef) (off : Nat) : Option (Nat × Nat) :=
  let o := off - d.base
  if off < d.base then none
  else if d.c2 ≤ 1 then
    if d.c1 ≤ 1 then (if o = 0 then some (0, 0) else none)
    else if o % d.s1 = 0 && o / d.s1 < d.c1 then some (o / d.s1, 0) else none
  else if o % d.s1 % d.s2 = 0 && o % d.s1 / d.s2 < d.c2 && o / d.s1 < d.c1 then some (o / d.s1, o % d.s1 / d.s2) else none

/-- The register at an offset and its indices. -/
def regAt (off : Nat) : Option (RegDef × Nat × Nat) :=
  (regBlock (off / 2 ^ 20)).findSome? fun d => (d.index off).map fun p => (d, p)

/-- The unit of a register's `i`-th one is fitted (R10, R11). -/
def Reg.fitted (r : Reg) (v : Variant) (i : Nat) : Bool :=
  match r with
  | .MEM_HC_ECC => domFitted v (if i < 12 then 24 + i else 42 + (i - 12))
  | .MEM_HC_ERRADDR => domFitted v (if i < 12 then 24 + i else 42 + (i - 12))
  | .MILL_CTX_ENTRY => v.hasMill 0
  | .MILL_STATUS => v.hasMill i
  | .MILL_CNT_UPD => v.hasMill i
  | .MILL_CNT_FROZEN => v.hasMill i
  | .MILL_CNT_NF => v.hasMill i
  | .MILL_CNT_KRON => v.hasMill i
  | .MILL_CNT_FOLD => v.hasMill i
  | .MILL_UE_ADDR => v.hasMill i
  | .MILL_PURGE => v.hasMill i
  | .BKN_P_STATUS => v.hasIod (i / 12)
  | .BKN_P_CFG => v.hasIod (i / 12)
  | .BKN_P_CNT => v.hasIod (i / 12)
  | .CLK_R_CNT => domFitted v (regionDom i)
  | .CLK_R_STAT => domFitted v (regionDom i)
  | _ => true

/-! ### The cells of a register -/

/-- The reset value of the cell of a field at an offset. -/
def cellDflt (v : Variant) (off : Nat) (f : FieldDef) : Word :=
  if 0xB00100 ≤ off ∧ off < 0xB00150 then Fld.dflt ⟨0xB00100, 8, 0, f.lo, f.width, f.reset⟩ v ((off - 0xB00100) / 8)
  else Fld.dflt ⟨off, 0, 0, f.lo, f.width, f.reset⟩ v 0

def cellKey (off : Nat) (f : FieldDef) : Nat := off * 64 + f.lo

def State.cell (s : State) (off : Nat) (f : FieldDef) : Nat := (SMap.val s.regs (cellDflt s.variant off f) (cellKey off f)).toNat

def State.setCell (s : State) (off : Nat) (f : FieldDef) (v : Nat) : State :=
  { s with regs := SMap.put s.regs (cellDflt s.variant off f) (cellKey off f) (BitVec.ofNat 64 (v % 2 ^ f.width)) }

/-- One field of a write, by its access code (R15, R18); `busy`: the block runs, `locked`: its lock is set. -/
def fieldWrite (who : Requester) (off : Nat) (busy locked : Bool) (v : Word) (o : WOut) (f : FieldDef) : WOut :=
  let x := bits v f.lo f.width
  let put := o.map fun s => s.setCell off f x
  match f.acc with
  | .ro => o
  | .wo => o
  | .rw => put
  | .w1c => o.map fun s => s.setCell off f ((BitVec.ofNat 64 (s.cell off f) &&& ~~~BitVec.ofNat 64 x).toNat)
  | .rwp => if o.st.privileged who then put else { o with denied := true }
  | .rws => if busy then { o with busy := true } else put
  | .rwl => if locked then { o with denied := true } else put
  | .rwb => o.map fun s => { s with shadow := SMap.put s.shadow none (cellKey off f) (some (BitVec.ofNat 64 x)) }

/-- The write of a register's fields; a refusal is counted, a rejected field raises CFG_BUSY, once a write. -/
def State.regFields (s : State) (who : Requester) (d : RegDef) (off : Nat) (busy locked : Bool) (v : Word) : WOut :=
  let o := d.fields.foldl (fieldWrite who off busy locked v) { st := s }
  let refused := d.fields.any (fun f => f.acc == .rwp) && !s.privileged who
  let o := if refused then o.map (·.bump Fld.DBG_STATUS_REFUSALS) else o
  if o.busy then o.map (·.regEvent Ev.CFG_BUSY off) else o

/-- The register at an offset written by its access codes alone; an offset without a register takes no write. -/
def State.regPlain (s : State) (who : Requester) (off : Nat) (busy locked : Bool) (v : Word) : WOut :=
  match regAt off with
  | none => { st := s }
  | some (d, i, _) => if d.reg.fitted s.variant i then s.regFields who d off busy locked v else { st := s }

end Sys2Proof.Machine
end

