-- ==== Sys2Proof/Machine/Link.lean ====
section
/-! DEFINITION. The link layer of the Berken and Lalux ports: frames and flits (R394 to R400, R457 to R459), retry (R401, R402),
lane sparing and failover (R403, R404), pairing (R405), the port's registers (R452 to R454). A Lalux port that is up stands as
`paired`. -/

namespace Sys2Proof.Machine

/-! ### Ports -/

/-- Torus direction of a port: 0 x+, 1 x−, 2 y+, 3 y−, 4 z+, 5 z− (R390). -/
def dirOf (p : PortId) : Nat := p.val % 12 / 2
def sibling (p : PortId) : PortId := ⟨if p.val % 2 = 0 then p.val + 1 else p.val - 1, by have := p.isLt; split <;> omega⟩
def oppDir (d : Nat) : Nat := if d % 2 = 0 then d + 1 else d - 1
/-- The peer's port of a cable (R391). -/
def peerPort (p : PortId) : Nat := p.val - 2 * dirOf p + 2 * oppDir (dirOf p)

end Sys2Proof.Machine

namespace Sys2Proof
open Sys2Proof.Machine

def LinkPort.src : LinkPort → Src
  | .berken p => srcPort p
  | .llxUp => srcLlx false
  | .llxDn => srcLlx true

/-- The number of a message's flits (R396). -/
def FMsg.flits (m : FMsg) : Nat := 1 + ceilDiv (m.data.length - 192) 256

def Flit.isData : Flit → Bool
  | .dataFlit _ _ _ => true
  | _ => false

def LinkPort.isLlx : LinkPort → Bool
  | .berken _ => false
  | _ => true

/-- The channel of a Lalux flit by its type (R461). -/
def LFlit.chan (f : LFlit) : Nat := if f.typ = 0xC || f.typ = 0xD then 1 else if f.typ = 0xE then 2 else 0

end Sys2Proof

namespace Sys2Proof.Machine

/-- The port's unit is fitted and out of reset, and the release order has released the ports (R593, R595). -/
def State.portOn (s : State) : LinkPort → Bool
  | .berken p => s.domOn (36 + p.val / 12) && s.rst.step == 11
  | _ => s.domOn 48 && 10 ≤ s.rst.step

/-- The link is up: frames go both ways. -/
def Port.up (x : Port) : Bool := x.st == .paired || x.st == .pairing

/-- A counter of the port's link counters: CORRECTED, UNCORR, RETRIES, RETRAINS (R454, R488). -/
def State.portCnt (s : State) (p : LinkPort) (k n : Nat) : State :=
  match p with
  | .berken p =>
    match k with
    | 0 => s.bump Fld.BKN_P_CNT_CORRECTED n p.val
    | 1 => s.bump Fld.BKN_P_CNT_UNCORR n p.val
    | 2 => s.bump Fld.BKN_P_CNT_RETRIES n p.val
    | 3 => s.bump Fld.BKN_P_CNT_RETRAINS n p.val
    | _ => s.bump Fld.BKN_P_CNT_PROTO n p.val
  | q =>
    let i := match q with | .llxDn => 1 | _ => 0
    match k with
    | 0 => s.bump Fld.LLX_P_CNT_CORRECTED n i
    | 1 => s.bump Fld.LLX_P_CNT_UNCORR n i
    | 2 => s.bump Fld.LLX_P_CNT_RETRIES n i
    | 3 => s.bump Fld.LLX_P_CNT_RETRAINS n i
    | _ => s.bump Fld.LLX_P_CNT_BADFLIT n i

def State.modPort (s : State) (p : LinkPort) (f : Port → Port) : State := s.setPort p (f (s.port p))

/-- Flits of a VL's class in a receive buffer, hence the credits at link-up (R399, R441, R465). -/
def State.vlShare (s : State) (p : LinkPort) (vl : Nat) : Nat :=
  match p with
  | .berken _ =>
    match vl with
    | 0 => s.fld Fld.BKN_VL_CFG_VL0
    | 1 => s.fld Fld.BKN_VL_CFG_VL1
    | 2 => s.fld Fld.BKN_VL_CFG_VL2
    | 3 => s.fld Fld.BKN_VL_CFG_VL3
    | 4 => s.fld Fld.BKN_VL_CFG_VL4
    | 5 => s.fld Fld.BKN_VL_CFG_VL5
    | 6 => s.fld Fld.BKN_VL_CFG_VL6
    | _ => s.fld Fld.BKN_VL_CFG_VL7
  | _ => if vl = 0 then 128 else if vl = 1 then 128 else if vl = 2 then 32 else 0

def State.fullCredits (s : State) (p : LinkPort) : SMap Nat :=
  (List.range 32).foldl (fun m k =>
    SMap.put m 0 k (match p with | .berken _ => s.vlShare p (k / 4) | _ => if k % 4 = 0 then s.vlShare p (k / 4) else 0)) []

/-! ### Failover and link-up (R401, R404) -/

/-- Messages on a link, newest first, with `n` of their latest flits of the VL and class taken back. -/
def rewindMsgs : Nat → List TxMsg → List TxMsg
  | _, [] => []
  | n, m :: t => { m with sent := m.sent - n } :: rewindMsgs (n - min n m.sent) t

/-- Unacknowledged data flits of a VL and class. -/
def Port.unacked (x : Port) (vl cls : Nat) : Nat :=
  ((x.replay.flatMap (·.2)).filter fun f => match f with
    | .dataFlit _ v c => v.toNat == vl && c.toNat == cls
    | _ => false).length

/-- Everything the port has still to carry, oldest first, as if no unacknowledged flit had been sent (R404). -/
def Port.pendingMsgs (x : Port) : List TxMsg :=
  let all := x.flight.map (·.2) ++ x.tx
  let fixed := (List.range 32).flatMap fun k =>
    let mine := all.filter fun m => 4 * m.msg.vl.toNat + m.cls.toNat == k
    -- a message not begun stays as it is; of those begun, the latest flits are taken back
    (rewindMsgs (x.unacked (k / 4) (k % 4)) mine.reverse).reverse
  fixed

/-- A message of the link itself: it stays with its port. -/
def TxMsg.ofLink (m : TxMsg) : Bool := m.msg.kind == 8

/-- The port's traffic goes to its sibling if that runs (R404). -/
def State.failover (s : State) (p : LinkPort) : State :=
  match p with
  | .berken q =>
    let x := s.bport q
    let y := s.bport (sibling q)
    if y.st == .paired then
      (s.setBport (sibling q) { y with tx := y.tx ++ x.pendingMsgs.filter fun m => !m.ofLink }).setBport q
        { x with tx := [], flight := [], replay := [], resend := [] }
    else s
  | _ => s

/-- A position one step in a direction (R409). -/
def State.neighbour (s : State) (pos : NodeId) (dir : Nat) : NodeId :=
  let step (v n : Nat) : Nat := if dir % 2 = 0 then (v + 1) % (n + 1) else (v + n) % (n + 1)
  let x := bits pos 11 6
  let y := bits pos 5 6
  let z := bits pos 0 5
  let xs := s.fld Fld.BKN_TORUS_XS
  let ys := s.fld Fld.BKN_TORUS_YS
  let zs := s.fld Fld.BKN_TORUS_ZS
  match dir / 2 with
  | 0 => BitVec.ofNat 17 (step x xs * 2048 + y * 32 + z)
  | 1 => BitVec.ofNat 17 (x * 2048 + step y ys * 32 + z)
  | _ => BitVec.ofNat 17 (x * 2048 + y * 32 + step z zs)

def State.ownPos (s : State) : NodeId := BitVec.ofNat 17 (s.fld Fld.BKN_TORUS_POS)
def State.ownId (s : State) : NodeId := BitVec.ofNat 17 (s.fld Fld.BKN_TORUS_ID)

/-- The device's public key: bytes of SEC_PUBKEY. -/
def State.pubKey (s : State) : List Byte := (List.range 4).flatMap fun k => bytesOf 8 (s.fld Fld.SEC_PUBKEY_KEY k)

/-- A port-pairing message of step 1 or 3 (R405) joins the port's queue: word 1 identity [16:0], position [33:17], port [39:34], step
[41:40] (DESIGN CHOICE, log entry 132). -/
def State.pairMsg (s : State) (p : PortId) (step : Nat) (data : List Byte) : State :=
  let w1 := s.ownId.toNat + s.ownPos.toNat * 2 ^ 17 + p.val * 2 ^ 34 + step * 2 ^ 40
  let m : FMsg := ⟨s.neighbour s.ownPos (dirOf p), s.ownId, 5, false, 8, BitVec.ofNat 2 (p.val / 12), BitVec.ofNat 64 w1, 0, 0, 0, 0, 0, 0, data⟩
  s.modPort (.berken p) fun x => { x with tx := x.tx ++ [{ msg := m, cls := 0 }] }

/-- Step 1 of pairing: the device's key, the authority's signature over it, and a nonce of 32 bytes. The signature and the nonce are free
values: neither is given. -/
def State.pairHello (s : State) (p : PortId) : State :=
  let r := (List.range 12).foldl (fun (a : List Byte × State) _ => let q := a.2.takeFree; (a.1 ++ bytesOf 8 q.1.toNat, q.2)) ([], s)
  r.2.pairMsg p 1 (s.pubKey ++ r.1)

/-- Step 3 of pairing: a signature over both nonces and both positions, a free value. -/
def State.pairSign (s : State) (p : PortId) : State :=
  let r := (List.range 8).foldl (fun (a : List Byte × State) _ => let q := a.2.takeFree; (a.1 ++ bytesOf 8 q.1.toNat, q.2)) ([], s)
  r.2.pairMsg p 3 r.1

/-- The link comes up: frames are numbered from 0 and what was not acknowledged is to be sent again. A port that begins pairing sends step
1 of it. -/
def State.linkUp (s : State) (p : LinkPort) (st : PortSt) (lanes : BitVec 8) : State :=
  let x := s.port p
  let msgs := x.pendingMsgs.filter fun m => !m.ofLink
  let s := match p with
    | .llxUp => { s with llx := { s.llx with upq := (s.llx.upFlight.map fun (f : BitVec 16 × LFlit) => f.2) ++ s.llx.upq, upFlight := [] } }
    | .llxDn => { s with llx := { s.llx with dnq := (s.llx.dnFlight.map fun (f : BitVec 16 × LFlit) => f.2) ++ s.llx.dnq, dnFlight := [] } }
    | .berken _ => s
  s.setPort p { x with
    st := st, lanes := lanes, txNo := 0, rxNo := 0, replay := [], resend := [], flight := [], tx := msgs, frames := 0
    sinceCtl := 0, sinceVl5 := 15, ctlDue := false, nak := none, nakCnt := 0, credits := s.fullCredits p, owed := [], fullSince := none
    rx := [], cws := 0, weak := [], keepPair := false } |> fun s => match p with
      | .berken q => if st == .pairing then s.pairHello q else s
      | _ => s

/-- The port retrains (R402, R403): counted, reported to the canary. -/
def State.retrain (s : State) (p : LinkPort) : State :=
  let x := s.port p
  if x.up then
    let s := ((s.setPort p { x with st := .retraining, downSince := s.now, everUp := x.everUp || x.st == .paired, keepPair := x.st == .paired }).portCnt p 3 1).canary 4 64
    let s := match p with
      | .berken _ => s
      | q => s.raise Ev.LLX_LINK_DOWN q.src
    s.failover p
  else s

/-! ### Receiving (R401) -/

/-- What a frame's flits fill: the port's receive buffer (R399). A Lalux flit goes on to the queues of the ports, or to the unit it is for,
at once: its credit is owed (DESIGN CHOICE, log entry 133). -/
def owe (llx : Bool) (m : SMap Nat) : Flit → SMap Nat
  | .dataFlit _ vl cls => if llx && 3 ≤ vl.toNat then m else SMap.upd m 0 (4 * vl.toNat + cls.toNat) (· + 1)
  | _ => m

/-- `n` flits of a VL and class leave the receive buffer: their credits are owed (R399). -/
def State.leaveBuf (s : State) (p : PortId) (vl : BitVec 3) (cls : BitVec 2) (n : Nat) : State :=
  let k := 4 * vl.toNat + cls.toNat
  let n := min n (SMap.val (s.bport p).rx 0 k)
  s.modPort (.berken p) fun x => { x with rx := SMap.upd x.rx 0 k (· - n), owed := SMap.upd x.owed 0 k (· + n) }

/-- The codewords of the window of R403. -/
def weakWindow : Nat := 2 ^ 20

/-- A frame's corrected symbols, lane by lane, enter the window of the last 2^20 codewords. -/
def Port.symbols (x : Port) (sym : List Nat) : Port :=
  let n := x.cws + 2
  let new := ((sym.zip (List.range 4)).filter fun q => q.1 != 0).map fun q => (n, q.2, q.1)
  { x with cws := n, weak := (x.weak.filter fun e => n < e.1 + weakWindow) ++ new }

/-- A lane is weak: its corrected symbols in 2^20 codewords exceed SPARE_THR (R403). -/
def State.laneWeak (s : State) (p : PortId) (lane : Nat) : Bool :=
  s.fld Fld.BKN_P_CFG_SPARE_THR p.val < (((s.bport p).weak.filter fun e => e.2.1 == lane).map fun e => e.2.2).sum

/-- FRAME_RECEIVE (R394, R401, R403). `no` is the frame's number by the sender's count. A Lalux flit on a reserved channel is counted here
(R459). -/
def execFrameReceive (p : LinkPort) (no : BitVec 16) (cwA cwB : Fec) (frame : RxFrame) (s : State) : Host.Outcome State Fault Refusal :=
  let x := s.port p
  let flits := frame.flits
  if !x.up || !s.portOn p then .next s
  else
    let cnt (f : Fec) : Nat := ([cwA, cwB].filter (· == f)).length
    let s := ((s.portCnt p 0 (cnt .corrected)).canary 6 (cnt .corrected)).portCnt p 1 (cnt .uncorrectable)
    let s := s.modPort p fun x => x.symbols frame.sym
    if no ≠ x.rxNo then .next s
    else if cwA == .uncorrectable || cwB == .uncorrectable then
      .next (s.modPort p fun x => { x with nak := some x.rxNo, ctlDue := true })
    else
      let odd := if p.isLlx then (flits.filter fun (f : Flit) => match f with | .dataFlit _ vl _ => decide (3 ≤ vl.toNat) | _ => false).length else 0
      .next ((s.portCnt p 4 odd).modPort p fun x => { x with
        rxNo := x.rxNo + 1, nak := none
        owed := if p.isLlx then flits.foldl (owe true) x.owed else x.owed
        rx := if p.isLlx then x.rx else flits.foldl (owe false) x.rx })

/-- An untallied device keeps its DN port untrained, once what it had still to pass on has arrived there (R466, R467). -/
def State.releaseDn (s : State) : State :=
  if s.llx.tally = 0 && (s.llx.dn.st != .paired || (s.llx.dnq.isEmpty && s.llx.dnFlight.isEmpty)) then
    { s with llx := { s.llx with dn := {}, dnq := [], dnFlight := [] } }
  else s

/-- CONTROL_FLIT (R400, R401): credits return, acknowledged frames leave the replay buffer, a NAK is counted. -/
def execControlFlit (p : LinkPort) (ctl : Control) (s : State) : Host.Outcome State Fault Refusal :=
  let x := s.port p
  if !x.up || !s.portOn p then .next s
  else
    let step := if p.isLlx then 4 else 1
    let credits := (ctl.credits.zip (List.range ctl.credits.length)).foldl (fun m c => SMap.upd m 0 (step * c.2) (· + c.1.toNat)) x.credits
    let acked (n : BitVec 16) : Bool := (ctl.ack - n).toNat < 32768
    let keep {α : Type} (l : List (BitVec 16 × α)) : List (BitVec 16 × α) := l.filter fun f => !acked f.1
    let again := ctl.nak && x.nakNo == ctl.nakNo
    let cnt := if ctl.nak then (if again then x.nakCnt + 1 else 1) else x.nakCnt
    let s := s.setPort p { x with
      credits := credits, replay := keep x.replay, resend := keep x.resend, flight := keep x.flight
      fullSince := if (keep x.replay).length < 192 then none else x.fullSince
      nakNo := if ctl.nak then ctl.nakNo else x.nakNo, nakCnt := cnt }
    let s := match p with
      | .llxUp => { s with llx := { s.llx with upFlight := keep s.llx.upFlight } }
      | .llxDn => ({ s with llx := { s.llx with dnFlight := keep s.llx.dnFlight } } : State).releaseDn
      | .berken _ => s
    .next (if ctl.nak && 8 ≤ cnt then s.retrain p else s)

/-- LINK_REPLAY (R401): frames from the one named are sent again. -/
def execLinkReplay (p : LinkPort) (no : BitVec 16) (s : State) : Host.Outcome State Fault Refusal :=
  let x := s.port p
  if !x.up || !s.portOn p || !x.replay.any (fun f => f.1 == no) then .next s
  else
    let s := ((s.setPort p { x with resend := x.replay.dropWhile fun f => f.1 != no }).portCnt p 2 1).canary 4 1
    .next (match p with
      | .berken q => s.pcEvent 14 q.val 1
      | _ => s)

/-! ### Link state -/

/-- LINK_DOWN (R402): eight NAKs of one frame, a loss of lock, or a replay buffer stuck full. -/
def execLinkDown (p : LinkPort) (s : State) : Host.Outcome State Fault Refusal := .next (s.retrain p)

/-- A Berken port is down: it runs on no lanes. -/
def State.takeDown (s : State) (p : PortId) : State :=
  let x := s.bport p
  (s.setBport p { x with
    st := .down, lanes := 0, spared := false, downSince := s.now, everUp := x.everUp || x.st == .paired
    keepPair := x.st == .paired || (x.st == .retraining && x.keepPair) }).failover (.berken p)

/-- LANE_SPARE (R403): a lane that has lost its signal, or is weak; a port left with fewer than three lanes is down. -/
def execLaneSpare (p : PortId) (lane : LaneFail) (s : State) : Host.Outcome State Fault Refusal :=
  let x := s.bport p
  let bitOf : BitVec 8 := 1#8 <<< lane.lane.val
  if !x.up || x.lanes &&& bitOf = 0 || !(lane.lost || s.laneWeak p lane.lane.val) then .next s
  else
    let left := x.lanes &&& ~~~bitOf
    if x.spared then .next ((s.takeDown p).raise Ev.BKN_LINK_DOWN (srcPort p))
    else .next ((s.setBport p { x with lanes := left }).retrain (.berken p))

def laneCount (x : BitVec 8) : Nat := ((List.range 8).filter fun i => bit x i).length

/-- A port that is paired takes over what its sibling still holds and cannot send (R404). -/
def State.takeOver (s : State) (p : PortId) : State :=
  if (s.bport (sibling p)).st == .paired then s else s.failover (.berken (sibling p))

/-- LINK_RETRAIN_DONE (R402, R403, R405, R456): the lanes that are in lock. A Berken port keeps a lane out until a commanded retrain; a
Lalux port that has lost a lane is down until it retrains on all eight. -/
def execLinkRetrainDone (p : LinkPort) (lanes : BitVec 8) (s : State) : Host.Outcome State Fault Refusal :=
  let x := s.port p
  if !(x.st == .retraining || (p.isLlx && x.st == .down && x.everUp)) || !s.portOn p then .next s
  else
    match p with
    | .berken q =>
      let l := lanes &&& x.lanes &&& 0xF
      if laneCount l < 3 then
        .next ((s.setBport q { x with st := .down, lanes := 0, spared := false }).raise Ev.BKN_LINK_DOWN (srcPort q))
      else
        let st := if x.keepPair && s.now ≤ x.downSince + 10 ^ 9 then PortSt.paired else .pairing
        let s := (s.linkUp p st l).modPort p fun x => { x with spared := laneCount l == 3, pairFail := none }
        let s := if st == .paired then s.takeOver q else s
        .next (if laneCount l = 3 && !x.spared then s.raise Ev.BKN_SPARE (srcPort q) else s)
    | _ => .next (if lanes = 0xFF then s.linkUp p .paired lanes else s.setPort p { x with st := .down, lanes := lanes })

/-- BKN_RETRAIN_CMD (R453): a retrain on all four lanes, of a port that runs, retrains on fewer, or is down for want of lanes. A port that
trains does so on all four. -/
def State.retrainCmd (s : State) (p : PortId) : State :=
  let all (s : State) : State := s.modPort (.berken p) fun x => { x with lanes := 0xF, spared := false }
  let x := s.bport p
  if x.up then all ((all s).retrain (.berken p))
  else if x.st == .retraining then all s
  else if x.st == .down && s.flag Fld.BKN_P_CFG_EN p.val && s.portOn (.berken p) then
    (all s).modPort (.berken p) fun x => { x with st := .retraining }
  else s

def execBknRetrainCmd (p : PortId) (s : State) : Host.Outcome State Fault Refusal := .next (s.retrainCmd p)

/-- A port held down, or let train (R453). -/
def State.portEnable (s : State) (p : PortId) (en : Bool) : State :=
  let x := s.bport p
  let s := s.setFld Fld.BKN_P_CFG_EN en.toNat p.val
  if !en then
    if x.st == .down then s else (s.takeDown p).modPort (.berken p) fun x => { x with peer := 0 }
  else if x.st == .down && s.portOn (.berken p) then s.setBport p { x with st := .training, spared := false }
  else s

/-- PORT_EN_WRITE (R453). -/
def execPortEnWrite (_who : Requester) (p : PortId) (en : Bool) (s : State) : Host.Outcome State Fault Refusal :=
  .next (if s.variant.hasIod (p.val / 12) then s.portEnable p en else s)

/-- LINK_TRAINING_DONE (R405, R456): the first training after a release; a Berken port begins pairing. -/
def execLinkTrainingDone (p : LinkPort) (s : State) : Host.Outcome State Fault Refusal :=
  if (s.port p).st != .training || !s.portOn p then .next s
  else
    let s := match p with
      | .berken _ => s.linkUp p .pairing 0xF
      | _ => s.linkUp p .paired 0xFF
    .next (s.modPort p fun x => { x with spared := false, everUp := false, pairFail := none })

/-! ### Sending (R400, R465) -/

/-- Replace entry `i`. -/
def setAt {α : Type} (l : List α) (i : Nat) (v : α) : List α := l.set i v

/-- The first message that may send a flit among those that `ok` admits: it is the oldest of its VL and class and a credit is
held (R399). -/
def Port.ready (x : Port) (ok : TxMsg → Bool) : Option Nat :=
  let key (m : TxMsg) : Nat := 4 * m.msg.vl.toNat + m.cls.toNat
  (List.range x.tx.length).find? fun i =>
    match x.tx[i]? with
    | some m => ok m && 0 < SMap.val x.credits 0 (key m) && !((x.tx.take i).any fun y => key y == key m)
    | none => false

/-- A flit that a port sends: the port after it, and the message it belongs to, as it stood before. -/
structure FlitOut where
  port : Port
  flit : Flit
  of : Option TxMsg := none

/-- A message's next flit goes out in frame `no`. -/
def Port.sendAt (x : Port) (i : Nat) (no : BitVec 16) : FlitOut :=
  match x.tx[i]? with
  | none => ⟨x, .idle, none⟩
  | some m =>
    let k := 4 * m.msg.vl.toNat + m.cls.toNat
    let n := { m with sent := m.sent + 1, freed := max m.freed (m.sent + 1) }
    let x := { x with credits := SMap.upd x.credits 0 k (· - 1) }
    let x := if m.msg.flits ≤ n.sent then { x with tx := x.tx.eraseIdx i, flight := x.flight ++ [(no, n)] } else { x with tx := setAt x.tx i n }
    ⟨x, .dataFlit (m.sent == 0) m.msg.vl m.cls, some m⟩

/-- The VLs of the round robin, in its order. -/
def rrVls : List Nat := [1, 2, 3, 4, 6]

/-- The weight of a VL (R442). -/
def State.arbWeight (s : State) (vl : Nat) : Nat :=
  max 1 (match vl with
    | 1 => s.fld Fld.BKN_ARB_W1
    | 2 => s.fld Fld.BKN_ARB_W2
    | 3 => s.fld Fld.BKN_ARB_W3
    | 4 => s.fld Fld.BKN_ARB_W4
    | _ => s.fld Fld.BKN_ARB_W6)

/-- The control flit a port sends: credits to return, ACK, NAK (R400, R401). -/
def Port.control (x : Port) (llx : Bool) : Control :=
  ⟨(List.range (if llx then 3 else 32)).map fun k => BitVec.ofNat 12 (SMap.val x.owed 0 (if llx then 4 * k else k)), x.rxNo - 1,
    x.nak.isSome, x.nak.getD 0⟩

/-- A control flit is due (R400, R458): at once after a NAK, else once in 16 frames, an alignment frame among them. -/
def Port.wantsCtl (x : Port) : Bool := x.ctlDue || 15 ≤ x.sinceCtl || (x.sinceCtl == 14 && x.frames % 4096 == 4094)

def Port.sendCtl (x : Port) (llx : Bool) : Port :=
  { x with ctlSent := some (x.control llx), owed := [], ctlDue := false, sinceCtl := 0 }

/-- The next flit of a Berken port (R400); before pairing only control and idle flits and port-pairing messages (R405). -/
def State.nextFlit (s : State) (x : Port) (no : BitVec 16) : FlitOut :=
  if x.wantsCtl then ⟨{ x.sendCtl false with sinceVl5 := x.sinceVl5 + 1 }, .control, none⟩
  else
    let up (r : FlitOut) : FlitOut := { r with port := { r.port with sinceVl5 := x.sinceVl5 + 1 } }
    let paired := x.st == .paired
    let vl5 (m : TxMsg) : Bool := m.msg.vl == 5 && (paired || m.ofLink)
    match (if paired then x.ready (·.msg.vl == 0) else none), (if 15 ≤ x.sinceVl5 then x.ready vl5 else none) with
    | some i, _ => up (x.sendAt i no)
    | none, some i => let r := x.sendAt i no; { r with port := { r.port with sinceVl5 := 0 } }
    | none, none =>
      if !paired then up ⟨x, .idle, none⟩
      else
        let quota (x : Port) (j : Nat) : Nat := x.wrr.getD j 0
        let pick (x : Port) : Option (Nat × Nat) := (List.range 5).findSome? fun j =>
          if quota x j = 0 then none else (x.ready fun m => m.msg.vl.toNat == rrVls.getD j 1).map fun i => (j, i)
        let full := { x with wrr := rrVls.map s.arbWeight }
        let go (x : Port) (c : Nat × Nat) : FlitOut := up ({ x with wrr := x.wrr.modify c.1 (· - 1) }.sendAt c.2 no)
        match pick x with
        | some c => go x c
        | none => match pick full with
          | some c => go full c
          | none => up ⟨x, .idle, none⟩

/-- The flit a Lalux port sends next: responses, then events, then requests (R465). On UP, `own` flits take one place in
CHAIN − TALLY + 1 within a channel. -/
def llxPick (q : List LFlit) (credits : SMap Nat) (own : LFlit → Bool) (share : Nat) (ratio : SMap Nat) : Option Nat :=
  [1, 2, 0].findSome? fun ch =>
    if SMap.val credits 0 (4 * ch) = 0 then none
    else
      let at' (w : Bool) : Option Nat := (List.range q.length).find? fun i => match q[i]? with
        | some f => f.chan == ch && own f == w
        | none => false
      if share ≤ SMap.val ratio 0 ch then (at' true).or (at' false) else (at' false).or (at' true)

/-- One flit of a Lalux port. -/
def State.llxFlit (s : State) (dn : Bool) (no : BitVec 16) : State × Flit :=
  let p := if dn then LinkPort.llxDn else .llxUp
  let x := s.port p
  if x.wantsCtl then (s.setPort p (x.sendCtl true), .control)
  else
    let own (f : LFlit) : Bool := f.src == s.llx.tally
    let q := if dn then s.llx.dnq else s.llx.upq
    let share := if dn then 0 else s.fld Fld.LLX_CFG_CHAIN - s.llx.tally.toNat
    match llxPick q x.credits own share s.llx.ratio with
    | none => (s, .idle)
    | some i =>
      match q[i]? with
      | none => (s, .idle)
      | some f =>
        let ch := f.chan
        let s := s.setPort p { x with credits := SMap.upd x.credits 0 (4 * ch) (· - 1) }
        let l := s.llx
        let l := if dn then { l with dnq := l.dnq.eraseIdx i, dnFlight := l.dnFlight ++ [(no, f)] }
          else
            let ratio := if own f then SMap.put l.ratio 0 ch 0 else SMap.upd l.ratio 0 ch (· + 1)
            { l with upq := l.upq.eraseIdx i, upFlight := l.upFlight ++ [(no, f)], ratio := ratio }
        ({ s with llx := l }, .dataFlit true (BitVec.ofNat 3 ch) 0)

/-- Flits a context's collectives sent (R637) and the always-on and programmable counts (R635, R638). -/
def State.countFlits (s : State) (p : LinkPort) (flits : List Flit) : State :=
  let n := (flits.filter (· != .idle)).length
  match p with
  | .berken q => (s.ao 6 n).pcEvent 13 q.val n
  | _ => s.ao 7 n

/-- A frame of flits goes out. -/
def State.putFrame (s : State) (p : LinkPort) (no : BitVec 16) (flits : List Flit) : State :=
  (s.modPort p fun x => { x with
    txNo := no + 1, replay := x.replay ++ [(no, flits)], frames := x.frames + 1, sinceCtl := if flits.contains .control then 0 else x.sinceCtl + 1
    tags := flits.map Flit.tag
    fullSince := if 192 ≤ x.replay.length + 1 then some (x.fullSince.getD s.now) else none }).countFlits p flits

/-- An alignment frame goes out (R394): it carries no flits and has no number. -/
def State.putAlign (s : State) (p : LinkPort) : State :=
  s.modPort p fun x => { x with frames := x.frames + 1, sinceCtl := x.sinceCtl + 1, tags := [] }

/-- A frame goes out again (R401). A control flit in it carries the retry fields of now; where one is due and the frame has none, it takes
the place of an idle flit (DEDUCED, log entry 134). -/
def State.putAgain (s : State) (p : LinkPort) (f : BitVec 16 × List Flit) (rest : List (BitVec 16 × List Flit)) : State :=
  let x := s.port p
  let swap := x.wantsCtl && !f.2.contains .control && f.2.contains .idle
  let flits := if swap then f.2.set (f.2.idxOf .idle) .control else f.2
  let x := if swap then x.sendCtl p.isLlx
    else if flits.contains .control then { x with
      sinceCtl := 0, ctlDue := false, ctlSent := x.ctlSent.map fun c => { c with ack := x.rxNo - 1, nak := x.nak.isSome, nakNo := x.nak.getD 0 } }
    else { x with sinceCtl := x.sinceCtl + 1 }
  (s.setPort p { x with
    resend := rest, frames := x.frames + 1, tags := flits.map Flit.tag
    replay := x.replay.map fun g => if g.1 = f.1 then (f.1, flits) else g }).countFlits p flits

/-- A heartbeat that has not left carries the time of this frame as its send stamp (R418). -/
def State.stampHb (s : State) (x : Port) : Port :=
  let f (m : TxMsg) : TxMsg := if m.msg.kind = 0 ∧ m.sent = 0 then { m with msg := { m.msg with w2 := s.time.ns } } else m
  { x with tx := x.tx.map f }

/-- A flit of a message has left the device: it leaves the receive buffer it lay in (R399); one of a collective on VL1 or VL2 counts for its
context (R637). -/
def State.flitLeft (s : State) (m : TxMsg) : State :=
  let s := match m.buf with
    | some (q, cls) => if m.freed ≤ m.sent then s.leaveBuf q m.msg.vl cls 1 else s
    | none => s
  match m.own with
  | some c => if m.msg.vl == 1 || m.msg.vl == 2 then s.cnt c 4 1 else s
  | none => s

/-- Five flits of a Berken port. -/
def State.berkenFrame (s : State) (p : PortId) (no : BitVec 16) : State × List Flit :=
  (List.range 5).foldl (fun acc _ =>
    let r := acc.1.nextFlit (acc.1.bport p) no
    let s := acc.1.setBport p r.port
    ((match r.of with | some m => s.flitLeft m | none => s), acc.2 ++ [r.flit])) (s, [])

/-- A frame goes out (R394, R400, R401): an alignment frame, a frame sent again, or five flits. A replay buffer full for 10 µs takes the
link down (R402). -/
def State.frameSend (s : State) (p : LinkPort) : State :=
  let x := s.port p
  if !x.up || !s.portOn p then s
  else if (match x.fullSince with | some t => decide (t + 10000 ≤ s.now) | none => false) then s.retrain p
  else if x.frames % 4096 = 4095 then s.putAlign p
  else
    match x.resend with
    | f :: t => s.putAgain p f t
    | [] =>
      if 192 ≤ x.replay.length then s.putAlign p
      else
        match p with
        | .berken q =>
          let r := (s.setBport q (s.stampHb x)).berkenFrame q x.txNo
          r.1.putFrame p x.txNo r.2
        | _ =>
          let r := (List.range 5).foldl (fun (acc : State × List Flit) _ =>
            let r := acc.1.llxFlit (p == .llxDn) x.txNo
            (r.1, acc.2 ++ [r.2])) (s, [])
          r.1.putFrame p x.txNo r.2

/-! ### The bits of a frame (R394) -/

/-- The ten-bit symbols of a frame's bytes: bit 0 of byte 0 first. -/
def frameSymbols (frame : List Byte) : List Nat := (List.range (8 * frame.length / 10)).map fun k => leAt frame 0 frame.length / 2 ^ (10 * k) % 2 ^ 10

/-- Codeword A takes the even symbols, codeword B the odd ones. -/
def frameCodeword (b : Bool) (syms : List Nat) : List Nat := ((syms.zip (List.range syms.length)).filter fun p => p.2 % 2 == b.toNat).map (·.1)

/-- The active lane on which symbol `k` of the codewords is dealt. -/
def symbolLane (lanes : BitVec 8) (k : Nat) : Nat := let l := (List.range 8).filter fun i => bit lanes i; l.getD (k % max 1 l.length) 0

end Sys2Proof.Machine
end

