-- ==== Sys2Proof/Machine/Num.lean ====
section
/-! DEFINITION. Numbers: the element formats of R77 and R78, exact values, rounding and conversion (R80, R84 to R88, R691), and
the correctly rounded operations built on them. A finite value is held exactly as sign, magnitude and power of two, and is
rounded once where the manual rounds. -/

namespace Sys2Proof.Machine

/-- An exact value: a finite dyadic number (with the sign of a zero), an infinity, or a NaN. -/
inductive Val where
  | fin (neg : Bool) (m : Nat) (e : Int)
  | inf (neg : Bool)
  | nan
  deriving DecidableEq, Repr

/-- A floating-point format: exponent bits, fraction bits, bias, and how its top codes read: `ieee` has infinities and NaNs
at the all-ones exponent, `e4m3` only the NaN S.1111.111, `none` neither. -/
inductive Top where
  | ieee | e4m3 | none
  deriving DecidableEq, Repr

structure FFmt where
  eb : Nat
  fb : Nat
  bias : Nat
  top : Top
  deriving DecidableEq, Repr

/-- R78. -/
def FFmt.fp32 : FFmt := ⟨8, 23, 127, .ieee⟩
def FFmt.fp40 : FFmt := ⟨8, 31, 127, .ieee⟩
def FFmt.bf16 : FFmt := ⟨8, 7, 127, .ieee⟩
def FFmt.fp16 : FFmt := ⟨5, 10, 15, .ieee⟩
def FFmt.e4m3 : FFmt := ⟨4, 3, 7, .e4m3⟩
def FFmt.e5m2 : FFmt := ⟨5, 2, 15, .ieee⟩
def FFmt.e2m3 : FFmt := ⟨2, 3, 1, .none⟩
def FFmt.e3m2 : FFmt := ⟨3, 2, 3, .none⟩
def FFmt.e2m1 : FFmt := ⟨2, 1, 1, .none⟩
/-- IEEE 754 binary64, for the sums "in FP64" (R341). -/
def FFmt.fp64 : FFmt := ⟨11, 52, 1023, .ieee⟩

/-- The formats by their 4-bit code (R77); INT32 (0xB) and the reserved codes have none. -/
def ffmt : Nat → Option FFmt
  | 0 => some .fp32
  | 1 => some .bf16
  | 2 => some .fp16
  | 3 => some .e4m3
  | 4 => some .e5m2
  | 5 => some .e4m3
  | 6 => some .e5m2
  | 7 => some .e2m3
  | 8 => some .e3m2
  | 9 => some .e2m1
  | 10 => some .fp40
  | _ => none

/-- Element width in bits (R215). -/
def fmtBits : Nat → Nat
  | 0 => 32
  | 1 => 16
  | 2 => 16
  | 3 => 8
  | 4 => 8
  | 5 => 8
  | 6 => 8
  | 7 => 6
  | 8 => 6
  | 9 => 4
  | 10 => 40
  | _ => 32

/-- The MX formats (R77). -/
def isMX (f : Nat) : Bool := 5 ≤ f && f ≤ 9

/-- The exponent of the unit in the last place of subnormals. -/
def FFmt.qmin (f : FFmt) : Int := 1 - (f.bias : Int) - f.fb

/-- The largest finite magnitude, as significand and power (R78). -/
def FFmt.maxFin (f : FFmt) : Nat × Int :=
  match f.top with
  | .ieee => (2 ^ (f.fb + 1) - 1, ((2 ^ f.eb - 2 : Nat) : Int) - f.bias - f.fb)
  | .e4m3 => (2 ^ (f.fb + 1) - 2, ((2 ^ f.eb - 1 : Nat) : Int) - f.bias - f.fb)
  | .none => (2 ^ (f.fb + 1) - 1, ((2 ^ f.eb - 1 : Nat) : Int) - f.bias - f.fb)

/-- The value a bit pattern stands for (R78). -/
def FFmt.decode (f : FFmt) (x : Nat) : Val :=
  let neg := fieldN x (f.eb + f.fb) 1 == 1
  let e := fieldN x f.fb f.eb
  let m := fieldN x 0 f.fb
  let ones := 2 ^ f.eb - 1
  match f.top with
  | .ieee =>
    if e = ones then (if m = 0 then .inf neg else .nan)
    else if e = 0 then .fin neg m f.qmin else .fin neg (2 ^ f.fb + m) (f.qmin + e - 1)
  | .e4m3 =>
    if e = ones ∧ m = 2 ^ f.fb - 1 then .nan
    else if e = 0 then .fin neg m f.qmin else .fin neg (2 ^ f.fb + m) (f.qmin + e - 1)
  | .none => if e = 0 then .fin neg m f.qmin else .fin neg (2 ^ f.fb + m) (f.qmin + e - 1)

def FFmt.sign (f : FFmt) (neg : Bool) : Nat := if neg then 2 ^ (f.eb + f.fb) else 0

/-- The canonical NaN (R80); a format without one gives zero, and its block's scale says NaN (R86). -/
def FFmt.nanBits (f : FFmt) : Nat :=
  match f.top with
  | .ieee => (2 ^ f.eb - 1) * 2 ^ f.fb + 2 ^ (f.fb - 1)
  | .e4m3 => 2 ^ (f.eb + f.fb) - 1
  | .none => 0

def FFmt.infBits (f : FFmt) (neg : Bool) : Nat := f.sign neg + (2 ^ f.eb - 1) * 2 ^ f.fb

/-- Bits of the magnitude `t * 2^q`, which the format holds. -/
def FFmt.pack (f : FFmt) (neg : Bool) (t : Nat) (q : Int) : Nat :=
  let (t, q) := if t = 2 ^ (f.fb + 1) then (2 ^ f.fb, q + 1) else (t, q)
  if t < 2 ^ f.fb then f.sign neg + t
  else f.sign neg + ((q - f.qmin + 1).toNat * 2 ^ f.fb) + (t - 2 ^ f.fb)

def FFmt.maxBits (f : FFmt) (neg : Bool) : Nat := f.pack neg f.maxFin.1 f.maxFin.2

/-- The rounding modes (R84). -/
inductive RM where
  | rne | rtz | rup | rdn | sr
  deriving DecidableEq, Repr

def rmOf : Nat → RM
  | 0 => .rne
  | 1 => .rtz
  | 2 => .rup
  | 3 => .rdn
  | _ => .sr

/-- Magnitude `m * 2^e` rounded to a whole multiple of `2^q` (R84, R85): the multiple. -/
def roundMag (neg : Bool) (m : Nat) (e q : Int) (rm : RM) (rn : Nat) : Nat :=
  if q ≤ e then m * 2 ^ (e - q).toNat
  else
    let s := (q - e).toNat
    let t := m / 2 ^ s
    let r := m % 2 ^ s
    let up := match rm with
      | .rne => 2 ^ s < 2 * r || (2 * r == 2 ^ s && t % 2 == 1)
      | .rtz => false
      | .rup => r != 0 && !neg
      | .rdn => r != 0 && neg
      | .sr => 65536 ≤ r * 65536 / 2 ^ s + rn
    if up then t + 1 else t

/-- The power of two of the unit in the last place at magnitude `m * 2^e`. -/
def FFmt.ulp (f : FFmt) (m : Nat) (e : Int) : Int := max f.qmin (e + bitLen m - 1 - f.fb)

/-- Comparison of magnitudes. -/
def magLt (m : Nat) (e : Int) (m' : Nat) (e' : Int) : Bool :=
  let lo := min e e'
  m * 2 ^ (e - lo).toNat < m' * 2 ^ (e' - lo).toNat

/-- The outcome of a conversion: bits, and what R111 counts: overflow, underflow to zero, saturation, NaN result. -/
structure Cv where
  bits : Nat
  of : Bool := false
  uf : Bool := false
  sat : Bool := false
  nan : Bool := false
  deriving DecidableEq, Repr

/-- Conversion of an exact value to a floating-point format (R84 to R86). -/
def FFmt.convert (f : FFmt) (v : Val) (rm : RM) (sat : Bool) (rn : Nat) : Cv :=
  match v with
  | .nan => ⟨f.nanBits, false, false, false, true⟩
  | .inf neg =>
    match f.top with
    | .ieee => ⟨f.infBits neg, false, false, false, false⟩
    | .e4m3 => if sat then ⟨f.maxBits neg, false, false, true, false⟩ else ⟨f.nanBits, false, false, false, true⟩
    | .none => ⟨f.maxBits neg, false, false, true, false⟩
  | .fin neg m e =>
    if m = 0 then ⟨f.sign neg, false, false, false, false⟩
    else
      let q := f.ulp m e
      let t := roundMag neg m e q rm rn
      let mx := f.maxFin
      if magLt mx.1 mx.2 t q then
        if sat || f.top == .none then ⟨f.maxBits neg, true, false, true, false⟩
        else
          let away := match rm with
            | .rne => true
            | .sr => true
            | .rup => !neg
            | .rdn => neg
            | .rtz => false
          if away then
            (if f.top == .ieee then ⟨f.infBits neg, true, false, false, false⟩ else ⟨f.nanBits, true, false, false, true⟩)
          else ⟨f.maxBits neg, true, false, false, false⟩
      else ⟨f.pack neg t q, false, t == 0, false, false⟩

/-- Conversion to INT32 (R691). -/
def toInt32 (v : Val) (rm : RM) (rn : Nat) : Cv :=
  match v with
  | .nan => ⟨0, false, false, false, false⟩
  | .inf neg => ⟨if neg then 2 ^ 31 else 2 ^ 31 - 1, true, false, true, false⟩
  | .fin neg m e =>
    let t := roundMag neg m e 0 rm rn
    if neg then
      (if 2 ^ 31 < t then ⟨2 ^ 31, true, false, true, false⟩
       else ⟨(2 ^ 32 - t) % 2 ^ 32, false, m != 0 && t == 0, false, false⟩)
    else (if 2 ^ 31 ≤ t then ⟨2 ^ 31 - 1, true, false, true, false⟩ else ⟨t, false, m != 0 && t == 0, false, false⟩)

/-- Conversion to a format code (R77); MX elements are converted by their block (`mxBlock`). -/
def convertTo (f : Nat) (v : Val) (rm : RM) (sat : Bool) (rn : Nat) : Cv :=
  match ffmt f with
  | some g => g.convert v rm sat rn
  | none => toInt32 v rm rn

/-- The exact value of an element of a non-MX format, or of an MX element before its scale. -/
def decodeF (f x : Nat) : Val :=
  match ffmt f with
  | some g => g.decode x
  | none => let i := signedN x 32; .fin (decide (i < 0)) i.natAbs 0

/-- The value times a power of two. -/
def Val.scale (v : Val) (k : Int) : Val :=
  match v with
  | .fin n m e => .fin n m (e + k)
  | v => v

def Val.negate : Val → Val
  | .fin n m e => .fin (!n) m e
  | .inf n => .inf (!n)
  | .nan => .nan

def Val.abs : Val → Val
  | .fin _ m e => .fin false m e
  | .inf _ => .inf false
  | .nan => .nan

def Val.isNan : Val → Bool
  | .nan => true
  | _ => false

def Val.isZero : Val → Bool
  | .fin _ 0 _ => true
  | _ => false

/-- Finite and not zero. -/
def Val.isFin : Val → Bool
  | .fin _ _ _ => true
  | _ => false

/-- The exact signed magnitude at a common exponent. -/
def alignInt (neg : Bool) (m : Nat) (e lo : Int) : Int :=
  let a : Nat := m * 2 ^ (e - lo).toNat
  if neg then -(a : Int) else a

/-- Exact addition. An exact zero sum of opposite values is +0, of two zeros of one sign that zero (R81). -/
def Val.add (a b : Val) : Val :=
  match a, b with
  | .nan, _ => .nan
  | _, .nan => .nan
  | .inf s, .inf t => if s == t then .inf s else .nan
  | .inf s, .fin _ _ _ => .inf s
  | .fin _ _ _, .inf t => .inf t
  | .fin s m e, .fin t n f =>
    let lo := min e f
    let x := alignInt s m e lo + alignInt t n f lo
    if x = 0 then .fin (s && t && m == 0 && n == 0) 0 0 else .fin (decide (x < 0)) x.natAbs lo

/-- Exact multiplication. -/
def Val.mul (a b : Val) : Val :=
  match a, b with
  | .nan, _ => .nan
  | _, .nan => .nan
  | .inf s, .inf t => .inf (s != t)
  | .inf s, .fin t m _ => if m = 0 then .nan else .inf (s != t)
  | .fin s m _, .inf t => if m = 0 then .nan else .inf (s != t)
  | .fin s m e, .fin t n f => .fin (s != t) (m * n) (e + f)

/-- a < b, false when either is NaN. -/
def Val.lt (a b : Val) : Bool :=
  match a, b with
  | .nan, _ => false
  | _, .nan => false
  | .inf s, .inf t => s && !t
  | .inf s, .fin _ _ _ => s
  | .fin _ _ _, .inf t => !t
  | .fin s m e, .fin t n f => let lo := min e f; decide (alignInt s m e lo < alignInt t n f lo)

/-- A quotient with enough bits and a sticky bit that one rounding of it is the rounding of the exact quotient. -/
def Val.div (a b : Val) : Val :=
  match a, b with
  | .nan, _ => .nan
  | _, .nan => .nan
  | .inf s, .inf _ => if s then .nan else .nan
  | .inf s, .fin t _ _ => .inf (s != t)
  | .fin s _ _, .inf t => .fin (s != t) 0 0
  | .fin s m e, .fin t n f =>
    if n = 0 then (if m = 0 then .nan else .inf (s != t))
    else
      let k := 160 + bitLen n
      let q := m * 2 ^ k / n
      let r := m * 2 ^ k % n
      .fin (s != t) (2 * q + (if r = 0 then 0 else 1)) (e - f - k - 1)

/-- Integer square root, bit by bit from `2^i` down. -/
def isqrtFrom (n : Nat) : Nat → Nat → Nat
  | 0, r => if (r + 1) * (r + 1) ≤ n then r + 1 else r
  | i + 1, r => let r' := r + 2 ^ (i + 1); isqrtFrom n i (if r' * r' ≤ n then r' else r)

def isqrt (n : Nat) : Nat := isqrtFrom n (bitLen n / 2 + 1) 0

/-- A square root with a sticky bit (the argument is not negative). -/
def sqrtMag (m : Nat) (e : Int) : Nat × Int :=
  let e' := if e % 2 = 0 then e else e - 1
  let m' := if e % 2 = 0 then m else 2 * m
  let x := m' * 2 ^ 320
  let r := isqrt x
  (2 * r + (if r * r = x then 0 else 1), e' / 2 - 161)

def Val.sqrt : Val → Val
  | .nan => .nan
  | .inf n => if n then .nan else .inf false
  | .fin n m e => if m = 0 then .fin n 0 0 else if n then .nan else let p := sqrtMag m e; .fin false p.1 p.2

/-- 1/√a with a sticky bit (R99). A zero gives an infinity of its sign. -/
def Val.rsqrt : Val → Val
  | .nan => .nan
  | .inf n => if n then .nan else .fin false 0 0
  | .fin n m e =>
    if m = 0 then .inf n
    else if n then .nan
    else
      let e' := if e % 2 = 0 then e else e - 1
      let m' := if e % 2 = 0 then m else 2 * m
      let k := 320 + 2 * bitLen m'
      let x := 2 ^ k / m'
      let r := isqrt x
      .fin false (2 * r + (if r * r * m' = 2 ^ k then 0 else 1)) (-(e' / 2) - (k / 2 : Nat) - 1)

/-- z^(1/4) with a sticky bit, for a finite z that is not negative (R371). -/
def Val.root4 : Val → Val
  | .fin false m e =>
    if m = 0 then .fin false 0 0
    else
      let r := (e % 4).toNat
      let x := m * 2 ^ r * 2 ^ 320
      let y := isqrt (isqrt x)
      .fin false (2 * y + (if y * y * (y * y) = x then 0 else 1)) ((e - r) / 4 - 81)
  | _ => .nan

/-- Round to a format and read the value back. -/
def FFmt.round (f : FFmt) (v : Val) : Val := f.decode (f.convert v .rne false 0).bits

/-- FP32 operations: one rounding to nearest even each (R98, R341). -/
def rne32 (v : Val) : Nat := (FFmt.fp32.convert v .rne false 0).bits
def val32 (x : Nat) : Val := FFmt.fp32.decode x
def add32 (a b : Nat) : Nat := rne32 ((val32 a).add (val32 b))
def sub32 (a b : Nat) : Nat := rne32 ((val32 a).add (val32 b).negate)
def mul32 (a b : Nat) : Nat := rne32 ((val32 a).mul (val32 b))
def div32 (a b : Nat) : Nat := rne32 ((val32 a).div (val32 b))
def fma32 (a b c : Nat) : Nat := rne32 (((val32 a).mul (val32 b)).add (val32 c))

/-- FP40 rounding (R81). -/
def rne40 (v : Val) : Nat := (FFmt.fp40.convert v .rne false 0).bits
def val40 (x : Nat) : Val := FFmt.fp40.decode x

/-- Sums "in FP64" (R341): each addition rounded to nearest even in binary64. -/
def add64 (a b : Val) : Val := FFmt.fp64.round (a.add b)
def sum64 (l : List Val) : Val := l.foldl add64 (.fin false 0 0)
/-- A sum in FP64, rounded once (R341). -/
def sum32 (l : List Val) : Nat := rne32 (sum64 l)

/-- A subnormal becomes a zero of its sign (R95). -/
def ftz32 (x : Nat) : Nat := if fieldN x 23 8 = 0 then fieldN x 31 1 * 2 ^ 31 else x % 2 ^ 32

/-- An E8M0 scale: its power, none for the NaN 0xFF (R78). -/
def e8m0 (b : Byte) : Option Int := if b = 0xFF#8 then none else some ((b.toNat : Int) - 127)

/-- ⌊log₂⌋ of a magnitude that is not zero. -/
def flog2 (m : Nat) (e : Int) : Int := e + (bitLen m : Int) - 1

/-- The exponent of an MX element format's largest normal (R88). -/
def mxEmax : Nat → Int
  | 5 => 8
  | 6 => 15
  | 7 => 2
  | 8 => 4
  | _ => 2

/-- An MX block's scale byte and converted elements (R86, R88). -/
def mxBlock (f : Nat) (vs : List Val) (rm : RM) (sat : Bool) (rn : Nat → Nat) : Byte × List Cv :=
  let exps := vs.filterMap fun v => match v with
    | .fin _ m e => if m = 0 then none else some (flog2 m e)
    | _ => none
  let x : Int := match exps with
    | [] => -127
    | a :: t => max (-127) (min 127 (t.foldl max a - mxEmax f))
  let cvs := (vs.zip (List.range vs.length)).map fun p =>
    match p.1 with
    | .fin _ _ _ => convertTo f (p.1.scale (-x)) rm true (rn p.2)
    | v => convertTo f v rm sat (rn p.2)
  let scale : Byte := if cvs.any (·.nan) then 0xFF#8 else BitVec.ofInt 8 (x + 127)
  (scale, cvs)

end Sys2Proof.Machine
end

