-- ==== Sys2Proof/Machine/Memory.lean ====
section
/-! DEFINITION. The bunker, HBM and the stockpile: the word correction of R224 with its counting and write-back (R225, R310, R693),
the device address map and regions (R304 to R308), relief translation (R508, R516), and the geometry of a handle's region
(R215 to R217). -/

namespace Sys2Proof.Machine

/-! ### The code of R224 -/

/-- The code position of each data bit. -/
def dataPositions : List Nat :=
  (List.range 72).filter fun p => p != 0 && p != 1 && p != 2 && p != 4 && p != 8 && p != 16 && p != 32 && p != 64

/-- What a read of a word finds. -/
inductive Ecc where
  | ok
  | ce (pos : Nat)
  | ue
  deriving DecidableEq, Repr

/-- The data bits that a set of flipped code bits turns over. Bit 0 of the set is P, bit p is position p. -/
def flipData (m : BitVec 72) : Nat :=
  (dataPositions.zip (List.range 64)).foldl (fun a p => if bit m p.1 then a + 2 ^ p.2 else a) 0

def eccSyndrome (m : BitVec 72) : Nat := (List.range 72).foldl (fun a p => if bit m p then a ^^^ p else a) 0

def eccOdd (m : BitVec 72) : Bool := (List.range 72).foldl (fun a p => a != bit m p) false

/-- The outcome table of R224, for a code word whose flipped bits are `m`. -/
def eccOutcome (m : BitVec 72) : Ecc :=
  let s := eccSyndrome m
  if s = 0 then (if eccOdd m then .ce 0 else .ok)
  else if eccOdd m then (if s ≤ 71 then .ce s else .ue)
  else .ue

/-- The data returned for stored data `d` and flipped code bits `m`. -/
def eccData (d : Word) (m : BitVec 72) : Word :=
  match eccOutcome m with
  | .ce p => d ^^^ BitVec.ofNat 64 (flipData (m ^^^ (1#72 <<< p)))
  | _ => d ^^^ BitVec.ofNat 64 (flipData m)

/-- Check bits that decode as uncorrectable and leave the data as read (R693). -/
def eccBad : BitVec 72 := 6

/-! ### Words under protection -/

/-- Stored bytes with the flipped code bits of their words. -/
structure Bits72 where
  bytes : SMap Byte
  err : SMap (BitVec 72)

def Bits72.word (x : Bits72) (w : Nat) : Word := BitVec.ofNat 64 (ofBytes (SMap.vals x.bytes 0 (8 * w) 8))

def Bits72.setWord (x : Bits72) (w : Nat) (v : Word) (m : BitVec 72) : Bits72 :=
  ⟨SMap.putList x.bytes 0 (8 * w) (bytesOf 8 v.toNat), SMap.put x.err 0 w m⟩

/-- The words of a byte range with an error in their code word, and the outcome of each. -/
def Bits72.found (x : Bits72) (lo n : Nat) : List (Nat × Ecc) :=
  (x.err.filter fun p => lo / 8 ≤ p.1 && p.1 * 8 < lo + n).map fun p => (p.1, eccOutcome p.2)

/-- The scrub write-back of a corrected word (R225). -/
def Bits72.fix (x : Bits72) (w : Nat) : Bits72 :=
  let m := SMap.val x.err 0 w
  match eccOutcome m with
  | .ce _ => x.setWord w (eccData (x.word w) m) 0
  | _ => x

/-- A word that stays uncorrectable is seen as its bits are. -/
def Bits72.byteAt (x : Bits72) (a : Nat) : Byte :=
  let m := SMap.val x.err 0 (a / 8)
  if m = 0 then SMap.val x.bytes 0 a
  else BitVec.ofNat 8 (bits (eccData (x.word (a / 8)) m) (8 * (a % 8)) 8)

/-- The bytes a read returns. -/
def Bits72.read (x : Bits72) (lo n : Nat) : List Byte :=
  if (x.found lo n).isEmpty then SMap.vals x.bytes 0 lo n else (List.range n).map fun i => x.byteAt (lo + i)

/-- The words that a write of `n` bytes covers only in part. -/
def partWords (lo n : Nat) : List Nat :=
  (if lo % 8 = 0 && 8 ≤ n then [] else [lo / 8]) ++
    (if (lo + n) % 8 = 0 || (lo + n) / 8 = lo / 8 then [] else [(lo + n) / 8])

/-- A write (R693): whole words lose their errors; a word covered in part is corrected first, or stays uncorrectable. -/
def Bits72.write (x : Bits72) (lo : Nat) (bs : List Byte) : Bits72 :=
  let n := bs.length
  if (x.found lo n).isEmpty then { x with bytes := SMap.putList x.bytes 0 lo bs }
  else
    let part := partWords lo n
    let x := part.foldl (fun x w =>
      match eccOutcome (SMap.val x.err 0 w) with
      | .ce _ => x.fix w
      | .ue => x.setWord w (eccData (x.word w) (SMap.val x.err 0 w)) eccBad
      | .ok => x) x
    let clean := x.err.filter fun p => part.contains p.1 || p.1 * 8 < lo || lo + n ≤ p.1 * 8
    ⟨SMap.putList x.bytes 0 lo bs, clean⟩

/-! ### The device address map (R304, R305) -/

def hubWindow : Nat := 2 ^ 38
def stkBase : Nat := 2 ^ 47
def stkWindow : Nat := 2 ^ 39
def stkSize : Nat := 0x7735940000
def mib2 : Nat := 2 ^ 21
def hubSize (v : Variant) : Nat := if v.stacks = 3 then 0x324A9A7000 else 0x218711A000

/-- The range an address lies in, hub windows 0 to 3 and stockpile halves 4 and 5, and the offset in it. -/
def memUnit (v : Variant) (a : Nat) : Option (Nat × Nat) :=
  if a < stkBase then
    (if a / hubWindow < 4 && a % hubWindow < hubSize v then some (a / hubWindow, a % hubWindow) else none)
  else
    let o := a - stkBase
    if o / stkWindow < 2 && v.hasMill (o / stkWindow) && o % stkWindow < stkSize then some (4 + o / stkWindow, o % stkWindow)
    else none

def unitBase (u : Nat) : Nat := if u < 4 then hubWindow * u else stkBase + stkWindow * (u - 4)
def unitSize (v : Variant) (u : Nat) : Nat := if u < 4 then hubSize v else if v.hasMill (u - 4) then stkSize else 0

/-- `n` bytes from `a` are assigned, in one range. -/
def assigned (v : Variant) (a n : Nat) : Bool :=
  match memUnit v a with
  | some (u, o) => o + n ≤ unitSize v u
  | none => false

/-- Where a block lies (R305): its HBM stack, or its stockpile package, and the offset there. -/
def memPart (v : Variant) (a : Nat) : Nat × Nat :=
  match memUnit v a with
  | some (u, o) =>
    let n := o / 4096
    let at' (k : Nat) : Nat := 4096 * (n / k) + o % 4096
    if u < 4 then (3 * u + n % v.stacks, at' v.stacks) else (8 * (u - 4) + n % 8, at' 8)
  | none => (0, 0)

/-- The controller (MEM_ instance number) of a block: that of its stack, or that of its half's packages. -/
def memCtrl (v : Variant) (a : Nat) : Nat :=
  match memUnit v a with
  | some (u, _) => if u < 4 then (memPart v a).1 else 12 + (memPart v a).1 / 8
  | none => 0

/-- The device address of a controller's offset (the inverse of R305). -/
def ctrlAddr (v : Variant) (ctrl o : Nat) : Nat :=
  if ctrl < 12 then hubWindow * (ctrl / 3) + 4096 * (v.stacks * (o / 4096) + ctrl % 3) + o % 4096
  else unitBase (ctrl - 8) + o

/-- The hub a device address is reached through. -/
def memHub (a : Nat) : HubId := if a < stkBase then Fin.ofNat 4 (a / hubWindow) else Fin.ofNat 4 (2 * ((a - stkBase) / stkWindow))

/-! ### Regions (R306 to R308) -/

def State.rgnBase (s : State) (r : Nat) : Nat := mib2 * s.fld Fld.MEM_RGN_A_BASE r
def State.rgnSize (s : State) (r : Nat) : Nat := mib2 * s.fld Fld.MEM_RGN_A_SIZE r
def State.rgnState (s : State) (r : Nat) : Nat := s.fld Fld.MEM_RGN_B_STATE r
def State.rgnClass (s : State) (r : Nat) : Nat := s.fld Fld.MEM_RGN_B_CLASS r
def State.rgnHolds (s : State) (r a n : Nat) : Bool := s.rgnBase r ≤ a && a + n ≤ s.rgnBase r + s.rgnSize r
/-- The owner of an ordinary region. -/
def State.rgnOwner (s : State) (r : Nat) : Nat := 4 * s.fld Fld.MEM_RGN_B_SEQ r + s.fld Fld.MEM_RGN_B_CTX r
/-- A region with an owner: not the tailings, not a relief's parts (R312, R500). -/
def State.rgnOwned (s : State) (r : Nat) : Bool := s.rgnState r != 0 && (s.rgnClass r == 0 || s.rgnClass r == 1)
def State.rgnOfCtx (s : State) (c : Cid) (r : Nat) : Bool := s.rgnOwned r && s.rgnOwner r == (s.lead c).val
/-- Entries that are not FREE, ascending. -/
def State.rgnUsed (s : State) : List Nat := (List.range 256).filter fun r => s.rgnState r != 0
/-- The ALLOCATED region of the context that holds a range. -/
def State.rgnFor (s : State) (c : Cid) (a n : Nat) : Option Nat :=
  (List.range 256).find? fun r => s.rgnState r == 1 && s.rgnOfCtx c r && s.rgnHolds r a n
/-- A region's range. -/
def State.rgnArea (s : State) (r : Nat) : Nat × Nat := (s.rgnBase r, s.rgnSize r)
/-- Ranges share a byte. -/
def overlaps (x y : Nat × Nat) : Bool := x.1 < y.1 + y.2 && y.1 < x.1 + x.2
/-- Some PURGE_PENDING region holds a byte of the range (R229, R308). -/
def State.rgnPurging (s : State) (a n : Nat) : Bool :=
  (List.range 256).any fun r => s.rgnState r == 2 && s.rgnBase r < a + n && a < s.rgnBase r + s.rgnSize r

/-! ### Relief slots (R500, R508, R516) -/

/-- The part of cover entry `k` in unit `u`, and its slot. -/
def State.slotBase (s : State) (k u : Nat) (b : Bool) : Nat :=
  let r := 204 + 6 * k + u
  s.rgnBase r + (if b then mib2 * (s.rgnSize r / 2 / mib2) else 0)
def State.slotSize (s : State) (k u : Nat) : Nat := mib2 * (s.rgnSize (204 + 6 * k + u) / 2 / mib2)

/-- Where the declared regions begin in a unit's slot. -/
def declStart (u : Nat) : Nat := if u = 0 then 208 * 2 ^ 20 else if u < 4 then 192 * 2 ^ 20 else 0

/-- The unit and the slot offset of an address that a declared region holds; `decl` lists base and size. -/
def declPlace (v : Variant) (decl : List (Nat × Nat)) (a n : Nat) : Option (Nat × Nat) :=
  match memUnit v a with
  | none => none
  | some (u, _) =>
    let rec go : List (Nat × Nat) → Nat → Option (Nat × Nat)
      | [], _ => none
      | (b, z) :: t, off =>
        if b ≤ a && a + n ≤ b + z then some (u, off + (a - b))
        else go t (if (memUnit v b).map (·.1) == some u then off + z else off)
    go decl (declStart u)

/-- R516: an address named by a context, on an activated relief for the restored one. -/
def State.xlate (s : State) (c : Cid) (a n : Nat) : Option Nat :=
  match s.rlf.act with
  | some x =>
    if x.cid == s.lead c then
      (declPlace s.variant x.decl a n).map fun p => s.slotBase x.entry.val p.1 x.slot + p.2
    else none
  | none => none

/-- Where a context's address lies in memory: translated, or in a region it owns; none is MEM_RANGE. -/
def State.ctxAddr (s : State) (c : Cid) (a n : Nat) : Option Nat :=
  match s.xlate c a n with
  | some b => some b
  | none => if assigned s.variant a n && (s.rgnFor c a n).isSome then some a else none

/-- A context's range where it lies in memory. -/
def State.placed (s : State) (c : Cid) (a n : Nat) : Nat × Nat := ((s.ctxAddr c a n).getD a, n)

/-- The end of the region of the context, or of the declared region it is restored from, that holds an address. -/
def State.ctxEnd (s : State) (c : Cid) (a : Nat) : Option Nat :=
  let own := if assigned s.variant a 1 then (s.rgnFor c a 1).map fun r => s.rgnBase r + s.rgnSize r else none
  match s.rlf.act with
  | some x =>
    if x.cid == s.lead c then
      match x.decl.find? fun d => decide (d.1 ≤ a) && decide (a < d.1 + d.2) with
      | some d => some (d.1 + d.2)
      | none => own
    else own
  | none => own

/-- The bytes from `a` to `e` cut at the ends of the regions that hold them, each part with its place in memory; `none` where the
context owns no region at some byte. -/
def State.ctxCut (s : State) (c : Cid) : Nat → Nat → Nat → Option (List (Nat × Nat))
  | 0, a, e => if e ≤ a then some [] else none
  | k + 1, a, e =>
    if e ≤ a then some []
    else match s.ctxEnd c a with
      | none => none
      | some z => match s.ctxAddr c a (min z e - a), s.ctxCut c k (min z e) e with
        | some b, some t => some ((b, min z e - a) :: t)
        | _, _ => none

/-- Where a context's range lies: in one region, or in regions one after the other. -/
def State.ctxPlaces (s : State) (c : Cid) (a n : Nat) : Option (List (Nat × Nat)) :=
  match s.ctxAddr c a n with
  | some b => some [(b, n)]
  | none => s.ctxCut c 512 a (a + n)

/-- Every byte of a range lies in an ALLOCATED region that the context owns (R272). -/
def State.ctxRange (s : State) (c : Cid) (a n : Nat) : Bool := (s.ctxPlaces c a n).isSome

/-! ### Error injection (R668) -/

/-- The code bits that an injection turns over. -/
def State.injectMask (s : State) : BitVec 72 :=
  let one (p : Nat) : BitVec 72 := if p = 0 || 72 < p then 0 else 1#72 <<< (p % 72)
  one (s.fld Fld.DBG_PT_ECC_B_BIT1) ^^^ one (s.fld Fld.DBG_PT_ECC_B_BIT2)

/-- The armed injection's word: 0 for device memory, 1 for bunker data, 2 for sideband, with the word's number. -/
def State.injectWord (s : State) : Option (Nat × Nat) :=
  let a := s.fld Fld.DBG_PT_ECC_A_ADDR
  if !s.flag Fld.DBG_PT_ECC_B_ARMED then none
  else match s.fld Fld.DBG_PT_ECC_A_TARGET with
    | 1 =>
      let st := fieldN a 0 7
      let l := fieldN a 7 15
      let w := fieldN a 22 6
      some (if w < 32 then (1, st * 2 ^ 20 + l * 32 + w) else (2, st * 2 ^ 16 + l * 2 + (w - 32)))
    | 2 => some (0, fieldN a 3 45)
    | _ => none

/-- A write of `n` bytes from `lo` of a space makes an armed flip of a word in it. -/
def State.inject (s : State) (space lo n : Nat) : State :=
  match s.injectWord with
  | none => s
  | some (sp, w) =>
    if sp = space && lo / 8 ≤ w && w * 8 < lo + n then
      let f (m : SMap (BitVec 72)) : SMap (BitVec 72) := SMap.upd m 0 w (· ^^^ s.injectMask)
      let s := s.setFld Fld.DBG_PT_ECC_B_ARMED 0
      match space with
      | 0 => { s with memErr := f s.memErr }
      | 1 => { s with bunkErr := f s.bunkErr }
      | _ => { s with sideErr := f s.sideErr }
    else s

/-! ### Device memory access -/

def State.memBits (s : State) : Bits72 := ⟨s.mem, s.memErr⟩
def State.setMemBits (s : State) (x : Bits72) : State := { s with mem := x.bytes, memErr := x.err }

/-- The canonical form of device memory: addresses rise strictly, and a byte that reads zero is not listed. -/
def Memory.wf (m : List Host.Cell) : Bool := SMap.wf m fun _ => 0

/-- The byte that a read of one address returns. -/
def State.memByte (s : State) (a : Nat) : Byte := s.memBits.byteAt a

/-- The 256-byte lines that an access touches. -/
def lineCount (a n : Nat) : Nat := if n = 0 then 0 else (a + n - 1) / 256 - a / 256 + 1

/-- The controllers' counts of an access (R635, R638). -/
def State.memLines (s : State) (a n : Nat) (rd : Bool) : State :=
  let k := lineCount a n
  let s := if a < stkBase then s.ao 4 k else s.ao 5 k
  if rd then s.pcEvent 10 (memCtrl s.variant a) k else s

/-- An error of a memory word found by an access or by scrub: counted, recorded, written back if corrected (R310, R329, R330). -/
def State.memError (s : State) (scrub : Bool) (p : Nat × Ecc) : State :=
  let a := 8 * p.1
  let n := memCtrl s.variant a
  let note (s : State) (pos : Nat) (ue : Bool) : State :=
    (((s.setFld Fld.MEM_HC_ERRADDR_ADDR a n).setFld Fld.MEM_HC_ERRADDR_POSITION pos n).setFld Fld.MEM_HC_ERRADDR_UE
      ue.toNat n).setFld Fld.MEM_HC_ERRADDR_SCRUB scrub.toNat n
  match p.2 with
  | .ok => s
  | .ce pos =>
    let s := s.setMemBits (s.memBits.fix p.1)
    let s := if scrub then s.bump Fld.MEM_HC_ECC_CE_SCRUB 1 n else s.bump Fld.MEM_HC_ECC_CE 1 n
    ((note s pos false).ao 8 1).canary (if n < 12 then 1 else 2) 1
  | .ue => (note (s.bump Fld.MEM_HC_ECC_UE 1 n) 0 true).ao 9 1

/-- What a read gives: its bytes, the state after it, and whether a word was uncorrectable. -/
structure ReadRes where
  data : List Byte
  st : State
  ue : Bool

/-- A read of `n` bytes of device memory. -/
def State.memRead (s : State) (a n : Nat) : ReadRes :=
  let x := s.memBits
  let errs := x.found a n
  ⟨x.read a n, errs.foldl (fun s p => s.memError false p) (s.memLines a n true), errs.any fun p => p.2 == .ue⟩

/-- A write of device memory. A word covered in part is read first (R693): its errors count, and an uncorrectable one raises
MEM_UE. -/
def State.memWrite (s : State) (a : Nat) (bs : List Byte) : State :=
  if bs.isEmpty then s
  else
    let x := s.memBits
    let part := partWords a bs.length
    let errs := (x.found a bs.length).filter fun p => part.contains p.1
    let s := errs.foldl (fun s p =>
      let s := s.memError false p
      if p.2 == .ue then s.raise Ev.MEM_UE (srcHbm (memCtrl s.variant (8 * p.1))) else s) s
    ((s.memLines a bs.length false).setMemBits (x.write a bs)).inject 0 a bs.length

/-- A context's read of a range; `none` where it may not. -/
def State.ctxRead (s : State) (c : Cid) (a n : Nat) : Option ReadRes :=
  (s.ctxPlaces c a n).map fun l => l.foldl (fun acc p =>
    let r := acc.st.memRead p.1 p.2
    ⟨acc.data ++ r.data, r.st, acc.ue || r.ue⟩) ⟨[], s, false⟩

/-- Its bytes, where the read itself counts nothing. -/
def State.ctxPeek (s : State) (c : Cid) (a n : Nat) : List Byte :=
  ((s.ctxPlaces c a n).getD []).flatMap fun p => s.memBits.read p.1 p.2

/-- The bytes of a list written part by part. -/
def State.memWrites (s : State) : List (Nat × Nat) → List Byte → State
  | [], _ => s
  | p :: t, bs => (s.memWrite p.1 (bs.take p.2)).memWrites t (bs.drop p.2)

/-- A context's write of a range; `none` where it may not. -/
def State.ctxWrite (s : State) (c : Cid) (a : Nat) (bs : List Byte) : Option State :=
  (s.ctxPlaces c a bs.length).map fun l => s.memWrites l bs

/-- Zero-fill with valid check bits. -/
def State.memZero (s : State) (a n : Nat) : State :=
  { s with mem := SMap.clear s.mem a n, memErr := SMap.clear s.memErr (a / 8) (n / 8) }

/-! ### A handle's region (R215 to R217) -/

def Handle.colsN (h : Handle) : Nat := if h.cols = 0 then 128 else h.cols.toNat
def Handle.width (h : Handle) : Nat := fmtBits h.fmt.toNat
def Handle.rowSize (h : Handle) : Nat := ceilDiv (h.colsN * h.width) 8
def Handle.strideB (h : Handle) : Nat := h.stride.toNat * 32
/-- First line of the region in the slice. -/
def Handle.line0 (h : Handle) : Nat := 2048 * h.bank.toNat + h.off.toNat
def Handle.lines (h : Handle) : Nat :=
  let n := ceilDiv (h.rows.toNat * h.strideB) 256
  if isMX h.fmt.toNat then max n (ceilDiv h.rows.toNat 4) else n
def Handle.mx (h : Handle) : Bool := isMX h.fmt.toNat
/-- Slice byte of row `r`. -/
def Handle.rowAt (h : Handle) (r : Nat) : Nat := h.line0 * 256 + r * h.strideB
def Handle.holdsLine (h : Handle) (l : Nat) : Bool := h.line0 ≤ l && l < h.line0 + h.lines
def Handle.touchesBank (h : Handle) (b : Nat) : Bool := h.line0 < 2048 * (b + 1) && 2048 * b < h.line0 + h.lines
/-- The owning context. -/
def Handle.owner (h : Handle) : Cid := ⟨(if h.seq then 4 else 0) + h.ctx.toNat, by have := h.ctx.isLt; split <;> omega⟩

/-- Handles that are not FREE, ascending. -/
def State.usedHandles (s : State) : List (HandleId × Handle) :=
  (s.handles.filter fun p => p.2.st != .free).map fun p => (BitVec.ofNat 12 p.1, p.2)

/-- The handle that holds a line of a station's slice. -/
def State.lineHolder (s : State) (i : StationId) (line : Nat) : Option (HandleId × Handle) :=
  s.usedHandles.find? fun p => has p.2.set i && p.2.holdsLine line

/-- Some handle of any state holds a line of the bank (R233). -/
def State.bankHeld (s : State) (i : StationId) (b : Nat) : Bool :=
  s.usedHandles.any fun p => has p.2.set i && p.2.touchesBank b

/-! ### Bunker access -/

def slice (i : StationId) : Nat := i.val * 2 ^ 23
def sideSlice (i : StationId) : Nat := i.val * 2 ^ 19

def State.bunkBits (s : State) : Bits72 := ⟨s.bunk, s.bunkErr⟩
def State.setBunkBits (s : State) (x : Bits72) : State := { s with bunk := x.bytes, bunkErr := x.err }
def State.sideBits (s : State) : Bits72 := ⟨s.side, s.sideErr⟩
def State.setSideBits (s : State) (x : Bits72) : State := { s with side := x.bytes, sideErr := x.err }

/-- The line, and the word within it, of a bunker word (by the data's word number) or a sideband word. -/
def wordLine (sb : Bool) (w : Nat) : Nat × Nat := if sb then (w % 2 ^ 16 / 2, w % 2) else (w % 2 ^ 20 / 32, w % 32)
def wordStn (sb : Bool) (w : Nat) : StationId := Fin.ofNat 96 (if sb then w / 2 ^ 16 else w / 2 ^ 20)

/-- BNK_ST_ERRADDR takes an error (R245). -/
def State.bunkNote (s : State) (sb scrub : Bool) (w pos : Nat) (ue : Bool) : State :=
  let i := wordStn sb w
  let l := wordLine sb w
  let put (s : State) (F : Fld) (v : Nat) : State := s.setFld F v i.val
  let s := put s Fld.BNK_ST_ERRADDR_BANK (l.1 / 2048)
  let s := put s Fld.BNK_ST_ERRADDR_LINE (l.1 % 2048)
  let s := put s Fld.BNK_ST_ERRADDR_WORD l.2
  let s := put s Fld.BNK_ST_ERRADDR_POSITION pos
  let s := put s Fld.BNK_ST_ERRADDR_UE ue.toNat
  let s := put s Fld.BNK_ST_ERRADDR_SIDEBAND sb.toNat
  let s := put s Fld.BNK_ST_ERRADDR_SCRUB scrub.toNat
  match s.lineHolder i l.1 with
  | some p => put (put s Fld.BNK_ST_ERRADDR_HANDLE p.1.toNat) Fld.BNK_ST_ERRADDR_HVALID 1
  | none => put (put s Fld.BNK_ST_ERRADDR_HANDLE 0) Fld.BNK_ST_ERRADDR_HVALID 0

/-- An error of a bunker word found by a reader or by the scrubber (R225, R244). -/
def State.bunkError (s : State) (sb scrub : Bool) (p : Nat × Ecc) : State :=
  let i := (wordStn sb p.1).val
  match p.2 with
  | .ok => s
  | .ce pos =>
    let s := if sb then s.setSideBits (s.sideBits.fix p.1) else s.setBunkBits (s.bunkBits.fix p.1)
    let s := if scrub then s.bump Fld.BNK_ST_ECC_CE_SCRUB 1 i else s.bump Fld.BNK_ST_ECC_CE 1 i
    let s := if sb then s.bump Fld.BNK_ST_ECC_CE_SIDEBAND 1 i else s
    ((s.bunkNote sb scrub p.1 pos false).ao 8 1).canary 0 1
  | .ue => ((s.bump Fld.BNK_ST_ECC_UE 1 i).bunkNote sb scrub p.1 0 true).ao 9 1

/-- A read of slice bytes. -/
def State.bunkRead (s : State) (i : StationId) (a n : Nat) : ReadRes :=
  let x := s.bunkBits
  let errs := x.found (slice i + a) n
  ⟨x.read (slice i + a) n, errs.foldl (fun s p => s.bunkError false false p) s, errs.any fun p => p.2 == .ue⟩

/-- A read of sideband bytes. -/
def State.sideRead (s : State) (i : StationId) (a n : Nat) : ReadRes :=
  let x := s.sideBits
  let errs := x.found (sideSlice i + a) n
  ⟨x.read (sideSlice i + a) n, errs.foldl (fun s p => s.bunkError true false p) s, errs.any fun p => p.2 == .ue⟩

/-- Errors in the partly covered words of a write (R693). -/
def State.bunkPart (s : State) (sb : Bool) (errs : List (Nat × Ecc)) : State :=
  errs.foldl (fun s p =>
    let s := s.bunkError sb false p
    if p.2 == .ue then s.raise Ev.BNK_UE (srcStn (wordStn sb p.1)) else s) s

/-- A write of slice bytes. -/
def State.bunkWrite (s : State) (i : StationId) (a : Nat) (bs : List Byte) : State :=
  if bs.isEmpty then s
  else
    let x := s.bunkBits
    let a := slice i + a
    let part := partWords a bs.length
    (s.bunkPart false ((x.found a bs.length).filter fun p => part.contains p.1)).setBunkBits (x.write a bs) |>.inject 1 a bs.length

/-- A write of sideband bytes. -/
def State.sideWrite (s : State) (i : StationId) (a : Nat) (bs : List Byte) : State :=
  if bs.isEmpty then s
  else
    let x := s.sideBits
    let a := sideSlice i + a
    let part := partWords a bs.length
    (s.bunkPart true ((x.found a bs.length).filter fun p => part.contains p.1)).setSideBits (x.write a bs) |>.inject 2 a bs.length

/-- Zero-fill of lines of a slice, with valid check bits and zero sideband (R228). -/
def State.bunkZero (s : State) (i : StationId) (line n : Nat) : State :=
  { s with
    bunk := SMap.clear s.bunk (slice i + 256 * line) (256 * n)
    bunkErr := SMap.clear s.bunkErr ((slice i + 256 * line) / 8) (32 * n)
    side := SMap.clear s.side (sideSlice i + 16 * line) (16 * n)
    sideErr := SMap.clear s.sideErr ((sideSlice i + 16 * line) / 8) (2 * n) }

/-! ### Rows, elements and scales -/

/-- Elements of a packed row, by width (R79, R216). -/
def unpackRow (w n : Nat) (bs : List Byte) : List Nat :=
  let x := ofBytes bs
  (List.range n).map fun i => fieldN x (i * w) w

/-- A row's bytes from its elements, zero to the end of the stride (R216). -/
def packRow (w total : Nat) (es : List Nat) : List Byte :=
  bytesOf total ((es.zip (List.range es.length)).foldl (fun a p => a + p.1 % 2 ^ w * 2 ^ (p.2 * w)) 0)

/-- The element patterns of row `r` of a handle at a station. -/
def State.rowRead (s : State) (h : Handle) (i : StationId) (r : Nat) : List Nat × State × Bool :=
  let x := s.bunkRead i (h.rowAt r) h.rowSize
  (unpackRow h.width h.colsN x.data, x.st, x.ue)

/-- Row `r` written; the rest of its stride is written as zero. -/
def State.rowWrite (s : State) (h : Handle) (i : StationId) (r : Nat) (es : List Nat) : State :=
  s.bunkWrite i (h.rowAt r) (packRow h.width (max h.strideB h.rowSize) es)

/-- Byte `k` of a handle's scale array lies in the sideband of its lines (R217). -/
def Handle.scaleAt (h : Handle) (k : Nat) : Nat := 16 * h.line0 + k

end Sys2Proof.Machine
end

