-- ==== Sys2Proof/Machine/Handles.lean ====
section
/-! DEFINITION. The order of accesses to handles: registered readers and writers, complete and writable (R221), the fill counter
(R222), the hold rule (R44, R223), purge (R228), and bank power as allocation sees it (R233 to R235). -/

namespace Sys2Proof.Machine

/-! ### The fill counter (R222) -/

def State.setFill (s : State) (h : HandleId) (n : Nat) : State := s.modHnd h fun x => { x with fill := BitVec.ofNat 21 n }

/-- FILL advances and holds at 2²¹ − 1. -/
def State.addFill (s : State) (h : HandleId) (n : Nat) : State := s.setFill h (min (2 ^ 21 - 1) ((s.hnd h).fill.toNat + n))

/-! ### Registered accesses (R221) -/

/-- An HPURGE dispatched before the instruction has not ended. -/
def Handle.purging (x : Handle) (no : Nat) : Bool :=
  x.zeroing || (match x.purgeNo with | some n => n < no | none => false)

/-- A provisional fill is effective: every instruction dispatched before it that names the handle has finished, other provisional fills
aside (R193). -/
def State.provEffective (s : State) (a : Access) : Bool :=
  a.prov && !(s.hnd a.h).purging a.no && !(s.accs.any fun b => b.h == a.h && b.no < a.no && !b.prov)

/-- Handles whose provisional fill has become effective become PROVISIONAL (R193, R214). -/
def State.settleProv (s : State) : State :=
  (s.accs.filter s.provEffective).foldl (fun s a =>
    s.modHnd a.h fun x => if x.st = .allocated then { x with st := .provisional } else x) s

/-- Accesses of an instruction are registered; the first writer of a new fill sets FILL to zero. -/
def State.register (s : State) (a : Access) : State :=
  if a.set = 0 then s
  else
    let fresh := a.wr && !(s.accs.any fun b => b.h == a.h && b.wr)
    let s := if fresh then s.setFill a.h 0 else s
    { s with accs := s.accs ++ [a] }.settleProv

def State.regReader (s : State) (no : Nat) (h : HandleId) (set : StationSet) : State :=
  s.register { no := no, h := h, set := set, rd := true, wr := false }
def State.regWriter (s : State) (no : Nat) (h : HandleId) (set : StationSet) : State :=
  s.register { no := no, h := h, set := set, rd := false, wr := true }

/-- Accesses that `p` selects end at the stations of a set. -/
def State.endAccs (s : State) (p : Access → Bool) (set : StationSet) : State :=
  let cut (a : Access) : Access := if p a then { a with set := a.set &&& ~~~set } else a
  { s with accs := (s.accs.map cut).filter fun a => a.set != 0 }.settleProv

/-- Every access of an instruction ends at a station. -/
def State.endAt (s : State) (no : Nat) (i : StationId) : State := s.endAccs (fun a => a.no == no) (single i)

/-- Every access of an instruction is dropped, by an abort or a cancellation. -/
def State.dropNo (s : State) (no : Nat) : State := { s with accs := s.accs.filter fun a => a.no != no }

/-- Every access of an instruction ends. -/
def State.endNo (s : State) (no : Nat) : State := (s.dropNo no).settleProv

def popcount (x : StationSet) : Nat := (stationsOf x).length

/-- READERS, WRITERS and WRITEBACK of the table entry (R212). -/
def State.readers (s : State) (h : HandleId) : Nat :=
  (s.accs.filter fun a => a.h == h && a.rd).foldl (fun n a => n + popcount a.set) 0
def State.writers (s : State) (h : HandleId) : Nat :=
  (s.accs.filter fun a => a.h == h && a.wr).foldl (fun n a => n + popcount a.set) 0
def State.writingBack (s : State) (h : HandleId) : Bool := s.accs.any fun a => a.h == h && a.wb

/-- The handle is held (R44, R223). -/
def State.heldHandle (s : State) (h : HandleId) : Bool := s.accs.any fun a => a.h == h

/-- An earlier provisional fill of the handle is not real yet (R132, R193). -/
def State.provBefore (s : State) (h : HandleId) (no : Nat) : Bool := s.accs.any fun a => a.h == h && a.prov && a.no < no

/-- Complete for the instruction `no` at a station (R221). -/
def State.complete (s : State) (h : HandleId) (no : Nat) (i : StationId) : Bool :=
  let x := s.hnd h
  x.st == .allocated && !x.purging no && !(s.accs.any fun a => a.h == h && a.wr && a.no < no && has a.set i)

/-- Writable for the instruction `no` at a station (R221); `prov` for a provisional fill. -/
def State.writable (s : State) (h : HandleId) (no : Nat) (i : StationId) (prov : Bool := false) : Bool :=
  let x := s.hnd h
  (if prov then x.st == .allocated || x.st == .provisional else x.st == .allocated && !s.provBefore h no) &&
    !x.purging no && !(s.accs.any fun a => a.h == h && (a.rd || a.wb) && a.no < no && has a.set i)

def State.completeAt (s : State) (h : HandleId) (no : Nat) (set : StationSet) : Bool :=
  (stationsOf set).all fun i => s.complete h no i
def State.writableAt (s : State) (h : HandleId) (no : Nat) (set : StationSet) (prov : Bool := false) : Bool :=
  (stationsOf set).all fun i => s.writable h no i prov

/-! ### Purge (R228) -/

/-- The region goes to the purge engines; `keep` for HPURGE. A region that an HPURGE has put there already stays where it is. -/
def State.startPurge (s : State) (h : HandleId) (keep : Bool) : State :=
  let f (x : Handle) : Handle :=
    if keep then { x with zeroing := true, purgeNo := none }
    else { x with st := .purgePending, freePending := false, tentative := false, zeroing := false, purgeNo := none }
  let old := if keep then s.purgeQ else s.purgeQ.filter fun p => p.1 != h
  { s.modHnd h f with purgeQ := if old.contains (h, keep) then old else old ++ [(h, keep)] }

/-- HFREE (R198, R223): at once, or when the hold ends. -/
def State.freeHandle (s : State) (h : HandleId) : State :=
  if s.heldHandle h then s.modHnd h fun x => { x with freePending := true } else s.startPurge h false

/-- The purge engines of all stations have worked off everything before the region (R228). -/
def State.purgeFirst (s : State) (h : HandleId) : Option Bool :=
  let rec go : List (HandleId × Bool) → StationSet → Option Bool
    | [], _ => none
    | (g, k) :: t, before =>
      if g = h then (if (s.hnd h).set &&& before == 0 then some k else none) else go t (before ||| (s.hnd g).set)
  go s.purgeQ 0

/-- A region whose lines are zero leaves the purge engines: its handle is FREE, or complete with FILL zero. -/
def State.purged (s : State) (h : HandleId) (keep : Bool) : State :=
  let x := s.hnd h
  let s := { s with purgeQ := s.purgeQ.filter fun p => p != (h, keep) }
  (if keep then s.modHnd h fun x => { x with zeroing := false, fill := 0 } else s.setHnd h { gen := x.gen }).settleProv

/-! ### Bank power as HALLOC sees it (R197, R233 to R236) -/

def State.bankPwr (s : State) (i : StationId) (b : Nat) : BPwr := SMap.val (s.stn i).bpwr {} b
def State.setBankPwr (s : State) (i : StationId) (b : Nat) (x : BPwr) : State :=
  s.modStn i fun y => { y with bpwr := SMap.put y.bpwr {} b x }

/-- The bunker's engines at a station run: its group is powered, out of reset and not gated by the input cap, and no all-stop covers
it. -/
def State.sliceRuns (s : State) (i : StationId) : Bool :=
  s.regionRuns (i.val / 2) && s.domState (i.val / 4) != 2 && !s.stnStopped i

/-! ### The scrubber's rounds (R226, R249) -/

/-- The bank holds part of a weight-class handle. -/
def State.weightBank (s : State) (i : StationId) (b : Nat) : Bool :=
  s.usedHandles.any fun p => p.2.cls == 0 && has p.2.set i && p.2.touchesBank b

/-- The lines of a round as a bit for each of the slice's lines: all of an awake weight-class bank, the round's quarter of another awake
one (R226). -/
def State.scrubNeed (s : State) (i : StationId) : Nat :=
  (List.range 16).foldl (fun n b =>
    if (s.bankPwr i b).st != .awake then n
    else if s.weightBank i b then n ||| (2 ^ 2048 - 1) * 2 ^ (2048 * b)
    else n ||| (2 ^ 512 - 1) * 2 ^ (2048 * b + 512 * (s.stn i).scrubQuarter)) 0

/-- The core cycles of a station's region. -/
def State.coreCyc (s : State) (i : StationId) : Nat := SMap.val s.time.cyc 0 (i.val / 2) / 5000

/-- A round ends when every line that it has to read has been read. A bank that leaves AWAKE, or its class, leaves the round
with it. -/
def State.scrubRound (s : State) (i : StationId) : State :=
  let x := s.stn i
  if x.scrubDone = 0 || s.scrubNeed i &&& x.scrubSeen != s.scrubNeed i then s
  else
    let s := (s.bump Fld.BNK_ST_SCRUB_ROUNDS 1 i.val).setFld Fld.BNK_ST_SCRUB_LAST_ROUND
      (min (2 ^ 32 - 1) (s.coreCyc i - x.scrubStart)) i.val
    s.setStn i { x with
      scrubDone := 0, scrubSeen := 0, scrubStart := s.coreCyc i, scrubTime := s.now, scrubSlow := false,
      scrubQuarter := (x.scrubQuarter + 1) % 4 }

/-- The region is zero-filled at every station, and counted there (R228, R248). -/
def State.endPurge (s : State) (h : HandleId) (keep : Bool) : State :=
  let x := s.hnd h
  let s := (stationsOf x.set).foldl (fun s i =>
    (s.bunkZero i x.line0 x.lines).bump Fld.BNK_ST_PURGE_LINES_DONE x.lines i.val) s
  (stationsOf x.set).foldl State.scrubRound (s.purged h keep)

/-- Banks of a station that are powered up and under their zero-fill (R235). -/
def State.wakeFills (s : State) (i : StationId) : Nat :=
  ((List.range 16).filter fun b => (s.bankPwr i b).st == .waking && (s.bankPwr i b).since + 2000 ≤ s.now).length

/-- A reset's zero-fill of the slice is under way: it begins when step 4 completes (R597). -/
def State.slicePending (s : State) (i : StationId) : Bool := (s.stn i).fillDue && 4 ≤ s.rst.step

/-- Lines queued at a station's purge engine (R248): those of the whole slice in a reset, else of its regions and waking banks. -/
def State.purgePendingLines (s : State) (i : StationId) : Nat :=
  if s.slicePending i then 32768
  else (s.purgeQ.filter fun p => has (s.hnd p.1).set i).foldl (fun n p => n + (s.hnd p.1).lines) (2048 * s.wakeFills i)

/-- An ASLEEP bank begins to wake; a DEFERRING one returns to AWAKE (R235). A bank whose group is gated keeps its state (R236): it takes
no request (DESIGN CHOICE, log entry 126). -/
def State.wakeBank (s : State) (i : StationId) (b : Nat) : State :=
  let x := s.bankPwr i b
  if !s.sliceRuns i then s
  else match x.st with
  | .asleep => s.setBankPwr i b { x with st := .waking, since := s.now }
  | .deferring => s.setBankPwr i b { x with st := .awake, since := s.now, idleSince := s.now }
  | _ => s

/-- A power-down request (R233). How many of the bank's writes are in flight the block's commands do not show: a free value, with which
its counter stands until they are stored (R234). -/
def State.sleepBank (s : State) (i : StationId) (b : Nat) : State :=
  let x := s.bankPwr i b
  if !s.sliceRuns i then s
  else if x.st == .awake && !s.bankHeld i b then
    let p := s.takeFree
    (p.2.setBankPwr i b { x with st := .deferring, since := s.now, inFlight := p.1.toNat }).scrubRound i
  else s.bump Fld.BNK_ST_PWR_REFUSED 1 i.val

/-- The banks that a region covers. -/
def Handle.banks (x : Handle) : List Nat := (List.range 16).filter x.touchesBank

/-- Banks that hold a line no longer have been idle from now on (R236). -/
def State.stampBanks (s : State) (x : Handle) : State :=
  (stationsOf x.set).foldl (fun s i => x.banks.foldl (fun s b =>
    s.setBankPwr i b { s.bankPwr i b with idleSince := s.now }) s) s

end Sys2Proof.Machine
end

