-- ==== Sys2Proof/Machine/Lanes.lean ====
section
/-! DEFINITION. The lanes of the ring: circuits, the positions of a pass and the words that lane nodes forward (R48, R49, R51, R56,
R76), and the holds of a station (R58, R59). -/

namespace Sys2Proof.Machine

/-! ### Circuits (R48, R49, R56) -/

/-- The position of a station on a leg (true for outbye) of its seam's circuit. -/
def circuitPos (l first n : Nat) (t : StationId) (outbye : Bool) : Nat :=
  if l = 0 then (if outbye then 95 - t.val else t.val)
  else if outbye then 2 * n - 1 - (t.val - first) else t.val - first

/-- Distance round the circuit from the origin (R51, R56). -/
def passDist (l first n : Nat) (o : StationId) (lane : Bool) (t : StationId) (leg : Bool) : Nat :=
  let c := circuit l
  (circuitPos l first n t leg + c - circuitPos l first n o lane) % c

/-- The station and the lane at a distance from the origin. -/
def passNode (l first n : Nat) (o : StationId) (lane : Bool) (d : Nat) : StationId × Bool :=
  let c := circuit l
  let p := (circuitPos l first n o lane + d) % c
  if l = 0 then (Fin.ofNat 96 (if lane then 95 - p else p), lane)
  else if p < n then (Fin.ofNat 96 (first + p), false)
  else (Fin.ofNat 96 (first + 2 * n - 1 - p), true)

/-! ### Words forwarded (R76) -/

/-- Slices a lane word carries (R34). -/
def wordSlices (fmt : Nat) : Nat := if fmt = 9 then 4 else if fmtBits fmt ≤ 8 then 2 else 1

/-- A lane node forwards `words` on a lane. The manual puts words passed through a turn under both fields: they count on the lane on
which they reach the turn, INBYE at the top node and OUTBYE at the bottom node (DESIGN CHOICE, log entry 112). -/
def State.laneWords (words : Nat) (s : State) (n : StationId × Bool) : State :=
  if n.2 then s.bump Fld.RING_LANE_CNT_OUTBYE words n.1.val else s.bump Fld.RING_LANE_CNT_INBYE words n.1.val

/-- The nodes that a pass's words leave, origin first: one for each hop of its span and circuits (R52, R56). -/
def State.passNodes (s : State) (p : Pass) : List (StationId × Bool) :=
  let l := s.layout
  (List.range (p.span + p.rc * circuit l)).map (passNode l (s.seamFirst p.cid) (seamSize l) p.orig p.lane)

/-- The station at which a pass's words leave the lane (R52, R56). -/
def State.passEnd (s : State) (p : Pass) : StationId :=
  let l := s.layout
  (passNode l (s.seamFirst p.cid) (seamSize l) p.orig p.lane (p.span + p.rc * circuit l)).1

/-- Every node of the pass has forwarded all its `words`. -/
def State.passWords (s : State) (p : Pass) (words : Nat) : State := (s.passNodes p).foldl (State.laneWords words) s

/-- A pass that is aborted under way: each node has forwarded as many words as it has got from the node before it; how many that
is when the abort comes is timing (free values, log entry 113). -/
def State.passCut (s : State) (p : Pass) (words : Nat) : State :=
  ((s.passNodes p).foldl (fun (x : State × Nat) n =>
    let w := (Config.free x.1.freeCtr).toNat % (x.2 + 1)
    ({ x.1 with freeCtr := x.1.freeCtr + 1 }.laneWords w n, w)) (s, words)).1

end Sys2Proof.Machine
end

