-- ==== Sys2Proof/Machine/Random.lean ====
section
/-! DEFINITION. Random numbers: Philox 4×32 with ten rounds, the standard multipliers and key increments (R108), and the
distributions of R110. Box–Muller values are computed in fixed point with 256 fraction bits and a sticky bit, and rounded
once. -/

namespace Sys2Proof.Machine

/-- Four 32-bit words. -/
structure Quad where
  w0 : Nat
  w1 : Nat
  w2 : Nat
  w3 : Nat
  deriving DecidableEq, Repr

def Quad.word (q : Quad) : Nat → Nat
  | 0 => q.w0
  | 1 => q.w1
  | 2 => q.w2
  | _ => q.w3

/-- One Philox round. -/
def philoxRound (c : Quad) (k0 k1 : Nat) : Quad :=
  let p0 := 0xD2511F53 * c.w0
  let p1 := 0xCD9E8D57 * c.w2
  ⟨(p1 / 2 ^ 32) ^^^ c.w1 ^^^ k0, p1 % 2 ^ 32, (p0 / 2 ^ 32) ^^^ c.w3 ^^^ k1, p0 % 2 ^ 32⟩

def philoxN : Nat → Quad → Nat → Nat → Quad
  | 0, c, _, _ => c
  | n + 1, c, k0, k1 => philoxN n (philoxRound c k0 k1) ((k0 + 0x9E3779B9) % 2 ^ 32) ((k1 + 0xBB67AE85) % 2 ^ 32)

/-- Philox 4×32-10. -/
def philox (k0 k1 : Nat) (c : Quad) : Quad := philoxN 10 c k0 k1

/-- What keys a call besides its element and user (R108): the job seed, and the step or the evaluation count with the
evaluation bit. -/
structure RngKey where
  seed : Word
  step : BitVec 63
  eval : Bool
  deriving DecidableEq, Repr

/-- A call of R108: counter word 0, user, stream identifier. -/
def rngCall (k : RngKey) (c0 user stream : Nat) : Quad :=
  philox (bits k.seed 0 32) (bits k.seed 32 32)
    ⟨c0 % 2 ^ 32, user + stream * 65536, bits k.step 0 32, bits k.step 32 31 + (if k.eval then 2 ^ 31 else 0)⟩

/-- The word of element `e` (R110). -/
def rngWord (k : RngKey) (e user stream : Nat) : Nat := (rngCall k (e / 4) user stream).word (e % 4)

/-- Fixed-point fraction bits of the transcendental series. -/
def fxP : Nat := 256

/-- Sum of `z^(2i+1) / (2i+1)` for i < n (with alternating signs when `alt`), z a fixed-point number. -/
def oddSeries (alt : Bool) (z z2 : Nat) : Nat → Nat → Int
  | 0, _ => 0
  | n + 1, i =>
    let t : Int := (z / (2 * i + 1) : Nat)
    (if alt && i % 2 == 1 then -t else t) + oddSeries alt (z * z2 / 2 ^ fxP) z2 n (i + 1)

/-- 2 atanh(z). -/
def twoAtanh (z : Nat) : Nat := 2 * (oddSeries false z (z * z / 2 ^ fxP) 90 0).toNat

/-- ln 2 and π in fixed point. -/
def fxLn2 : Nat := twoAtanh (2 ^ fxP / 3)
def fxPi : Nat :=
  let a := 2 ^ fxP / 5
  let b := 2 ^ fxP / 239
  (16 * oddSeries true a (a * a / 2 ^ fxP) 60 0 - 4 * oddSeries true b (b * b / 2 ^ fxP) 25 0).toNat

/-- −ln(k / 2²⁴) for 1 ≤ k ≤ 2²⁴. -/
def fxNegLn (k : Nat) : Nat :=
  let b := Nat.log2 k
  let f := k * 2 ^ (fxP - b)
  (24 - b) * fxLn2 - twoAtanh ((f - 2 ^ fxP) * 2 ^ fxP / (f + 2 ^ fxP))

/-- Taylor terms of sine (from t = x) and cosine (from t = 1): t, −t x²/((i+1)(i+2)), … -/
def trigSeries (x2 : Nat) : Nat → Nat → Int → Int
  | 0, _, _ => 0
  | n + 1, i, t => t + trigSeries x2 n (i + 2) (-(t * (x2 : Int) / ((2 ^ fxP * ((i + 1) * (i + 2)) : Nat) : Int)))

/-- (cos, sin) of 2π j / 2²⁴. -/
def fxCosSin (j : Nat) : Int × Int :=
  let x : Nat := 2 * fxPi * (j % 2 ^ 22) / 2 ^ 24
  let x2 : Nat := x * x / 2 ^ fxP
  let c := trigSeries x2 70 0 (2 ^ fxP : Nat)
  let s := trigSeries x2 70 1 (x : Int)
  let c := if j % 2 ^ 22 = 0 then ((2 ^ fxP : Nat) : Int) else c
  match j / 2 ^ 22 % 4 with
  | 0 => (c, s)
  | 1 => (-s, c)
  | 2 => (-c, -s)
  | _ => (s, -c)

/-- The two normal values of a pair of words (R110), as FP32 bits. -/
def boxMuller (w0 w1 : Nat) : Nat × Nat :=
  let r := isqrt (2 * fxNegLn (w0 / 256 + 1) * 2 ^ fxP)
  let cs := fxCosSin (w1 / 256)
  let fin (t : Int) : Nat :=
    let p := r * t.natAbs
    rne32 (if p = 0 then .fin false 0 0 else .fin (decide (t < 0)) (2 * p + 1) (-((2 * fxP + 1 : Nat) : Int)))
  (fin cs.1, fin cs.2)

/-- The value VRNG writes at element `e` for DIST (R110, R190). -/
def rngElem (k : RngKey) (dist e user stream p : Nat) : Nat :=
  let w := rngWord k e user stream
  match dist with
  | 0 => w
  | 1 => rne32 (.fin false (w / 256) (-24))
  | 2 => if w % 65536 < p then 0x3F800000 else 0
  | _ =>
    let q := rngCall k (e / 4) user stream
    let b := e % 4 / 2 * 2
    let n := boxMuller (q.word b) (q.word (b + 1))
    if e % 2 = 0 then n.1 else n.2

end Sys2Proof.Machine
end

