-- ==== Sys2Proof/Machine/Seq.lean ====
section
/-! DEFINITION. Operations on contexts that the sequencer's instructions, the units and the bell share: scalars, faults and
aborts (R63, R163), cancellation of run-ahead work (R134), the charge token (R118, R119), dispatch (R161, R162). -/

namespace Sys2Proof.Machine

/-- Both copies of a joined context, or the one context. -/
def State.modBoth (s : State) (c : Cid) (f : Ctx → Ctx) : State :=
  if s.joined c then (s.modCtx (west c) f).modCtx (east c) f else s.modCtx c f

def State.copies (s : State) (c : Cid) : List Cid := if s.joined c then [west c, east c] else [c]

/-! ### Scalars -/

def Ctx.s (x : Ctx) (r : Nat) : Word := SMap.val x.prog.sregs 0 r
def Ctx.setS (x : Ctx) (r : Nat) (v : Word) : Ctx := { x with prog := { x.prog with sregs := SMap.put x.prog.sregs 0 r v } }
def Ctx.m (x : Ctx) (r : Nat) : StationSet := SMap.val x.prog.masks 0 r
def Ctx.setM (x : Ctx) (r : Nat) (v : StationSet) : Ctx := { x with prog := { x.prog with masks := SMap.put x.prog.masks 0 r v } }
def Ctx.loopC (x : Ctx) (r : Nat) : BitVec 32 := SMap.val x.prog.loops 0 r
def Ctx.setLoop (x : Ctx) (r : Nat) (v : BitVec 32) : Ctx := { x with prog := { x.prog with loops := SMap.put x.prog.loops 0 r v } }
def Ctx.loopA (x : Ctx) (r : Nat) : Word := SMap.val x.prog.loopAddr 0 r
def Ctx.setLoopA (x : Ctx) (r : Nat) (v : Word) : Ctx :=
  { x with prog := { x.prog with loopAddr := SMap.put x.prog.loopAddr 0 r v } }
def Ctx.setPc (x : Ctx) (v : Word) : Ctx := { x with prog := { x.prog with pc := v } }

/-- A scalar that an LDS or a flag word has still to write (R161, R184). -/
def Ctx.scalarBusy (x : Ctx) (r : Nat) : Bool := x.lds.any (fun l => l.sd.val == r) || x.flagWait.any fun p => p.1 == r

/-- The step of random calls: the evaluation count inside an evaluation (R108, R139). -/
def Ctx.rngStep (x : Ctx) : BitVec 63 := if x.prog.evalFlag then x.prog.evalCnt else x.prog.step

/-- The key of random calls of an instruction or stream (R108). -/
def State.rngKey (s : State) (c : Cid) (step : BitVec 63) (eval : Bool) : RngKey :=
  ⟨BitVec.ofNat 64 (s.fld Fld.SEQ_CTX_SEED_SEED (s.lead c).val), step, eval⟩

/-! ### Faults and aborts (R63, R163) -/

/-- What a stopped stream leaves (R289): the queue drains, its engines and requests are given back. -/
def State.dropStream (s : State) (h : HubId) (q : QueueId) : State :=
  let x := s.que h q
  match x.run with
  | none => s
  | some r =>
    let s := s.setQue h q { x with st := .draining, run := none }
    let s := s.modHub h fun y => { y with
      turn := y.turn.filter (· != q.val), coder := y.coder.filter (· != q.val), req := y.req.filter (· != q.val) }
    let s := s.dropNo r.no
    let s := s.bump Fld.HAUL_Q_STATUS_GEN 1 h.val q.val
    let s := s.bump Fld.HAUL_Q_CNT_CANCELS 1 h.val q.val
    s.bump Fld.HAUL_HUB_DISCARD_STREAMS 1 h.val

def State.dropShadow (s : State) (h : HubId) (q : QueueId) : State :=
  let x := s.que h q
  match x.shadow with
  | none => s
  | some r =>
    let s := (s.setQue h q { x with shadow := none }).dropNo r.no
    let s := s.bump Fld.HAUL_Q_STATUS_GEN 1 h.val q.val
    (s.bump Fld.HAUL_Q_CNT_CANCELS 1 h.val q.val).bump Fld.HAUL_HUB_DISCARD_STREAMS 1 h.val

def allQueues : List (HubId × QueueId) := (List.finRange 4).flatMap fun h => (List.finRange 16).map fun q => (h, q)

/-- The streams of a context that `p` selects are cancelled or aborted (R289, R290). -/
def State.dropStreams (s : State) (c : Cid) (p : Stream → Bool) : State :=
  allQueues.foldl (fun s hq =>
    let x := s.que hq.1 hq.2
    let mine (r : Option Stream) : Bool := match r with
      | some r => s.lead r.cid == s.lead c && p r
      | none => false
    let s := if mine x.shadow then s.dropShadow hq.1 hq.2 else s
    if mine x.run then s.dropStream hq.1 hq.2 else s) s

/-- Station instructions of a context. -/
def State.instNos (s : State) (c : Cid) : List Nat :=
  s.insts.filterMap fun p => match p.2 with
    | some x => if s.lead x.cid = s.lead c then some p.1 else none
    | none => none

/-- Those that a segment's completion waits for and an abort drops. A VUPDATE that has been dispatched is an accepted update and runs on
across bells, as a MILLSTEP does (R123; DEDUCED, log entry 140). -/
def State.openNos (s : State) (c : Cid) : List Nat :=
  (s.instNos c).filter fun n => match s.inst n with
    | some x => x.kind != .vupdate
    | none => true

/-- Updates of the vector units dropped, with their places in the stations' queues. -/
def State.dropVus (s : State) (gone : Update → Bool) : State :=
  let nos := (s.vus.filter gone).map (·.no)
  let s := s.vus.foldl (fun s u => if gone u then
      (stationsOf (s.hnd u.hw).set).foldl (fun s i => s.modStn i fun y => { y with queue := y.queue.filter (· != u.no) }) s
    else s) s
  { s with vus := s.vus.filter fun u => !gone u, insts := s.insts.filter fun p => !nos.contains p.1 }

/-- R63: every issued instruction of the context's seam is aborted: banks EMPTY, handles keep their contents and last clean
FILL, streams are dropped; collectives and updates that no unit has taken go with them. -/
def State.abortCtx (s : State) (c : Cid) : State :=
  let nos := s.openNos c
  let s := s.passes.foldl (fun s e => match e.2 with
    | some p => if s.lead p.cid == s.lead c && !p.retired then s.passCut p (ceilDiv p.k (wordSlices p.fmt.toNat)) else s
    | none => s) s
  let s := (stationsOf (s.seamSet c)).foldl (fun s i => s.modStn i fun x => { x with
    bank0 := {}, bank1 := {}, queue := x.queue.filter fun n => !nos.contains n, replay := false,
    turn0 := false, turn1 := false }) s
  let lds := (s.copies c).flatMap fun d => (s.ctx d).lds.map (·.no)
  let s := { s with
    insts := s.insts.filter fun p => !nos.contains p.1
    passes := s.passes.filter fun p => match p.2 with | some x => s.lead x.cid != s.lead c | none => true
    accs := s.accs.filter fun a => !(nos.contains a.no || lds.contains a.no) }
  let s := s.dropStreams c fun _ => true
  let goneR := (s.fab.reds.filter fun r => s.lead r.cid == s.lead c && r.dispatched && !r.firstRead).map (·.no)
  let goneC := (s.fab.colls.filter fun r => s.lead r.cid == s.lead c && !r.read && r.got == 0 && r.kind != .recv).map (·.no)
  let goneM := fun (m : Mill) => (m.queue.filter fun u => s.lead u.cid == s.lead c && !u.accepted).map (·.no)
  let gone := goneR ++ goneC ++ goneM s.mill0 ++ goneM s.mill1
  let s := { s with
    fab := { s.fab with
      reds := (s.fab.reds.filter fun (r : Red) => !gone.contains r.no || r.complete).map fun (r : Red) =>
        if gone.contains r.no then { r with issued := true, firstRead := true } else r
      colls := s.fab.colls.filter fun r => !gone.contains r.no }
    mill0 := { s.mill0 with queue := s.mill0.queue.filter fun u => !gone.contains u.no }
    mill1 := { s.mill1 with queue := s.mill1.queue.filter fun u => !gone.contains u.no }
    accs := s.accs.filter fun a => !gone.contains a.no }
  s.modBoth c fun x => { x with
    wait := .none, lds := [], ldsOrd := 0, ldsPeer := [], flagWait := [], flagOrd := 0, flagPeer := [], stores := [],
    barriers := [], barOrd := 0, unbound := [] }

/-- R134: provisional handles return to free, provisional draws are dropped, handles allocated in the segment are undone
(R219). -/
def State.cancelAhead (s : State) (c : Cid) : State :=
  let l := s.lead c
  let s := s.dropStreams c fun r => r.prov
  let mine := s.usedHandles.filter fun p => p.2.owner == l && (p.2.st == .provisional || (p.2.st == .allocated && p.2.tentative))
  let n := (mine.filter fun p => p.2.st == .provisional).length
  let s := mine.foldl (fun s p => (s.setFill p.1 0).startPurge p.1 false) s
  let s := s.bump Fld.SEQ_CTX_CNT_CANCELS n l.val
  let y := s.smp l
  (s.setSmp l { y with trainW := y.train, evalW := y.eval }).modBoth c fun x => { x with provH := [] }

/-- A running segment that has taken longer than its BUDGET counts, once, and raises SEG_BUDGET (R122). It is looked at when the segment
is complete and when it ends in another way (log entry 120). -/
def State.checkBudget (s : State) (c : Cid) : State :=
  let l := s.lead c
  let x := s.ctx l
  if x.st == .running && x.inSeg && x.faulted.isNone && !x.overBudget && x.budget != 0 && 64 * x.budget.toNat < s.seqCyc - x.segStart then
    ((s.bump Fld.SEQ_CTX_CNT_OVER_BUDGET 1 l.val).raise Ev.SEG_BUDGET (srcSeq l) (some l)).modBoth c fun x => { x with overBudget := true }
  else s

/-- A fault of the context (R163): raised once, and everything issued is aborted; the context stops at the next bell. -/
def State.faultCtx (s : State) (c : Cid) (code : BitVec 16) (src : Src) (detail : Nat := 0) : State :=
  if (s.ctx (s.lead c)).faulted.isSome then s
  else
    let s := (s.raise code src (some c) detail).checkBudget c
    (s.abortCtx c).modBoth c fun x => { x with faulted := some code }

/-- A fault the sequencer finds. -/
def State.seqFault (s : State) (c : Cid) (code : BitVec 16) : State := s.faultCtx c code (srcSeq c)

/-- The context becomes STOPPED with its last-bell image (R128, R163). -/
def State.stopCtx (s : State) (c : Cid) (code : BitVec 16) : State :=
  s.modBoth c fun x => { x with
    st := .stopped, prog := x.image, stopEvent := code, faulted := none, inSeg := false, atStart := false, newstep := false,
    evalEnded := false, ended := false, halting := false, waitBells := 0, emptySeg := false, slipped := false, wait := .none }

/-! ### The sequencer's own steps -/

/-- The context issues instructions now (R114, R123, R163). -/
def State.canExec (s : State) (c : Cid) : Bool :=
  let x := s.ctx c
  x.st == .running && !x.ended && x.faulted.isNone && !x.emptySeg && x.wait == .none && !s.ctxStopped c && !s.held 48

/-- One instruction at the sequencer: it begins a segment only with SEGMENT (R122), is well encoded (R159), may follow EVALEND
only as COMMIT or BELLWAIT (R138), and waits for scalars not yet written (R161); then its effect. -/
def State.seqRun (s : State) (c : Cid) (enc : Bool) (regs : List Nat) (body : State → State) : State :=
  let x := s.ctx c
  if !s.canExec c then s
  else if !x.inSeg then s.seqFault c Ev.SEQ_NO_SEGMENT
  else if !enc then s.seqFault c Ev.SEQ_OPCODE
  else if x.evalEnded then s.seqFault c Ev.EVAL_PLACE
  else if regs.any x.scalarBusy then s
  else body s

/-- The program position goes to the next word. -/
def State.nextPc (s : State) (c : Cid) (words : Nat) : State :=
  s.modCtx c fun x => { x.setPc (x.prog.pc + BitVec.ofNat 64 (8 * words)) with atStart := false }

/-- The program position goes elsewhere. -/
def State.goto (s : State) (c : Cid) (a : Word) : State := s.modCtx c fun x => { x.setPc a with atStart := false }

/-- A segment that has issued an effect that cannot be taken back (R126). -/
def State.pastReturn (s : State) (c : Cid) : State := s.modBoth c fun x => { x with pastReturn := true }

/-! ### The charge token (R118, R119) -/

/-- The sequencer asks for the token. If it took itself for the holder, it has read the token again (R119, R120). -/
def State.reqToken (s : State) (c : Cid) : State :=
  { s with token := if cSeq c = 0 then { s.token with reqWest := true, copyWest := none }
                    else { s.token with reqEast := true, copyEast := none } }

/-- The sequencer's copy of the epoch. -/
def State.epochCopy (s : State) (c : Cid) : Option (BitVec 32) := if cSeq c = 0 then s.token.copyWest else s.token.copyEast

/-- The sequencer holds the token: its cross-half issues carry its copy of the epoch, and a queue, unit or peer accepts them only if
that is the token's epoch (R120). One that does not match yields (`reqToken`). -/
def State.holdsToken (s : State) (c : Cid) : Bool :=
  s.token.holder == some (cSeq c == 1) && s.epochCopy c == some s.token.epoch

/-- One more cross-half instruction reached. -/
def State.countCross (s : State) (c : Cid) : State :=
  s.modCtx c fun x => { x with prog := { x.prog with cross := x.prog.cross + 1 } }

/-- The cross-half instruction with count `n` issues under the token. -/
def State.claim (s : State) (c : Cid) (n : BitVec 32) : State := { s with token := { s.token with last := n } }.countCross c

/-- A cross-half instruction of a joined context is issued once: skipped if the other sequencer has issued it, issued by the
token's holder, else the token is asked for and the sequencer waits (R119). `words` is the instruction's length. -/
def State.crossRun (s : State) (c : Cid) (cross : Bool) (words : Nat) (body : State → State) : State :=
  if !(cross && s.joined c) then body s
  else
    let n := (s.ctx c).prog.cross + 1
    if n ≤ s.token.last then (s.countCross c).nextPc c words
    else if s.holdsToken c then body (s.claim c n)
    else s.reqToken c

/-! ### Dispatch (R161, R162) -/

/-- R162's fault for a handle named with a mask, if any. -/
def State.handleFault (s : State) (c : Cid) (h : HandleId) (mask : StationSet) : Option (BitVec 16) :=
  let x := s.hnd h
  if (x.st == .allocated || x.st == .provisional) && x.owner == s.lead c && !x.freePending && subset mask x.set then none
  else some Ev.BNK_HANDLE

/-- The first fault of a list of checks. -/
def firstFault : List (Option (BitVec 16)) → Option (BitVec 16)
  | [] => none
  | some f :: _ => some f
  | none :: t => firstFault t

/-- A check as a fault. -/
def need (b : Bool) (code : BitVec 16) : Option (BitVec 16) := if b then none else some code

/-- Checks first, then the effect. -/
def State.checked (s : State) (c : Cid) (l : List (Option (BitVec 16))) (body : State → State) : State :=
  match firstFault l with
  | some f => s.seqFault c f
  | none => body s

/-- Every queue of the mask has room (R161). -/
def State.queuesFree (s : State) (mask : StationSet) : Bool := (stationsOf mask).all fun i => (s.stn i).queue.length < 32

/-- A station instruction goes, under a dispatch number, into the queue of every station of its mask. -/
def State.queueInst (s : State) (no : Nat) (x : SInst) : State :=
  let y := s.ctx x.cid
  (stationsOf x.mask).foldl (fun s i => s.modStn i fun y => { y with queue := y.queue ++ [no] })
    (s.setInst no (some { x with step := y.rngStep, eval := y.prog.evalFlag }))

/-- A station instruction takes the next dispatch number. -/
def State.enqueueInst (s : State) (x : SInst) : State := { s.queueInst s.dispNo x with dispNo := s.dispNo + 1 }

/-- The stations of a mask that this copy of the context passes the instruction to. -/
def State.ownHalf (s : State) (c : Cid) (m : StationSet) : StationSet := if s.joined c then m &&& halfSet c else m

/-- The effective row offset (R164). -/
def effOff (x : Ctx) (imm : Nat) (xe : Bool) (xr : Nat) : Nat := imm + (if xe then bits (x.s xr) 0 20 else 0)

end Sys2Proof.Machine
end

