-- ==== Sys2Proof/Machine/Sampler.lean ====
section
/-! DEFINITION. The sample store and the sampler (R313 to R324): pushes into slots, draws, data positions and their records. -/

namespace Sys2Proof.Machine

/-! ### The store (R313, R314) -/

def State.ssN (s : State) (k : Nat) : Nat := s.fld Fld.MEM_SS_CFG_N k
def State.ssSlot (s : State) (k : Nat) : Nat := 256 * s.fld Fld.MEM_SS_CFG_SLOT k
def State.ssBase (s : State) (k : Nat) : Nat := 256 * s.fld Fld.MEM_SS_BASE_SBASE k
def State.ssWbase (s : State) (k : Nat) : Nat := 2 ^ 24 * s.fld Fld.MEM_SS_BASE_WBASE k
def State.ssG (s : State) (k : Nat) : Nat := s.fld Fld.MEM_SS_CFG_G k * 64
def State.ssWeighted (s : State) (k : Nat) : Bool := s.flag Fld.MEM_SS_CFG_WEIGHTED k
def State.ssValid (s : State) (k : Nat) : Bool := s.flag Fld.MEM_SS_CFG_VALID k

/-- The device address of the slot at the write head. -/
def State.headSlot (s : State) (k : Nat) : Nat := s.ssBase k + (s.store k).head % s.ssN k * s.ssSlot k

/-- The ranges of a store: its slots and its weights. -/
def State.storeAreas (s : State) (k : Nat) : List (Nat × Nat) :=
  (s.ssBase k, s.ssN k * s.ssSlot k) :: (if s.ssWeighted k then [(s.ssWbase k, 2 * s.ssN k)] else [])

/-- The store's region (R313): the region of class SAMPLE that holds its slots and its weights. -/
def State.storeRgn (s : State) (k : Nat) : Option Nat :=
  s.rgnUsed.find? fun r => s.rgnClass r == 1 && (s.storeAreas k).all fun x => s.rgnHolds r x.1 x.2

/-- What becomes of a push of `len` bytes (R314, R308). One to a store whose region is ALLOCATED no more is discarded (DEDUCED, log
entry 128). -/
inductive PushFate where
  | drop | purge | hold | take
  deriving DecidableEq, Repr

/-- What becomes of a push whose turn has come. -/
def State.pushNow (s : State) (k len : Nat) : PushFate :=
  if !s.ssValid k || s.ssSlot k < len then .drop
  else if s.rgnPurging (s.headSlot k) (s.ssSlot k) then .purge
  else if (s.storeRgn k).isNone then .drop
  else .take

/-- What becomes of a push as it comes: beyond the G-th since the last publication, or behind one that is held, it is held. -/
def State.pushFate (s : State) (k len : Nat) : PushFate :=
  match s.pushNow k len with
  | .take => if s.ssG k ≤ (s.store k).since || !(s.store k).held.isEmpty then .hold else .take
  | f => f

/-- Counts of a push that is not delivered. -/
def State.pushMissed (s : State) (k : Nat) (f : PushFate) : State :=
  match f with
  | .drop => s.bump Fld.MEM_SS_CNT_DROPPED 1 k
  | .purge => s.bump Fld.MEM_PURGE_DROPPED
  | .hold => s.bump Fld.MEM_SS_CNT_HELD 1 k
  | .take => s

/-- The write head takes a slot. -/
def State.takeSlot (s : State) (k : Nat) : State := s.setStore k { s.store k with head := (s.store k).head + 1, since := (s.store k).since + 1 }

/-- The write head goes on, the slot's weight being written first. -/
def State.pushEnd (s : State) (k : Nat) (weight : BitVec 16) : State :=
  let s := if s.ssWeighted k then s.memWrite (s.ssWbase k + 2 * ((s.store k).head % s.ssN k)) (bytesOf 2 weight.toNat) else s
  s.takeSlot k

/-- A push is held back to the next bell (R314). -/
def State.holdPush (s : State) (k : Nat) (h : HeldPush) : State :=
  s.setStore k { s.store k with held := (s.store k).held ++ [h] } |>.pushMissed k .hold

/-- A whole push into its slot (R314). -/
def State.pushSlot (s : State) (k : Nat) (weight : BitVec 16) (bytes : List Byte) : State :=
  match s.pushFate k bytes.length with
  | .take => (s.memWrite (s.headSlot k) bytes).pushEnd k weight
  | .hold => s.holdPush k (.whole weight bytes)
  | f => s.pushMissed k f

/-- SAMPLE_PUSH_WRITE (R314). -/
def execSamplePushWrite (store : Fin 16) (weight : BitVec 16) (bytes : List Byte) (s : State) : Host.Outcome State Fault Refusal :=
  .next (s.pushSlot store.val weight bytes)

/-! ### Pushes over Lalux (R470, R473) -/

/-- `n` bytes from `a` lie in one valid host window with the right permission. -/
def State.hostMay (s : State) (perm : Fld) (a n : Nat) : Bool :=
  (List.range 16).any fun w =>
    s.flag Fld.LLX_HWIN_B_VALID w && s.flag perm w && mib2 * s.fld Fld.LLX_HWIN_A_BASE w ≤ a &&
      a + n ≤ mib2 * (s.fld Fld.LLX_HWIN_A_BASE w + s.fld Fld.LLX_HWIN_A_SIZE w)

/-- A posted write is refused: counted, and LLX_WR_DENY once a bell. -/
def State.denyWrite (s : State) (a : Nat) : State :=
  let s := s.bump Fld.LLX_WR_CNT_DENIED
  if s.llx.wrDenyGiven then s
  else ({ s with llx := { s.llx with wrDenyGiven := true } } : State).raise Ev.LLX_WR_DENY (srcLlx false) none a

/-- May a posted write of `n` bytes be made at `a`? -/
def State.postedOk (s : State) (perm : Fld) (a n : Nat) : Bool := assigned s.variant a n && s.hostMay perm a n

def State.setPushes (s : State) (l : List Push) : State := { s with llx := { s.llx with pushes := l } }
def State.putPush (s : State) (p : Push) : State := s.setPushes (p :: s.llx.pushes.filter fun q => q.tag != p.tag)
def State.dropPush (s : State) (tag : BitVec 8) : State := s.setPushes (s.llx.pushes.filter fun q => q.tag != tag)

/-- What a push that is discarded had taken is given back: its place among those held, or its slot while that is the last one taken
(DESIGN CHOICE, log entry 77). -/
def State.freeSlot (s : State) (p : Push) : State :=
  let st := s.store p.store
  if p.held then s.setStore p.store { st with held := st.held.filter (· != .lalux p.tag) }
  else if st.head = p.slot + 1 then s.setStore p.store { st with head := p.slot, since := st.since - 1 }
  else s

/-- A push ends badly: counted once; its further flits are passed over. -/
def State.badPush (s : State) (p : Push) : State :=
  ((s.freeSlot p).putPush { p with bad := true, held := false, buf := [] }).bump Fld.LLX_WR_CNT_PUSH_BAD

/-- A push reaches a region that is being purged (R308): discarded and counted there. -/
def State.purgedPush (s : State) (p : Push) : State :=
  ((s.freeSlot p).putPush { p with bad := true, held := false, buf := [] }).pushMissed p.store .purge

/-- Bytes of a push at their place in its slot; with the last of them its weight is written and it ends. All of them, the weight too, must
lie in a host window for pushes (R470). -/
def State.pushPut (s : State) (p : Push) (d : List Byte) : State :=
  let k := p.store
  let slot := s.ssBase k + p.slot % s.ssN k * s.ssSlot k
  let w := s.ssWbase k + 2 * (p.slot % s.ssN k)
  let last := p.total ≤ p.next + d.length
  let may (a n : Nat) : Bool := s.postedOk Fld.LLX_HWIN_B_PUSH a n
  if s.rgnPurging slot (s.ssSlot k) then s.purgedPush p
  else if (s.storeRgn k).isNone then s.badPush p
  else if !(may (slot + p.next) d.length && (!(last && s.ssWeighted k) || may w 2)) then
    ((s.freeSlot p).putPush { p with bad := true, denied := true }).denyWrite (slot + p.next)
  else
    let s := s.memWrite (slot + p.next) d
    if !last then s.putPush { p with next := p.next + d.length }
    else (if s.ssWeighted k then s.memWrite w (bytesOf 2 p.weight.toNat) else s).dropPush p.tag

/-! ### Publication (R314) -/

/-- The head as it can be published: the first slot whose push is still in flight, or the write head. -/
def State.pubHead (s : State) (k : Nat) : Nat :=
  (s.llx.pushes.filter fun p => p.store == k && !p.bad && !p.held).foldl (fun n p => min n p.slot) (s.store k).head

/-- A Lalux push that was held back takes its slot, with the bytes that have come. -/
def State.releaseLalux (s : State) (p : Push) : State :=
  match s.pushNow p.store p.total with
  | .take =>
    let q := { p with slot := (s.store p.store).head, held := false, buf := [], next := 0 }
    if p.buf.isEmpty then (s.takeSlot p.store).putPush q else (s.takeSlot p.store).pushPut q p.buf
  | .purge => s.purgedPush p
  | _ => s.badPush p

/-- A push that was held back takes its slot. -/
def State.releasePush (s : State) (k : Nat) (h : HeldPush) : State :=
  match h with
  | .whole w d => match s.pushNow k d.length with
    | .take => (s.memWrite (s.headSlot k) d).pushEnd k w
    | f => s.pushMissed k f
  | .lalux t => match s.llx.pushes.find? fun p => p.tag == t && p.held with
    | none => s
    | some p => s.releaseLalux p
  | .come p => (s.releaseLalux p).setPushes s.llx.pushes

/-- Held pushes in order, up to G of them. -/
def State.releaseHeld (k : Nat) : Nat → State → State
  | 0, s => s
  | n + 1, s => match (s.store k).held with
    | [] => s
    | h :: t =>
      if s.ssG k ≤ (s.store k).since && s.ssValid k then s
      else State.releaseHeld k n ((s.setStore k { s.store k with held := t }).releasePush k h)

/-- At a bell every store is published; then the pushes held back come (R314). -/
def State.publish (s : State) : State :=
  (List.range 16).foldl (fun s k =>
    let s := if s.ssValid k then (s.setFld Fld.MEM_SS_HEAD_HEAD (s.pubHead k) k).setStore k { s.store k with since := 0 } else s
    State.releaseHeld k (s.store k).held.length s) s

/-! ### Draws (R316 to R322) -/

/-- The store of a context's training or evaluation draws. -/
def State.smpStore (s : State) (c : Cid) (eval : Bool) : Nat :=
  if eval then s.fld Fld.MEM_SMP_CFG_EVAL_STORE c.val else s.fld Fld.MEM_SMP_CFG_STORE c.val
def State.smpRps (s : State) (c : Cid) : Nat := s.fld Fld.MEM_SMP_CFG_RPS c.val
def State.smpNorepl (s : State) (c : Cid) : Bool := s.flag Fld.MEM_SMP_CFG_NOREPL c.val

/-- The sampler's call for counter word c0 (R318). -/
def smpCall (k : RngKey) (c0 : Nat) : Quad := rngCall k c0 96 0xFFF0

/-- The smallest even b of at least 2 with 2^b ≥ n (R321). -/
def evenBits (n : Nat) : Nat := let b := if n ≤ 1 then 0 else bitLen (n - 1); max 2 (b + b % 2)

/-- Four rounds of R321. -/
def permRounds (seed : Word) (h : Nat) (x : Nat) : Nat :=
  (List.range 4).foldl (fun x rnd =>
    let l := x / 2 ^ h
    let rt := x % 2 ^ h
    let f := (philox (bits seed 0 32) (bits seed 32 32) ⟨rt, rnd, 0, 0⟩).w0
    rt * 2 ^ h + (l ^^^ (f % 2 ^ h))) x

/-- π(j) by cycle walking; the rounds permute the 2^b numbers, so 2^b tries always suffice. -/
def permWalk (seed : Word) (h ew : Nat) : Nat → Nat → Nat
  | 0, x => x
  | n + 1, x => let y := permRounds seed h x; if y < ew then y else permWalk seed h ew n y

def permOf (seed : Word) (ew j : Nat) : Nat := let b := evenBits ew; permWalk seed (b / 2) ew (2 ^ b) j

/-- One draw: the index, the position after it, whether an epoch began; memory reads of weights go through the state. -/
structure Draw where
  ix : Option Nat
  pos : DataPos
  epoch : Bool := false
  st : State
  ue : Bool := false

/-- Without replacement (R321). -/
def drawPerm (key : RngKey) (s : State) (p : DataPos) : Draw :=
  let fresh := !p.begun || p.draws == p.ew.setWidth 64
  let q : DataPos :=
    if fresh then
      let e := p.epoch + 1
      let c := smpCall key (2 ^ 31 + e.toNat % 2 ^ 31)
      { p with begun := true, epoch := e, ebase := p.tail, ew := (p.pub - p.tail).setWidth 32,
               pseed := BitVec.ofNat 64 (c.w0 + c.w1 * 2 ^ 32), draws := 0 }
    else p
  if q.ew = 0 then ⟨none, q, fresh, s, false⟩
  else
    let i := q.ebase + BitVec.ofNat 64 (permOf q.pseed q.ew.toNat q.draws.toNat)
    ⟨some i.toNat, { q with draws := q.draws + 1 }, fresh, s, false⟩

/-- A try (R319, R320): the candidate and word 1. -/
def tryDraw (key : RngKey) (p : DataPos) : Nat × Nat :=
  let q := smpCall key (p.tries.toNat % 2 ^ 31)
  ((p.tail + BitVec.ofNat 64 (q.w0 * (p.pub - p.tail).toNat / 2 ^ 32)).toNat, q.w1)

/-- Tries against the weights (R320). -/
def drawWeighted (key : RngKey) (k : Nat) : Nat → State → DataPos → Bool → Draw
  | 0, s, p, ue => ⟨none, p, false, s, ue⟩
  | n + 1, s, p, ue =>
    let t := tryDraw key p
    let p := { p with tries := p.tries + 1 }
    let r := s.memRead (s.ssWbase k + 2 * (t.1 % s.ssN k)) 2
    if t.2 % 2 ^ 16 < ofBytes r.data then ⟨some t.1, p, false, r.st, ue || r.ue⟩
    else drawWeighted key k n r.st p (ue || r.ue)

/-- One draw of a context's sampler (R319 to R321). -/
def State.draw (s : State) (c : Cid) (eval : Bool) (key : RngKey) (p : DataPos) : Draw :=
  let k := s.smpStore c eval
  if s.smpNorepl c && !s.ssWeighted k then drawPerm key s p
  else
    let p := { p with draws := p.draws + 1 }
    if s.ssWeighted k then (if p.pub = p.tail then ⟨none, p, false, s, false⟩ else drawWeighted key k 1024 s p false)
    else ⟨if p.pub = p.tail then none else some (tryDraw key p).1, { p with tries := p.tries + 1 }, false, s, false⟩

/-- The working copy of a position. -/
def Sampler.work (y : Sampler) (eval : Bool) : DataPos := if eval then y.evalW else y.trainW
def Sampler.setWork (y : Sampler) (eval : Bool) (p : DataPos) : Sampler :=
  if eval then { y with evalW := p } else { y with trainW := p }

/-- `n` draws in order: the row indices they supply (`none` for the rows of an empty draw), the state, an uncorrectable word of the
weights (R322). -/
def State.drawRows (s : State) (c : Cid) (eval : Bool) (key : RngKey) : Nat → List (Option Nat) × State × Bool
  | 0 => ([], s, false)
  | n + 1 =>
    let r := State.drawRows s c eval key n
    let s := r.2.1
    let k := s.smpStore c eval
    let rps := s.smpRps c
    let d := s.draw c eval key ((s.smp c).work eval)
    let t := d.st.setSmp c ((d.st.smp c).setWork eval d.pos)
    let t := if d.epoch then t.bump Fld.MEM_SMP_CNT_EPOCHS 1 c.val else t
    match d.ix with
    | none => (r.1 ++ List.replicate rps none, t.bump Fld.MEM_SMP_CNT_EMPTY 1 c.val, r.2.2 || d.ue)
    | some i =>
      let t := if i + s.ssN k < d.pos.pub.toNat then t.bump Fld.MEM_SMP_CNT_STALE 1 c.val else t
      (r.1 ++ (List.range rps).map fun q => some (i % s.ssN k * rps + q), t, r.2.2 || d.ue)

/-- At a commit (R316, R317): working copies become committed and adopt the published head. -/
def DataPos.adopt (p : DataPos) (head wlim : Nat) : DataPos :=
  { p with pub := BitVec.ofNat 64 head, tail := BitVec.ofNat 64 (head - min head wlim) }

def State.commitDraws (s : State) (c : Cid) : State :=
  let y := s.smp c
  let wl := s.fld Fld.MEM_SMP_CFG_WLIM c.val
  let a := y.trainW.adopt (s.fld Fld.MEM_SS_HEAD_HEAD (s.smpStore c false)) wl
  let b := y.evalW.adopt (s.fld Fld.MEM_SS_HEAD_HEAD (s.smpStore c true)) wl
  s.setSmp c ⟨a, a, b, b⟩

/-! ### Records of a position (R323, R324) -/

/-- Byte 56 of a record. -/
def State.posFlags (s : State) (c : Cid) (eval : Bool) : Nat :=
  let k := s.smpStore c eval
  k + 16 * eval.toNat + 32 * (s.smpNorepl c).toNat + 64 * (s.ssWeighted k).toNat

/-- The record of R323. -/
def posRecord (p : DataPos) (flags : Nat) : List Byte :=
  let b := bytesOf 8 p.pub.toNat ++ bytesOf 8 p.tail.toNat ++ bytesOf 8 p.ebase.toNat ++ bytesOf 4 p.ew.toNat ++
    bytesOf 4 p.epoch.toNat ++ bytesOf 8 p.pseed.toNat ++ bytesOf 8 p.draws.toNat ++ bytesOf 8 p.tries.toNat ++ bytesOf 4 flags
  b ++ bytesOf 4 (crc32c b).toNat

/-- The position of a record. -/
def posOf (b : List Byte) : DataPos :=
  let w (lo : Nat) : Word := BitVec.ofNat 64 (leAt b lo 8)
  ⟨w 0, w 8, w 16, BitVec.ofNat 32 (leAt b 24 4), BitVec.ofNat 32 (leAt b 28 4), w 32, w 40, w 48, fieldN (leAt b 56 1) 5 1 == 1⟩

/-- Does a record fit the context's sampler (R324)? -/
def State.posFits (s : State) (c : Cid) (b : List Byte) : Bool :=
  let f := leAt b 56 1
  leAt b 60 4 == (crc32c (b.take 60)).toNat && f == s.posFlags c (fieldN f 4 1 == 1)

/-- The record takes the place of the position its EVAL bit names. -/
def State.loadPos (s : State) (c : Cid) (b : List Byte) : State :=
  let p := posOf b
  let y := s.smp c
  s.setSmp c (if fieldN (leAt b 56 1) 4 1 = 1 then { y with eval := p, evalW := p } else { y with train := p, trainW := p })

/-- The write of MEM_SMP_LOAD (R324). -/
def State.wrSmpLoad (s : State) (c : Cid) (v : Word) : WOut :=
  let st := (s.ctx c).st
  s.stoppedWrite (!(st == .idle || st == .stopped)) (0x705008 + 0x40 * c.val) fun o => o.map fun s =>
    let r := s.memRead (bits v 6 42 * 64) 64
    if !r.ue && r.st.posFits c r.data then r.st.loadPos c r.data else r.st.raise Ev.SMP_RECORD srcDev (some c)

/-- MEM_SMP_LOAD (R324). -/
def execMemSmpLoad (c : Cid) (v : Word) (s : State) : Host.Outcome State Fault Refusal := .next (s.wrSmpLoad c v).st

/-! ### The registers of stores and samplers (R313, R315, R325, R334, R337) -/

/-- A store's registers are fixed while a sampler naming it belongs to a context that is RUNNING or WAITING. -/
def State.storeBusy (s : State) (k : Nat) : Bool :=
  allCids.any fun c => s.busyCtx c && (s.smpStore c false == k || s.smpStore c true == k)

/-- What VALID = 1 asks of a store with the configuration word `v` (R313, R334). -/
def State.storeOk (s : State) (k : Nat) (v : Word) : Bool :=
  let n := bits v 22 31
  let slot := bits v 2 20 * 256
  let ok (r a len : Nat) : Bool := s.rgnState r == 1 && s.rgnClass r == 1 && s.rgnHolds r a len
  2 ≤ n && slot != 0 && bits v 53 11 != 0 &&
    (List.range 256).any fun r => ok r (s.ssBase k) (n * slot) && (!bit v 1 || ok r (s.ssWbase k) (2 * n))

/-- MEM_SS_CFG. -/
def State.wrSsCfg (s : State) (who : Requester) (k : Nat) (v : Word) : WOut :=
  let off := 0x704008 + 0x40 * k
  if bit v 0 && !s.storeBusy k && !s.storeOk k v then WOut.outside { st := s } off
  else s.regPlain who off (s.storeBusy k) false v

/-- The window limit suits the store (R315). -/
def State.wlimOk (s : State) (k wlim : Nat) : Bool := wlim + 2 * s.ssG k ≤ s.ssN k

/-- MEM_SMP_CFG: a window too large discards the write; NOREPL of a weighted store, and RPS = 0, are refused alone (R337, R18). -/
def State.wrSmpCfg (s : State) (c : Cid) (v : Word) : WOut :=
  let off := 0x705000 + 0x40 * c.val
  let st := (s.ctx c).st
  s.stoppedWrite (!(st == .idle || st == .stopped)) off fun o =>
    let a := bits v 0 4
    let b := bits v 4 4
    if !(s.wlimOk a (bits v 16 32) && s.wlimOk b (bits v 16 32)) then o.outside off
    else
      let o := o.map fun s =>
        ((s.setFld Fld.MEM_SMP_CFG_STORE a c.val).setFld Fld.MEM_SMP_CFG_EVAL_STORE b c.val).setFld Fld.MEM_SMP_CFG_WLIM (bits v 16 32) c.val
      let norepl := bit v 8 && (s.ssWeighted a || s.ssWeighted b)
      let o := if norepl then o.outside off else o.map (·.setFld Fld.MEM_SMP_CFG_NOREPL (bits v 8 1) c.val)
      if bits v 9 7 = 0 then o.outside off else o.map (·.setFld Fld.MEM_SMP_CFG_RPS (bits v 9 7) c.val)

end Sys2Proof.Machine
end

