-- ==== Sys2Proof/Machine/Operands.lean ====
section
/-! DEFINITION. The operand forms of Nente: the fields of the instruction word and of the extension word (R158), and for every
instruction what its encoding table admits (R159, R166, R174, R177, R184, R191, R196, R199, R204, R207). -/

namespace Sys2Proof

open Sys2Proof.Machine

/-- Field [hi:lo] of the instruction word. -/
def NWords.f (w : NWords) (hi lo : Nat) : Nat := bits w.opnd lo (hi + 1 - lo)

/-- The extension word, zero when NEXT names none (R158). -/
def NWords.extw (w : NWords) : BitVec 64 := if w.next = 0 then 0 else w.ext

/-- Field [hi:lo] of the extension word. -/
def NWords.x (w : NWords) (hi lo : Nat) : Nat := bits w.extw lo (hi + 1 - lo)

def NWords.fb (w : NWords) (i : Nat) : Bool := bit w.opnd i
def NWords.xb (w : NWords) (i : Nat) : Bool := bit w.extw i
/-- A handle field. -/
def NWords.h (w : NWords) (lo : Nat) : HandleId := BitVec.ofNat 12 (bits w.opnd lo 12)
def NWords.xh (w : NWords) (lo : Nat) : HandleId := BitVec.ofNat 12 (bits w.extw lo 12)

/-- The bits of a list of fields [hi:lo]. -/
def fieldMask : List (Nat × Nat) → Nat
  | [] => 0
  | (hi, lo) :: t => ((2 ^ (hi + 1 - lo) - 1) * 2 ^ lo) ||| fieldMask t

/-- No bit outside the fields is set. -/
def onlyFields (x : Nat) (l : List (Nat × Nat)) : Bool := x &&& fieldMask l == x

/-- One word, these fields. -/
def NWords.enc0 (w : NWords) (l : List (Nat × Nat)) : Bool := w.next == 0 && onlyFields w.opnd.toNat l

/-- Two words, these fields. -/
def NWords.enc1 (w : NWords) (l k : List (Nat × Nat)) : Bool :=
  w.next == 1 && onlyFields w.opnd.toNat l && onlyFields w.extw.toNat k

/-- The instruction's length in words. -/
def NWords.len (w : NWords) : Nat := 1 + w.next.toNat

namespace Enc

/-! Control and scalar (R166). -/
def none (w : NWords) : Bool := w.enc0 []
def br (w : NWords) : Bool := w.enc0 [(31, 0)]
def brc (w : NWords) : Bool := w.enc0 [(53, 51), (50, 46), (45, 41), (40, 40), (31, 0)] && w.f 53 51 < 6
def loop (w : NWords) : Bool := w.enc0 [(53, 52), (51, 51), (50, 46), (45, 24), (23, 0)]
def endloop (w : NWords) : Bool := w.enc0 [(53, 52)]
def call (w : NWords) : Bool := w.enc0 [(53, 49), (31, 0)]
def ret (w : NWords) : Bool := w.enc0 [(53, 49)]
def sets (w : NWords) : Bool :=
  onlyFields w.opnd.toNat [(53, 52), (51, 47), (46, 44), (43, 43), (42, 42), (41, 37), (31, 0)] &&
    (if w.fb 43 then w.next == 1 && !w.fb 42 else w.next == 0) && w.f 53 52 != 3
def salu (w : NWords) : Bool := w.enc0 [(53, 49), (48, 44), (43, 39), (38, 35)] && w.f 38 35 < 13
def salui (w : NWords) : Bool := w.enc0 [(53, 49), (48, 44), (38, 35), (31, 0)] && w.f 38 35 < 13
def lds (w : NWords) : Bool :=
  w.enc0 [(53, 49), (48, 44), (43, 42), (41, 30), (23, 0)] && w.f 43 42 != 3 && (w.f 43 42 != 2 || w.f 23 0 < 7)
def sts (w : NWords) : Bool := w.enc0 [(53, 49), (48, 44), (43, 42), (41, 30), (23, 0)] && w.f 43 42 < 2

/-! Synchronization (R174). -/
def segment (w : NWords) : Bool := w.enc0 [(53, 53), (15, 0)]
def bellwait (w : NWords) : Bool := w.enc0 [(7, 0)] && w.f 7 0 != 0
def barrier (w : NWords) : Bool := w.enc0 [(53, 51), (50, 50)]
def fence (w : NWords) : Bool := w.enc0 [(53, 53), (52, 52), (51, 51), (50, 50)]

/-! Array and ring (R177). -/
def mma (w : NWords) : Bool :=
  let l := [(53, 51), (50, 50), (49, 46), (45, 43), (42, 42), (41, 38), (37, 34), (33, 22)]
  w.enc0 l || w.enc1 l [(19, 0), (24, 20), (25, 25)]
def accload (w : NWords) : Bool := w.enc0 [(53, 51), (50, 50), (48, 46), (45, 34), (33, 14), (13, 9), (8, 8)] && w.f 48 46 < 5
def drain (w : NWords) : Bool := w.enc0 [(53, 51), (50, 50), (49, 49), (48, 46), (45, 34), (33, 14), (13, 9), (8, 8)]
def ringinj (w : NWords) : Bool :=
  w.enc1 [(53, 47), (46, 43), (42, 42), (41, 35), (34, 32), (31, 28), (27, 16)] [(19, 0), (39, 20), (44, 40), (45, 45)]
def ringret (w : NWords) : Bool := w.enc0 [(53, 51), (50, 47), (46, 44), (43, 43), (42, 31), (30, 11), (10, 6), (5, 5)]

/-! Vector (R184, R186, R99). -/
def vopFields (w : NWords) : Bool :=
  w.enc1 [(53, 51), (50, 50), (49, 42), (41, 30), (29, 18), (17, 6)] [(11, 0), (16, 12), (17, 17), (18, 18), (25, 19), (41, 26), (57, 42)]
/-- `ops` is the number of operation codes that R99 assigns. -/
def vop (ops : Nat) (w : NWords) : Bool := vopFields w && !w.fb 50 && w.f 49 42 < ops
def vopLoad (w : NWords) : Bool := vopFields w && w.fb 50 && w.f 49 45 == 0
def vred (w : NWords) : Bool :=
  w.enc1 [(53, 51), (50, 48), (47, 45), (44, 44), (43, 32), (31, 20), (19, 8), (7, 1)] [(11, 0), (16, 12), (17, 17)] &&
    w.f 50 48 < 6 && w.f 47 45 != 6
def vlut (form : Nat) (w : NWords) : Bool :=
  w.enc0 [(53, 51), (50, 49), (48, 46), (45, 34), (33, 22), (21, 10)] && w.f 50 49 == form
def vcvt (w : NWords) : Bool :=
  w.enc1 [(53, 51), (50, 47), (46, 44), (43, 43), (42, 42), (41, 41), (40, 40), (39, 28), (27, 16), (15, 4), (3, 3)]
    [(11, 0), (27, 12), (32, 28), (33, 33), (40, 34)] && w.f 46 44 < 5
def vrng (w : NWords) : Bool := w.enc0 [(53, 51), (50, 49), (48, 37), (36, 21), (20, 5)]

/-! Haulage (R191). -/
def stream (w : NWords) : Bool := w.enc0 [(53, 52), (51, 48), (47, 43), (42, 31), (30, 30)]
def waith (w : NWords) : Bool := w.enc0 [(53, 42), (41, 21)]
def saveact (w : NWords) : Bool := w.enc0 [(53, 52), (51, 48), (47, 43), (42, 31), (30, 29)] && w.f 30 29 != 3
def loadact (w : NWords) : Bool := w.enc0 [(53, 52), (51, 48), (47, 43), (42, 31), (30, 30), (29, 29)]

/-! Handles (R196, R197). -/
def halloc (w : NWords) : Bool :=
  w.enc1 [(53, 42), (41, 39), (38, 37), (36, 33), (32, 29), (28, 18)] [(19, 0), (31, 20), (38, 32)] &&
    w.f 38 37 != 3 && w.x 19 0 != 0
def hfree (w : NWords) : Bool := w.enc0 [(53, 42)]

/-! Update (R199), collectives (R204, R205), securing (R207). -/
def millstep (w : NWords) : Bool := w.enc0 [(53, 49), (48, 37), (36, 36), (35, 24)]
def coefset (w : NWords) : Bool := w.enc0 [(53, 52), (51, 40), (39, 32), (31, 27)]
def coefswap (w : NWords) : Bool := w.enc0 [(53, 52)]
def vupdate (w : NWords) : Bool := w.enc0 [(53, 49), (48, 37), (35, 24)]
def reduce (w : NWords) : Bool :=
  w.enc1 [(53, 42), (41, 30), (29, 18), (17, 10)] [(17, 0), (27, 18), (28, 28), (29, 29), (41, 30), (53, 42)] &&
    w.f 17 10 != 0 && 1 ≤ w.x 17 0 && w.x 17 0 ≤ 131072
def gather (w : NWords) : Bool := w.enc0 [(53, 42), (41, 30), (29, 20)]
def bcast (w : NWords) : Bool := w.enc0 [(53, 42), (41, 32), (31, 15)]
def send (w : NWords) : Bool := w.enc0 [(53, 42), (41, 25), (24, 17)]
def atSa (w : NWords) : Bool := w.enc0 [(53, 49)]

end Enc

end Sys2Proof
end

