-- ==== Sys2Proof/Machine/Sync.lean ====
section
/-! DEFINITION. Segments, barriers, fences, evaluations, the charge token and context commands (R119, R122 to R124, R136 to R140,
R174 to R176). -/

namespace Sys2Proof.Machine

/-! ### Bounded mode as SEGMENT sees it (R490, R496, R498, R523) -/

def State.bounded (s : State) : Bool := !s.flag Fld.SFC_PROFILE_RESILIENCE

/-- The secured context (R490). -/
def State.securedCtx (s : State) : Cid :=
  Fin.ofNat 8 (4 * s.fld Fld.RLF_CFG_SEQ + s.fld Fld.RLF_CFG_CTX)

/-- S_c (R496). -/
def State.securedStep (s : State) : Nat :=
  if s.flag Fld.RLF_CTX_SECURED_VALID then s.fld Fld.RLF_CTX_SECURED_STEP else (s.ctx (s.lead s.securedCtx)).takenStep.toNat

/-- In Bounded mode the context is the secured context: the one that RLF_CFG's CTX, SEQ and JOINED name. -/
def State.isSecured (s : State) (c : Cid) : Bool :=
  s.bounded && s.lead c == s.lead s.securedCtx && s.flag Fld.RLF_CFG_JOINED == s.joined c

/-- R498: the step after this one is too far past the secured step. -/
def State.stepHeld (s : State) (c : Cid) : Bool :=
  s.isSecured c && s.fld Fld.RLF_CFG_L != 0 &&
    s.securedStep + s.fld Fld.RLF_CFG_L < (s.ctx c).prog.step.toNat + 1

/-- R523: a catch-up copy that is to be applied before the next step's NEWSTEP segment. While its step is not known the relief
holds the step after Sa (DESIGN CHOICE, log entry 44). -/
def State.copyHeld (s : State) (c : Cid) : Bool :=
  match s.rlf.act with
  | some x => x.cid == s.lead c && x.copyAsked &&
      (match x.copyStep with | some k => k.toNat | none => x.sa) ≤ (s.ctx c).prog.step.toNat
  | none => false

/-- The first SEGMENT of a restored context (R526, R541). -/
def State.firstWork (s : State) (c : Cid) : State :=
  match s.rlf.act with
  | some x =>
    if x.cid != s.lead c || x.worked then s
    else
      let s := { s with rlf := { s.rlf with act := some { x with worked := true } } }
      let s := s.setFld Fld.RLF_ACT_TIME_FIRST_WORK (min 0xFFFF ((s.now - x.noticeAt) / 1000))
      if (SMap.val s.rlf.covers {} x.entry.val).served then s.raise Ev.RLF_SLOW srcDev else s
  | none => s

/-! ### Segments -/

/-- SEGMENT (R122, R174). -/
def execSegment (c : Cid) (w : NWords) (s : State) : Host.Outcome State Fault Refusal :=
  let x := s.ctx c
  let news := w.fb 53
  if !s.canExec c then .next s
  else if x.inSeg then .next (s.seqFault c Ev.SEQ_NO_SEGMENT)
  else if !Enc.segment w then .next (s.seqFault c Ev.SEQ_OPCODE)
  else if news && x.prog.evalFlag then .next (s.seqFault c Ev.EVAL_PLACE)
  else if news && (s.stepHeld c || s.copyHeld c) && !(s.copies c).any (fun d => (s.ctx d).inSeg) then
    let s := if s.stepHeld c then s.bump Fld.RLF_CNT_HOLDS else s
    .next ({ s with rlf := { s.rlf with hold := true } }.modBoth c fun x => { x with emptySeg := true, st := .waiting, segLen := 0 })
  else
    .next ((s.firstWork c).modCtx c fun x => { x with
      prog := { x.prog with pc := x.prog.pc + 8, step := if news then x.prog.step + 1 else x.prog.step }
      inSeg := true, atStart := true, newstep := news, budget := BitVec.ofNat 16 (w.f 15 0), overBudget := false
      segStart := s.seqCyc })

/-- COMMIT and BELLWAIT end the segment's issue; they alone may follow EVALEND (R138). -/
def State.commitSegment (s : State) (c : Cid) (enc : Bool) (bells : Nat) : State :=
  let x := s.ctx c
  if !s.canExec c then s
  else if !x.inSeg then s.seqFault c Ev.SEQ_NO_SEGMENT
  else if !enc then s.seqFault c Ev.SEQ_OPCODE
  else if !x.unbound.isEmpty then s.seqFault c Ev.SEQ_GROUP
  else (s.nextPc c 1).modCtx c fun x => { x with ended := true, halting := false, waitBells := bells }

/-- COMMIT (R123, R124). -/
def execCommit (c : Cid) (w : NWords) (s : State) : Host.Outcome State Fault Refusal :=
  .next (s.commitSegment c (Enc.none w) 0)

/-- BELLWAIT (R124). -/
def execBellwait (c : Cid) (w : NWords) (s : State) : Host.Outcome State Fault Refusal :=
  .next (s.commitSegment c (Enc.bellwait w) (w.f 7 0))

/-- EVALBEGIN (R138). -/
def execEvalbegin (c : Cid) (w : NWords) (s : State) : Host.Outcome State Fault Refusal :=
  .next (s.seqRun c (Enc.none w) [] fun s =>
    let x := s.ctx c
    if x.atStart && !x.newstep && !x.prog.evalFlag then
      (s.modCtx c fun x => { x with prog := { x.prog with evalFlag := true } }).nextPc c 1
    else s.seqFault c Ev.EVAL_PLACE)

/-- EVALEND (R138). -/
def execEvalend (c : Cid) (w : NWords) (s : State) : Host.Outcome State Fault Refusal :=
  .next (s.seqRun c (Enc.none w) [] fun s =>
    if (s.ctx c).prog.evalFlag then
      (s.modCtx c fun x => { x with prog := { x.prog with evalFlag := false }, evalEnded := true }).nextPc c 1
    else s.seqFault c Ev.EVAL_PLACE)

/-! ### Streams of a context -/

/-- Every stream in a queue or a shadow slot, with its hub, queue and whether it is the running one. -/
def State.allStreams (s : State) : List (HubId × QueueId × Bool × Stream) :=
  allQueues.flatMap fun hq =>
    let x := s.que hq.1 hq.2
    (match x.run with | some r => [(hq.1, hq.2, true, r)] | none => []) ++
      (match x.shadow with | some r => [(hq.1, hq.2, false, r)] | none => [])

def State.streamsOf (s : State) (c : Cid) : List Stream :=
  (s.allStreams.map fun p => p.2.2.2).filter fun r => s.lead r.cid == s.lead c

/-! ### BARRIER (R175, R276) -/

/-- The number at which the sequencer that dispatched through `c` reached the barrier. -/
def Barrier.noOf (b : Barrier) (c : Cid) : Option Nat := if cSeq c = 0 then b.noW else b.noE

/-- Dispatched before the barrier, by the copy `c`. -/
def Barrier.after (b : Barrier) (c : Cid) (no : Nat) : Bool :=
  match b.noOf c with
  | some n => no < n
  | none => false

/-- A barrier of the context stands between the instruction and its station (R175). -/
def State.barred (s : State) (x : SInst) (no : Nat) (i : StationId) : Bool :=
  (s.ctx (s.lead x.cid)).barriers.any fun b => has b.set i && (match b.noOf x.cid with | some n => n ≤ no | none => false)

/-- This copy of the context reaches the barrier with an ordinal: its number is noted in that barrier's record, or a record is made. -/
def noteBarrier (c : Cid) (no : Nat) (set : StationSet) (ord : Nat) : List Barrier → List Barrier
  | [] => [⟨if cSeq c = 0 then some no else none, if cSeq c = 0 then none else some no, set, ord⟩]
  | b :: t =>
    if b.ord = ord then (if cSeq c = 0 then { b with noW := some no } else { b with noE := some no }) :: t
    else b :: noteBarrier c no set ord t

/-- The sequencer of `c` reaches its next BARRIER: where it stands is noted with the controlling copy. -/
def State.reachBarrier (s : State) (c : Cid) (set : StationSet) : State :=
  let no := s.dispNo
  let k := (s.ctx c).barOrd
  (({ s with dispNo := no + 1 }.modCtx (s.lead c) fun y => { y with barriers := noteBarrier c no set k y.barriers }).modCtx c fun y =>
    { y with barOrd := k + 1 }).nextPc c 1

/-- BARRIER (R175). In a joined context both sequencers note where they stand, also for a barrier of one half: streams of either one
are awaited (R276). Across both halves it counts as a cross-half instruction (R118): the token's holder sets it first. -/
def execBarrier (c : Cid) (w : NWords) (s : State) : Host.Outcome State Fault Refusal :=
  .next (s.seqRun c (Enc.barrier w) [] fun s =>
    let x := s.ctx c
    let set := if w.fb 50 then s.seamSet c else x.m (w.f 53 51)
    let cross := s.joined c && bothHalves set
    let n := x.prog.cross + 1
    if !subset set (s.seamSet c) then s.seqFault c Ev.RING_SPAN
    else if set = 0 then s.nextPc c 1
    else if !cross then s.reachBarrier c set
    else if n ≤ s.token.last then (s.countCross c).reachBarrier c set
    else if s.holdsToken c then (s.claim c n).reachBarrier c set
    else s.reqToken c)

/-- The barrier has all it waits for (R175, R276). -/
def State.barrierOk (s : State) (c : Cid) (before : List Barrier) (b : Barrier) : Bool :=
  let nos := s.instNos c
  let needed := if s.joined c then b.noW.isSome && b.noE.isSome else true
  let insts := nos.all fun no => match s.inst no with
    | some x => !(b.after x.cid no && x.mask &&& b.set &&& ~~~x.done != 0)
    | none => true
  let streams := (s.streamsOf c).all fun r =>
    !b.after r.cid r.no ||
      (r.checked && !(r.sb && r.served &&& b.set != 0 && !(before.any fun e => e.after r.cid r.no && r.served &&& e.set != 0)))
  needed && insts && streams

/-- The first barrier that can pass is taken away. -/
def State.passBarrier (s : State) (c : Cid) : List Barrier → List Barrier → List Barrier
  | _, [] => []
  | before, b :: t => if s.barrierOk c before b then t else b :: s.passBarrier c (before ++ [b]) t

/-- BARRIER_PASS (R175). -/
def execBarrierPass (c : Cid) (s : State) : Host.Outcome State Fault Refusal :=
  .next (s.modCtx (s.lead c) fun x => { x with barriers := s.passBarrier c [] x.barriers })

/-! ### FENCE (R176) -/

/-- FENCE: the sequencer stops, unless no bit is set. -/
def execFence (c : Cid) (w : NWords) (s : State) : Host.Outcome State Fault Refusal :=
  .next (s.seqRun c (Enc.fence w) [] fun s =>
    let sel := BitVec.ofNat 4 (w.f 53 50)
    let s := s.nextPc c 1
    if sel = 0 then s else s.modCtx c fun x => { x with wait := .fence sel s.dispNo })

/-- Collectives dispatched before `no` whose acceptance or bunker reads are awaited (R123, R176). -/
def State.collOpen (s : State) (c : Cid) (no : Nat) : Bool :=
  (s.fab.reds.any fun r => s.lead r.cid == s.lead c && r.dispatched && !r.firstRead && r.no < no) ||
    s.fab.colls.any fun r => s.lead r.cid == s.lead c && r.kind != .recv && !r.read && r.no < no

/-- Updates dispatched before `no` that their unit has not accepted. -/
def State.millOpen (s : State) (c : Cid) (no : Nat) : Bool :=
  (s.mill0.queue ++ s.mill1.queue ++ s.vus).any fun u => s.lead u.cid == s.lead c && !u.accepted && u.no < no

/-- The context's stores reach HBM (R172). -/
def State.flushStores (s : State) (c : Cid) : State :=
  let l := s.lead c
  let s := (s.ctx l).stores.foldl (fun s p => s.memWrite p.1 (bytesOf 8 p.2.toNat)) s
  s.modCtx l fun x => { x with stores := [] }

/-- FENCE_PASS: every selected condition holds (R176); STORE makes the stores visible. -/
def execFencePass (c : Cid) (s : State) : Host.Outcome State Fault Refusal :=
  match (s.ctx c).wait with
  | .fence sel no =>
    let haul := bit sel 0 && (s.streamsOf c).any fun r => !r.prov && r.no < no
    let coll := bit sel 1 && s.collOpen c no
    let mill := bit sel 2 && s.millOpen c no
    if haul || coll || mill then .next s
    else
      let s := if bit sel 3 then s.flushStores c else s
      .next (s.modCtx c fun x => { x with wait := .none })
  | _ => .next s

/-! ### The charge token (R119) -/

/-- TOKEN_TRANSFER: to the sequencer that asks for it, with a copy of the epoch, which increases by 1. A token without a holder that both
ask for goes to the West, and its epoch increases too (DESIGN CHOICE, log entry 21). -/
def execTokenTransfer (s : State) : Host.Outcome State Fault Refusal :=
  let t := s.token
  let give (e : Bool) : Host.Outcome State Fault Refusal :=
    .next { s with token := { t with
      holder := some e, epoch := t.epoch + 1, copyWest := if e then none else some (t.epoch + 1), copyEast := if e then some (t.epoch + 1) else none
      reqWest := if e then t.reqWest else false, reqEast := if e then false else t.reqEast } }
  match t.holder with
  | none => if t.reqWest then give false else if t.reqEast then give true else .next s
  | some false => if t.reqEast then give true else .next s
  | some true => if t.reqWest then give false else .next s

/-! ### Completion (R123) -/

/-- A securing of this segment still reads bunker (R123, R511). -/
def State.secureReads (s : State) (c : Cid) : Bool :=
  match s.rlf.securing with
  | some z => z.cid == s.lead c && (s.ctx (s.lead c)).segNo ≤ z.no &&
      z.unread.any fun i => match z.items[i]? with | some it => it.kind == 3 | none => false
  | none => false

/-- Everything of R123 but the banks. A scalar that an LDS or a flag word has still to write holds the segment back too (DESIGN CHOICE,
log entry 121). -/
def State.segQuiet (s : State) (c : Cid) : Bool :=
  let l := s.ctx (s.lead c)
  (s.copies c).all (fun d => let x := s.ctx d; x.ended && x.wait == .none && x.lds.isEmpty && x.flagWait.isEmpty) &&
    l.barriers.isEmpty && (s.openNos c).isEmpty && (s.streamsOf c).all (fun r => r.prov) &&
    !s.collOpen c s.dispNo && !s.millOpen c s.dispNo && !s.secureReads c

/-- SEGMENT_COMPLETE (R123, R124): the context becomes WAITING; a bank left LOADED or DONE faults with SEQ_BANKS. -/
def execSegmentComplete (c : Cid) (s : State) : Host.Outcome State Fault Refusal :=
  let l := s.lead c
  let x := s.ctx l
  if x.st != .running || x.faulted.isSome || s.ctxStopped c then .next s
  else if !s.segQuiet c then .next s
  else
    let banks := (stationsOf (s.seamSet c)).flatMap fun i => [(s.stn i).bank0.st, (s.stn i).bank1.st]
    if banks.any fun b => b == .loaded || b == .done then .next (s.seqFault l Ev.SEQ_BANKS)
    else if banks.any fun b => b != .empty then .next s
    else
      let len := s.seqCyc - x.segStart
      .next ((s.checkBudget c).modBoth c fun x => { x with st := .waiting, segLen := len })

/-! ### Context commands (R136, R137) -/

/-- A command waits for the next bell: KILL wins, else the last one written. The East copy of a joined context takes none
(R117). -/
def State.postCmd (s : State) (c : Cid) (code : BitVec 3) (target : BitVec 2) : State :=
  if s.lead c ≠ c || (s.ctx c).cmd == 3 then s else s.modCtx c fun x => { x with cmd := code, cmdTarget := target }

def execCmdStop (c : Cid) (s : State) : Host.Outcome State Fault Refusal := .next (s.postCmd c 1 0)
def execCmdResume (c : Cid) (s : State) : Host.Outcome State Fault Refusal := .next (s.postCmd c 2 0)
def execCmdKill (c : Cid) (s : State) : Host.Outcome State Fault Refusal := .next (s.postCmd c 3 0)
def execCmdPreempt (c : Cid) (target : BitVec 2) (s : State) : Host.Outcome State Fault Refusal := .next (s.postCmd c 4 target)

/-- CONTEXT_PURGE_DONE (R230): a PURGING context whose handles and regions are all purged becomes IDLE. -/
def execContextPurgeDone (c : Cid) (s : State) : Host.Outcome State Fault Refusal :=
  let l := s.lead c
  let x := s.ctx l
  let handles := s.usedHandles.any fun p => p.2.owner == l
  let regions := (List.range 256).any fun r => s.rgnState r == 2 && s.rgnOfCtx l r
  if x.st != .purging || handles || regions then .next s
  else .next (s.modBoth c fun x => { x with st := .idle })

end Sys2Proof.Machine
end

