-- ==== Sys2Proof/Machine/Secured.lean ====
section
/-! DEFINITION. What a securing in flight holds back (R511): writes into items that it has not read yet. -/

namespace Sys2Proof.Machine

/-- The fold region of a context (R434). -/
def State.foldArea (s : State) (c : Cid) : List (Nat × Nat) :=
  if s.flag Fld.BKN_CTX_BUF_FOLD_V c.val then [s.rgnArea (s.fld Fld.BKN_CTX_BUF_FOLD c.val)] else []

/-- The HBM, STORE and fold ranges of one item; the fold region counts as the item after the plan's last. -/
def State.itemAreas (s : State) (z : Securing) (i : Nat) : List (Nat × Nat) :=
  match z.items[i]? with
  | some it => if it.kind = 2 then [s.placed z.cid it.w1.toNat it.w2.toNat] else if it.kind = 4 then s.storeAreas it.aux.toNat else []
  | none => s.foldArea z.cid

/-- The securing and the catch-up copy in flight: both are read under R511 (R522). -/
def State.flights (s : State) : List Securing := s.rlf.securing.toList ++ s.rlf.copy.toList

/-- The write of a drain stream, or of a write-back into HBM, dispatched under number `no` waits for an item (R511). -/
def State.secHolds (s : State) (no : Nat) (x : Nat × Nat) : Bool :=
  s.flights.any fun z => z.no < no && z.unread.any fun i => (s.itemAreas z i).any (overlaps x)

/-- The MASTER of the tensor record at an address (R342). -/
def State.recMaster (s : State) (c : Cid) (a : Nat) : Nat :=
  fieldN (ofBytes (s.memBits.read ((s.ctxAddr c a 192).getD a + 16) 8)) 0 48

/-- An update dispatched under number `no` waits until its tensor's item is read (R511). -/
def State.secHoldsTensor (s : State) (no : Nat) (c : Cid) (a : Nat) : Bool :=
  s.flights.any fun z => z.no < no && z.unread.any fun i =>
    match z.items[i]? with
    | some it => it.kind == 1 && s.recMaster z.cid it.w1.toNat == s.recMaster c a
    | none => false

/-- An update of the restored context waits for its tensor's assay, or for the copy that replaces the tensor (R520, R521). -/
def State.assayHolds (s : State) (c : Cid) (a : Nat) : Bool :=
  match s.rlf.act with
  | some x => x.cid == s.lead c && (x.assay ++ x.failed).any fun i =>
    match x.items[i]? with
    | some it => it.kind == 1 && s.recMaster c it.w1.toNat == s.recMaster c a
    | none => false
  | none => false

/-! ### The station image (R507) -/

/-- The slots of a station, each with its number among tables (0) and drain programs (1). -/
def Station.slotList (y : Station) : List (Nat × Slot) :=
  (y.tables.map fun p => (2 * p.1, p.2)) ++ y.drains.map fun p => (2 * p.1 + 1, p.2)

/-- Words as bytes. -/
def u64s (l : List Nat) : List Byte := l.flatMap (bytesOf 8)

/-- A byte list as words, its last one filled up with zeros. -/
def packWords (b : List Byte) : List Nat := (List.range (ceilDiv b.length 8)).map fun i => leAt b (8 * i) 8

/-- The owner of a slot as a number: 0 for none, else one more than the context's. -/
def ownerCode : Option Cid → Nat
  | some c => c.val + 1
  | none => 0

/-- The slots that are loaded at the stations of the context's seam: for each, its place with its owner, its length and its bytes, after
their number (DESIGN CHOICE, log entry 45). -/
def State.stationImage (s : State) (c : Cid) : List Byte :=
  let es := (stationsOf (s.seamSet (s.lead c))).flatMap fun i => (s.stn i).slotList.map fun p =>
    (1024 * i.val + p.1 + 2 ^ 20 * ownerCode p.2.owner) :: p.2.img.length :: packWords p.2.img
  u64s (es.length :: es.flatten)

/-- A securing in flight has its station image before a load dispatched after it changes a slot (R511). -/
def State.secSlots (s : State) (no : Nat) : State :=
  match s.rlf.securing with
  | some z =>
    if z.no < no && z.stn.isNone then { s with rlf := { s.rlf with securing := some { z with stn := some (s.stationImage z.cid) } } } else s
  | none => s

end Sys2Proof.Machine
end

