-- ==== Sys2Proof/Machine/Fabric.lean ====
section
/-! DEFINITION. The Berken fabric: identities and routing (R409 to R415), windows and remote writes (R406, R407), fabric resets
(R408), heartbeats and time (R416 to R418, R436, R437), suspicion and failure (R419 to R422), the route tables (R445). -/

namespace Sys2Proof.Machine

/-! ### Identities and positions (R409, R410) -/

/-- The valid BKN_REMAP entry of an identity. -/
def State.remapOf (s : State) (id : NodeId) : Option Nat :=
  (List.range 64).find? fun e => s.flag Fld.BKN_REMAP_VALID e && s.fld Fld.BKN_REMAP_IDENT e == id.toNat

/-- The position that serves an identity. -/
def State.posOf (s : State) (id : NodeId) : NodeId :=
  match s.remapOf id with
  | some e => BitVec.ofNat 17 (s.fld Fld.BKN_REMAP_POS e)
  | none => id

/-- The device accepts messages for the identity. -/
def State.accepts (s : State) (id : NodeId) : Bool :=
  id == s.ownId || s.fab.assumed.contains id || ((s.remapOf id).isSome && s.posOf id == s.ownPos)

/-- The identity that an activated relief answers to (R515). -/
def State.isAssumed (s : State) (id : NodeId) : Bool :=
  match s.rlf.act with
  | some x => x.ident == id
  | none => false

/-- A coordinate of a position: 0 x, 1 y, 2 z. -/
def coord (pos : NodeId) (d : Nat) : Nat := match d with | 0 => bits pos 11 6 | 1 => bits pos 5 6 | _ => bits pos 0 5
def State.torusSize (s : State) (d : Nat) : Nat :=
  1 + (match d with | 0 => s.fld Fld.BKN_TORUS_XS | 1 => s.fld Fld.BKN_TORUS_YS | _ => s.fld Fld.BKN_TORUS_ZS)
def posMk (x y z : Nat) : NodeId := BitVec.ofNat 17 (x % 64 * 2048 + y % 64 * 32 + z % 32)
/-- A position inside the torus (R204, R409). -/
def State.inTorus (s : State) (pos : NodeId) : Bool := [0, 1, 2].all fun d => coord pos d < s.torusSize d

/-! ### Routing (R411 to R415) -/

/-- The direction of the default route at a position: x, then y, then z, the shorter way, + when both are equal. -/
def State.defaultDir (s : State) (at_ target : NodeId) : Option Nat :=
  ([0, 1, 2].find? fun d => coord at_ d != coord target d).map fun d =>
    let n := s.torusSize d
    let up := (coord target d + n - coord at_ d) % n
    if 2 * up ≤ n then 2 * d else 2 * d + 1

/-- A coded direction of the route table: 7 is the default direction; 6 leads nowhere. -/
def State.dirOfCode (s : State) (target : NodeId) (code : Nat) : Option Nat :=
  if code = 7 then s.defaultDir s.ownPos target else if code < 6 then some code else none

def mkPort (plane dir j : Nat) : PortId := Fin.ofNat 48 (12 * plane + 2 * dir + j)

/-- A port of the plane and direction that carries traffic. -/
def State.livePort (s : State) (plane dir j : Nat) : Bool :=
  (s.bport (mkPort plane dir j)).st == .paired && s.portOn (.berken (mkPort plane dir j))

/-- The link-set is up, and does not lead to a failed position other than the target (R404, R415). -/
def State.dirUsable (s : State) (plane : Nat) (target : NodeId) (dir : Nat) : Bool :=
  let next := s.neighbour s.ownPos dir
  (s.livePort plane dir 0 || s.livePort plane dir 1) && !s.fab.downSets.contains (8 * plane + dir) &&
    (!s.fab.faults.contains next || next == target)

/-- The direction that a collective's message takes along its ring (R424): word 6 [30:28] holds it plus 1, 0 leaving it to the route table
(DESIGN CHOICE, log entry 37). -/
def ringDir (m : FMsg) : Option Nat :=
  let d := bits m.w6 28 3
  if (m.kind == 2 || m.kind == 3) && 1 ≤ d && d ≤ 6 then some (d - 1) else none

/-- The direction and DETOUR of the next hop; none where the message is to be discarded. A message of a ring that has not been detoured
keeps to its ring. -/
def State.hop (s : State) (plane : Nat) (target : NodeId) (detour : Bool) (ring : Option Nat := none) : Option (Nat × Bool) :=
  let e := (SMap.val s.fab.routes 0x3F target.toNat).toNat
  let primary := if detour then s.dirOfCode target (e % 8) else ring.or (s.dirOfCode target (e % 8))
  match primary.filter (s.dirUsable plane target) with
  | some d => some (d, detour)
  | none =>
    if detour then none
    else ((s.dirOfCode target (e / 8)).filter (s.dirUsable plane target)).map fun d => (d, true)

/-- The hash of R412. -/
def msgHash (m : FMsg) : Nat := Config.planeHash m.src m.dst m.vl (if m.kind = 4 then BitVec.ofNat 8 (bits m.w1 0 8) else 0)

/-- The planes in use. -/
def State.planeList (s : State) : List Nat := (List.range 4).filter fun d => bit (BitVec.ofNat 4 (s.fld Fld.BKN_CFG_PLANES)) d

/-- The plane that a source chooses. -/
def State.pickPlane (s : State) (m : FMsg) : BitVec 2 :=
  let l := s.planeList
  BitVec.ofNat 2 (l.getD (msgHash m % max 1 l.length) 0)

/-- A message joins a port's queue. -/
def State.queueAt (s : State) (p : PortId) (m : FMsg) (cls : BitVec 2) (own : Option Cid) (buf : Option (PortId × BitVec 2) := none) :
    State :=
  s.modPort (.berken p) fun x => { x with tx := x.tx ++ [{ msg := m, cls := cls, own := own, buf := buf }] }

/-- A message that goes no further leaves the receive buffer it lay in (R399). -/
def State.freeBuf (s : State) (m : FMsg) : Option (PortId × BitVec 2) → State
  | some (p, cls) => s.leaveBuf p m.vl cls m.flits
  | none => s

/-- Fabric resets leave a port at most once a second (R408). -/
def State.resetLimit (s : State) (p : PortId) (m : FMsg) (buf : Option (PortId × BitVec 2)) (go : State → State) : State :=
  if m.kind ≠ 9 then go s
  else match (s.bport p).lastReset with
    | some t =>
      if s.now < t + 10 ^ 9 then (s.bump Fld.BKN_STATUS_RESET_DROP).freeBuf m buf
      else go (s.modPort (.berken p) fun x => { x with lastReset := some s.now })
    | none => go (s.modPort (.berken p) fun x => { x with lastReset := some s.now })

/-- A message is discarded for want of a way (R415). -/
def State.unreach (s : State) (plane : Nat) : State :=
  let s := s.bump Fld.BKN_STATUS_UNREACH
  if s.fab.unreachGiven then s
  else { s with fab := { s.fab with unreachGiven := true } }.raise Ev.BKN_UNREACH (srcIod plane)

/-- The port holds earlier messages of the message's flow that have not arrived (R413). -/
def State.holdsFlow (s : State) (p : PortId) (m : FMsg) : Bool :=
  let x := s.bport p
  (x.tx ++ x.flight.map (·.2)).any fun y => y.msg.src == m.src && y.msg.dst == m.dst && y.msg.vl == m.vl && y.msg.plane == m.plane

/-- The port of a direction that a message takes: by the hash, or the sibling where that is down or still carries the message's flow
(R404, R412, R413). -/
def State.portFor (s : State) (m : FMsg) (dir : Nat) : PortId :=
  let plane := m.plane.toNat
  let j := msgHash m % 2
  let other := mkPort plane dir (1 - j)
  if !s.livePort plane dir j || (s.livePort plane dir (1 - j) && s.holdsFlow other m) then other else mkPort plane dir j

/-- A router's work on a message (R411 to R415): its way, its class, its port. `came` is the dimension in which it came, and whether DL was
set; `buf` the receive buffer it lies in. -/
def State.routeOut (s : State) (m : FMsg) (came : Option (Nat × Bool)) (own : Option Cid) (buf : Option (PortId × BitVec 2)) : State :=
  let plane := m.plane.toNat
  match s.hop plane (s.posOf m.dst) m.detour (ringDir m) with
  | none => (s.unreach plane).freeBuf m buf
  | some (dir, detour) =>
    let d := dir / 2
    let here := coord s.ownPos d
    let wrap := if dir % 2 = 0 then here + 1 == s.torusSize d else here == 0
    let cls : BitVec 2 := BitVec.ofNat 2 (2 * detour.toNat + (wrap || came == some (d, true)).toNat)
    let p := s.portFor m dir
    s.resetLimit p m buf fun s => s.queueAt p { m with detour := detour } cls own buf

/-- A message of a collective waits for the relief of a failed member to which it goes (R425). -/
def State.waitsRelief (s : State) (m : FMsg) : Bool :=
  (m.kind == 2 || m.kind == 3) && s.fab.absent.contains m.dst && (s.remapOf m.dst).isNone

/-- A message of the device itself: its plane is chosen already. One addressed to the device needs no link (R410). -/
def State.sendOn (s : State) (m : FMsg) (own : Option Cid := none) : State :=
  if s.accepts m.dst then { s with fab := { s.fab with sent := s.fab.sent ++ [m] } }
  else if s.waitsRelief m then { s with fab := { s.fab with parked := s.fab.parked ++ [(m, own)] } }
  else s.routeOut m none own none

/-- A message of the device itself, its plane by the hash. -/
def State.sendMsg (s : State) (m : FMsg) (own : Option Cid := none) : State := s.sendOn { m with plane := s.pickPlane m } own

/-- A message with its header words. -/
def State.msg (s : State) (dst : NodeId) (vl kind : Nat) (ws : List Word) (data : List Byte := []) : FMsg :=
  ⟨dst, s.ownId, BitVec.ofNat 3 vl, false, BitVec.ofNat 4 kind, 0, ws.getD 0 0, ws.getD 1 0, ws.getD 2 0, ws.getD 3 0, ws.getD 4 0,
    ws.getD 5 0, ws.getD 6 0, data⟩

/-- The message's VL is one of its KIND (R397, R398). -/
def kindVl (kind vl : Nat) : Bool :=
  match kind with
  | 0 => vl == 0
  | 1 => vl == 0
  | 2 => vl == 1
  | 3 => vl == 1
  | 4 => vl == 2
  | 5 => vl == 2 || vl == 3
  | 6 => vl == 4
  | 7 => vl == 5
  | 8 => vl == 5
  | 9 => vl == 5
  | 10 => vl == 6
  | _ => false

def FMsgOk (m : FMsg) : Bool := kindVl m.kind.toNat m.vl.toNat

/-- The die's region runs: while it does not, messages wait in their buffers (R647). -/
def State.dieRuns (s : State) (die : Nat) : Bool := s.regionRuns (52 + die)

/-- The message has come to its destination: its KIND, its lane, its address, a die that runs. -/
def State.delivered (s : State) (kind : Nat) (m : FMsg) : Bool :=
  m.kind.toNat == kind && FMsgOk m && s.accepts m.dst && s.dieRuns m.plane.toNat

/-- MESSAGE_ROUTE (R397 to R399, R411 to R415): the router's work on a message that lies in a port's receive buffer. What is discarded for
its KIND or lane counts at that port. A message for the device itself is handed to its unit and leaves the buffer (its own command says
what it does), but a SEND message lies there until it is placed (R435). -/
def execMessageRoute (p : PortId) (msg : FMsg) (cls : BitVec 2) (s : State) : Host.Outcome State Fault Refusal :=
  let die := p.val / 12
  .next (
    if !s.dieRuns die then s
    else if !FMsgOk msg then (s.bump Fld.BKN_P_CNT_PROTO 1 p.val).leaveBuf p msg.vl cls msg.flits
    else if s.accepts msg.dst then (if msg.kind = 4 then s else s.leaveBuf p msg.vl cls msg.flits)
    else s.routeOut { msg with plane := BitVec.ofNat 2 die } (some (dirOf p / 2, bit cls 0)) none (some (p, cls)))

/-! ### Windows and remote writes (R406, R407) -/

/-- A window entry: its two register words. -/
def State.winTable (s : State) : List (Word × Word) :=
  ((List.range 64).filter fun i => s.flag Fld.BKN_WIN_B_VALID i).map fun i =>
    (BitVec.ofNat 64 (s.fld Fld.BKN_WIN_A_BASE i + s.fld Fld.BKN_WIN_A_SIZE i * 2 ^ 27),
      BitVec.ofNat 64 (s.fld Fld.BKN_WIN_B_SRC i + s.fld Fld.BKN_WIN_B_SRC_MASK i * 2 ^ 17 + s.fld Fld.BKN_WIN_B_VLS i * 2 ^ 34 + 2 ^ 42))

/-- An entry permits `n` bytes from `a` to a source on a lane. -/
def winPermits (w : Word × Word) (src : NodeId) (vl a n : Nat) : Bool :=
  let mask := bits w.2 17 17
  bit w.2 42 && (src.toNat &&& mask) == (bits w.2 0 17 &&& mask) && bit w.2 (34 + vl) &&
    mib2 * bits w.1 0 27 ≤ a && a + n ≤ mib2 * (bits w.1 0 27 + bits w.1 27 26)

/-- The windows that a message to an identity meets (R406, R516). -/
def State.winsFor (s : State) (dst : NodeId) : List (Word × Word) :=
  match s.rlf.act with
  | some x => if x.ident == dst && dst != s.ownId then x.wins else s.winTable
  | none => s.winTable

/-- Where an address of a message lies: through R508 for an assumed identity (R516). -/
def State.msgAddr (s : State) (dst : NodeId) (a n : Nat) : Option Nat :=
  match s.rlf.act with
  | some x =>
    if x.ident == dst && dst != s.ownId then (declPlace s.variant x.decl a n).map fun p => s.slotBase x.entry.val p.1 x.slot + p.2
    else if assigned s.variant a n then some a else none
  | none => if assigned s.variant a n then some a else none

/-- No window permits the message (R406). -/
def State.winDeny (s : State) (plane : Nat) : State :=
  let s := s.bump Fld.BKN_STATUS_WIN_DENY
  if s.fab.winGiven then s else { s with fab := { s.fab with winGiven := true } }.raise Ev.BKN_WINDOW (srcIod plane)

/-- What a window must cover for a push to a store: the store's region, or its slots where they lie in none (DEDUCED, log entry 131). -/
def State.pushArea (s : State) (k : Nat) : Nat × Nat :=
  match s.storeRgn k with
  | some r => (s.rgnBase r, s.rgnSize r)
  | none => (s.ssBase k, s.ssN k * s.ssSlot k)

/-- SAMPLE_PUSH_MSG (R397, R314): through a window that covers the store's region for VL4. -/
def State.samplePush (s : State) (m : FMsg) : State :=
  let k := bits m.w1 0 4
  let n := m.w2.toNat
  let x := s.pushArea k
  if !((s.winsFor m.dst).any fun w => winPermits w m.src 4 x.1 x.2) then s.winDeny m.plane.toNat
  else s.pushSlot k (BitVec.ofNat 16 (bits m.w1 4 16)) (m.data.take n)

def execSamplePushMsg (msg : FMsg) (s : State) : Host.Outcome State Fault Refusal :=
  .next (if s.delivered 6 msg then s.samplePush msg else s)

/-! ### Fabric resets (R408) -/

/-- The port is paired and its die takes messages (R405, R647). -/
def State.portHears (s : State) (p : PortId) : Bool := s.livePort (p.val / 12) (dirOf p) (p.val % 2) && s.dieRuns (p.val / 12)

def State.bellNow (s : State) : Nat := s.fld Fld.SEQ_BELL_NUM_NUMBER

/-- FABRIC_RESET_MSG at its destination: word 1 holds the bell number (DESIGN CHOICE, log entry 36). The PEER reset follows as its own
command. One for another device is forwarded by its MESSAGE_ROUTE. -/
def execFabricResetMsg (p : PortId) (msg : FMsg) (sigOk : Bool) (s : State) : Host.Outcome State Fault Refusal :=
  let b := msg.w1.toNat
  .next (
    if msg.kind == 9 && FMsgOk msg && s.portHears p && s.accepts msg.dst && sigOk && s.bellNow ≤ b + 2 && b ≤ s.bellNow + 2 then
      { s with fab := { s.fab with resetAsked := true } }
    else s)

/-! ### Heartbeats and time (R416 to R418, R436, R437) -/

/-- Ports that are paired, ascending. -/
def State.pairedPorts (s : State) : List PortId :=
  (List.finRange 48).filter fun p => (s.bport p).st == .paired && s.portOn (.berken p)

/-- The direction of the time parent, for a device that is not the master. -/
def State.parentDir (s : State) : Option Nat :=
  let m : NodeId := BitVec.ofNat 17 (s.fld Fld.BKN_TIME_MASTER)
  if s.accepts m then none else s.defaultDir s.ownPos (s.posOf m)

/-- A paired port toward the time parent. -/
def State.parentPort (s : State) : Option PortId :=
  s.parentDir.bind fun d => s.pairedPorts.find? fun p => dirOf p == d

/-- The direction leads to the time parent. -/
def State.towardParent (s : State) (d : Nat) : Bool := s.parentDir == some d

/-- PORT_PAIRING: the three checks. A link-set that a suspicion took down is up again once a port of it pairs (DESIGN CHOICE, log
entry 36). The first paired port toward the time parent finds the parent, so that its first measurement may step the timebase (R437).
Once the peer's key and place are good the port sends its own signature; once it is paired it takes over what its sibling holds. -/
def execPortPairing (p : PortId) (info : PairInfo) (s : State) : Host.Outcome State Fault Refusal :=
  let x := s.bport p
  if x.st != .pairing || x.pairFail.isSome || !s.flag Fld.BKN_LOCK_AUTH || !s.portOn (.berken p) then .next s
  else if info.certOk && info.sigOk && info.pos == s.neighbour s.ownPos (dirOf p) && info.port.toNat == peerPort p then
    let twin := (s.bport (sibling p)).st == .paired
    let plane := 8 * (p.val / 12) + dirOf p
    let others := (List.range 4).any fun d => (s.bport (Fin.ofNat 48 (12 * d + 2 * dirOf p))).st == .paired ||
      (s.bport (Fin.ofNat 48 (12 * d + 2 * dirOf p + 1))).st == .paired
    let s := if twin then s else { s with fab := { s.fab with downSets := s.fab.downSets.filter (· != plane) } }
    let s := if others || !s.towardParent (dirOf p) then s else { s with fab := { s.fab with firstMeasure := false } }
    let s := s.setBport p { x with st := .paired, peer := info.ident, asym := info.asym, everUp := true }
    .next ((s.pairSign p).takeOver p)
  else
    let s := if info.certOk && info.pos == s.neighbour s.ownPos (dirOf p) && info.port.toNat == peerPort p then s.pairSign p else s
    .next ((s.modPort (.berken p) fun x => { x with pairFail := some s.now }).raise Ev.BKN_PAIR (srcPort p))

/-- PAIRING_RETRY: 1 s after a failure, from step 1. -/
def execPairingRetry (p : PortId) (s : State) : Host.Outcome State Fault Refusal :=
  let x := s.bport p
  match x.pairFail with
  | some t => .next (if x.st == .pairing && t + 10 ^ 9 ≤ s.now then (s.setBport p { x with pairFail := none }).pairHello p else s)
  | none => .next s

/-- The device is the master, or hears its parent. -/
def State.masterReach (s : State) : Bool := s.accepts (BitVec.ofNat 17 (s.fld Fld.BKN_TIME_MASTER)) || s.parentPort.isSome

/-- HOLDOVER (R437). -/
def State.holdover (s : State) : Bool := !s.masterReach

/-- A cycle of the reference; with no reachable parent the timebase runs on the reference alone (R437). -/
def State.refTick (s : State) : State :=
  (if s.parentPort.isSome then s else { s with time := { s.time with corr := 0 } }).tick

/-- The heartbeat of bell `k` on every paired port (R416, R418). -/
def State.sendHeartbeats (s : State) (k : Nat) : State :=
  let parent := match s.parentPort with
    | some p => (s.bport p).peer.toNat
    | none => 0
  let w5 := BitVec.ofNat 64 (s.fld Fld.RLF_CANARY_RISK + s.masterReach.toNat * 8 + parent * 16)
  s.pairedPorts.foldl (fun t p =>
    let x := s.bport p
    let m := s.msg x.peer 0 0 [BitVec.ofNat 64 k, s.time.ns, x.hbStamp, x.hbArrive, w5]
    t.queueAt p { m with plane := BitVec.ofNat 2 (p.val / 12) } 0 none) s

/-- The bell period in nanoseconds. -/
def State.periodNs (s : State) : Nat := 10000 * s.fld Fld.SEQ_BELL_PERIOD

/-- The time of bell `k`. -/
def State.bellTime (s : State) (k : Nat) : Int := (s.time.nextBell : Int) - ((s.time.nextNum : Int) - k) * s.periodNs

/-- The timebase's rate, or once its value, follows the measured offset (R436, R437), in quarters of a nanosecond. How strong the
correction is the manual leaves open: a free value within 50 ppm. -/
def State.discipline (s : State) (off : Int) : State :=
  let held : Int := max (-32768) (min 32767 off)
  let s := s.setFld Fld.BKN_TIME_OFFSET (held % 65536).toNat
  let s := s.setFld Fld.BKN_TIME_LOCKED (if -40 ≤ off ∧ off ≤ 40 then 1 else 0)
  let first := !s.fab.firstMeasure && !s.anyBusy
  let s := { s with fab := { s.fab with firstMeasure := true } }
  if first then
    let q : Int := (s.time.ns.toNat : Int) * 4 * 2 ^ 30 + s.time.frac.toNat - off * 2 ^ 30
    { s with time := { s.time with ns := BitVec.ofInt 64 (q / 2 ^ 32), frac := BitVec.ofInt 32 (q % 2 ^ 32) } }
  else
    let a : Int := ((Config.free s.freeCtr).toNat % 50001 : Nat)
    let s := { s with freeCtr := s.freeCtr + 1 }
    { s with time := { s.time with corr := if off = 0 then 0 else if 0 < off then -a else a } }

/-- HEARTBEAT_RECEIVE (R417, R418, R436). -/
def execHeartbeatReceive (p : PortId) (msg : FMsg) (s : State) : Host.Outcome State Fault Refusal :=
  .next (
    if !(msg.kind == 0 && FMsgOk msg && s.portHears p) then s
    else
      let k := msg.w1.toNat
      let dir := dirOf p
      let late := s.time.counting && s.bellTime k + 1000 * s.fld Fld.BKN_CFG_HB_LATE < s.now
      let s := if late then s.canary 7 1 else s
      let s := { s with fab := { s.fab with hbSeen := if s.fab.hbSeen.contains (dir, k) then s.fab.hbSeen else s.fab.hbSeen ++ [(dir, k)] } }
      let s := s.modPort (.berken p) fun x => { x with hbStamp := msg.w2, hbArrive := s.time.ns }
      if s.parentDir == some dir && (msg.w3 != 0 || msg.w4 != 0) then
        let t1 : Int := msg.w2.toNat
        let t2 : Int := s.now
        let t3 : Int := msg.w3.toNat
        let t4 : Int := msg.w4.toNat
        s.discipline (2 * ((t2 - t1) - (t4 - t3)) - (s.bport p).asym)
      else s)

/-- Bells whose offset was out of bounds, counted at a bell (R437). -/
def State.countOffset (s : State) : State :=
  let off := signedN (s.fld Fld.BKN_TIME_OFFSET) 16
  { s with fab := { s.fab with offBells := if off < -40 || 40 < off then s.fab.offBells + 1 else 0 } }

/-- BKN_TIME_LOST (R437). -/
def execBknTimeLost (s : State) : Host.Outcome State Fault Refusal :=
  .next (if 16 ≤ s.fab.offBells then { s with fab := { s.fab with offBells := 0 } }.raise Ev.BKN_TIME_LOST srcDev else s)

/-- At the bell numbered `k` the neighbours whose heartbeat of the bell before has not come (R417). -/
def State.countMissed (s : State) (k : Nat) : State :=
  let s := (List.range 6).foldl (fun s dir =>
    let known := (List.finRange 48).any fun p => dirOf p == dir && (s.bport p).everUp
    if !known || k = 0 then s
    else if s.fab.hbSeen.contains (dir, k - 1) then { s with fab := { s.fab with missed := SMap.put s.fab.missed 0 dir 0 } }
    else { s.canary 7 1 with fab := { s.fab with missed := SMap.upd s.fab.missed 0 dir (· + 1) } }) s
  { s with fab := { s.fab with hbSeen := s.fab.hbSeen.filter fun x => k ≤ x.2 } }

/-! ### Suspicion, notices, confirmation (R419 to R422) -/

/-- A notice goes out on every paired port but one. -/
def State.flood (s : State) (n : Notice) (but : Option PortId) : State :=
  (s.pairedPorts.filter fun p => some p != but).foldl (fun t p =>
    let m := s.msg (s.bport p).peer 0 1 [n.w1, n.w2, n.w3]
    t.queueAt p { m with plane := BitVec.ofNat 2 (p.val / 12) } 0 none) { s with fab := { s.fab with notices := s.fab.notices ++ [n] } }

/-- The layout of a notice (DESIGN CHOICE, log entry 36): position [16:0] and identity [33:17]; reporter [16:0] and bell [63:17]. -/
def noticePos (n : Notice) : NodeId := BitVec.ofNat 17 (bits n.w1 0 17)
def noticeId (n : Notice) : NodeId := BitVec.ofNat 17 (bits n.w1 17 17)
def noticeBy (n : Notice) : NodeId := BitVec.ofNat 17 (bits n.w2 0 17)
def noticeBell (n : Notice) : Nat := bits n.w2 17 47
def State.noticeOf (s : State) (pos ident : NodeId) (w3 : Word) : Notice :=
  ⟨BitVec.ofNat 64 (pos.toNat + ident.toNat * 2 ^ 17), BitVec.ofNat 64 (s.ownPos.toNat + s.bellNow * 2 ^ 17), w3⟩

/-- The members of a group: positions in rank order (R423). -/
def State.grpMembers (s : State) (g : Nat) : List NodeId :=
  let b : NodeId := BitVec.ofNat 17 (s.fld Fld.BKN_GRP_BASE g)
  let at' (d i : Nat) : Nat := (coord b d + i) % s.torusSize d
  (List.range (s.fld Fld.BKN_GRP_NZ g + 1)).flatMap fun k =>
    (List.range (s.fld Fld.BKN_GRP_NY g + 1)).flatMap fun j =>
      (List.range (s.fld Fld.BKN_GRP_NX g + 1)).map fun i => posMk (at' 0 i) (at' 1 j) (at' 2 k)

/-- The rank of a position in a group's box, dimension by dimension. -/
def State.grpRank (s : State) (g : Nat) (pos : NodeId) : Option (Nat × Nat × Nat) :=
  let b : NodeId := BitVec.ofNat 17 (s.fld Fld.BKN_GRP_BASE g)
  let off (d : Nat) : Nat := (coord pos d + s.torusSize d - coord b d % s.torusSize d) % s.torusSize d
  if s.inTorus pos && off 0 ≤ s.fld Fld.BKN_GRP_NX g && off 1 ≤ s.fld Fld.BKN_GRP_NY g && off 2 ≤ s.fld Fld.BKN_GRP_NZ g
  then some (off 0, off 1, off 2) else none

/-- A pairing ends (R525, R528). -/
def State.endPairing (s : State) (n : Nat) (reason : Nat) (peer : NodeId) : State :=
  let ended (p : Pairing) : Pairing := { p with paired := false, asked := none, refused := some s.now, entry := 0, bases := [] }
  let r := if n = 0 then { s.rlf with pair0 := ended s.rlf.pair0, pairChanged := true }
    else { s.rlf with pair1 := ended s.rlf.pair1, pairChanged := true }
  let s := { s with rlf := r }
  let s := (s.setFld Fld.RLF_PAIR_LAST_REASON reason).setFld Fld.RLF_PAIR_LAST_PEER peer.toNat
  s.raise Ev.RLF_PAIR srcDev

def State.pairing (s : State) (n : Nat) : Pairing := if n = 0 then s.rlf.pair0 else s.rlf.pair1

/-- The failure of a relief ends its pairings (R528). The reason code recorded is 0: the manual gives none. -/
def State.reliefFailed (s : State) (pos : NodeId) : State :=
  [0, 1].foldl (fun s n =>
    let id : NodeId := BitVec.ofNat 17 (s.fld Fld.RLF_RELIEF_IDENT n)
    if (s.pairing n).paired && s.posOf id == pos then s.endPairing n 0 id else s) s

/-- The cover entry that holds an identity. -/
def State.coverOf (s : State) (id : NodeId) : Option Nat :=
  (List.range (s.fld Fld.RLF_CFG_COVER + 1)).find? fun k =>
    let x := SMap.val s.rlf.covers {} k
    s.flag Fld.RLF_CFG_ROLE && x.valid && x.ident == id

/-- The 1,024 bytes of the commit record in a slot. -/
def State.commitRec (s : State) (k : Nat) (b : Bool) : List Byte := s.memBits.read (s.slotBase k 0 b) 1024

/-- A good record (R514). -/
def recGood (typ : Nat) (r : List Byte) : Bool := leAt r 0 1 == typ && crc32c (r.take 1016) == BitVec.ofNat 32 (leAt r 1016 4)

/-- The live slot of a cover entry (R514). -/
def State.liveSlot (s : State) (k : Nat) : Option Bool :=
  let a := s.commitRec k false
  let b := s.commitRec k true
  match recGood 5 a, recGood 5 b with
  | true, true => some (decide (leAt a 8 8 < leAt b 8 8))
  | true, false => some false
  | false, true => some true
  | false, false => none

/-- The entry that a relief notice writes: that of the identity, or the first that is not valid. -/
def State.remapSlot (s : State) (id : NodeId) : Option Nat :=
  (s.remapOf id).or ((List.range 64).find? fun e => !s.flag Fld.BKN_REMAP_VALID e)

/-- Messages that waited for the relief of an identity go out (R425). -/
def State.unpark (s : State) (id : NodeId) : State :=
  (s.fab.parked.filter fun p => p.1.dst == id).foldl (fun s p => s.sendOn p.1 p.2)
    { s with fab := { s.fab with parked := s.fab.parked.filter fun p => p.1.dst != id } }

/-- BKN_REMAP maps an identity to a position (R422). -/
def State.remap (s : State) (id pos : NodeId) : State :=
  match s.remapSlot id with
  | some e =>
    (((s.setFld Fld.BKN_REMAP_IDENT id.toNat e).setFld Fld.BKN_REMAP_POS pos.toNat e).setFld Fld.BKN_REMAP_VALID 1 e).unpark id
  | none => s

/-- The run of a group's reductions: a confirmed failure of a position in its box begins another (R421, R433; DESIGN CHOICE, log entry
37). -/
def State.runOf (s : State) (g : Nat) : Nat := (s.fab.absent.filter fun p => (s.grpRank g p).isSome).length

/-! ### Registers of the fabric -/

/-- BKN_RT_DATA: eight entries for every fitted die (R445). -/
def State.wrRtData (s : State) (v : Word) : WOut :=
  let a := s.fld Fld.BKN_RT_ADDR_ADDR
  let put (m : SMap (BitVec 6)) (i : Nat) : SMap (BitVec 6) := SMap.put m 0x3F ((a + i) % 2 ^ 17) (BitVec.ofNat 6 (bits v (8 * i) 6))
  { st := { s with fab := { s.fab with routes := (List.range 8).foldl put s.fab.routes } }.setFld Fld.BKN_RT_ADDR_ADDR (a + 8) }

/-- BKN_RT_DATA_WRITE (R445). -/
def execBknRtDataWrite (_who : Requester) (v : Word) (s : State) : Host.Outcome State Fault Refusal := .next (s.wrRtData v).st

/-- Some port is paired: the device-wide registers are not stopped (R438). -/
def State.bknBusy (s : State) : Bool := (List.finRange 48).any fun p => (s.bport p).st == .paired

/-- BKN_VL_CFG (R441). -/
def State.wrVlCfg (s : State) (who : Requester) (v : Word) : WOut :=
  let fs := (List.range 8).map fun k => bits v (8 * k) 8
  if 256 < fs.foldl (· + ·) 0 || (fs.take 7).contains 0 then WOut.outside { st := s } 0x900010
  else s.regPlain who 0x900010 s.bknBusy false v

/-- BKN_CFG: planes that are not fitted leave PLANES as it was (R412). -/
def State.wrBknCfg (s : State) (who : Requester) (v : Word) : WOut :=
  let p := bits v 0 4
  let absent := (List.range 4).any fun d => fieldN p d 1 == 1 && !s.variant.hasIod d
  let v' := if absent then BitVec.ofNat 64 (v.toNat - p + s.fld Fld.BKN_CFG_PLANES) else v
  let o := s.regPlain who 0x900008 s.bknBusy false v'
  if absent then o.absent 0x900008 else o

/-- BKN_LOCK: a bit once set stays set (R444). -/
def State.wrBknLock (s : State) (v : Word) : WOut :=
  let s := if bit v 0 then s.setFld Fld.BKN_LOCK_WIN 1 else s
  { st := if bit v 1 then s.setFld Fld.BKN_LOCK_AUTH 1 else s }

/-- BKN_P_CFG (R453). -/
def State.wrPortCfg (s : State) (p : PortId) (v : Word) : WOut :=
  let s := s.setFld Fld.BKN_P_CFG_SPARE_THR (bits v 2 22) p.val
  let s := if s.flag Fld.BKN_P_CFG_EN p.val != bit v 0 then s.portEnable p (bit v 0) else s
  { st := if bit v 1 then s.retrainCmd p else s }

end Sys2Proof.Machine
end

