-- ==== Sys2Proof/Machine/Flags.lean ====
section
/-! DEFINITION. Numeric flags (R111): what one result contributes, their union over elements and stations, the flag word. -/

namespace Sys2Proof.Machine

/-- The flags of a set of results. -/
structure Flags where
  nv : Bool := false
  of : Bool := false
  uf : Bool := false
  sat : Bool := false
  nanIn : Bool := false
  cnt : Nat := 0
  /-- Results that saturated or overflowed (R89). -/
  ovr : Nat := 0
  deriving DecidableEq, Repr

/-- The union; saturations add up. -/
def Flags.or (a b : Flags) : Flags :=
  ⟨a.nv || b.nv, a.of || b.of, a.uf || b.uf, a.sat || b.sat, a.nanIn || b.nanIn, a.cnt + b.cnt, a.ovr + b.ovr⟩

def Flags.all (l : List Flags) : Flags := l.foldl Flags.or {}

/-- What a conversion contributes; `nan` when an operand was NaN. -/
def Flags.ofCv (nan : Bool) (x : Cv) : Flags := ⟨x.nan && !nan, x.of, x.uf, x.sat, nan, if x.sat then 1 else 0, if x.sat || x.of then 1 else 0⟩

/-- Bits [4:0] of the flag word. -/
def Flags.bits5 (a : Flags) : BitVec 5 :=
  BitVec.ofNat 5 (a.nv.toNat + 2 * a.of.toNat + 4 * a.uf.toNat + 8 * a.sat.toNat + 16 * a.nanIn.toNat)

/-- The flag word (R111). -/
def flagWord (b : BitVec 5) (cnt : Nat) : Word := BitVec.ofNat 64 (b.toNat + min cnt (2 ^ 32 - 1) * 2 ^ 16)

end Sys2Proof.Machine
end

