-- ==== Sys2Proof/Machine/Vec.lean ====
section
/-! DEFINITION. The vector unit's datapath: operands (R98), the operations of R99, function tables (R104, R105), drain programs
(R186), and the writing of results with their conversion and MX blocking (R84 to R88, R217, R691). -/

namespace Sys2Proof.Machine

/-! ### Elementwise operations (R98, R99) -/

/-- A result in FP32 with its flags. -/
structure R32 where
  v : Nat
  fl : Flags
  deriving DecidableEq, Repr

/-- An FP32 value with ftz in the Exact-Solori mode (R96). -/
def inFtz (sol : Bool) (x : Nat) : Nat := if sol then ftz32 x else x

/-- One rounding to FP32 of an exact result; a non-zero result that ftz makes zero sets UF. -/
def fin32 (sol nan : Bool) (v : Val) : R32 :=
  let cv := FFmt.fp32.convert v .rne false 0
  let y := inFtz sol cv.bits
  let uf := cv.uf || (sol && !v.isZero && !v.isNan && (val32 y).isZero)
  ⟨y, Flags.ofCv nan { cv with uf := uf }⟩

/-- The larger or smaller of two values; NaN if either is NaN (R99). The sign for zeros of opposite sign is not stated. -/
def pickVal (mx : Bool) (a b : Val) : Val :=
  if a.isNan || b.isNan then .nan
  else if a.lt b then (if mx then b else a)
  else if b.lt a then (if mx then a else b)
  else match a, b with
    | .fin s 0 e, .fin t 0 _ => .fin (if s == t then s else Config.zeroSign mx s) 0 e
    | x, _ => x

/-- The number of operation codes of R99. -/
def vopCount : Nat := 16

/-- VOP's operations on FP32 operands, BCAST, ACC and MASK apart (R99). -/
def vopFn (sol : Bool) (op : Nat) (e : Int) (a b c : Nat) : R32 :=
  let a := inFtz sol a
  let b := inFtz sol b
  let c := inFtz sol c
  let x := val32 a
  let y := val32 b
  let z := val32 c
  let n1 := x.isNan
  let n2 := n1 || y.isNan
  match op with
  | 0 => fin32 sol n2 (x.add y)
  | 1 => fin32 sol n2 (x.add y.negate)
  | 2 => fin32 sol n2 (x.mul y)
  | 3 => fin32 sol (n2 || z.isNan) ((x.mul y).add z)
  | 4 => fin32 sol n2 (pickVal true x y)
  | 5 => fin32 sol n2 (pickVal false x y)
  | 6 => fin32 sol n1 x.abs
  | 7 => fin32 sol n1 x.negate
  | 8 => fin32 sol n1 (x.scale e)
  | 9 => fin32 sol n1 ((Val.fin false 1 0).div x)
  | 10 => fin32 sol n1 x.rsqrt
  | 11 => fin32 sol n2 (if y.lt x then .fin false 1 0 else .fin false 0 0)
  | 12 => fin32 sol (n2 || z.isNan) (if x.isZero then z else y)
  | _ => fin32 sol n1 x

/-- MASK (R99): dropped when the random bits are below P. -/
def maskFn (sol : Bool) (p r a : Nat) : R32 :=
  let x := val32 (inFtz sol a)
  if r < p then fin32 sol x.isNan (x.mul (.fin false 0 0))
  else fin32 sol x.isNan ((x.mul (.fin false 65536 0)).div (.fin false (65536 - p) 0))

/-! ### Function tables (R104 to R107) -/

/-- A header that keeps R104. -/
def lutHeaderOk (t : List Byte) : Bool :=
  let xmin := val32 (leAt t 0 4)
  leAt t 12 1 ≤ 2 && leAt t 13 1 ≤ 2 && leAt t 14 1 ≤ 2 && leAt t 15 1 == 0 && leAt t 32 32 == 0 &&
    xmin.lt (val32 (leAt t 4 4)) && (leAt t 12 1 == 0 || xmin.isZero)

/-- The largest FP32 below a value. -/
def below32 (x : Nat) : Nat :=
  if x % 2 ^ 31 = 0 then 0x80000001 else if x < 2 ^ 31 then x - 1 else x + 1

/-- min(floor(u), 255) of an FP32 value that is not below zero; 255 for an infinity, and 0 for a NaN, whose table value is a NaN
in every segment. -/
def segmentOf : Val → Nat
  | .fin _ m e => min (if 0 ≤ e then m * 2 ^ e.toNat else m / 2 ^ (-e).toNat) 255
  | .inf _ => 255
  | .nan => 0

/-- The polynomial of the segment (R105). An INV_W below zero, which R104 takes as given, leads to a segment number below zero,
for which R105 states no value: a free value (log entry 110). -/
def lutSegment (t : List Byte) (x' : Nat) : Nat :=
  let u := mul32 (sub32 x' (leAt t 0 4)) (leAt t 8 4)
  if (val32 u).lt (.fin false 0 0) then (Config.lutBelow (leAt t 0 3136) x').toNat
  else
    let s := segmentOf (val32 u)
    let f := sub32 u (rne32 (.fin false s 0))
    let co (k : Nat) : Nat := leAt t (64 + 12 * s + 4 * k) 4
    fma32 f (fma32 f (co 2) (co 1)) (co 0)

/-- VLUT's evaluation of a table (R105). -/
def lutEval (t : List Byte) (x : Nat) : Nat :=
  if (val32 x).isNan then 0x7FC00000
  else
    let sym := leAt t 12 1
    let x' := if sym = 0 then x else x % 2 ^ 31
    let xmin := leAt t 0 4
    let xmax := leAt t 4 4
    let out :=
      if (val32 x').lt (val32 xmin) then
        match leAt t 13 1 with
        | 0 => lutSegment t xmin
        | 1 => leAt t 16 4
        | _ => fma32 (leAt t 20 4) (sub32 x' xmin) (leAt t 16 4)
      else if !(val32 x').lt (val32 xmax) then
        match leAt t 14 1 with
        | 0 => lutSegment t (below32 xmax)
        | 1 => leAt t 24 4
        | _ => fma32 (leAt t 28 4) (sub32 x' xmax) (leAt t 24 4)
      else lutSegment t x'
    if sym = 1 && (val32 x).lt (.fin false 0 0) then rne32 (val32 out).negate else out

/-! ### Reading operands -/

/-- The scale byte of an element of an MX handle (R217): SLICE or ROW blocks. -/
def scaleIx (rowBlocks : Bool) (r n : Nat) : Nat := if rowBlocks then 4 * r + n / 32 else 128 * (r / 32) + n

/-- A row of a handle as exact values (R98): an MX element times its block scale. -/
def State.rowVals (s : State) (h : Handle) (i : StationId) (r : Nat) (rowBlocks : Bool := false) : List Val × State × Bool :=
  let p := s.rowRead h i r
  let f := h.fmt.toNat
  if h.mx then
    let lo := if rowBlocks then 4 * r else 128 * (r / 32)
    let q := p.2.1.sideRead i (h.scaleAt lo) (if rowBlocks then 4 else 128)
    let one (x n : Nat) : Val :=
      match e8m0 (q.data.getD (scaleIx rowBlocks r n - lo) 0) with
      | some k => (decodeF f x).scale k
      | none => .nan
    ((p.1.zip (List.range p.1.length)).map fun y => one y.1 y.2, q.st, p.2.2 || q.ue)
  else (p.1.map fun x => decodeF f x, p.2.1, p.2.2)

/-- Rows 0 to n − 1 of a handle at a station. -/
def State.readTensor (s : State) (h : Handle) (i : StationId) (n : Nat) (rowBlocks : Bool := false) :
    List (List Val) × State × Bool :=
  (List.range n).foldl (fun acc r =>
    let p := acc.2.1.rowVals h i r rowBlocks
    (acc.1 ++ [p.1], p.2.1, acc.2.2 || p.2.2)) ([], s, false)

/-- An operand as the Exact-Solori mode takes it: a subnormal of the handle's format is a zero of its sign; an MX operand is the
product of element and scale, and FP32's smallest normal counts (R96, R98). -/
def ftzIn (f : Nat) (v : Val) : Val :=
  match v, ffmt f with
  | .fin n m e, some g => if magLt m e 1 (if isMX f then -126 else 1 - (g.bias : Int)) then .fin n 0 0 else v
  | _, _ => v

/-- The operand rows of VOP, VRED and VCVT: as `readTensor`, flushed in the Exact-Solori mode (R96). -/
def State.readIn (s : State) (h : Handle) (i : StationId) (n : Nat) (rowBlocks : Bool := false) : List (List Val) × State × Bool :=
  let p := s.readTensor h i n rowBlocks
  (if s.numSolori then p.1.map fun r => r.map (ftzIn h.fmt.toNat) else p.1, p.2.1, p.2.2)

/-- Bytes of a handle's rows in order, without the stride's rest (R694). -/
def State.imageRead (s : State) (h : Handle) (i : StationId) (len : Nat) : ReadRes :=
  let n := if h.rowSize = 0 then 0 else ceilDiv len h.rowSize
  let r := (List.range n).foldl (fun (acc : ReadRes) r =>
    let p := acc.st.bunkRead i (h.rowAt r) (min h.rowSize (len - r * h.rowSize))
    ⟨acc.data ++ p.data, p.st, acc.ue || p.ue⟩) ⟨[], s, false⟩
  r

/-! ### Writing results -/

/-- How a result is converted (R84 to R88): mode, saturation, ROW blocks, the random number of an element. -/
structure Conv where
  rm : RM := .rne
  sat : Bool := false
  rowBlocks : Bool := false
  rn : Nat → Nat := fun _ => 0
  /-- VCVT in the Exact-Solori mode (R96). -/
  sol : Bool := false

def srcFlags (v : Val) (x : Cv) : Flags := Flags.ofCv v.isNan x

/-- ftz of an exact value: below the smallest FP32 normal it is a zero of its sign (R95, R96). -/
def Val.ftz : Val → Val
  | .fin n m e => if magLt m e 1 (-126) then .fin n 0 0 else .fin n m e
  | v => v

/-- ftz of a result in its own format (R96). -/
def ftzBits (f x : Nat) : Nat :=
  match ffmt f with
  | some g => if fieldN x g.fb g.eb = 0 then x / 2 ^ (g.eb + g.fb) % 2 * 2 ^ (g.eb + g.fb) else x
  | none => x

/-- The conversion `c` of `v`, flushed in the Exact-Solori mode (R96). -/
def flushCv (sol : Bool) (f : Nat) (v : Val) (c : Cv) : Cv :=
  if sol then
    let b := ftzBits f c.bits
    { c with bits := b, uf := c.uf || (!v.isZero && !v.isNan && !c.nan && (decodeF f b).isZero) }
  else c

/-- A conversion, its result flushed in the Exact-Solori mode (R96). -/
def convOne (sol : Bool) (f : Nat) (v : Val) (rm : RM) (sat : Bool) (rn : Nat) : Cv := flushCv sol f v (convertTo f v rm sat rn)

/-- A row's elements converted to a format without block scales. -/
def convRow (f : Nat) (k : Conv) (base : Nat) (vs : List Val) : List Nat × Flags :=
  let cs := (vs.zip (List.range vs.length)).map fun p => (p.1, convOne k.sol f p.1 k.rm k.sat (k.rn (base + p.2)))
  (cs.map fun p => p.2.bits, Flags.all (cs.map fun p => srcFlags p.1 p.2))

def chunksFuel {α : Type} (n : Nat) : Nat → List α → List (List α)
  | 0, _ => []
  | _ + 1, [] => []
  | k + 1, l => l.take n :: chunksFuel n k (l.drop n)

/-- A list in pieces of `n`. -/
def chunks {α : Type} (n : Nat) (l : List α) : List (List α) := chunksFuel n l.length l

/-- An MX block: scale, elements, flags. `ix` gives the element index of each member. -/
def convBlock (f : Nat) (k : Conv) (ix : List Nat) (vs : List Val) : Byte × List Nat × Flags :=
  let p := mxBlock f vs k.rm k.sat fun j => k.rn (ix.getD j 0)
  let l := (vs.zip p.2).map fun q => (q.1, flushCv k.sol f q.1 q.2)
  (p.1, l.map fun q => q.2.bits, Flags.all (l.map fun q => srcFlags q.1 q.2))

/-- Rows of results into a handle at a station from row `r0` (R98, R189, R217). SLICE blocks are counted from row 0 of the handle;
`rows` begins at a block's first row when the handle is MX (R695). -/
def State.writeRows (s : State) (h : Handle) (i : StationId) (r0 : Nat) (rows : List (List Val)) (k : Conv) : State × Flags :=
  let f := h.fmt.toNat
  let cols := h.colsN
  let rows := rows.map fun r => r.take cols
  let ixs := List.range rows.length
  if !h.mx then
    (rows.zip ixs).foldl (fun acc p =>
      let c := convRow f k ((r0 + p.2) * cols) p.1
      (acc.1.rowWrite h i (r0 + p.2) c.1, acc.2.or c.2)) (s, {})
  else if k.rowBlocks then
    (rows.zip ixs).foldl (fun acc p =>
      let r := r0 + p.2
      let bl := ((chunks 32 p.1).zip (List.range 4)).map fun b =>
        convBlock f k ((List.range 32).map fun j => r * cols + 32 * b.2 + j) b.1
      let s := acc.1.rowWrite h i r (bl.flatMap fun b => b.2.1)
      (s.sideWrite i (h.scaleAt (4 * r)) (bl.map fun b => b.1), Flags.all (acc.2 :: bl.map fun b => b.2.2))) (s, {})
  else
    ((chunks 32 rows).zip (List.range (rows.length / 32 + 1))).foldl (fun acc p =>
      let b0 := r0 + 32 * p.2
      let w := (p.1.map List.length).foldl max 0
      let bl := (List.range w).map fun n =>
        convBlock f k ((List.range 32).map fun j => (b0 + j) * cols + n) (p.1.map fun r => r.getD n (.fin false 0 0))
      let s := (List.range p.1.length).foldl (fun s j => s.rowWrite h i (b0 + j) (bl.map fun b => b.2.1.getD j 0)) acc.1
      (s.sideWrite i (h.scaleAt (128 * (b0 / 32))) (bl.map fun b => b.1), Flags.all (acc.2 :: bl.map fun b => b.2.2))) (s, {})

/-! ### Drain programs (R186) -/

/-- Step `k` of an image. -/
def stepWord (img : List Byte) (k : Nat) : Word := BitVec.ofNat 64 (leAt img (8 * k) 8)

/-- Operations that take b, and c (R186). -/
def opTakesB (op : Nat) : Bool := op ≤ 5 || op == 11 || op == 12
def opTakesC (op : Nat) : Bool := op == 3 || op == 12

/-- A step that keeps the table of R186. -/
def stepOk (w : Word) : Bool :=
  let op := bits w 4 8
  let bsrc := bits w 12 2
  let csrc := bits w 14 2
  bits w 47 17 == 0 &&
    (match bits w 0 4 with
      | 0 => true
      | 1 => op < 13 && (!opTakesB op || bsrc == 1 || bsrc == 2) && (!opTakesC op || csrc == 1 || csrc == 2)
      | 2 => true
      | 3 => bits w 23 4 ≤ 11 && bits w 27 3 ≤ 4
      | _ => false)

def drainImageOk (img : List Byte) : Bool := (List.range 8).all fun k => stepOk (stepWord img k)

/-- The steps that run: up to END or the eighth. -/
def drainSteps (img : List Byte) : List Word := ((List.range 8).map (stepWord img)).takeWhile fun w => bits w 0 4 != 0

/-- Element `n` of V0 or V1. -/
def drainVec (img : List Byte) (src n : Nat) : Nat := leAt img (64 + 512 * (src - 1) + 4 * n) 4

/-- The row as it stands between steps: exact values, and its bits and block scales when the last step was a VCVT. -/
structure DRow where
  vs : List Val
  conv : Option (Nat × List Nat × List Byte) := none

/-- One step on a row (R186). `lut` gives the f table of a slot, `rn` the random number of an element. -/
def drainStep (sol : Bool) (img : List Byte) (lut : Nat → List Byte) (rn : Nat → Nat → Nat) (w : Word) (r : DRow) : DRow :=
  let ix := List.range r.vs.length
  match bits w 0 4 with
  | 1 =>
    let one (p : Val × Nat) : Val :=
      val32 (vopFn sol (bits w 4 8) (signedN (bits w 16 7) 7) (rne32 p.1) (drainVec img (bits w 12 2) p.2) (drainVec img (bits w 14 2) p.2)).v
    ⟨(r.vs.zip ix).map one, none⟩
  | 2 => ⟨r.vs.map fun v => val32 (lutEval (lut (bits w 4 3)) (rne32 v)), none⟩
  | _ =>
    let f := bits w 23 4
    let vs := if sol then r.vs.map Val.ftz else r.vs
    let k : Conv := { rm := rmOf (bits w 27 3), sat := bit w 30, rn := rn (bits w 31 16), sol := sol }
    if isMX f then
      let bl := ((chunks 32 vs).zip (List.range 4)).map fun b => convBlock f k ((List.range 32).map fun j => 32 * b.2 + j) b.1
      let back (b : Byte × List Nat × Flags) : List Val := b.2.1.map fun x => match e8m0 b.1 with
        | some e => (decodeF f x).scale e
        | none => .nan
      ⟨bl.flatMap back, some (f, bl.flatMap fun b => b.2.1, bl.map fun b => b.1)⟩
    else
      let c := convRow f k 0 vs
      ⟨c.1.map fun x => decodeF f x, some (f, c.1, [])⟩

def runDrain (sol : Bool) (img : List Byte) (lut : Nat → List Byte) (rn : Nat → Nat → Nat) (vs : List Val) : DRow :=
  (drainSteps img).foldl (fun r w => drainStep sol img lut rn w r) ⟨vs, none⟩

/-- The format of the last step that runs, if it is a VCVT. -/
def drainLastFmt (img : List Byte) : Option Nat :=
  match (drainSteps img).getLast? with
  | some w => if bits w 0 4 = 3 then some (bits w 23 4) else none
  | none => none

end Sys2Proof.Machine
end

