-- ==== Sys2Proof/Machine/Mill.lean ====
section
/-! DEFINITION. The update mills' data: coefficient tables (R362 to R367), tensor records and their check (R342 to R344), the
hand-over (R349, R350), the recurrence (R354 to R360), the Kronecker rule (R368 to R372) and the write-back (R358). -/

namespace Sys2Proof.Machine

/-! ### Coefficient tables (R201, R362 to R366) -/

def coefKey (tgt buf entry field : Nat) : Nat := ((tgt * 2 + buf) * 4096 + entry) * 256 + field
/-- The key of a context's select bit and pending swap at a table. -/
def State.selKey (s : State) (tgt : Nat) (c : Cid) : Nat := 8 * tgt + (s.lead c).val
/-- The active buffer. -/
def State.coefActive (s : State) (tgt : Nat) (c : Cid) : Nat := (SMap.val s.coefSel false (s.selKey tgt c)).toNat
def State.coefGet (s : State) (tgt buf entry field : Nat) : Word := SMap.val s.coef 0 (coefKey tgt buf entry field)
def State.coefPut (s : State) (tgt buf entry field : Nat) (v : Word) : State :=
  { s with coef := SMap.put s.coef 0 (coefKey tgt buf entry field) v }
def State.swapPending (s : State) (tgt : Nat) (c : Cid) : Bool := SMap.val s.coefSwap false (s.selKey tgt c)

/-- The fields that hold the whole word; the others hold FP32 values (R364). -/
def wideField (f : Nat) : Bool := f == 0 || f == 0xF || f == 0x13

/-- A COEFSET into the shadow table (R364). -/
def State.coefWrite (s : State) (x : CoefWrite) : State :=
  let a := s.coefActive x.tgt x.cid
  let b := 1 - a
  if x.entry = 0xFFF then
    let i := (s.lead x.cid).val
    s.coefPut x.tgt b x.entry i (if x.field = 0xFF then s.coefGet x.tgt a x.entry i else BitVec.ofNat 64 (bits x.v 0 32))
  else if x.field = 0xFF then
    (List.range 0x14).foldl (fun s f => s.coefPut x.tgt b x.entry f (s.coefGet x.tgt a x.entry f)) s
  else s.coefPut x.tgt b x.entry x.field (if wideField x.field then x.v else BitVec.ofNat 64 (bits x.v 0 32))

/-- COEFSET of one table: at once, or after the pending swap of the segment (R201). -/
def State.coefSet (s : State) (x : CoefWrite) : State :=
  if s.swapPending x.tgt x.cid then { s with coefLate := s.coefLate ++ [x] } else s.coefWrite x

/-- The pending swaps of a context at a bell at which its segment commits (R130, R201); the late COEFSETs follow. -/
def State.coefBell (s : State) (c : Cid) : State :=
  let mine := (List.range 10).filter fun t => s.swapPending t c
  let s1 := mine.foldl (fun s t => { s with
    coefSel := SMap.upd s.coefSel false (s.selKey t c) (!·), coefSwap := SMap.put s.coefSwap false (s.selKey t c) false }) s
  let late := s1.coefLate.filter fun x => s1.lead x.cid == s1.lead c
  { late.foldl State.coefWrite s1 with coefLate := s1.coefLate.filter fun x => s1.lead x.cid != s1.lead c }

/-- A segment that does not commit swaps nothing (R347; DESIGN CHOICE, log entry 27). -/
def State.coefDrop (s : State) (c : Cid) : State :=
  { s with
    coefSwap := (List.range 10).foldl (fun m t => SMap.put m false (s.selKey t c) false) s.coefSwap
    coefLate := s.coefLate.filter fun x => s.lead x.cid != s.lead c }

/-- The context's range of entries: BASE and COUNT (R381). -/
def State.entryRange (s : State) (c : Cid) : Nat × Nat :=
  (s.fld Fld.MILL_CTX_ENTRY_BASE (s.lead c).val, s.fld Fld.MILL_CTX_ENTRY_COUNT (s.lead c).val)

/-- The entry is in a range. -/
def inEntries (r : Nat × Nat) (e : Nat) : Bool := r.1 ≤ e && e < r.1 + r.2

/-- The entry is in the context's range (R363, R376). -/
def State.entryOk (s : State) (vu : Bool) (c : Cid) (e : Nat) : Bool := if vu then e ≤ 0x1FF else inEntries (s.entryRange c) e

/-- MILL_CTX_ENTRY written (R381). -/
def State.wrMillEntry (s : State) (who : Requester) (c : Cid) (v : Word) : WOut :=
  s.privWrite who fun o => o.map fun s =>
    (s.setFld Fld.MILL_CTX_ENTRY_BASE (bits v 0 12) c.val).setFld Fld.MILL_CTX_ENTRY_COUNT
      (min (bits v 12 13) (4095 - bits v 0 12)) c.val

/-! ### Snapshots (R347, R365, R367) -/

/-- The fields of a snapshot. -/
def Snap.f (x : Snap) (k : Nat) : Nat := (SMap.val x.fields 0 k).toNat
def Snap.f32 (x : Snap) (k : Nat) : Nat := x.f k % 2 ^ 32
def Snap.ctl (x : Snap) (lo w : Nat) : Nat := fieldN (x.f 0) lo w
def Snap.family (x : Snap) : Nat := x.ctl 0 1
def Snap.kind (x : Snap) (k : Nat) : Nat := x.ctl (2 * k + 1) 2
def Snap.inp (x : Snap) (k : Nat) : Nat := x.ctl (2 * k + 9) 2
def Snap.num (x : Snap) : Nat := x.ctl 17 3
def Snap.den (x : Snap) : Nat := x.ctl 20 3
def Snap.frzMom (x : Snap) : Bool := x.ctl 23 1 == 1
def Snap.nfSkip (x : Snap) : Bool := x.ctl 24 1 == 1
def Snap.wbSr (x : Snap) : Bool := x.ctl 25 1 == 1
def Snap.wbSat (x : Snap) : Bool := x.ctl 26 1 == 1
def Snap.refresh (x : Snap) : Nat := fieldN (x.f 0x13) 0 12
def Snap.blk (x : Snap) : Nat := fieldN (x.f 0x13) 12 9
def Snap.lag (x : Snap) : Nat := fieldN (x.f 0x13) 21 8

def finite32 (x : Nat) : Bool := fieldN x 23 8 != 255

/-- A valid entry (R365, R367). -/
def Snap.ok (x : Snap) : Bool :=
  let slots := List.range 4
  let kindOf (k : Nat) : Nat := if k < 4 then x.kind k else 9
  ((List.range 0x14).all fun f => wideField f || finite32 (x.f f)) &&
    x.f 0xF ≤ 255 && x.f 0 < 2 ^ 27 && (slots.all fun k => x.inp k != 3) &&
    (x.num == 4 || (x.num < 4 && kindOf x.num == 1)) &&
    (x.den == 4 || (x.den < 4 && (kindOf x.den == 1 || kindOf x.den == 2))) &&
    (slots.all fun k => x.kind k != 2 || x.inp k == 1) &&
    (if x.family = 0 then slots.all fun k => x.kind k != 3
     else (slots.all fun k => (x.kind k == 3) == (k == 3)) && kindOf x.den == 2 && 1 ≤ x.refresh && 16 ≤ x.blk && x.blk ≤ 256 &&
       1 ≤ x.lag && x.lag ≤ x.refresh && x.f32 0x12 != 0 && x.f32 0x12 < 2 ^ 31)

/-- The snapshot of an entry of a table. -/
def State.snapOf (s : State) (tgt : Nat) (c : Cid) (e : Nat) : Snap :=
  let b := s.coefActive tgt c
  { fields := (List.range 0x14).foldl (fun m f => SMap.put m 0 f (s.coefGet tgt b e f)) []
    gscale := (s.coefGet tgt b 0xFFF (s.lead c).val).setWidth 32 }

/-- Blocks of a Kronecker slot: counts of block rows and columns (R368). -/
def kronDims (rows cols blk : Nat) : Nat × Nat := if blk = 0 then (0, 0) else (ceilDiv rows blk, ceilDiv cols blk)
def kronStride (blk : Nat) : Nat := 256 + 24 * blk * blk

/-- Bytes of a slot's state (R364, R368). -/
def Snap.slotSize (x : Snap) (rows cols k : Nat) : Nat :=
  match x.kind k with
  | 1 => 4 * rows * cols
  | 2 => 256 * ceilDiv (4 * rows) 256 + 4 * cols
  | 3 => let d := kronDims rows cols x.blk; 256 + d.1 * d.2 * kronStride x.blk
  | _ => 0

/-! ### Tensor records (R342 to R344) -/

/-- Rows and columns of the tensor that a tile covers: (I0, count, J0, count). -/
def Tile.rect (t : Tile) : Nat × Nat × Nat × Nat := if t.t then (t.i0, t.c, t.j0, t.r) else (t.i0, t.r, t.j0, t.c)
/-- The tensor element of element `c` of the tile's row `r` (R343). -/
def Tile.el (t : Tile) (r c : Nat) : Nat × Nat := if t.t then (t.i0 + c, t.j0 + r) else (t.i0 + r, t.j0 + c)
/-- The tile's handle row and element of a tensor element. -/
def Tile.at' (t : Tile) (i j : Nat) : Option (Nat × Nat) :=
  let x := t.rect
  if x.1 ≤ i && i < x.1 + x.2.1 && x.2.2.1 ≤ j && j < x.2.2.1 + x.2.2.2 then
    some (if t.t then (j - t.j0, i - t.i0) else (i - t.i0, j - t.j0))
  else none

def Tile.inside (t : Tile) (rows cols : Nat) : Bool :=
  let x := t.rect
  x.1 + x.2.1 ≤ rows && x.2.2.1 + x.2.2.2 ≤ cols
/-- The tiles share a tensor element. -/
def Tile.meets (a b : Tile) : Bool :=
  let x := a.rect
  let y := b.rect
  x.1 < y.1 + y.2.1 && y.1 < x.1 + x.2.1 && x.2.2.1 < y.2.2.1 + y.2.2.2 && y.2.2.1 < x.2.2.1 + x.2.2.2
/-- The tiles share a handle row. -/
def Tile.sharesRow (a b : Tile) : Bool := a.stn == b.stn && a.hrow < b.hrow + b.r && b.hrow < a.hrow + a.r

def pairwiseOff (f : Tile → Tile → Bool) : List Tile → Bool
  | [] => true
  | a :: t => t.all (fun b => !f a b) && pairwiseOff f t

/-- A tile-map entry, none if a reserved bit is set. -/
def tileOf (bs : List Byte) (k : Nat) : Option Tile :=
  let a := leAt bs (16 * k) 8
  let b := leAt bs (16 * k + 8) 8
  if 2 ^ 52 ≤ a || 2 ^ 52 ≤ b then none
  else some ⟨fieldN a 0 7, fieldN a 7 1 == 1, fieldN a 8 20, fieldN a 28 24, fieldN b 0 24, fieldN b 24 20, fieldN b 44 8 + 1⟩

/-- The tiles of a map; none if an entry is invalid. -/
def tilesOf (bs : List Byte) (n : Nat) : Option (List Tile) := (List.range n).mapM (tileOf bs)

/-- GMAP fits the reduction's source and covers the tensor once (R343). -/
def gmapOk (g : List Tile) (set : StationSet) (hrows hcols rows cols : Nat) : Bool :=
  (g.all fun t => t.stn < 96 && has set (Fin.ofNat 96 t.stn) && t.c == hcols && t.hrow % 128 == 0 && t.r % 128 == 0 &&
    t.hrow + t.r ≤ hrows && t.inside rows cols) &&
    pairwiseOff Tile.meets g && (g.foldl (fun n t => n + t.r * t.c) 0) == rows * cols

/-- WMAP fits HW (R343, R358). -/
def wmapOk (w : List Tile) (h : Handle) (rows cols : Nat) : Bool :=
  (w.all fun t => t.stn < 96 && has h.set (Fin.ofNat 96 t.stn) && t.c ≤ h.colsN && t.hrow + t.r ≤ h.rows.toNat &&
    t.inside rows cols && (!h.mx || (t.hrow % 32 == 0 && t.r % 32 == 0))) && pairwiseOff Tile.sharesRow w

/-- The record's words with reserved bits all zero (R342). -/
def recWordOk (i x : Nat) : Bool :=
  onlyFields x (if i = 0 then [(22, 0), (63, 56)] else if i = 9 then [(33, 0)] else if i = 10 || i = 11 then [(56, 0)]
    else if i < 9 then [(47, 0)] else [])

/-- What a check of a record finds. -/
structure RecOk where
  t : TRec
  snap : Snap
  areas : List (Nat × Nat)
  /-- The areas at the addresses that the record names. -/
  named : List (Nat × Nat)

structure RecRes where
  st : State
  res : Except (BitVec 16) RecOk

/-- The state areas of a record, by its snapshot: master, mask, slots in use (R344, R507). -/
def recAreas (x : Snap) (rows cols : Nat) (w : Nat → Nat) : List (Nat × Nat) :=
  let n := rows * cols
  [(w 2, 4 * n), (w 3, ceilDiv n 8)] ++
    ((List.range 4).filter fun k => x.kind k != 0).map fun k => (w (4 + k), x.slotSize rows cols k)

/-- The half of a stockpile address. -/
def halfOf (a : Nat) : Option Nat := if stkBase ≤ a ∧ (a - stkBase) / stkWindow < 2 then some ((a - stkBase) / stkWindow) else none

/-- The tier that R309 gives a tensor's state, of a half that is fitted: the stockpile on a variant with mills, HBM on one without. -/
def tierOk (v : Variant) (vu : Bool) (a : Nat) : Bool :=
  match halfOf a with
  | some m => !vu && v.hasMill m
  | none => vu && a < stkBase

/-- The check of a tensor record by table `tgt` (R344, R376); `hw` with HWV = 1; `red` the reduction, none for a securing; `busy` the
areas of queued updates with their MASTER; `sec`: for a securing, which has no HW and writes nothing back (R506); `rng`: the range of
entries in force at the MILLSTEP's dispatch (R381). State in a tier that R309 does not allow is UNIT_ABSENT; state of one tensor in both
halves is MEM_RANGE (DEDUCED, log entry 130). -/
def State.recCheck (s : State) (c : Cid) (tgt : Nat) (a : Nat) (hw : Option HandleId) (red : Option Red)
    (busy : List (Nat × List (Nat × Nat))) (sec : Bool := false) (rng : Option (Nat × Nat) := none) : RecRes :=
  let vu := 2 ≤ tgt
  match s.ctxAddr c a 192 with
  | none => ⟨s, .error Ev.MEM_RANGE⟩
  | some pa =>
    if stkBase ≤ a then ⟨s, .error Ev.MEM_RANGE⟩
    else if a % 64 != 0 then ⟨s, .error Ev.MEM_ALIGN⟩
    else
      let r := s.memRead pa 128
      if r.ue then ⟨r.st, .error Ev.MEM_UE⟩
      else
        let w (i : Nat) : Nat := leAt r.data (8 * i) 8
        let rows := fieldN (w 1) 0 24
        let cols := fieldN (w 1) 24 24
        let n := rows * cols
        let wfmt := fieldN (w 0) 12 4
        let gmap := fieldN (w 10) 0 48
        let gcnt := fieldN (w 10) 48 9
        let wmap := fieldN (w 11) 0 48
        let wcnt := fieldN (w 11) 48 9
        let hwv := hw.isSome
        let h := s.hnd (hw.getD 0)
        let bad := fieldN (w 0) 56 8 != 3 || 10 ≤ wfmt || n == 0 || !((List.range 16).all fun i => recWordOk i (w i)) ||
          ((List.range 7).any fun i => w (2 + i) % 256 != 0) || 2 ^ 34 < fieldN (w 9) 0 34 + n ||
          gcnt == 0 || 256 < gcnt || gmap % 8 != 0 || stkBase ≤ gmap ||
          (hwv && (wcnt == 0 || 256 < wcnt || wmap % 8 != 0 || stkBase ≤ wmap || h.fmt.toNat != wfmt)) ||
          (!hwv && !sec && isMX wfmt)
        if bad then ⟨r.st, .error Ev.MILL_RECORD⟩
        else
          match s.ctxAddr c gmap (16 * gcnt), (if hwv then s.ctxAddr c wmap (16 * wcnt) else some 0) with
          | some ga, some wa =>
            let g := r.st.memRead ga (16 * gcnt)
            let v : ReadRes := if hwv then g.st.memRead wa (16 * wcnt) else ⟨[], g.st, false⟩
            if g.ue || v.ue then ⟨v.st, .error Ev.MEM_UE⟩
            else
              let e := fieldN (w 0) 0 12
              let snap := s.snapOf tgt c e
              let areas := recAreas snap rows cols w
              let placed := areas.map fun x => s.placed c x.1 x.2
              let place (k : Nat) : Nat := (s.placed c (w k) 1).1
              let maps := match tilesOf g.data gcnt, (if hwv then tilesOf v.data wcnt else some []) with
                | some gm, some wm => some (gm, wm)
                | _, _ => none
              let mapsOk := match maps with
                | none => false
                | some m => (match red with
                    | some d => gmapOk m.1 d.set d.rows d.cols rows cols && d.dest == vu
                    | none => true) && (!hwv || wmapOk m.2 h rows cols)
              let halves := areas.map fun x => halfOf x.1
              let oneHalf := halves.all fun x => x == halves.headD none
              let own := areas.all fun x => (s.ctxAddr c x.1 x.2).isSome
              let wbOk := hwv || sec || (w 8 < stkBase && (s.ctxAddr c (w 8) (ceilDiv (n * fmtBits wfmt) 8)).isSome)
              let absent := !areas.all fun x => tierOk s.variant vu x.1
              let entOk := match rng with
                | some r => inEntries r e
                | none => s.entryOk vu c e
              let clash := busy.any fun b => b.1 != (placed.headD (0, 0)).1 && b.2.any fun x => placed.any (overlaps x)
              let fact := (List.range 4).any fun k => snap.kind k == 2
              let stats := match red with
                | some d => d.stats || !vu || !fact
                | none => true
              match firstFault [need mapsOk Ev.MILL_RECORD, need (!absent) Ev.UNIT_ABSENT, need (oneHalf && own && wbOk) Ev.MEM_RANGE,
                  need (!clash) Ev.MILL_RECORD, need entOk Ev.MILL_ENTRY, need snap.ok Ev.MILL_COEF,
                  need stats Ev.MILL_RECORD] with
              | some f => ⟨v.st, .error f⟩
              | none =>
                let m := maps.getD ([], [])
                let slots := (List.range 4).map fun k => place (4 + k)
                ⟨v.st, .ok ⟨⟨e, wfmt, signedN (fieldN (w 0) 16 7) 7, rows, cols, place 2, place 3, slots, place 8,
                  fieldN (w 9) 0 34, m.1, m.2⟩, snap, placed, areas⟩⟩
          | _, _ => ⟨r.st, .error Ev.MEM_RANGE⟩

/-! ### The hand-over (R349, R350) -/

/-- A hand-over: n, NLATE, Er, NONFINITE, the values and partials by station, handle row and element. -/
structure HOver where
  n : Nat
  nlate : Nat
  er : Int
  nf : Bool
  fmt : Nat
  q : StationId → Nat → Nat → Nat
  rowP : StationId → Nat → Nat
  colP : StationId → Nat → Nat → Nat

/-- The hand-over of a completed reduction (R431). -/
def Red.over (r : Red) : HOver :=
  let per := r.rows / 128
  let stns := stationsOf r.set
  let bl : Array (Array (BitVec 16) × Array (BitVec 32) × Array (BitVec 32) × RBlock) :=
    ((List.range (per * stns.length)).map fun b =>
      let x := (SMap.val r.blocks none b).getD {}
      (x.vals.toArray, x.rows.toArray, x.cols.toArray, x)).toArray
  let blk (i : StationId) (g : Nat) := bl.getD ((stns.findIdx (· == i)) * per + g) (#[], #[], #[], {})
  let b0 := (bl.getD 0 (#[], #[], #[], {})).2.2.2
  { n := b0.n, nlate := b0.nlate, er := b0.er, nf := bl.any fun x => x.2.2.2.nonfinite, fmt := r.fmt.toNat
    q := fun i row c => ((blk i (row / 128)).1.getD (row % 128 * r.cols + c) 0).toNat
    rowP := fun i row => ((blk i (row / 128)).2.1.getD (row % 128) 0).toNat
    colP := fun i g c => ((blk i g).2.2.1.getD c 0).toNat }

/-- Partials of a tile with their targets: (station, handle row or group, true for a tensor row, index, value) (R350). -/
def Tile.partials (ho : HOver) (t : Tile) : List (Nat × Nat × Bool × Nat × Nat) :=
  let i : StationId := Fin.ofNat 96 t.stn
  ((List.range t.r).map fun r => (t.stn, t.hrow + r, !t.t, (if t.t then t.j0 else t.i0) + r, ho.rowP i (t.hrow + r))) ++
    (List.range (t.r / 128)).flatMap fun g => (List.range t.c).map fun c =>
      (t.stn, t.hrow / 128 + g, t.t, (if t.t then t.i0 else t.j0) + c, ho.colP i (t.hrow / 128 + g) c)

/-- ρ or κ: the partials of each row, or column, summed in FP64 in ascending station and row or group, over n² (R350). -/
def meansOf (ho : HOver) (g : List Tile) (row : Bool) (len : Nat) : Array Nat :=
  let ps := (g.flatMap (Tile.partials ho)).filter fun p => p.2.2.1 == row
  let ps := ps.mergeSort fun a b => a.1 < b.1 || (a.1 == b.1 && a.2.1 ≤ b.2.1)
  let sums : Array Val := ps.foldl (fun a p => a.modify p.2.2.2.1 fun v => add64 v (val32 p.2.2.2.2)) (Array.replicate len (.fin false 0 0))
  sums.map fun v => rne32 ((val32 (rne32 v)).div (.fin false (ho.n * ho.n) 0))

/-! ### Reads of the stockpile (R375) -/

/-- The device address of the first uncorrectable word of a range (R388). -/
def State.firstUE (s : State) (a n : Nat) : Option Nat :=
  ((s.memBits.found a n).find? fun p => p.2 == .ue).map fun p => 8 * p.1

/-- A read of a few bytes: the bytes, the state, and the address of an uncorrectable word. -/
def State.readUE (s : State) (a n : Nat) : List Byte × State × Option Nat :=
  let r := s.memRead a n
  (r.data, r.st, if r.ue then s.firstUE a n else none)

/-- `m` FP32 values from `a`: the values, the state, and the address of an uncorrectable word. -/
def State.readF32 (s : State) (a m : Nat) : Array Nat × State × Option Nat :=
  let r := s.memRead a (4 * m)
  let d := r.data.toArray
  (((List.range m).map fun i => ofBytes ((List.range 4).map fun k => d.getD (4 * i + k) 0)).toArray, r.st,
    if r.ue then s.firstUE a (4 * m) else none)

def bytes32 (l : List Nat) : List Byte := l.flatMap (bytesOf 4)

/-! ### The recurrence (R354 to R360) -/

/-- The arithmetic of one update: its snapshot, lr, and for each FACT slot r, c and the inverse sum. -/
structure Rule where
  x : Snap
  lr : Nat
  fact : Nat → Option (Array Nat × Array Nat × Nat)

def sqrt32 (a : Nat) : Nat := rne32 (val32 a).sqrt
def one32 : Nat := 0x3F800000

/-- g (R354). -/
def gradOf (ho : HOver) (q : Nat) : Nat := rne32 (((decodeF ho.fmt q).scale (-ho.er)).div (.fin false ho.n 0))

/-- The FULL slots with an element's g taken in. -/
def Rule.slots (k : Rule) (old : List Nat) (g : Nat) : List Nat :=
  (old.zip (List.range 4)).map fun p =>
    if k.x.kind p.2 = 1 then
      let x := match k.x.inp p.2 with
        | 0 => g
        | 1 => mul32 g g
        | _ => g % 2 ^ 31
      fma32 (k.x.f32 (1 + p.2)) p.1 (mul32 (k.x.f32 (5 + p.2)) x)
    else p.1

/-- val(k) at element (i, j). -/
def Rule.val (k : Rule) (new : List Nat) (n i j : Nat) : Nat :=
  if k.x.kind n = 1 then new.getD n 0
  else match k.fact n with
    | some (r, c, inv) => mul32 (mul32 (r.getD i 0) (c.getD j 0)) inv
    | none => 0

def Rule.num (k : Rule) (new : List Nat) (g i j : Nat) : Nat :=
  if k.x.num = 4 then mul32 (k.x.f32 9) g else fma32 (k.x.f32 9) g (mul32 (k.x.f32 10) (k.val new k.x.num i j))

def Rule.den (k : Rule) (new : List Nat) (i j : Nat) : Nat :=
  if k.x.den = 4 then one32 else add32 (sqrt32 (mul32 (k.x.f32 11) (k.val new k.x.den i j))) (k.x.f32 12)

/-- The clip of a direction. -/
def Rule.clip (k : Rule) (d : Nat) : Nat :=
  let m := k.x.f32 16
  let v := val32 m
  if (Val.fin false 0 0).lt v then
    (if (val32 d).lt v.negate then rne32 v.negate else if v.lt (val32 d) then m else d)
  else d

/-- The step from master `w` in direction `d`, rounded with the random bits `rn`. -/
def Rule.step (k : Rule) (w d rn : Nat) : Nat :=
  let u := mul32 k.lr (fma32 (k.x.f32 13) w (k.clip d))
  (FFmt.fp32.convert ((val32 w).add ((val32 u).scale (-(k.x.f 15 : Int))).negate) .sr false rn).bits

/-! ### The Kronecker rule (R368 to R372) -/

/-- Square arrays of FP32 values. -/
abbrev Mat := Array (Array Nat)
def Mat.at' (m : Mat) (i j : Nat) : Nat := (m.getD i #[]).getD j 0
def matOf (r c : Nat) (f : Nat → Nat → Nat) : Mat := ((List.range r).map fun i => ((List.range c).map (f i)).toArray).toArray
/-- The FP64 sum of products in ascending k, rounded once (R341). -/
def dot32 (n : Nat) (f g : Nat → Nat) : Nat := sum32 ((List.range n).map fun k => (val32 (f k)).mul (val32 (g k)))
/-- A matrix product, each element rounded once. -/
def matMul (r n c : Nat) (a b : Mat) : Mat := matOf r c fun i j => dot32 n (a.at' i) fun k => b.at' k j
def matFinite (m : Mat) : Bool := m.all fun r => r.all finite32

/-- A block of a tensor: index, place, rows and columns (R368). -/
structure KBlock where
  ix : Nat
  i0 : Nat
  j0 : Nat
  hr : Nat
  hc : Nat

def kronBlocks (rows cols blk : Nat) : List KBlock :=
  let d := kronDims rows cols blk
  (List.range (d.1 * d.2)).map fun n =>
    let i := n / d.2 * blk
    let j := n % d.2 * blk
    ⟨n, i, j, min blk (rows - i), min blk (cols - j)⟩

def blockBase (slot blk ix : Nat) : Nat := slot + 256 + ix * kronStride blk
/-- Address of matrix `m` of a block: L, R, LROOT, RROOT, LNEXT, RNEXT. -/
def matBase (slot blk ix m : Nat) : Nat := blockBase slot blk ix + 256 + m * 4 * blk * blk

/-- A matrix of size `h` read. -/
def State.readMat (s : State) (a blk h : Nat) : Mat × State × Option Nat :=
  (List.range h).foldl (fun acc r =>
    let p := acc.2.1.readF32 (a + 4 * blk * r) h
    (acc.1.push p.1, p.2.1, acc.2.2.or p.2.2)) (#[], s, none)

def State.writeMat (s : State) (a blk : Nat) (m : Mat) : State :=
  (m.toList.zip (List.range m.size)).foldl (fun s p => s.memWrite (a + 4 * blk * p.2) (bytes32 p.1.toList)) s

/-- One Newton iteration from iteration `it`, at most `fuel` more (R371): the matrix, failed, iterations. -/
def newton (h ktol : Nat) : Nat → Nat → Mat → Mat → Mat × Bool × Nat
  | 0, it, x, _ => (x, true, it)
  | fuel + 1, it, x, m =>
    let t := matOf h h fun i j => sub32 (if i = j then 0x3FA00000 else 0) (mul32 0x3E800000 (m.at' i j))
    let x := matMul h h h x t
    let t2 := matMul h h h t t
    let m := matMul h h h (matMul h h h t2 t2) m
    if !matFinite x || !matFinite m then (x, true, it + 1)
    else if (List.range h).all (fun i => (List.range h).all fun j =>
        !(val32 ktol).lt (val32 (sub32 (m.at' i j) (if i = j then one32 else 0))).abs) then (x, false, it + 1)
    else newton h ktol fuel (it + 1) x m

/-- A refresh of one matrix (R371). -/
def refreshMat (h keps ktol : Nat) (sm : Mat) : Mat × Bool × Nat :=
  if !matFinite sm then (sm, true, 0)
  else
    let eps := rne32 (let k := val32 keps; let d : Val := .fin false 1 (-100); if k.lt d then d else k)
    let a := matOf h h fun i j => add32 (sm.at' i j) (if i = j then eps else 0)
    let f := sqrt32 (sum32 ((List.range h).flatMap fun i => (List.range h).map fun j => (val32 (a.at' i j)).mul (val32 (a.at' i j))))
    let z := div32 one32 f
    let x0 := rne32 (val32 z).root4
    newton h ktol 24 0 (matOf h h fun i j => if i = j then x0 else 0) (matOf h h fun i j => mul32 z (a.at' i j))

/-- The refresh of one matrix in place: the state, its outcome (failed, iterations), and the address of an uncorrectable word, which
fails the matrix (DESIGN CHOICE, log entry 32). -/
def State.refreshOne (s : State) (r : Refresh) (a h : Nat) : State × (Bool × Nat) × Option Nat :=
  let p := s.readMat a r.blk h
  match p.2.2 with
  | some e => (p.2.1, (true, 0), some e)
  | none =>
    let q := refreshMat h r.keps.toNat r.ktol.toNat p.1
    (p.2.1.writeMat a r.blk q.1, q.2, none)

/-- The outcome of a refresh: the outcomes of L and R in block order, and the addresses of uncorrectable words. -/
structure RefreshRes where
  st : State
  outs : List (Bool × Nat × Bool × Nat) := []
  ues : List Nat := []

/-- The refresh of all blocks, in block order, L before R (R370, R371). -/
def State.refreshAll (s : State) (r : Refresh) : RefreshRes :=
  (kronBlocks r.rows r.cols r.blk).foldl (fun acc b =>
    let l := acc.st.refreshOne r (matBase r.slot r.blk b.ix 4) b.hr
    let q := l.1.refreshOne r (matBase r.slot r.blk b.ix 5) b.hc
    ⟨q.1, acc.outs ++ [(l.2.1.1, l.2.1.2, q.2.1.1, q.2.1.2)], acc.ues ++ l.2.2.toList ++ q.2.2.toList⟩) { st := s }

/-- What the blocks of a consumed refresh came to. -/
structure KronCount where
  stale : Nat := 0
  fallback : Nat := 0
  refreshed : Nat := 0
  recovered : Nat := 0
  iters : Nat := 0

/-- R372 for one block. -/
def State.consumeBlock (s : State) (slot blk : Nat) (k : KronCount) (b : KBlock) (o : Bool × Nat × Bool × Nat) : State × KronCount × Option Nat :=
  let a := blockBase slot blk b.ix
  let hd := s.memRead a 4
  let fl := leAt hd.data 0 1
  let stale := leAt hd.data 1 1
  let fb := fieldN fl 1 1
  let it := max k.iters (max o.2.1 o.2.2.2)
  let wr (s : State) (f st : Nat) : State := s.memWrite a (bytesOf 1 f ++ bytesOf 1 st ++ bytesOf 1 o.2.1 ++ bytesOf 1 o.2.2.2)
  if hd.ue then (hd.st, k, s.firstUE a 4)
  else if !o.1 && !o.2.2.1 then
    let l := hd.st.readMat (matBase slot blk b.ix 4) blk b.hr
    let r := l.2.1.readMat (matBase slot blk b.ix 5) blk b.hc
    match l.2.2.or r.2.2 with
    | some e => (r.2.1, k, some e)
    | none =>
      let s := (r.2.1.writeMat (matBase slot blk b.ix 2) blk l.1).writeMat (matBase slot blk b.ix 3) blk r.1
      (wr s 1 0, { k with refreshed := k.refreshed + 1, recovered := k.recovered + fb, iters := it }, none)
  else
    let st := min 255 (stale + 1)
    let enter := st == 8 && fb == 0
    (wr hd.st (fieldN fl 0 1 + (if enter || fb == 1 then 2 else 0)) st,
      { k with stale := k.stale + 1, fallback := k.fallback + enter.toNat, iters := it }, none)

end Sys2Proof.Machine
end

