-- ==== Sys2Proof/Machine/Cell.lean ====
section
/-! DEFINITION. The arithmetic of the array's cells: operand slices, the Native roundings of R81 to R83, the Exact-Solori order of
R95, zero gating (R65). -/

namespace Sys2Proof.Machine

/-- An operand stream of K slices: per slice 128 element patterns, and per block of 32 slices 128 scale bytes (MX only). -/
structure Slices where
  fmt : Nat
  els : List (List Nat)
  scales : List (List Byte)

/-- The 128 elements of a slice in the format's width from a row's bytes. Elements that the row does not hold are free values
(log entry 22). -/
def sliceEls (w : Nat) (free : Nat) (bs : List Byte) : List Nat :=
  let n := min 128 (bs.length * 8 / w)
  unpackRow w n bs ++ (List.range (128 - n)).map fun i => (Config.free (free + i)).toNat % 2 ^ w

/-- Slices from rows `r0` to `r0 + k − 1` of a handle (R33, R34, R82, R182). -/
def State.readSlices (s : State) (h : Handle) (i : StationId) (fmt r0 k : Nat) : Slices × State × Bool :=
  let w := fmtBits fmt
  let short := h.rowSize * 8 < 128 * w
  let p := (List.range k).foldl (fun (acc : List (List Nat) × State × Bool) j =>
    let r := acc.2.1.bunkRead i (h.rowAt (r0 + j)) h.rowSize
    (acc.1 ++ [sliceEls w acc.2.1.freeCtr r.data],
      if short then { r.st with freeCtr := r.st.freeCtr + 128 } else r.st, acc.2.2 || r.ue)) ([], s, false)
  if isMX fmt then
    let q := (List.range (ceilDiv k 32)).foldl (fun (acc : List (List Byte) × State × Bool) b =>
      let r := acc.2.1.sideRead i (h.scaleAt (128 * (r0 / 32 + b))) 128
      (acc.1 ++ [r.data], r.st, acc.2.2 || r.ue)) ([], p.2.1, p.2.2)
    (⟨fmt, p.1, q.1⟩, q.2)
  else (⟨fmt, p.1, []⟩, p.2)

/-- Slices that one rounding point takes together: its products (R81). -/
def roundSpan (fmt : Nat) : Nat := if isMX fmt then 32 else if fmt = 3 || fmt = 4 then 2 else 1

/-- A contribution joins the accumulator (R81): exactly zero ones are not added. -/
def accAdd (acc : BitVec 40) (v : Val) : BitVec 40 :=
  if v.isZero then acc else BitVec.ofNat 40 (rne40 ((val40 acc.toNat).add v))

/-- The exact sum of products of a span, scaled (R81, R83). -/
def spanSum (sc : Option Int) (ps : List Val) : Val :=
  match sc with
  | some k => (ps.foldl Val.add (.fin true 0 0)).scale k
  | none => .nan

/-- The products of cell (i, j) in slice order. -/
def cellProducts (a b : Slices) (i j : Nat) : List Val :=
  (a.els.zip b.els).map fun p => (decodeF a.fmt (p.1.getD i 0)).mul (decodeF b.fmt (p.2.getD j 0))

/-- One cell in the Native mode (R81 to R83). -/
def cellNative (a b : Slices) (i j : Nat) (init : BitVec 40) : BitVec 40 :=
  let n := roundSpan a.fmt
  let sp := chunks n (cellProducts a b i j)
  (sp.zip (List.range sp.length)).foldl (fun acc p =>
    let sc : Option Int :=
      if isMX a.fmt then
        match e8m0 ((a.scales.getD p.2 []).getD i 0), e8m0 ((b.scales.getD p.2 []).getD j 0) with
        | some x, some y => some (x + y)
        | _, _ => none
      else some 0
    accAdd acc (spanSum sc p.1)) init

/-- One level of the pairing of chunks (R95). -/
def pairLevel : List Nat → List Nat
  | x :: y :: t => ftz32 (add32 x y) :: pairLevel t
  | l => l

def pairAll : Nat → List Nat → Nat
  | 0, l => l.headD 0
  | n + 1, l => match l with
    | [] => 0
    | [x] => x
    | l => pairAll n (pairLevel l)

/-- Chunks of 32 exact products, each rounded once, then pairs (R95, R96). -/
def chunkPair (vs : List Val) : Nat :=
  let cs := (chunks 32 vs).map fun l => ftz32 (rne32 (l.foldl Val.add (.fin false 0 0)))
  pairAll cs.length cs

/-- One cell in the Exact-Solori mode (R95). The bank holds FP32 values as FP40. -/
def cellSolori (a b : Slices) (i j : Nat) (init : BitVec 40) : BitVec 40 :=
  let f (x : Nat) : Val := (decodeF 1 x).ftz
  let ps := (a.els.zip b.els).map fun p => (f (p.1.getD i 0)).mul (f (p.2.getD j 0))
  let c := ftz32 (add32 (ftz32 (rne32 (val40 init.toNat))) (chunkPair ps))
  BitVec.ofNat 40 (rne40 (val32 c))

/-- The accumulators after an MMA: every cell of the array (R33). An EMPTY bank's initial set is +0. -/
def mmaResult (sol : Bool) (a b : Slices) (init : SMap (BitVec 40)) : SMap (BitVec 40) :=
  (List.range 16384).foldl (fun m x =>
    let i := x / 128
    let j := x % 128
    let v := SMap.val init 0 x
    SMap.put m 0 x (if sol then cellSolori a b i j v else cellNative a b i j v)) []

/-- A zero operand gates the MAC of a slice (R65). -/
def gatesMac (f g x y : Nat) : Bool :=
  let a := decodeF f x
  let b := decodeF g y
  (a.isZero || b.isZero) && a.isFin && b.isFin

/-- Gated cell-cycles of an MMA (R65, R72). A slice takes four cycles in the Exact-Solori mode (R57). Where a cycle has two or four
MACs of a packed format, the cell counts as gated when all of them are (DESIGN CHOICE, log entry 115). -/
def gatedCount (sol : Bool) (a b : Slices) : Nat :=
  (if sol then 4 else 1) * ((chunks (wordSlices a.fmt) (a.els.zip b.els)).map fun cyc =>
    ((List.range 16384).filter fun x =>
      cyc.all fun p => gatesMac a.fmt b.fmt (p.1.getD (x / 128) 0) (p.2.getD (x % 128) 0)).length).sum

end Sys2Proof.Machine
end

