-- ==== Sys2Proof/Machine/Ring.lean ====
section
/-! DEFINITION. Array and ring instructions at dispatch (R177 to R183), their issue (R42, R55), exchanges of a bank (R36 to R41),
passes (R51 to R56), holds (R58) and the residue check with its replay (R61, R62, R66). -/

namespace Sys2Proof.Machine

/-! ### Dispatch -/

/-- The effective offset of a form, when it is below 2²⁰ (R164). -/
def offCheck (o : Nat) : Option (BitVec 16) := need (o < 2 ^ 20) Ev.BNK_SHAPE

/-- Dispatch of a station instruction (R161, R162). One that names stations of both halves of a joined context is issued once, by the
token's holder; the other sequencer skips it before it looks at anything else (R118, R119). One of the other half's stations is passed
over. `note` is what every copy of the context notes when it comes to the instruction, `mk` the instruction for its stations, and `acc`
registers its accesses for the number and stations given. -/
def State.dispatchTo (s : State) (c : Cid) (w : NWords) (mask : StationSet) (checks : List (Option (BitVec 16))) (note : State → State)
    (mk : StationSet → SInst) (acc : Nat → StationSet → State → State) : State :=
  let both := s.joined c && bothHalves mask
  let set := if both then mask else s.ownHalf c mask
  let n := (s.ctx c).prog.cross + 1
  if !subset mask (s.seamSet c) then s.seqFault c Ev.RING_SPAN
  else if mask = 0 then s.nextPc c w.len
  else if both && n ≤ s.token.last then (note (s.countCross c)).nextPc c w.len
  else if set = 0 then (note s).nextPc c w.len
  else s.checked c checks fun s =>
    if both && !s.holdsToken c then s.reqToken c
    else if !s.queuesFree set then s
    else
      let s := if both then s.claim c n else s
      (note (acc s.dispNo set (s.enqueueInst (mk set)))).nextPc c w.len

/-- Dispatch of a station instruction other than a group member. -/
def State.dispatch (s : State) (c : Cid) (w : NWords) (kind : SKind) (mask : StationSet) (off : Nat)
    (checks : List (Option (BitVec 16))) (acc : Nat → StationSet → State → State) : State :=
  s.dispatchTo c w mask checks id (fun set => { cid := c, kind := kind, w := w, mask := set, off := off }) acc

/-- Dispatch of an MMA or RINGRET (R181): every copy of the context notes it as a member of the next RINGINJ of its tag. -/
def State.dispatchMember (s : State) (c : Cid) (w : NWords) (kind : SKind) (mask : StationSet) (off : Nat) (tag : Nat)
    (checks : List (Option (BitVec 16))) (acc : Nat → StationSet → State → State) : State :=
  let ord := (s.ctx c).memOrd
  s.dispatchTo c w mask checks
    (fun s => s.modCtx c fun x => { x with memOrd := ord + 1, unbound := x.unbound ++ [⟨ord, kind, Fin.ofNat 16 tag, mask, w, off⟩] })
    (fun set => { cid := c, kind := kind, w := w, mask := set, off := off, ord := ord }) acc

/-- MMA (R178). -/
def execMma (c : Cid) (w : NWords) (s : State) : Host.Outcome State Fault Refusal :=
  .next (s.seqRun c (Enc.mma w) (if w.xb 25 then [w.x 24 20] else []) fun s =>
    let x := s.ctx c
    let mask := x.m (w.f 53 51)
    let off := effOff x (w.x 19 0) (w.xb 25) (w.x 24 20)
    s.dispatchMember c w .mma mask off (w.f 49 46) [offCheck off, s.handleFault c (w.h 22) mask]
      fun no set s => s.regReader no (w.h 22) set)

/-- The formats an ACCLOAD source reads (R179). -/
def accSrcOk (src fmt : Nat) : Bool :=
  match src with
  | 0 => true
  | 2 => fmt == 1 || fmt == 2
  | 4 => fmt == 10
  | _ => fmt == 0

/-- Rows an ACCLOAD reads (R37, R162). -/
def accSrcRows (src : Nat) : Nat := if src = 0 then 0 else if src = 1 then 1 else 128

/-- ACCLOAD (R179). -/
def execAccload (c : Cid) (w : NWords) (s : State) : Host.Outcome State Fault Refusal :=
  .next (s.seqRun c (Enc.accload w) (if w.fb 8 then [w.f 13 9] else []) fun s =>
    let x := s.ctx c
    let mask := x.m (w.f 53 51)
    let src := w.f 48 46
    let h := w.h 34
    let y := s.hnd h
    let off := effOff x (w.f 33 14) (w.fb 8) (w.f 13 9)
    let checks := if src = 0 then [offCheck off] else
      [offCheck off, s.handleFault c h mask, need (accSrcOk src y.fmt.toNat) Ev.NUM_MODE, need (y.colsN == 128) Ev.BNK_SHAPE,
        need (off + accSrcRows src ≤ y.rows.toNat) Ev.BNK_SHAPE]
    s.dispatch c w .accload mask off checks fun no set s => if src = 0 then s else s.regReader no h set)

/-- DRAIN (R180): the slot's own conditions are judged when it issues. -/
def execDrain (c : Cid) (w : NWords) (s : State) : Host.Outcome State Fault Refusal :=
  .next (s.seqRun c (Enc.drain w) (if w.fb 8 then [w.f 13 9] else []) fun s =>
    let x := s.ctx c
    let mask := x.m (w.f 53 51)
    let h := w.h 34
    let y := s.hnd h
    let turn := w.fb 49
    let off := effOff x (w.f 33 14) (w.fb 8) (w.f 13 9)
    s.dispatch c w .drain mask off
      [offCheck off, s.handleFault c h mask, need (!(turn && y.fmt == 10)) Ev.NUM_MODE,
        need (off + 128 ≤ y.rows.toNat) Ev.BNK_SHAPE, need (!(turn && y.mx && off % 32 != 0)) Ev.NUM_MODE]
      fun no set s => s.regWriter no h set)

/-- RINGRET (R183). Its row range is checked with its RINGINJ (R162). -/
def execRingret (c : Cid) (w : NWords) (s : State) : Host.Outcome State Fault Refusal :=
  .next (s.seqRun c (Enc.ringret w) (if w.fb 5 then [w.f 10 6] else []) fun s =>
    let x := s.ctx c
    let mask := x.m (w.f 53 51)
    let off := effOff x (w.f 30 11) (w.fb 5) (w.f 10 6)
    s.dispatchMember c w .ringret mask off (w.f 50 47) [offCheck off, s.handleFault c (w.h 31) mask]
      fun no set s => s.regWriter no (w.h 31) set)

/-- The handle a member reads or writes. -/
def Member.handle (m : Member) : HandleId := if m.kind = .mma then m.w.h 22 else m.w.h 31

/-- A member's row range and MX offset, checked with its RINGINJ (R162, R695). -/
def State.memberFault (s : State) (k : Nat) (m : Member) : Option (BitVec 16) :=
  let y := s.hnd m.handle
  if y.rows.toNat < m.off + k then some Ev.BNK_SHAPE
  else if y.mx && m.off % 32 != 0 then some Ev.NUM_MODE
  else none

/-- RINGINJ (R182): the members named by its tag are bound to it; its origin's half dispatches it. -/
def execRinginj (c : Cid) (w : NWords) (s : State) : Host.Outcome State Fault Refusal :=
  .next (s.seqRun c (Enc.ringinj w) (if w.xb 45 then [w.x 44 40] else []) fun s =>
    let x := s.ctx c
    let orig := w.f 53 47
    let k := w.x 19 0 + 1
    let h := w.h 16
    let y := s.hnd h
    let off := effOff x (w.x 39 20) (w.xb 45) (w.x 44 40)
    let mine (m : Member) : Bool := m.tag.val == w.f 46 43
    let mem := x.unbound.filter mine
    let all := mem.foldl (fun a m => a ||| m.set) (single (Fin.ofNat 96 orig))
    let cross := s.joined c && bothHalves all
    if !(orig < 96 && has (s.seamSet c) (Fin.ofNat 96 orig)) then s.seqFault c Ev.RING_SPAN
    else
      let o : StationId := Fin.ofNat 96 orig
      let bind (t : State) : State :=
        let t := t.modCtx c fun x => { x with unbound := x.unbound.filter fun m => !mine m }
        if cross then t.countCross c else t
      if s.ownHalf c (single o) = 0 then (bind s).nextPc c 2
      else
        s.checked c
          ([offCheck off, s.handleFault c h (single o), need (off + k ≤ y.rows.toNat) Ev.BNK_SHAPE,
            need (!(y.mx && off % 32 != 0)) Ev.NUM_MODE] ++ mem.map (s.memberFault k)) fun s =>
          if !s.queuesFree (single o) then s
          else
            let no := s.dispNo
            let n := x.prog.cross + 1
            let xn : Option (BitVec 32) := if cross then some n else none
            let i : SInst := { cid := c, kind := .ringinj, w := w, mask := single o, off := off, members := mem, cross := xn }
            (bind ((s.enqueueInst i).regReader no h (single o))).nextPc c 2)

/-! ### Members on a circuit (R56) -/

/-- Circuit and leg that a member names. -/
def Member.circ (m : Member) : Nat := if m.kind = .mma then m.w.f 45 43 else m.w.f 46 44
def Member.leg (m : Member) : Bool := if m.kind = .mma then m.w.fb 42 else m.w.fb 43

/-- A member station is reached by the pass where it says (R56, R181). -/
def memberReached (l first n : Nat) (w : NWords) (m : Member) (t : StationId) : Bool :=
  let c := circuit l
  let lane := w.fb 42
  m.circ ≤ w.f 34 32 && (l != 0 || m.leg == lane) &&
    m.circ * c + passDist l first n (Fin.ofNat 96 (w.f 53 47)) lane t m.leg ≤ w.f 41 35 + w.f 34 32 * c

/-- No station has two MMAs, or two RINGRETs, on one circuit and leg (R181). -/
def membersDistinct : List Member → Bool
  | [] => true
  | m :: t =>
    (t.all fun q => !(q.kind == m.kind && q.circ == m.circ && q.leg == m.leg && q.set &&& m.set != 0)) && membersDistinct t

/-- The sets of formats that may meet in an MMA (R178). -/
def mmaSet (f : Nat) : Nat :=
  match f with
  | 1 => 1
  | 2 => 2
  | 3 => 3
  | 4 => 3
  | 5 => 4
  | 6 => 4
  | 7 => 4
  | 8 => 4
  | 9 => 5
  | _ => 0

/-- What K must be a multiple of (R34). -/
def kMultiple (f : Nat) : Nat := if isMX f then 32 else if f = 3 || f = 4 then 2 else 1

/-- The checks of a group at its issue (R178, R181 to R183, R96). R52 and R56 name no moment for their faults: they are judged
here with the others of the pass (DESIGN CHOICE, log entry 116). -/
def State.groupFault (s : State) (x : SInst) : Option (BitVec 16) :=
  let w := x.w
  let l := s.layout
  let n := seamSize l
  let first := s.seamFirst x.cid
  let c := circuit l
  let k := w.x 19 0 + 1
  let fmt := w.f 31 28
  let spans := w.f 41 35 < c && (w.f 34 32 == 0 || k ≤ c) &&
    x.members.all (fun m => (stationsOf m.set).all fun t => memberReached l first n w m t) && membersDistinct x.members
  let mmas := x.members.filter fun m => m.kind == .mma
  let rets := x.members.filter fun m => m.kind == .ringret
  let fmts := mmaSet fmt != 0 && k % kMultiple fmt == 0 &&
    mmas.all (fun m => m.w.f 41 38 == fmt && mmaSet (m.w.f 37 34) == mmaSet fmt) &&
    (mmas.isEmpty || !s.numSolori || (fmt == 1 && k ≤ 4096)) &&
    rets.all fun m => (s.hnd m.handle).fmt.toNat == fmt
  firstFault [need spans Ev.RING_SPAN, need fmts Ev.NUM_MODE]

/-! ### Station conditions -/

/-- The station can issue: no hold, not stopped (R58, R646). -/
def State.stnFree (s : State) (i : StationId) : Bool := (s.holdOf i).isNone && !s.held (i.val / 4)

/-- The instruction at the head of a station's queue, when its context issues and no barrier stands before it. -/
def State.headInst (s : State) (i : StationId) : Option (Nat × SInst) :=
  match (s.stn i).queue with
  | [] => none
  | no :: _ => match s.inst no with
    | some x => if s.stnFree i && !s.barred x no i then some (no, x) else none
    | none => none

/-- The opcode of a station instruction (R177, R184). -/
def SKind.op : SKind → Nat
  | .mma => 0x20
  | .accload => 0x21
  | .drain => 0x22
  | .ringinj => 0x23
  | .ringret => 0x24
  | .vop => 0x30
  | .vopLoad => 0x30
  | .vred => 0x31
  | .vlut => 0x32
  | .vlutBack => 0x32
  | .vlutLoad => 0x32
  | .vcvt => 0x33
  | .vrng => 0x34
  | .vupdate => 0x53

/-- The handle a record of a station instruction names: the one it writes, else the one it reads. -/
def SInst.mainHandle (x : SInst) : HandleId :=
  match x.kind with
  | .mma => x.w.h 22
  | .accload => x.w.h 34
  | .drain => x.w.h 34
  | .ringinj => x.w.h 16
  | .ringret => x.w.h 31
  | .vop => x.w.h 30
  | .vopLoad => x.w.h 18
  | .vred => x.w.h 32
  | .vlut => x.w.h 34
  | .vlutBack => x.w.h 34
  | .vlutLoad => x.w.h 22
  | .vcvt => x.w.h 28
  | .vrng => x.w.h 37
  | .vupdate => x.w.h 37

/-- Bank and tag in one byte: 16 bank + tag (DESIGN CHOICE, log entry 25). -/
def SInst.bankTag (x : SInst) : Nat :=
  match x.kind with
  | .mma => 16 * x.w.f 50 50 + x.w.f 49 46
  | .accload => 16 * x.w.f 50 50
  | .drain => 16 * x.w.f 50 50
  | .ringinj => x.w.f 46 43
  | .ringret => x.w.f 50 47
  | _ => 0

/-- The bank an array instruction names. -/
def SInst.bankIx (x : SInst) : Fin 2 := if x.w.fb 50 then 1 else 0

/-- Cycles of the station's region. -/
def State.stnCyc (s : State) (i : StationId) : Nat := SMap.val s.time.cyc 0 (i.val / 2) / 5000

/-- Record of issue (R641). -/
def State.traceIssue (s : State) (i : StationId) (x : SInst) : State :=
  let b := [BitVec.ofNat 8 x.kind.op, BitVec.ofNat 8 x.bankTag] ++ bytesOf 2 x.mainHandle.toNat ++
    bytesOf 4 ((s.stn i).headWait / 5000) ++ bytesOf 4 (s.stnCyc i)
  s.trace (srcStn i) (some x.cid) 3 b

/-- Record of the end (R641). -/
def State.traceDone (s : State) (i : StationId) (x : SInst) : State :=
  let b := [BitVec.ofNat 8 x.kind.op, 0] ++ bytesOf 2 x.mainHandle.toNat ++ bytesOf 4 (s.stnCyc i - SMap.val x.issueCyc 0 i.val)
  s.trace (srcStn i) (some x.cid) 4 b

/-- Instruction `no` leaves the station's queue and counts as issued there. -/
def State.popInst (s : State) (i : StationId) (no : Nat) : State :=
  let s := match s.inst no with
    | some x => s.traceIssue i x
    | none => s
  (s.modStn i fun y => { y with queue := y.queue.filter (· != no), headWait := 0 }).modInst no fun x =>
    { x with issued := x.issued ||| single i, issueCyc := SMap.put x.issueCyc 0 i.val (s.stnCyc i) }

/-- The instruction has finished at a station; one finished everywhere is gone. -/
def State.instDone (s : State) (i : StationId) (no : Nat) : State :=
  match s.inst no with
  | none => s
  | some x =>
    let d := x.done ||| single i
    (s.traceDone i x).setInst no (if subset x.mask d then none else some { x with done := d })

def State.instGone (s : State) (no : Nat) : Bool := (s.inst no).isNone

/-! ### Passes (R44, R51 to R56) -/

/-- A pass whose three conditions hold is released: its source, its tag (R44). -/
def State.tryRelease (s : State) (no : Nat) : State :=
  match s.pass no with
  | some p => if p.retired && p.awaiting.isEmpty then ((s.setPass no none).endNo no).instDone p.orig no else s
  | none => s

/-- A member's work for its pass is over at a station. -/
def State.passMember (s : State) (ord : Nat) (c : Cid) (i : StationId) : State :=
  let cut (p : Pass) : Pass := { p with
    awaiting := (p.awaiting.map fun a => if a.1 = ord then (a.1, a.2 &&& ~~~single i) else a).filter fun a => a.2 != 0 }
  let hit := s.passes.filterMap fun e => match e.2 with
    | some p => if s.lead p.cid = s.lead c && p.awaiting.any (fun a => a.1 == ord && has a.2 i) then some (e.1, p) else none
    | none => none
  match hit with
  | [] => s
  | (no, p) :: _ => (s.setPass no (some (cut p))).tryRelease no

/-- The pass of a seam's context under a tag. -/
def State.passOf (s : State) (c : Cid) (tag : Fin 16) : Option (Nat × Pass) :=
  s.passes.findSome? fun e => match e.2 with
    | some p => if s.lead p.cid == s.lead c && p.tag == tag then some (e.1, p) else none
    | none => none

/-- The dispatched instruction of a member at a station. -/
def State.memberInst (s : State) (c : Cid) (m : Member) (i : StationId) : Option Nat :=
  (s.stn i).queue.find? fun no => match s.inst no with
    | some x => s.lead x.cid == s.lead c && x.kind == m.kind && x.ord == m.ord
    | none => false

/-- Everything ahead of an entry in a queue belongs to the group. -/
def aheadInGroup (grp : List Nat) (no : Nat) : List Nat → Bool
  | [] => false
  | a :: t => if a = no then true else grp.contains a && aheadInGroup grp no t

/-- A member meets its own conditions at a station (R42). R92 has MMAs begin from the state that the MMA before them left: a bank DONE
with a clean outcome serves as one that holds an initial set (DEDUCED, log entry 117). -/
def State.memberReady (s : State) (c : Cid) (m : Member) (i : StationId) : Bool :=
  match s.memberInst c m i with
  | none => false
  | some no =>
    let b := (s.stn i).bank (if m.w.fb 50 then 1 else 0)
    s.stnFree i && (match s.inst no with | some x => !s.barred x no i | none => false) &&
      (if m.kind = .mma then (b.st == .empty || b.st == .loaded || b.st == .done) && b.mma.isNone && s.complete m.handle no i
       else s.writable m.handle no i)

/-- An MMA takes a station's array from cycle `t` of its region on, or once the slices of the MMA before it have left read port 0: its
cycles with a MAC are those of R35 that the MMA before it had not (R42, R71; DEDUCED, log entry 118), its gated cells count in units of
128 (R72). -/
def State.countMma (s : State) (c : Cid) (i : StationId) (t words gated : Nat) : State :=
  let y := s.stn i
  let t := max t y.portEnd
  let fin := t + words + 254
  let cyc := fin - max t y.macEnd
  let g := y.gateRem + (if s.flag Fld.RING_CTL_ZG_EN i.val then gated else 0)
  let s := (s.bump Fld.RING_MMA_CNT_MMA_CYCLES cyc i.val).bump Fld.RING_GATE_CNT_GATED (g / 128) i.val
  let s := s.modStn i fun y => { y with gateRem := g % 128, portEnd := t + words, macEnd := max y.macEnd fin }
  (((s.ao 0 cyc).ao 2 (g / 128)).cnt c 0 cyc).pcEvent 2 i.val 1

/-- An MMA's stream at a station: the accumulators that the slices `a` of its pass, arriving `d` cycles from now, leave from the set
`init` (R33, R35), none when a word of its B handle is uncorrectable. -/
def State.runMma (s : State) (a : Slices) (x : SInst) (i : StationId) (d : Nat) (init : SMap (BitVec 40)) :
    Option (SMap (BitVec 40)) × State :=
  let p := s.readSlices (s.hnd (x.w.h 22)) i (x.w.f 37 34) x.off a.els.length
  if p.2.2 then (none, p.2.1.faultCtx x.cid Ev.BNK_UE (srcStn i))
  else
    let sol := s.numSolori
    let words := ceilDiv a.els.length (wordSlices a.fmt) * (if sol then 4 else 1)
    (some (mmaResult sol a p.1 init), p.2.1.countMma x.cid i (s.stnCyc i + d) words (gatedCount sol a p.1))

/-- The distance from the origin at which an instruction's member stands on the pass (R56). -/
def State.memberDist (s : State) (p : Pass) (w : NWords) (i : StationId) : Nat :=
  let l := s.layout
  w.f 45 43 * circuit l + passDist l (s.seamFirst p.cid) (seamSize l) p.orig p.lane i (w.fb 42)

/-- One MMA of a group begins at a station: the result is formed, its initial set is retained (R33, R61). -/
def State.startMma (s : State) (p : Pass) (a : Slices) (i : StationId) (no : Nat) : State :=
  match s.inst no with
  | none => s
  | some x =>
    let b := (s.stn i).bank x.bankIx
    let init := if b.st = .empty then [] else b.acc
    match s.runMma a x i (s.memberDist p x.w i) init with
    | (none, s) => s
    | (some res, s) =>
      (s.setBank i x.bankIx { b with
        st := .computing, acc := res, res := res, init := init, mma := some no, mmaLoad := b.load,
        load := none, replayed := false, drained := none }).popInst i no

/-- The dispatched RINGINJ of the context's seam that stands under a tag and has not issued. -/
def State.groupOf (s : State) (c : Cid) (tag : Fin 16) : Option (Nat × SInst) :=
  s.insts.findSome? fun e => match e.2 with
    | some x => if x.kind == .ringinj && s.lead x.cid == s.lead c && x.w.f 46 43 == tag.val && x.issued == 0 then some (e.1, x) else none
    | none => none

/-- The members of a group with their stations. -/
def SInst.places (x : SInst) : List (Member × StationId) := x.members.flatMap fun m => (stationsOf m.set).map fun i => (m, i)

/-- The group is ready (R42, R61, R181): its RINGINJ `no` and every member stand at the head of their queues and meet their
conditions, no station of the seam replays, and no pass holds the tag. -/
def State.groupReady (s : State) (c : Cid) (tag : Fin 16) (no : Nat) (x : SInst) : Bool :=
  let o : StationId := Fin.ofNat 96 (x.w.f 53 47)
  let grp := no :: x.places.filterMap fun p => s.memberInst c p.1 p.2
  s.stnFree o && !s.barred x no o && aheadInGroup grp no (s.stn o).queue && s.complete (x.w.h 16) no o &&
    (x.places.all fun p => s.memberReady c p.1 p.2 && (match s.memberInst c p.1 p.2 with
      | some n => aheadInGroup grp n (s.stn p.2).queue
      | none => false)) &&
    (stationsOf (s.seamSet c)).all (fun i => !(s.stn i).replay) && (s.passOf c tag).isNone && (s.ctx (s.lead c)).faulted.isNone

/-- The pass that a RINGINJ puts on its lane (R52, R182). -/
def SInst.newPass (x : SInst) (tag : Fin 16) : Pass :=
  { cid := x.cid, tag := tag, orig := Fin.ofNat 96 (x.w.f 53 47), lane := x.w.fb 42, span := x.w.f 41 35, rc := x.w.f 34 32,
    fmt := BitVec.ofNat 4 (x.w.f 31 28), hs := x.w.h 16, soff := x.off, k := x.w.x 19 0 + 1,
    awaiting := x.members.map fun m => (m.ord, m.set) }

/-- RING_GROUP_ISSUE (R55, R181). A group across both halves needs the charge token. -/
def execRingGroupIssue (c : Cid) (tag : Fin 16) (s : State) : Host.Outcome State Fault Refusal :=
  match s.groupOf c tag with
  | none => .next s
  | some (no, x) =>
    let o : StationId := Fin.ofNat 96 (x.w.f 53 47)
    if !s.groupReady c tag no x then .next s
    else match s.groupFault x with
    | some f => .next (s.faultCtx x.cid f (srcStn o))
    | none =>
      let held := match x.cross with
        | some _ => s.holdsToken x.cid
        | none => true
      if !held then .next (s.reqToken x.cid)
      else
        let s := match x.cross with
          | some n => { s with token := { s.token with last := if s.token.last < n then n else s.token.last } }
          | none => s
        let k := x.w.x 19 0 + 1
        let p := s.readSlices (s.hnd (x.w.h 16)) o (x.w.f 31 28) x.off k
        if p.2.2 then .next (p.2.1.faultCtx x.cid Ev.BNK_UE (srcStn o))
        else
          let s := (p.2.1.setPass no (some (x.newPass tag))).popInst o no
          let s := s.pcEvent 3 o.val 1
          .next (x.places.foldl (fun s q =>
            match s.memberInst c q.1 q.2 with
            | none => s
            | some n => if q.1.kind = .mma then s.startMma (x.newPass tag) p.1 q.2 n else s.popInst q.2 n) s)

/-- PASS_RETIRE (R52, R56): the lane nodes have forwarded the pass's words (R76). Its last word cannot leave a station that is held
(R58). -/
def execPassRetire (c : Cid) (tag : Fin 16) (s : State) : Host.Outcome State Fault Refusal :=
  match s.passOf c tag with
  | none => .next s
  | some (no, p) =>
    if p.retired || !s.stnFree (s.passEnd p) then .next s
    else
      let s := s.passWords p (ceilDiv p.k (wordSlices p.fmt.toNat))
      .next ((s.setPass no (some { p with retired := true })).tryRelease no)

/-- Slices written into the rows of a destination, with their block scales (R183, R695). -/
def State.writeSlices (s : State) (h : Handle) (i : StationId) (off : Nat) (a : Slices) : State :=
  let s := (a.els.zip (List.range a.els.length)).foldl (fun s p => s.rowWrite h i (off + p.2) (p.1.take h.colsN)) s
  (a.scales.zip (List.range a.scales.length)).foldl (fun s p =>
    s.sideWrite i (h.scaleAt (128 * (off / 32 + p.2))) (p.1.take h.colsN)) s

/-- The pass under a tag and the RINGRET that captures it at a station. -/
def State.captureOf (s : State) (st : StationId) (tag : Fin 16) : Option (Pass × Nat × SInst) :=
  s.passes.findSome? fun e => match e.2 with
    | some p => if p.tag == tag then
        (p.awaiting.findSome? fun a => if has a.2 st then
          (s.insts.findSome? fun q => match q.2 with
            | some x => if x.kind == .ringret && s.lead x.cid == s.lead p.cid && x.ord == a.1 && has x.issued st && !has x.done st
                then some (p, q.1, x) else none
            | none => none) else none)
      else none
    | none => none

/-- RINGRET_CAPTURE_END (R53, R183). -/
def execRingretCaptureEnd (st : StationId) (tag : Fin 16) (s : State) : Host.Outcome State Fault Refusal :=
  match s.captureOf st tag with
  | none => .next s
  | some (p, no, x) =>
    if !s.stnFree st then .next s
    else
      let h := x.w.h 31
      let r := s.readSlices (s.hnd p.hs) p.orig p.fmt.toNat p.soff p.k
      if r.2.2 then .next (r.2.1.faultCtx x.cid Ev.BNK_UE (srcStn p.orig))
      else
        let s := ((r.2.1.writeSlices (s.hnd h) st x.off r.1).endAt no st).instDone st no
        let s := if s.instGone no then s.addFill h p.k else s
        .next (s.passMember x.ord x.cid st)

/-! ### Loads and drains (R37 to R41) -/

/-- The source of an ACCLOAD. -/
def SInst.loadSrc (x : SInst) (no : Nat) : LoadSrc := { no := no, cid := x.cid, src := x.w.f 48 46, h := x.w.h 34, off := x.off }

/-- The rows an ACCLOAD loads, as FP40 (R37); rounded to FP32 and flushed in the Exact-Solori mode (R95). True where a word read was
uncorrectable. -/
def State.loadRows (s : State) (i : StationId) (l : LoadSrc) : SMap (BitVec 40) × State × Bool :=
  let src := l.src
  if src = 0 then ([], s, false)
  else
    let h := s.hnd l.h
    let rows := (List.range (accSrcRows src)).foldl (fun (acc : List (List Val) × State × Bool) r =>
      let p := acc.2.1.rowVals h i (l.off + r)
      (acc.1 ++ [p.1], p.2.1, acc.2.2 || p.2.2)) ([], s, false)
    let cell (v : Val) : BitVec 40 :=
      BitVec.ofNat 40 (rne40 (if s.numSolori then (val32 (ftz32 (rne32 v))) else v))
    let m := (List.range 16384).foldl (fun m k =>
      let row := rows.1.getD (if src = 1 then 0 else k / 128) []
      SMap.put m 0 k (cell (row.getD (k % 128) (.fin false 0 0)))) []
    (m, rows.2)

/-- A program or table slot of a station as the context may use it. -/
def Station.drainSlot (y : Station) (k : Nat) : Slot := SMap.val y.drains {} k
def Station.tableSlot (y : Station) (k : Nat) : Slot := SMap.val y.tables {} k
def slotMine (x : Slot) (c : Cid) : Bool := x.owner == some c && !x.img.isEmpty

/-- The fault of a DRAIN's program at a station (R107, R180, R96). -/
def State.drainFault (s : State) (i : StationId) (x : SInst) : Option (BitVec 16) :=
  let c := s.lead x.cid
  let y := s.stn i
  let slot := y.drainSlot (x.w.f 48 46)
  let h := s.hnd (x.w.h 34)
  let steps := drainSteps slot.img
  let luts := steps.all fun w => bits w 0 4 != 2 || slotMine (y.tableSlot (bits w 4 3)) c
  let modes := steps.all fun w => bits w 0 4 != 3 || !s.numSolori || bits w 27 3 < 2
  let last := match drainLastFmt slot.img with
    | some f => f == h.fmt.toNat
    | none => true
  let streams := steps.all fun w => bits w 0 4 != 3 || bits w 31 16 < 0xFF00
  firstFault [need (slotMine slot c) Ev.NUM_MODE, need luts Ev.LUT_FORMAT, need (last && modes) Ev.NUM_MODE,
    need streams Ev.RNG_STREAM]

/-- A drain's rows through its program into the destination (R40, R45, R180, R186). -/
def State.drainRows (s : State) (i : StationId) (x : SInst) (acc : SMap (BitVec 40)) : State :=
  let y := s.stn i
  let img := (y.drainSlot (x.w.f 48 46)).img
  let h := s.hnd (x.w.h 34)
  let turn := x.w.fb 49
  let cols := h.colsN
  let key := s.rngKey x.cid x.step x.eval
  let rows := (List.range 128).map fun r =>
    let vs := (List.range 128).map fun n => val40 (SMap.val acc 0 (128 * r + n)).toNat
    let vs := if s.numSolori then vs.map Val.ftz else vs
    let rn (stream n : Nat) : Nat :=
      let e := if turn then (x.off + n) * cols + r else (x.off + r) * cols + n
      rngWord key e i.val stream % 65536
    runDrain s.numSolori img (fun k => ((y.tableSlot k).img).take 3136) rn vs
  let ix := List.range 128
  match drainLastFmt img with
  | some _ =>
    let bitsOf (r n : Nat) : Nat := match (rows.getD r ⟨[], none⟩).conv with
      | some cv => cv.2.1.getD n 0
      | none => 0
    let s := ix.foldl (fun s r =>
      s.rowWrite h i (x.off + r) ((List.range cols).map fun n => if turn then bitsOf n r else bitsOf r n)) s
    if h.mx then
      ix.foldl (fun s r => match (rows.getD r ⟨[], none⟩).conv with
        | some cv =>
          if turn then (cv.2.2.zip (List.range 4)).foldl (fun s b =>
            s.sideWrite i (h.scaleAt (128 * (x.off / 32 + b.2) + r)) [b.1]) s
          else s.sideWrite i (h.scaleAt (4 * (x.off + r))) (cv.2.2.take (cols / 32))
        | none => s) s
    else s
  | none =>
    let vals := ix.map fun r => (rows.getD r ⟨[], none⟩).vs
    let out := if turn then (List.range 128).map fun n => vals.map fun v => v.getD n (.fin false 0 0) else vals
    (s.writeRows h i x.off out { rowBlocks := !turn }).1

/-- Both corner-turn buffers are needed for a turned drain into 32-bit elements (R40). -/
def State.turnNeeds (s : State) (x : SInst) : Bool × Bool :=
  if !x.w.fb 49 then (false, false)
  else if (s.hnd (x.w.h 34)).width = 32 then (true, true)
  else if x.w.fb 50 then (false, true) else (true, false)

/-- The ACCLOAD right behind a DRAIN of its bank (R36). -/
def State.fusedBehind (s : State) (i : StationId) (x : SInst) : Option (Nat × SInst) :=
  match (s.stn i).queue with
  | _ :: n :: _ => match s.inst n with
    | some y => if y.kind == .accload && y.bankIx == x.bankIx && !s.barred y n i then some (n, y) else none
    | none => none
  | _ => none

/-- ARRAY_ISSUE (R42): an ACCLOAD or a DRAIN at the head of its queue. A DRAIN may issue while its MMA's rows are ready and the
outcome is still to come (R38, R45); its program and the table slots that it names are judged as soon as it is there (R107, R180). -/
def execArrayIssue (st : StationId) (s : State) : Host.Outcome State Fault Refusal :=
  match s.headInst st with
  | none => .next s
  | some (no, x) =>
    let bi := x.bankIx
    let b := (s.stn st).bank bi
    let srcReady (n : Nat) (y : SInst) : Bool := y.w.f 48 46 == 0 || s.complete (y.w.h 34) n st
    match x.kind with
    | .accload =>
      match b.st with
      | .empty =>
        if srcReady no x then .next ((s.setBank st bi { b with st := .exchanging, exLoad := some no }).popInst st no) else .next s
      | .exchanging => .next s
      | .replay => .next s
      | _ => .next (s.faultCtx x.cid Ev.RING_BANK (srcStn st))
    | .drain =>
      let t := s.turnNeeds x
      let y := s.stn st
      match s.drainFault st x with
      | some f => .next (s.faultCtx x.cid f (srcStn st))
      | none =>
        if !(b.st == .done || b.st == .computing) || !s.writable (x.w.h 34) no st || (t.1 && y.turn0) || (t.2 && y.turn1) then .next s
        else
          let go (load : Option Nat) (s : State) : State :=
            ((s.setBank st bi { b with st := .exchanging, exDrain := some no, exLoad := load }).modStn st fun y =>
              { y with turn0 := y.turn0 || t.1, turn1 := y.turn1 || t.2 }).popInst st no
          match s.fusedBehind st x with
          | some (n, z) => if srcReady n z then .next ((go (some n) s).popInst st n) else .next s
          | none => .next (go none s)
    | _ => .next s

/-- A DRAIN is finished at a station: rows written and a clean outcome (R45). -/
def State.finishDrain (s : State) (i : StationId) (no : Nat) : State :=
  match s.inst no with
  | none => s
  | some x =>
    let s := (s.endAt no i).instDone i no
    if s.instGone no then s.addFill (x.w.h 34) 128 else s

/-- BANK_EXCHANGE_END (R36 to R41). -/
def execBankExchangeEnd (st : StationId) (bank : Fin 2) (s : State) : Host.Outcome State Fault Refusal :=
  let b := (s.stn st).bank bank
  if b.st != .exchanging || !s.stnFree st then .next s
  else
    -- the drained rows leave
    let s := match b.exDrain with
      | some d => match s.inst d with
        | some x =>
          let t := s.turnNeeds x
          let s := (s.drainRows st x b.acc).modStn st fun y => { y with turn0 := y.turn0 && !t.1, turn1 := y.turn1 && !t.2 }
          if b.mma.isNone then s.finishDrain st d else s
        | none => s
      | none => s
    let waits := if b.mma.isSome then b.exDrain else none
    match b.exLoad with
    | none => .next (s.setBank st bank { b with st := .empty, acc := [], load := none, exDrain := none, drained := waits })
    | some n =>
      match s.inst n with
      | none => .next (s.setBank st bank { b with st := .empty, acc := [], load := none, exDrain := none, exLoad := none, drained := waits })
      | some y =>
        let l := y.loadSrc n
        let p := s.loadRows st l
        if p.2.2 then .next (p.2.1.faultCtx y.cid Ev.BNK_UE (srcStn st))
        else
          .next ((p.2.1.setBank st bank { b with
            st := .loaded, acc := p.1, load := some l, exDrain := none, exLoad := none, drained := waits }).instDone st n)

/-! ### The residue check (R61, R62, R66) -/

/-- The bank is being restored, and its pass is not on the lane again yet (R61 steps 1 to 3). -/
def Bank.restoring (b : Bank) : Bool := b.st == .replay && !b.replayed

/-- The holds of an MMA with a clean outcome end (R44). -/
def State.mmaEnds (s : State) (st : StationId) (b : Bank) (m : Nat) : State :=
  let s := match b.mmaLoad with
    | some l => s.endAt l.no st
    | none => s
  match s.inst m with
  | some x => ((s.endAt m st).instDone st m).passMember x.ord x.cid st
  | none => s

/-- An ACCLOAD whose exchange a replay has cut short is over at the station. -/
def State.loadDone (s : State) (i : StationId) (no : Nat) : State :=
  match s.inst no with
  | some x => if has x.done i then s else s.instDone i no
  | none => s

/-- The replay of a bank ends (R61 steps 5 and 6): its rows drain again if they had, and a later initial set is loaded again from its
source. -/
def State.replayEnds (s : State) (st : StationId) (bank : Fin 2) (b : Bank) : State :=
  let s := match b.drained with
    | some d => match s.inst d with
      | some x => (s.drainRows st x b.res).finishDrain st d
      | none => s
    | none => s
  let s := s.bump Fld.RING_RESIDUE_REPLAYS 1 st.val
  let s := s.modStn st fun y => { y with replay := (y.bank (1 - bank)).st == .replay }
  match b.later with
  | none => s.setBank st bank (if b.drained.isSome then {} else { st := .done, acc := b.res })
  | some l =>
    let p := s.loadRows st l
    if p.2.2 then p.2.1.faultCtx l.cid Ev.BNK_UE (srcStn st)
    else (p.2.1.setBank st bank { st := .loaded, acc := p.1, load := some l }).loadDone st l.no

/-- The MMA of a bank ends clean: its holds end, its drain counts (R44, R45). -/
def State.mmaClean (s : State) (st : StationId) (bank : Fin 2) : State :=
  let b := (s.stn st).bank bank
  match b.mma with
  | none => s
  | some m =>
    let s := s.mmaEnds st b m
    if b.st = .replay then s.replayEnds st bank b
    else
      let s := match b.drained with
        | some d => s.finishDrain st d
        | none => s
      s.setBank st bank { b with
        st := if b.st = .computing then .done else b.st, mma := none, mmaLoad := none, res := [], init := [], drained := none }

/-- A residue mismatch (R61): a replay; in the replay of the same MMA it is a hard fault (R62). -/
def State.residueFault (s : State) (st : StationId) (bank : Fin 2) (row col : Fin 128) : State :=
  let b := (s.stn st).bank bank
  match b.mma with
  | none => s
  | some m =>
    let s := ((s.bump Fld.RING_RESIDUE_FAULTS 1 st.val).setFld Fld.RING_RESIDUE_LAST_ROW row.val st.val).setFld
      Fld.RING_RESIDUE_LAST_COL col.val st.val
    let s := s.canary 3 1
    if b.replayed then
      let s := s.bump Fld.RING_RESIDUE_HARD 1 st.val
      match s.inst m with
      | some x => s.faultCtx x.cid Ev.RING_RESIDUE_HARD (srcStn st)
      | none => s
    else
      -- an exchange under way is given up: its corner-turn buffers are free
      let t := match b.exDrain.bind s.inst with
        | some x => s.turnNeeds x
        | none => (false, false)
      let s := s.modStn st fun y => { y with replay := true, turn0 := y.turn0 && !t.1, turn1 := y.turn1 && !t.2 }
      s.setBank st bank { b with
        st := .replay, acc := [], load := none, exDrain := none, exLoad := none
        drained := if b.exDrain.isSome then b.exDrain else b.drained
        later := match b.exLoad with
          | some n => (s.inst n).map (·.loadSrc n)
          | none => b.load }

/-- RESIDUE_FAULT (R61). The flags of a held station do not move on (R58). -/
def execResidueFault (st : StationId) (bank : Fin 2) (row col : Fin 128) (s : State) : Host.Outcome State Fault Refusal :=
  if ((s.stn st).bank bank).restoring || !s.stnFree st then .next s else .next (s.residueFault st bank row col)

/-- MMA_RESIDUE_OUTCOME (R66): clean, or a mismatch. -/
def execMmaResidueOutcome (st : StationId) (bank : Fin 2) (clean : Bool) (row col : Fin 128) (s : State) :
    Host.Outcome State Fault Refusal :=
  let b := (s.stn st).bank bank
  if b.mma.isNone || b.restoring || !s.stnFree st then .next s
  else .next (if clean then s.mmaClean st bank else s.residueFault st bank row col)

/-- The pass that a station's MMA consumes. -/
def State.passOfMma (s : State) (x : SInst) (st : StationId) : Option Pass :=
  s.passes.findSome? fun e => match e.2 with
    | some p => if s.lead p.cid == s.lead x.cid && p.awaiting.any (fun a => a.1 == x.ord && has a.2 st) then some p else none
    | none => none

/-- REPLAY_PASS_ISSUE (R61 steps 3 to 5): the bank is reloaded from its ACCLOAD's source, which is still held, and the origin puts the
whole pass on the lane again; the faulted station alone consumes it. -/
def execReplayPassIssue (st : StationId) (bank : Fin 2) (s : State) : Host.Outcome State Fault Refusal :=
  let b := (s.stn st).bank bank
  if !b.restoring || !s.stnFree st then .next s
  else match b.mma.bind s.inst with
  | none => .next s
  | some x => match s.passOfMma x st with
    | none => .next s
    | some p =>
      if !s.stnFree p.orig then .next s
      else
        let r := match b.mmaLoad with
          | some l => s.loadRows st l
          | none => (b.init, s, false)
        if r.2.2 then .next (r.2.1.faultCtx x.cid Ev.BNK_UE (srcStn st))
        else
          let a := r.2.1.readSlices (s.hnd p.hs) p.orig p.fmt.toNat p.soff p.k
          if a.2.2 then .next (a.2.1.faultCtx x.cid Ev.BNK_UE (srcStn p.orig))
          else
            let s := a.2.1.passWords p (ceilDiv p.k (wordSlices p.fmt.toNat))
            match s.runMma a.1 x st (s.memberDist p x.w st) r.1 with
            | (none, s) => .next s
            | (some res, s) => .next (s.setBank st bank { b with acc := res, res := res, replayed := true })

/-! ### Station holds (R58, R59) -/

/-- The stations that a hold of a cause stops: a throttle all four of the power domain (R59). -/
def holdSet (st : StationId) (cause : HoldCause) : List StationId :=
  if cause = .throttle then (List.finRange 96).filter (fun i => i.val / 4 == st.val / 4) else [st]

/-- STATION_HOLD_START (R58): the hold joins those in force. -/
def execStationHoldStart (st : StationId) (cause : HoldCause) (s : State) : Host.Outcome State Fault Refusal :=
  .next ((holdSet st cause).foldl (fun s i => s.modStn i fun y =>
    if y.hold.contains cause then y else { y with hold := y.hold ++ [cause] }) s)

/-- STATION_HOLD_END (R58): the hold of that cause ends; the station resumes when none is left. -/
def execStationHoldEnd (hold : Hold) (s : State) : Host.Outcome State Fault Refusal :=
  .next ((holdSet hold.st hold.cause).foldl (fun s i => s.modStn i fun y => { y with hold := y.hold.filter (· != hold.cause) }) s)

end Sys2Proof.Machine
end

