-- ==== Sys2Proof/Machine/Update.lean ====
section
/-! DEFINITION. The update commands: COEFSET, COEFSWAP, MILLSTEP, VUPDATE at dispatch (R199 to R203), the mill's acceptance, pass, end
and background refresh (R344 to R372, R375), VUPDATE on the vector units (R376 to R378). -/

namespace Sys2Proof.Machine

/-! ### COEFSET and COEFSWAP -/

/-- The tables that TGT names, none where the variant has none of them (R199, R203). -/
def State.coefTables (s : State) (c : Cid) (tgt : Nat) : Option (List Nat) :=
  let v := s.variant
  match tgt with
  | 0 => if v.hasMill 0 then some [0] else none
  | 1 => if v.hasMill 1 then some [1] else none
  | 2 => if v.hasMill 1 then some [0, 1] else none
  | _ => if v == .base then some [2 + (s.lead c).val] else none

/-- A FIELD code that an entry has (R364). -/
def coefField (entry field : Nat) : Bool := field == 0xFF || (if entry = 0xFFF then field == 0 else field < 0x14)

/-- A control word of the Kronecker family (R376). -/
def kronCtl (v : Word) : Bool := bit v 0 || (List.range 4).any fun k => bits v (2 * k + 1) 2 == 3

/-- COEFSET (R201, R364). -/
def execCoefset (c : Cid) (w : NWords) (s : State) : Host.Outcome State Fault Refusal :=
  .next (s.seqRun c (Enc.coefset w) [w.f 31 27] fun s =>
    let e := w.f 51 40
    let f := w.f 39 32
    let v := (s.ctx c).s (w.f 31 27)
    let vu := w.f 53 52 == 3
    s.crossRun c true 1 fun s =>
      s.checked c [need (!(s.ctx c).prog.evalFlag) Ev.EVAL_ILLEGAL, need (s.coefTables c (w.f 53 52)).isSome Ev.UNIT_ABSENT,
        need (coefField e f) Ev.SEQ_OPCODE, need (e == 0xFFF || s.entryOk vu c e) Ev.MILL_ENTRY,
        need (!(vu && e != 0xFFF && f == 0 && kronCtl v)) Ev.UNIT_ABSENT] fun s =>
        let l := s.lead c
        (((s.coefTables c (w.f 53 52)).getD []).foldl (fun s t => s.coefSet ⟨t, l, e, f, v⟩) s).pastReturn c |>.nextPc c 1)

/-- COEFSWAP (R201). -/
def execCoefswap (c : Cid) (w : NWords) (s : State) : Host.Outcome State Fault Refusal :=
  .next (s.seqRun c (Enc.coefswap w) [] fun s =>
    s.crossRun c true 1 fun s =>
      s.checked c [need (!(s.ctx c).prog.evalFlag) Ev.EVAL_ILLEGAL, need (s.coefTables c (w.f 53 52)).isSome Ev.UNIT_ABSENT] fun s =>
        let l := s.lead c
        (((s.coefTables c (w.f 53 52)).getD []).foldl (fun s t =>
          { s with coefSwap := SMap.put s.coefSwap false (s.selKey t l) true }) s).pastReturn c |>.nextPc c 1)

/-! ### MILLSTEP -/

/-- The latest REDUCE of the context with a tag (R200). -/
def State.redOf (s : State) (c : Cid) (tag : BitVec 12) : Option Red :=
  (s.fab.reds.filter fun r => r.cid == s.lead c && r.rtag == tag && r.dispatched).foldl (fun o r =>
    match o with
    | some q => if q.no < r.no then some r else o
    | none => some r) none

/-- The mill of a record, by the half of its MASTER (R345). -/
def State.millOf (s : State) (c : Cid) (a : Nat) : Fin 2 :=
  if halfOf (s.recMaster c a) = some 1 && s.variant.hasMill 1 then 1 else 0

/-- An update is dispatched; its write-back is registered on HW (R32, R200). -/
def State.newUpdate (s : State) (c : Cid) (w : NWords) (hwv : Bool) : Update × State :=
  let l := s.lead c
  let no := s.dispNo
  let hw := w.h 37
  let tag := BitVec.ofNat 12 (w.f 35 24)
  let a := ((s.ctx c).s (w.f 53 49)).toNat
  let s1 := { s with dispNo := no + 1 }.modBoth c fun x => { x with tags := x.tags.filter (· != tag) }
  let s1 := if hwv then s1.register { no := no, h := hw, set := (s.hnd hw).set, rd := false, wr := true, wb := true } else s1
  let red := match s.redOf c tag with
    | some r => r.no
    | none => 0
  (⟨no, l, a, hw, hwv, tag, (s.ctx l).prog.step, red, {}, {}, [], BitVec.ofNat 64 (s.fld Fld.SEQ_CTX_SEED_SEED l.val), false, false, 0, [],
    0, 0, [], s.entryRange c⟩, s1)

/-- A mill receives a hand-over (R387). -/
def State.handReceived (s : State) (m : Fin 2) (r : Red) : State :=
  (s.bump Fld.MILL_CNT_FOLD_HANDOVERS 1 m.val).bump Fld.MILL_CNT_FOLD_LATE r.over.nlate m.val

/-- A mill whose MILLSTEP is dispatched after the hand-over is complete receives it then. -/
def State.handWaiting (s : State) (m : Fin 2) (u : Update) : State :=
  match s.fab.reds.find? fun r => r.no == u.red && r.complete with
  | some r => s.handReceived m r
  | none => s

/-- A reduction whose hand-over has been used goes; one that has not read HS yet stays until it has (R433). -/
def State.dropRed (s : State) (no : Nat) : State := { s with fab := { s.fab with reds := s.fab.reds.filter fun r => r.no != no || !r.issued } }

/-- MILLSTEP (R200). It waits while its mill's queue is full (R345). -/
def execMillstep (c : Cid) (w : NWords) (s : State) : Host.Outcome State Fault Refusal :=
  .next (s.seqRun c (Enc.millstep w) [w.f 53 49] fun s =>
    let hw := w.h 37
    let hwv := w.fb 36
    let m := s.millOf c ((s.ctx c).s (w.f 53 49)).toNat
    s.crossRun c true 1 fun t =>
      t.checked c [need (!(s.ctx c).prog.evalFlag) Ev.EVAL_ILLEGAL, need (s.variant.hasMill 0) Ev.UNIT_ABSENT,
        need ((s.ctx (s.lead c)).tags.contains (BitVec.ofNat 12 (w.f 35 24))) Ev.SEQ_TAG,
        if hwv then s.handleFault c hw (s.hnd hw).set else none] fun t =>
        if 64 ≤ (s.mill m).queue.length then s
        else
          let p := t.newUpdate c w hwv
          (((p.2.modMill m fun x => { x with queue := x.queue ++ [p.1] }).handWaiting m p.1).pastReturn c).nextPc c 1)

/-- The update in a queue changed. -/
def putUpdate (q : List Update) (u : Update) : List Update := q.map fun v => if v.no = u.no then u else v

/-- Areas of queued updates, with MASTER (R344). -/
def busyAreas (q : List Update) : List (Nat × List (Nat × Nat)) := (q.filter (·.accepted)).map fun u => (u.t.master, u.areas)

/-- MILL_ACCEPT (R344, R347): the oldest MILLSTEP that the mill has not checked yet. -/
def execMillAccept (m : Fin 2) (s : State) : Host.Outcome State Fault Refusal :=
  match (s.mill m).queue.find? fun u => !u.accepted with
  | none => .next s
  | some u =>
    if !s.regionRuns (56 + m.val) then .next s
    else
      let red := s.fab.reds.find? fun r => r.no == u.red
      let r := s.recCheck u.cid m.val u.recAddr (if u.hwv then some u.hw else none) red (busyAreas (s.mill m).queue)
        (rng := some u.entries)
      match r.res with
      | .error f => .next (r.st.faultCtx u.cid f (srcMill m))
      | .ok k =>
        let s := r.st.modMill m fun x => { x with queue := putUpdate x.queue { u with snap := k.snap, t := k.t, areas := k.areas, accepted := true } }
        .next (s.cnt u.cid 6 1)

/-! ### The pass (R350 to R375) -/

/-- The outcome of a pass. -/
structure UpdRes where
  st : State
  status : Nat
  frozen : Nat := 0
  kept : Nat := 0
  ue : Option Nat := none
  kron : KronCount := {}
  wb : List (Option (BitVec 32)) := []
  consumed : Bool := false
  start : Option Refresh := none

/-- An element's outcome: master, FULL slots, frozen, kept (R354, R357, R360). -/
structure ElOut where
  w : Nat
  sl : List Nat
  frozen : Bool := false
  kept : Bool := false

def Rule.elem (k : Rule) (w : Nat) (old : List Nat) (g : Nat) (frozen : Bool) (i j rn : Nat) (dir : Option Nat) : ElOut :=
  let new := k.slots old g
  if frozen then ⟨w, if k.x.frzMom then new else old, true, false⟩
  else
    let d := dir.getD (div32 (k.num new g i j) (k.den new i j))
    let w' := k.step w d rn
    if finite32 w' then ⟨w', new, false, false⟩ else ⟨w, old, false, true⟩

/-- The random word of an element (R355). -/
def Update.rand (u : Update) (user i j : Nat) : Nat := rngWord ⟨u.seed, u.step, false⟩ (u.t.ebase + i * u.t.cols + j) user 0xFFF1

/-- The freeze bit of a tensor index (R359). -/
def maskBit (m : List Byte) (x : Nat) : Bool := bit (m.getD (x / 8) 0) (x % 8)
def maskAll (m : List Byte) (n : Nat) : Bool := (List.range n).all (maskBit m)

/-- FACT slots updated and read back (R354). -/
def State.factUpdate (s : State) (u : Update) (rho kappa : Array Nat) :
    (Nat → Option (Array Nat × Array Nat × Nat)) × State × Option Nat :=
  (List.range 4).foldl (fun acc k =>
    if u.snap.kind k != 2 || acc.2.2.isSome then acc
    else
      let a := u.t.slots.getD k 0
      let ca := a + 256 * ceilDiv (4 * u.t.rows) 256
      let r := acc.2.1.readF32 a u.t.rows
      let c := r.2.1.readF32 ca u.t.cols
      match r.2.2.or c.2.2 with
      | some e => (acc.1, c.2.1, some e)
      | none =>
        let up (v p : Nat) : Nat := fma32 (u.snap.f32 (1 + k)) v (mul32 (u.snap.f32 (5 + k)) p)
        let rn := Array.zipWith up r.1 rho
        let cn := Array.zipWith up c.1 kappa
        let t := sum32 (rn.toList.map val32)
        let inv := if (val32 t).isZero then 0 else div32 one32 t
        let s := (c.2.1.memWrite a (bytes32 rn.toList)).memWrite ca (bytes32 cn.toList)
        (fun n => if n = k then some (rn, cn, inv) else acc.1 n, s, none)) (fun _ => none, s, none)

/-- The statistics of every Kronecker block (R369). -/
def State.kronStats (s : State) (u : Update) (g : Nat → Nat → Nat) : State × Option Nat :=
  let slot := u.t.slots.getD 3 0
  let blk := u.snap.blk
  let up (old p : Nat) : Nat := fma32 (u.snap.f32 4) old p
  let b3 := u.snap.f32 8
  (kronBlocks u.t.rows u.t.cols blk).foldl (fun acc b =>
    if acc.2.isSome then acc
    else
      let at' (r c : Nat) : Nat := g (b.i0 + r) (b.j0 + c)
      let l := acc.1.readMat (matBase slot blk b.ix 0) blk b.hr
      let r := l.2.1.readMat (matBase slot blk b.ix 1) blk b.hc
      match l.2.2.or r.2.2 with
      | some e => (r.2.1, some e)
      | none =>
        let ln := matOf b.hr b.hr fun i j => up (l.1.at' i j) (mul32 b3 (dot32 b.hc (at' i) (at' j)))
        let rn := matOf b.hc b.hc fun i j => up (r.1.at' i j) (mul32 b3 (dot32 b.hr (fun k => at' k i) fun k => at' k j))
        ((r.2.1.writeMat (matBase slot blk b.ix 0) blk ln).writeMat (matBase slot blk b.ix 1) blk rn, none)) (s, none)

/-- PENDING and EFFECT in the first bytes of a Kronecker slot. -/
def kronHead (h : List Byte) : Bool × Nat := (bit (h.getD 0 0) 0, leAt h 8 8)

/-- A refresh begins (R370): L and R of every block are copied. -/
def State.kronBegin (s : State) (u : Update) : State × Option Refresh × Option Nat :=
  let slot := u.t.slots.getD 3 0
  let blk := u.snap.blk
  let p := (kronBlocks u.t.rows u.t.cols blk).foldl (fun (acc : State × Option Nat) b =>
    if acc.2.isSome then acc
    else
      let l := acc.1.readMat (matBase slot blk b.ix 0) blk b.hr
      let r := l.2.1.readMat (matBase slot blk b.ix 1) blk b.hc
      match l.2.2.or r.2.2 with
      | some e => (r.2.1, some e)
      | none => ((r.2.1.writeMat (matBase slot blk b.ix 4) blk l.1).writeMat (matBase slot blk b.ix 5) blk r.1, none)) (s, none)
  match p.2 with
  | some e => (p.1, none, some e)
  | none =>
    let s := p.1.memWrite slot ([1, 0, 0, 0, 0, 0, 0, 0] ++ bytesOf 8 (u.step.toNat + u.snap.lag))
    (s, some ⟨slot, u.t.rows, u.t.cols, blk, BitVec.ofNat 32 (u.snap.f32 0x11), BitVec.ofNat 32 (u.snap.f32 0x12), false, []⟩, none)

/-- A pending refresh is consumed (R372). A refresh of which the mill holds nothing is made from the matrices as they stand
(DESIGN CHOICE, log entry 32). -/
def State.kronConsume (s : State) (u : Update) (held : Option Refresh) : State × KronCount × Option Nat :=
  let slot := u.t.slots.getD 3 0
  let blk := u.snap.blk
  let p := match held with
    | some r => { st := s, outs := r.outcomes : RefreshRes }
    | none => s.refreshAll ⟨slot, u.t.rows, u.t.cols, blk, BitVec.ofNat 32 (u.snap.f32 0x11), BitVec.ofNat 32 (u.snap.f32 0x12), false, []⟩
  let q := ((kronBlocks u.t.rows u.t.cols blk).zip p.outs).foldl (fun (acc : State × KronCount × Option Nat) b =>
    if acc.2.2.isSome then acc else acc.1.consumeBlock slot blk acc.2.1 b.1 b.2) (p.st, {}, none)
  if q.2.2.isSome then q else (q.1.memWrite slot [0], q.2)

/-- FLAGS of a block, and the address of an uncorrectable word. -/
def State.blockFlags (s : State) (slot blk ix : Nat) : Nat × State × Option Nat :=
  let r := s.readUE (blockBase slot blk ix) 1
  (leAt r.1 0 1, r.2)

/-- Some block has VALID = 0; the blocks are read in order up to the first such one. -/
def State.anyInvalid (s : State) (slot blk : Nat) : List KBlock → Bool × State × Option Nat
  | [] => (false, s, none)
  | b :: t =>
    let f := s.blockFlags slot blk b.ix
    if f.2.2.isSome then (false, f.2) else if fieldN f.1 0 1 = 0 then (true, f.2) else State.anyInvalid f.2.1 slot blk t

/-- The Kronecker work before the elements: consume, statistics, begin (R369, R370, R372). -/
def State.kronPart (s : State) (u : Update) (held : Option Refresh) (g : Nat → Nat → Nat) :
    State × KronCount × Bool × Option Refresh × Option Nat :=
  let slot := u.t.slots.getD 3 0
  let r := s.readUE slot 16
  let h := kronHead r.1
  let take := h.1 && h.2 ≤ u.step.toNat && r.2.2.isNone
  let c := if take then r.2.1.kronConsume u held else (r.2.1, {}, r.2.2)
  match c.2.2 with
  | some e => (c.1, c.2.1, take, none, some e)
  | none =>
    let t := c.1.kronStats u g
    match t.2 with
    | some e => (t.1, c.2.1, take, none, some e)
    | none =>
      let due := u.step.toNat % u.snap.refresh == 0
      -- PENDING is 0 once a refresh has been consumed
      let f := if due || (h.1 && !take) then (due, t.1, none) else t.1.anyInvalid slot u.snap.blk (kronBlocks u.t.rows u.t.cols u.snap.blk)
      match f.2.2 with
      | some e => (f.2.1, c.2.1, take, none, some e)
      | none =>
        if f.1 then
          let b := f.2.1.kronBegin u
          (b.1, c.2.1, take, b.2.1, b.2.2)
        else (f.2.1, c.2.1, take, none, none)

/-- The order in which a pass takes the elements: row-major, or block by block under the Kronecker rule (DESIGN CHOICE, log
entry 28; it matters only when an uncorrectable word stops the pass). -/
def Update.order (u : Update) : List (List (Nat × Nat)) :=
  if u.snap.family = 0 then [(List.range u.t.rows).flatMap fun i => (List.range u.t.cols).map fun j => (i, j)]
  else (kronBlocks u.t.rows u.t.cols u.snap.blk).map fun b =>
    (List.range b.hr).flatMap fun i => (List.range b.hc).map fun j => (b.i0 + i, b.j0 + j)

/-- The directions of a block from its roots, if it takes the Kronecker direction (R369). -/
def State.kronDir (s : State) (u : Update) (b : KBlock) (num : Nat → Nat → Nat) : Option Mat × State × Option Nat :=
  let slot := u.t.slots.getD 3 0
  let blk := u.snap.blk
  let f := s.blockFlags slot blk b.ix
  if f.2.2.isSome || fieldN f.1 0 2 != 1 then (none, f.2)
  else
    let l := f.2.1.readMat (matBase slot blk b.ix 2) blk b.hr
    let r := l.2.1.readMat (matBase slot blk b.ix 3) blk b.hc
    let n := matOf b.hr b.hc fun i j => num (b.i0 + i) (b.j0 + j)
    (some (matMul b.hr b.hc b.hc (matMul b.hr b.hr b.hc l.1 n) r.1), r.2.1, l.2.2.or r.2.2)

/-- The whole pass of an update (R350 to R361, R369 to R372, R375). -/
def State.updatePass (s : State) (u : Update) (ho : HOver) (user : Nat) (held : Option Refresh) : UpdRes :=
  let t := u.t
  let n := t.rows * t.cols
  if ho.n = 0 then { st := s, status := 4 }
  else if ho.nf && u.snap.nfSkip then { st := s, status := 3 }
  else
    let mk := s.memRead t.mask (ceilDiv n 8)
    if mk.ue then { st := mk.st, status := 5, ue := s.firstUE t.mask (ceilDiv n 8) }
    else if maskAll mk.data n then { st := mk.st, status := 2, frozen := n }
    else
      let g (i j : Nat) : Nat :=
        match t.gmap.findSome? fun x => (x.at' i j).map fun p => (x, p) with
        | some (x, p) => gradOf ho (ho.q (Fin.ofNat 96 x.stn) (x.hrow + p.1) p.2)
        | none => 0
      let f := mk.st.factUpdate u (meansOf ho t.gmap true t.rows) (meansOf ho t.gmap false t.cols)
      match f.2.2 with
      | some e => { st := f.2.1, status := 5, ue := some e }
      | none =>
        let k : Rule := ⟨u.snap, mul32 (u.snap.f32 14) u.snap.gscale.toNat, f.1⟩
        let kr := if u.snap.family = 1 then f.2.1.kronPart u held g else (f.2.1, {}, false, none, none)
        match kr.2.2.2.2 with
        | some e => { st := kr.1, status := 5, ue := some e, kron := kr.2.1, consumed := kr.2.2.1, start := kr.2.2.2.1 }
        | none =>
          let s := kr.1
          -- where an uncorrectable word stops the pass
          let full := (List.range 4).filter fun i => u.snap.kind i == 1
          let areas := t.master :: full.map fun i => t.slots.getD i 0
          let badEls := areas.flatMap fun a => ((s.memBits.found a (4 * n)).filter fun p => p.2 == .ue).map fun p => (8 * p.1 - a) / 8
          let isBad (e : Nat × Nat) : Bool := badEls.contains ((e.1 * t.cols + e.2) / 2)
          let firstBad := (u.order.flatten).find? isBad
          let rd := match firstBad with
            | some e => if u.snap.family = 0 then e.1 * t.cols + e.2 + 1 else n
            | none => n
          let w := s.readF32 t.master rd
          let sl := full.foldl (fun (acc : List (Nat × Array Nat) × State) i =>
            let r := acc.2.readF32 (t.slots.getD i 0) rd
            (acc.1 ++ [(i, r.1)], r.2.1)) ([], w.2.1)
          let old (x : Nat) : List Nat := (List.range 4).map fun i => match sl.1.find? fun p => p.1 == i with
            | some p => p.2.getD x 0
            | none => 0
          let num (i j : Nat) : Nat := k.num (k.slots (old (i * t.cols + j)) (g i j)) (g i j) i j
          -- the parts of the pass that no bad word stops
          let parts := if u.snap.family = 0 then u.order.map fun l => l.takeWhile fun e => !isBad e
            else u.order.takeWhile fun l => !l.any isBad
          let bl := kronBlocks t.rows t.cols u.snap.blk
          let dirs := if u.snap.family = 0 then ([], sl.2, none)
            else (bl.take parts.length).foldl (fun (acc : List (Option Mat) × State × Option Nat) b =>
              let d := acc.2.1.kronDir u b num
              (acc.1 ++ [d.1], d.2.1, acc.2.2.or d.2.2)) ([], sl.2, none)
          let parts := if dirs.2.2.isSome then [] else parts
          let one (x : Nat) (e : Nat × Nat) : (Nat × Nat) × ElOut :=
            let ix := e.1 * t.cols + e.2
            let b := bl.getD x ⟨0, 0, 0, 0, 0⟩
            let dir := match dirs.1.getD x none with
              | some m => some (m.at' (e.1 - b.i0) (e.2 - b.j0))
              | none => none
            (e, k.elem (w.1.getD ix 0) (old ix) (g e.1 e.2) (maskBit mk.data ix) e.1 e.2 (u.rand user e.1 e.2 % 65536) dir)
          let outs := ((parts.zip (List.range parts.length)).map fun p => p.1.map (one p.2)).flatten
          let tab : Array (Option ElOut) := outs.foldl (fun a o => a.setIfInBounds (o.1.1 * t.cols + o.1.2) (some o.2)) (Array.replicate n none)
          -- runs of finished elements are written row by row
          let put (s : State) (a : Nat) (v : ElOut → Nat) : State :=
            (List.range t.rows).foldl (fun s i =>
              let row := (List.range t.cols).map fun j => (tab.getD (i * t.cols + j) none).map v
              if row.all (·.isSome) then s.memWrite (a + 4 * i * t.cols) (bytes32 (row.map fun x => x.getD 0))
              else ((row.zip (List.range t.cols)).foldl (fun s p => match p.1 with
                | some x => s.memWrite (a + 4 * (i * t.cols + p.2)) (bytesOf 4 x)
                | none => s) s)) s
          let s := put dirs.2.1 t.master fun o => o.w
          let s := full.foldl (fun s i => put s (t.slots.getD i 0) fun o => o.sl.getD i 0) s
          let ue := match dirs.2.2 with
            | some e => some e
            | none => match firstBad with
              | some e => areas.findSome? fun a => w.2.1.firstUE (a + 4 * (e.1 * t.cols + e.2)) 4
              | none => none
          { st := s, status := if ue.isSome then 5 else 1, ue := ue
            frozen := (outs.filter fun o => o.2.frozen).length
            kept := (outs.filter fun o => o.2.kept).length
            kron := kr.2.1, consumed := kr.2.2.1, start := kr.2.2.2.1
            wb := tab.toList.map fun o => o.map fun x => BitVec.ofNat 32 x.w }

/-- Words 16 to 20 of the record (R342). -/
def recWords (u : Update) (r : UpdRes) (ho : HOver) : List Word :=
  [BitVec.ofNat 64 (r.status + ho.n % 2 ^ 19 * 2 ^ 8 + ho.nlate % 2 ^ 18 * 2 ^ 27), BitVec.ofNat 64 r.frozen, BitVec.ofNat 64 r.kept,
    BitVec.ofNat 64 (r.kron.stale % 65536 + r.kron.fallback % 65536 * 2 ^ 16 + r.kron.refreshed % 65536 * 2 ^ 32 + r.kron.iters * 2 ^ 48),
    u.step.setWidth 64]

/-- The update with the outcome of its pass. -/
def Update.ran (u : Update) (r : UpdRes) (ho : HOver) : Update :=
  { u with running := true, status := r.status, words := recWords u r ho, frozen := r.frozen, kept := r.kept, wb := r.wb }

/-! ### The write-back (R358, R375) -/

/-- The value that the write-back of an element converts. -/
def Update.wbVal (u : Update) (x : BitVec 32) : Val := (val32 x.toNat).scale u.t.we
def Update.wbRn (u : Update) (user i j : Nat) : Nat := u.rand user i j / 65536

/-- A row of a handle written for some of its elements, the others kept; the bytes behind the row become zeros (R216). -/
def State.tileRow (s : State) (h : Handle) (i : StationId) (r : Nat) (es : List Nat) : State :=
  if es.length = h.colsN then s.rowWrite h i r es
  else
    let old := unpackRow h.width h.colsN (s.bunkBits.read (slice i + h.rowAt r) h.rowSize)
    let n := ceilDiv (es.length * h.width) 8
    (s.bunkWrite i (h.rowAt r) ((packRow h.width h.rowSize (es ++ old.drop es.length)).take n)).bunkWrite i (h.rowAt r + h.rowSize)
      (List.replicate (h.strideB - h.rowSize) 0)

/-- A tile's rows into HW where every element is there: the state and the handle rows written. -/
def Update.tileBack (u : Update) (user : Nat) (h : Handle) (acc : State × List Nat) (t : Tile) : State × List Nat :=
  let i : StationId := Fin.ofNat 96 t.stn
  let wb := u.wb.toArray
  let get (r c : Nat) : Option Val :=
    let e := t.el r c
    ((wb.getD (e.1 * u.t.cols + e.2) none)).map u.wbVal
  let rn (r c : Nat) : Nat := let e := t.el r c; u.wbRn user e.1 e.2
  let rm := if u.snap.wbSr then RM.sr else RM.rne
  let f := h.fmt.toNat
  if h.mx then
    (List.range (t.r / 32)).foldl (fun acc b =>
      let cells := (List.range 32).map fun r => (List.range t.c).map fun c => get (32 * b + r) c
      if cells.all fun l => l.all (·.isSome) then
        let bl := (List.range t.c).map fun c =>
          mxBlock f ((cells.map fun l => (l.getD c none).getD .nan)) rm u.snap.wbSat fun r => rn (32 * b + r) c
        let s := (List.range 32).foldl (fun s r =>
          s.tileRow h i (t.hrow + 32 * b + r) (bl.map fun x => (x.2.getD r ⟨0, false, false, false, false⟩).bits)) acc.1
        (s.sideWrite i (h.scaleAt (128 * ((t.hrow + 32 * b) / 32))) (bl.map fun x => x.1),
          acc.2 ++ (List.range 32).map fun r => t.hrow + 32 * b + r)
      else acc) acc
  else
    (List.range t.r).foldl (fun acc r =>
      let row := (List.range t.c).map (get r)
      if row.all (·.isSome) then
        let es := (row.zip (List.range t.c)).map fun p => (convertTo f (p.1.getD .nan) rm u.snap.wbSat (rn r p.2)).bits
        (acc.1.tileRow h i (t.hrow + r) es, acc.2 ++ [t.hrow + r])
      else acc) acc

/-- The write-back: into HW, with its row indices counted in FILL (R222), or row-major into HBM. -/
def State.writeBack (s : State) (u : Update) (user : Nat) : State :=
  if u.wb.isEmpty then s
  else if u.hwv then
    let p := u.t.wmap.foldl (u.tileBack user (s.hnd u.hw)) (s, [])
    p.1.addFill u.hw p.2.eraseDups.length
  else
    let done := u.wb.takeWhile (·.isSome)
    let rm := if u.snap.wbSr then RM.sr else RM.rne
    let es := (done.zip (List.range done.length)).map fun p =>
      (convertTo u.t.wfmt (u.wbVal (p.1.getD 0)) rm u.snap.wbSat (u.wbRn user (p.2 / u.t.cols) (p.2 % u.t.cols))).bits
    s.memWrite u.t.wb (packRow (fmtBits u.t.wfmt) (ceilDiv (es.length * fmtBits u.t.wfmt) 8) es)

/-- The write-back may go on: HW's earlier readers have finished, no securing waits for what it writes over (R221, R511). -/
def State.backReady (s : State) (u : Update) : Bool :=
  u.wb.isEmpty ||
    (if u.hwv then u.t.wmap.all fun t => s.writable u.hw u.no (Fin.ofNat 96 t.stn)
     else !s.secHolds u.no (u.t.wb, ceilDiv (u.t.rows * u.t.cols * fmtBits u.t.wfmt) 8))

/-- The record's words are written and the write-back ends (R348). -/
def State.endUpdate (s : State) (u : Update) : State :=
  (s.memWrite ((s.placed u.cid u.recAddr 192).1 + 128) (u.words.flatMap fun x => bytesOf 8 x.toNat)).endNo u.no

/-! ### The mill's events -/

/-- An earlier update of the same tensor is unfinished (R346): the queue holds them in the order of acceptance. -/
def Mill.sameMaster (m : Mill) (u : Update) : Bool := (m.queue.takeWhile fun v => v.no != u.no).any fun v => v.t.master == u.t.master

/-- An update waits for its tensor's refresh (R370). -/
def State.awaitsRefresh (s : State) (m : Fin 2) (u : Update) (ho : HOver) : Bool :=
  let slot := u.t.slots.getD 3 0
  let h := kronHead (s.memBits.read slot 16)
  u.snap.family == 1 && ho.n != 0 && !(ho.nf && u.snap.nfSkip) && h.1 && h.2 ≤ u.step.toNat &&
    ((s.mill m).refresh.any fun r => r.slot == slot && !r.finished) &&
    !maskAll (s.memBits.read u.t.mask (ceilDiv (u.t.rows * u.t.cols) 8)) (u.t.rows * u.t.cols)

/-- The accepted update whose hand-over completed first, of those that need not wait (R346). -/
def State.millNext (s : State) (m : Fin 2) : Option (Update × HOver) :=
  s.fab.reds.findSome? fun r =>
    if !r.complete then none
    else ((s.mill m).queue.find? fun u => u.red == r.no && u.accepted && !u.running).bind fun u =>
      let ho := r.over
      if (s.mill m).sameMaster u || s.secHoldsTensor u.no u.cid u.recAddr || s.assayHolds u.cid u.recAddr || s.awaitsRefresh m u ho
      then none else some (u, ho)

/-- The issuing context's stop for an uncorrectable word (R375, R378). -/
def State.updateUE (s : State) (c : Cid) (code : BitVec 16) (src : Src) (a : Nat) : State :=
  let s := if (s.ctx (s.lead c)).faulted.isSome then s.raise code src (some c) a else s.faultCtx c code src a
  s.modBoth c fun x => { x with millUe := true }

/-- MILL_UE_ADDR takes an uncorrectable word of the mill's reads (R388). -/
def State.noteUE (s : State) (m : Fin 2) (a : Nat) : State := (s.setFld Fld.MILL_UE_ADDR_ADDR a m.val).bump Fld.MILL_UE_ADDR_COUNT 1 m.val

/-- MILL_UPDATE_START (R346): the pass over the tensor. -/
def execMillUpdateStart (m : Fin 2) (s : State) : Host.Outcome State Fault Refusal :=
  match s.millNext m with
  | none => .next s
  | some (u, ho) =>
    if !s.regionRuns (56 + m.val) then .next s
    else
      let slot := u.t.slots.getD 3 0
      let r := s.updatePass u ho (104 + m.val) ((s.mill m).refresh.find? fun x => x.slot == slot)
      let s := r.st.modMill m fun x =>
        let rest := x.refresh.filter fun (y : Refresh) => y.slot != slot
        let x := if r.consumed then { x with refresh := rest } else x
        let x := match r.start with
          | some n => { x with refresh := rest ++ [n] }
          | none => x
        { x with queue := putUpdate x.queue (u.ran r ho) }
      let k := r.kron
      let s := s.bump Fld.MILL_CNT_KRON_REFRESHED k.refreshed m.val
      let s := s.bump Fld.MILL_CNT_KRON_STALE k.stale m.val
      let s := s.bump Fld.MILL_CNT_KRON_FALLBACK k.fallback m.val
      let s := s.bump Fld.MILL_CNT_KRON_RECOVERED k.recovered m.val
      let s := if k.stale = 0 then s else s.raise Ev.MILL_STALE (srcMill m) (some u.cid)
      let s := if k.fallback = 0 then s else s.raise Ev.MILL_FALLBACK (srcMill m) (some u.cid)
      match r.ue with
      | none => .next s
      | some a =>
        .next ((s.noteUE m a).updateUE u.cid Ev.MILL_UE (srcMill m) a)

/-- The digests of a tensor's state in the order of R507 (R509). -/
def State.tensorDigest (s : State) (areas : List (Nat × Nat)) : Word × Word :=
  let bs := areas.flatMap fun x => s.memBits.read x.1 x.2
  (crcD1 bs, crcD2 bs)

/-- An update of the secured context is entered in the digest log (R519). -/
def State.dlogAppend (s : State) (u : Update) : State :=
  let r := s.fld Fld.RLF_CTX_DLOG_REGION
  let n := s.rgnSize r / 32
  if s.isSecured u.cid && s.flag Fld.RLF_CTX_DLOG_VALID && u.status != 5 && n != 0 then
    let d := s.tensorDigest u.areas
    let e := [u.step.setWidth 64, BitVec.ofNat 64 u.t.master, d.1, d.2]
    let s1 := s.memWrite (s.rgnBase r + 32 * (s.rlf.dlogHead % n)) (e.flatMap fun x => bytesOf 8 x.toNat)
    { s1 with rlf := { s1.rlf with dlogHead := s.rlf.dlogHead + 1 } }
  else s

/-- The counts of a finished update (R383 to R385). -/
def State.countUpdate (s : State) (m : Nat) (u : Update) : State :=
  let s := match u.status with
    | 1 => s.bump Fld.MILL_CNT_UPD_DONE 1 m
    | 2 => s.bump Fld.MILL_CNT_UPD_ALL_FROZEN 1 m
    | 3 => s.bump Fld.MILL_CNT_NF_SKIPPED 1 m
    | 4 => s.bump Fld.MILL_CNT_UPD_NO_CONTRIB 1 m
    | _ => s
  (s.bump Fld.MILL_CNT_FROZEN_ELEMENTS u.frozen m).bump Fld.MILL_CNT_NF_KEPT u.kept m

/-- MILL_UPDATE_FINISH (R348): an update whose write-back need not wait. -/
def execMillUpdateFinish (m : Fin 2) (s : State) : Host.Outcome State Fault Refusal :=
  match (s.mill m).queue.find? fun u => u.running && s.backReady u with
  | none => .next s
  | some u =>
    if !s.regionRuns (56 + m.val) then .next s
    else
      let s := ((((s.writeBack u (104 + m.val)).dlogAppend u).endUpdate u).countUpdate m.val u).trace (srcMill m) (some u.cid) 7
        (bytesOf 8 u.recAddr ++ bytesOf 1 u.status)
      let s := if u.status = 3 then s.raise Ev.MILL_NONFINITE (srcMill m) (some u.cid) else s
      let s := if u.status = 2 && !(s.mill m).frozenGiven then
          (s.raise Ev.ALL_FROZEN (srcMill m) (some u.cid)).modMill m fun x => { x with frozenGiven := true }
        else s
      let s := s.modMill m fun x => { x with queue := x.queue.filter fun v => v.no != u.no }
      .next (s.dropRed u.red)

/-- KRON_REFRESH_DONE (R371): the oldest refresh in the background. -/
def execKronRefreshDone (m : Fin 2) (s : State) : Host.Outcome State Fault Refusal :=
  match (s.mill m).refresh.find? fun r => !r.finished with
  | none => .next s
  | some r =>
    if !s.regionRuns (56 + m.val) then .next s
    else
      let p := s.refreshAll r
      let put (y : Refresh) : Refresh := if y.slot = r.slot then { y with finished := true, outcomes := p.outs } else y
      .next (p.ues.foldl (fun s a => s.noteUE m a) (p.st.modMill m fun x => { x with refresh := x.refresh.map put }))

/-! ### VUPDATE (R202, R376 to R378) -/

/-- VUPDATE: the record is checked, and the snapshot taken, at its dispatch (DESIGN CHOICE, log entry 33). -/
def execVupdate (c : Cid) (w : NWords) (s : State) : Host.Outcome State Fault Refusal :=
  .next (s.seqRun c (Enc.vupdate w) [w.f 53 49] fun s =>
    let hw := w.h 37
    let tag := BitVec.ofNat 12 (w.f 35 24)
    let l := s.lead c
    s.crossRun c true 1 fun t =>
      t.checked c [need (!(s.ctx c).prog.evalFlag) Ev.EVAL_ILLEGAL, need (s.variant == .base) Ev.UNIT_ABSENT,
        need ((s.ctx l).tags.contains tag) Ev.SEQ_TAG, s.handleFault c hw (s.hnd hw).set] fun t =>
        let a := ((s.ctx c).s (w.f 53 49)).toNat
        let red := t.redOf c tag
        let r := t.recCheck l (2 + l.val) a (some hw) red []
        let set := (s.hnd hw).set
        match r.res with
        | .error f => r.st.seqFault c f
        | .ok k =>
          if !s.queuesFree set then s else
          let p := r.st.newUpdate c w true
          let u := { p.1 with snap := k.snap, t := k.t, areas := k.areas, accepted := true }
          let s := { p.2 with vus := p.2.vus ++ [u] }.queueInst u.no { cid := c, kind := .vupdate, w := w, mask := set }
          let s := match red with
            | some d =>
              let s := s.regReader u.no d.hdst (s.hnd d.hdst).set
              if d.stats then s.regReader u.no d.hstat (s.hnd d.hstat).set else s
            | none => s
          ((s.cnt l 6 1).pastReturn c).nextPc c 1)

/-- The hand-over that HDST and HSTAT hold (R377). Without statistics the counts are those of the reduction. -/
def State.vuOver (s : State) (d : Red) : HOver × State × Option StationId :=
  let hd := s.hnd d.hdst
  let hs := s.hnd d.hstat
  let base := d.over
  let stns := stationsOf d.set
  let p := stns.foldl (fun (acc : List (Array (Array Nat)) × State × Option StationId) i =>
    let rows := (List.range d.rows).foldl (fun (a : Array (Array Nat) × State × Bool) r =>
      let q := a.2.1.rowRead hd i r
      (a.1.push q.1.toArray, q.2.1, a.2.2 || q.2.2)) (#[], acc.2.1, false)
    (acc.1 ++ [rows.1], rows.2.1, acc.2.2.or (if rows.2.2 then some i else none))) ([], s, none)
  let q := if d.stats then stns.foldl (fun (acc : List (Array Nat) × State × Option StationId) i =>
      let rows := (List.range hs.rows.toNat).foldl (fun (a : List Nat × State × Bool) r =>
        let q := a.2.1.rowRead hs i r
        (a.1 ++ q.1, q.2.1, a.2.2 || q.2.2)) ([], acc.2.1, false)
      (acc.1 ++ [rows.1.toArray], rows.2.1, acc.2.2.or (if rows.2.2 then some i else none))) ([], p.2)
    else ([], p.2)
  let ix (i : StationId) : Nat := stns.findIdx (· == i)
  let st (i : StationId) (k : Nat) : Nat := (q.1.getD (ix i) #[]).getD k 0
  let i0 := stns.headD 0
  let int (k : Nat) : Int := match val32 (st i0 k) with
    | .fin neg m e => alignInt neg m e (min e 0) / 2 ^ (0 - min e 0).toNat
    | _ => 0
  let val (i : StationId) (r c : Nat) : Nat := ((p.1.getD (ix i) #[]).getD r #[]).getD c 0
  let ho : HOver := if d.stats then
      { base with n := (int 0).toNat, er := int 1, nf := st i0 2 == one32, nlate := (int 3).toNat, q := val
                  rowP := fun i r => st i (4 + r)
                  colP := fun i g c => st i (4 + d.rows + g * d.cols + c) }
    else { base with q := val }
  (ho, q.2.1, q.2.2)

/-- The first VUPDATE of a context that finds everything ready: at the head of the queue of each of its stations, HDST and HSTAT complete
(R378). -/
def State.vuNext (s : State) (c : Cid) : Option (Update × Red) :=
  s.vus.findSome? fun u =>
    match s.fab.reds.find? fun r => r.no == u.red with
    | none => none
    | some d =>
      let earlier := s.vus.any fun v => v.no < u.no && v.t.master == u.t.master
      let okS := !d.stats || s.completeAt d.hstat u.no (s.hnd d.hstat).set
      let runs := (stationsOf (s.hnd u.hw).set).all fun i => s.regionRuns (i.val / 2) && (s.headInst i).map (·.1) == some u.no
      if u.cid == s.lead c && !earlier && d.complete && runs && okS && s.completeAt d.hdst u.no (s.hnd d.hdst).set &&
          s.writableAt u.hw u.no (s.hnd u.hw).set && !s.secHoldsTensor u.no u.cid u.recAddr && !s.assayHolds u.cid u.recAddr
      then some (u, d) else none

/-- VUPDATE_ISSUE (R378): the whole update on the vector units of HW's stations. -/
def execVupdateIssue (c : Cid) (s : State) : Host.Outcome State Fault Refusal :=
  match s.vuNext c with
  | none => .next s
  | some (u, d) =>
    let set := (s.hnd u.hw).set
    let src := srcStn ((stationsOf set).headD 0)
    let p := s.vuOver d
    let drop (s : State) : State :=
      let t := (stationsOf set).foldl (fun s i => (s.popInst i u.no).instDone i u.no) s
      ({ t with vus := t.vus.filter fun v => v.no != u.no } : State).dropRed d.no
    match p.2.2 with
    | some i => .next (drop ((p.2.1.endNo u.no).faultCtx u.cid Ev.BNK_UE (srcStn i)))
    | none =>
      let r := p.2.1.updatePass u p.1 104 none
      let u := u.ran r p.1
      let s := drop ((r.st.writeBack u 104).endUpdate u)
      let s := if u.status = 3 then s.raise Ev.MILL_NONFINITE src (some u.cid) else s
      let s := if u.status = 2 && !s.vuFrozen.contains set then
          { s.raise Ev.ALL_FROZEN src (some u.cid) with vuFrozen := s.vuFrozen ++ [set] }
        else s
      match r.ue with
      | none => .next s
      | some a => .next (s.updateUE u.cid Ev.MEM_UE src a)

end Sys2Proof.Machine
end

