-- ==== Sys2Proof/Machine/Reduce.lean ====
section
/-! DEFINITION. Groups and reductions (R204, R205, R423 to R434): REDUCE, the reduce-scatter and all-gather, the deadline, late
contributions, the hand-over. -/

namespace Sys2Proof.Machine

/-! ### Groups and lines (R423 to R425) -/

/-- The place in the group at which the device acts: its own position, or that of an identity it has assumed. -/
def State.rankPos (s : State) (g : Nat) : Option NodeId :=
  (s.ownPos :: s.fab.assumed).find? fun p => (s.grpRank g p).isSome

def setCoord (p : NodeId) (d v : Nat) : NodeId :=
  match d with
  | 0 => posMk v (coord p 1) (coord p 2)
  | 1 => posMk (coord p 0) v (coord p 2)
  | _ => posMk (coord p 0) (coord p 1) v

def State.grpExt (s : State) (g d : Nat) : Nat :=
  1 + (match d with | 0 => s.fld Fld.BKN_GRP_NX g | 1 => s.fld Fld.BKN_GRP_NY g | _ => s.fld Fld.BKN_GRP_NZ g)

/-- The member is passed over (R425). -/
def State.memberGone (s : State) (g : Nat) (p : NodeId) : Bool := s.flag Fld.BKN_GRP_DROP g && s.fab.absent.contains p

/-- The line of a member in a dimension, in rank order, without those passed over (R424, R425). -/
def State.lineOf (s : State) (g : Nat) (me : NodeId) (d : Nat) : List NodeId :=
  let b : NodeId := BitVec.ofNat 17 (s.fld Fld.BKN_GRP_BASE g)
  ((List.range (s.grpExt g d)).map fun i => setCoord me d ((coord b d + i) % s.torusSize d)).filter fun p => !s.memberGone g p

/-- The group's number of members. -/
def State.grpSize (s : State) (g : Nat) : Nat := s.grpExt g 0 * s.grpExt g 1 * s.grpExt g 2

/-- R204's and R423's faults of a collective that names a group. -/
def State.grpFault (s : State) (c : Cid) (g count : Nat) : Option (BitVec 16) :=
  let l := (s.lead c).val
  let own := 4 * s.fld Fld.BKN_GRP_SEQ g + s.fld Fld.BKN_GRP_CTX g == l && s.flag Fld.BKN_GRP_JOINED g == s.joined c
  need (s.flag Fld.BKN_GRP_VALID g && (s.rankPos g).isSome && own && count ≤ s.grpSize g) Ev.BKN_GROUP

/-! ### Blocks, orientations, shares (R428, R429) -/

/-- The plane of block `b`, and whether its rings turn the + way. -/
def State.blockPlane (s : State) (b : Nat) : Nat := let l := s.planeList; l.getD (b % max 1 l.length) 0
def State.blockPlus (s : State) (b : Nat) : Bool := b / max 1 s.planeList.length % 2 == 0

/-- The blocks that are cut together with `b`: those of its plane and orientation (DESIGN CHOICE, log entry 42). -/
def State.blockList (s : State) (n b : Nat) : List Nat :=
  (List.range n).filter fun x => s.blockPlane x == s.blockPlane b && s.blockPlus x == s.blockPlus b

/-- The share of list place `i` of `m` among `n`. -/
def shareAt (i n m : Nat) : Nat := i * n / m
def shareCut (n : Nat) (l : List Nat) (r : Nat) : List Nat :=
  ((l.zip (List.range l.length)).filter fun p => shareAt p.2 n l.length == r).map (·.1)

/-- The place on its line, in dimension `d`, of the owner of block `b`, when the lines have `n 0`, `n 1`, `n 2` members. -/
def ownerIn (n : Nat → Nat) (b : Nat) : Nat → List Nat → Nat
  | 0, l => shareAt (l.idxOf b) (n 0) l.length
  | d + 1, l =>
    let cut (l : List Nat) (k : Nat) : List Nat := shareCut (n k) l (shareAt (l.idxOf b) (n k) l.length)
    let l' := (List.range (d + 1)).foldl cut l
    shareAt (l'.idxOf b) (n (d + 1)) l'.length

def State.ownerOfBlock (s : State) (r : Red) (me : NodeId) (b d : Nat) : Nat :=
  ownerIn (fun k => (s.lineOf r.group.toNat me k).length) b d (s.blockList r.nblk b)

/-- The next place of a ring. -/
def ringNext (plus : Bool) (n i : Nat) : Nat := if plus then (i + 1) % n else (i + n - 1) % n

/-- The dimension in which a sender lies on the member's line. -/
def dimOf (me src : NodeId) : Nat := ([0, 1, 2].find? fun d => coord me d != coord src d).getD 0

/-- The direction, plus 1, in which a message goes from a member of a line to the next of its ring (R424): the ring's own where it uses the
wrap link; else + to a higher rank and − to a lower. -/
def State.ringWay (s : State) (g : Nat) (me dst : NodeId) (plus : Bool) : Nat :=
  let d := dimOf me dst
  let b : NodeId := BitVec.ofNat 17 (s.fld Fld.BKN_GRP_BASE g)
  let rank (p : NodeId) : Nat := (coord p d + s.torusSize d - coord b d % s.torusSize d) % s.torusSize d
  let up := if s.grpExt g d = s.torusSize d then plus else rank me < rank dst
  1 + 2 * d + (!up).toNat

/-! ### Partials (R427, R429, R430) -/

def emptyPart (dim b : Nat) : Partial := ⟨dim, b, [], 0, 63, 0, false⟩

/-- FP32 sums joined, the first rounded sum first; an empty one adds nothing. -/
def joinVals (a b : List (BitVec 32)) : List (BitVec 32) :=
  if a.isEmpty then b else if b.isEmpty then a else (a.zip b).map fun p => BitVec.ofNat 32 (add32 p.1.toNat p.2.toNat)

/-- partial := rne32(partial + c). -/
def Partial.join (p c : Partial) : Partial :=
  ⟨p.dim, p.block, joinVals p.vals c.vals, p.n + c.n, min p.emin c.emin, p.nlate + c.nlate, p.nonfinite || c.nonfinite⟩

/-- Elements as FP32 values c = q 2^(−E), and whether one overflowed (R427). -/
def toContrib (fmt : Nat) (e : Int) (qs : List (BitVec 16)) : List (BitVec 32) × Bool :=
  let cv := qs.map fun q => FFmt.fp32.convert ((decodeF fmt q.toNat).scale (-e)) .rne false 0
  (cv.map fun x => BitVec.ofNat 32 x.bits, cv.any fun x => x.of)

/-- The block's elements of a list of 128-row groups. -/
def blockSlice (cols b : Nat) (l : List (BitVec 16)) : List (BitVec 16) := (l.drop (b * 128 * cols)).take (128 * cols)

/-- A member's contribution to a block: its elements, the late ones it holds, both, or nothing (R427, R432, R434). -/
def Red.contrib (r : Red) (b : Nat) : Partial :=
  let own : Partial :=
    if r.contributes then
      let x := toContrib r.fmt.toNat r.exp (blockSlice r.cols b r.src)
      ⟨0, b, x.1, 1, r.exp, 0, x.2⟩
    else emptyPart 0 b
  match r.fold with
  | none => own
  | some f =>
    let x := toContrib f.fmt.toNat f.exp (blockSlice r.cols b f.vals)
    (⟨0, b, x.1, 1, f.exp, 1, x.2⟩ : Partial).join own

def log2ceil (n : Nat) : Nat := if n ≤ 1 then 0 else bitLen (n - 1)

/-- The sum of squares of FP32 values in FP64, rounded by rne32 (R431). -/
def squares (l : List (BitVec 32)) : BitVec 32 :=
  BitVec.ofNat 32 (rne32 (sum64 (l.map fun x => (val32 x.toNat).mul (val32 x.toNat))))

/-- A finished sum as its owner rounds it, with its statistics (R430, R431). -/
def Partial.finish (p : Partial) (fmt cols : Nat) : RBlock :=
  let vals := if p.vals.isEmpty then List.replicate (128 * cols) 0 else p.vals
  let er : Int := if p.n = 0 then 0 else max (-64) (min 63 (p.emin - log2ceil p.n))
  let cv := vals.map fun x => convertTo fmt ((val32 x.toNat).scale er) .rne true 0
  let a := vals.toArray
  let el (r c : Nat) : BitVec 32 := a.getD (r * cols + c) 0
  let bad := cv.any (fun x => x.of) || vals.any fun x => !(val32 x.toNat).isFin
  { vals := cv.map fun x => BitVec.ofNat 16 x.bits
    rows := (List.range 128).map fun r => squares ((List.range cols).map fun c => el r c)
    cols := (List.range cols).map fun c => squares ((List.range 128).map fun r => el r c)
    er := er, emin := p.emin, n := p.n, nlate := p.nlate, nonfinite := p.nonfinite || bad }

/-! ### The reduction's messages (R397)

Words 4 and 6 carry what the manual leaves to the device: the run above the generation, the number of blocks, HS's columns and the
direction of the ring (DESIGN CHOICE, log entry 37). -/

def Red.w1 (r : Red) (b : Nat) : Word := BitVec.ofNat 64 (r.group.toNat + r.rtag.toNat * 2 ^ 10 + b * 2 ^ 22)
def Red.w2 (r : Red) (n : Nat) (emin : Int) (nf : Bool) (nlate : Nat) : Word :=
  BitVec.ofNat 64 (n % 2 ^ 19 + ((emin + 64) % 128).toNat * 2 ^ 19 + nf.toNat * 2 ^ 26 + (r.fmt == 1).toNat * 2 ^ 27 +
    nlate % 2 ^ 18 * 2 ^ 28 + r.count % 2 ^ 18 * 2 ^ 46)
def Red.w4 (r : Red) : Word := BitVec.ofNat 64 (r.gen % 2 ^ 32 + r.restarts * 2 ^ 32)
def Red.w6 (r : Red) : Word := BitVec.ofNat 64 (r.nblk % 2 ^ 20 + r.cols % 256 * 2 ^ 20)

/-- A message of the reduction to another member of a line. -/
def State.redMsg (s : State) (r : Red) (me dst : NodeId) (kind b : Nat) (w2 w5 : Word) (data : List Byte) : State :=
  let way := s.ringWay r.group.toNat me dst (s.blockPlus b)
  let m := s.msg dst 1 kind [r.w1 b, w2, BitVec.ofNat 64 r.dbell, r.w4, w5, r.w6 + BitVec.ofNat 64 (way * 2 ^ 28)] data
  s.sendOn { m with src := me, plane := BitVec.ofNat 2 (s.blockPlane b) } (some r.cid)

def bytesF32 (l : List (BitVec 32)) : List Byte := l.flatMap fun x => bytesOf 4 x.toNat
def f32s (n : Nat) (d : List Byte) : List (BitVec 32) := (List.range n).map fun i => BitVec.ofNat 32 (leAt d (4 * i) 4)

def State.sendPart (s : State) (r : Red) (me dst : NodeId) (p : Partial) : State :=
  s.redMsg r me dst 2 p.block (r.w2 p.n p.emin p.nonfinite p.nlate) 0 (bytesF32 p.vals)

/-- The gather block of a finished block. -/
def State.sendBlock (s : State) (r : Red) (me dst : NodeId) (b : Nat) (x : RBlock) : State :=
  s.redMsg r me dst 3 b (r.w2 x.n x.emin x.nonfinite x.nlate) (BitVec.ofNat 64 ((x.er + 64) % 128).toNat)
    ((x.vals.flatMap fun v => bytesOf 2 v.toNat) ++ bytesF32 x.rows ++ bytesF32 x.cols)

/-- A gather block as it comes. -/
def blockOf (m : FMsg) (cols : Nat) : RBlock :=
  let n := 128 * cols
  { vals := (List.range n).map fun i => BitVec.ofNat 16 (leAt m.data (2 * i) 2)
    rows := f32s 128 (m.data.drop (2 * n)), cols := f32s cols (m.data.drop (2 * n + 512))
    er := (bits m.w5 0 7 : Int) - 64, emin := (bits m.w2 19 7 : Int) - 64, n := bits m.w2 0 19, nlate := bits m.w2 28 18, nonfinite := bit m.w2 26 }

/-! ### The landing region (R434, R435) -/

def FMsg0 (m : FMsg) : Word :=
  BitVec.ofNat 64 (m.dst.toNat + m.src.toNat * 2 ^ 17 + m.vl.toNat * 2 ^ 34 + m.detour.toNat * 2 ^ 37 +
    ceilDiv (m.data.length - 192) 256 * 2 ^ 38 + m.kind.toNat * 2 ^ 47 + m.plane.toNat * 2 ^ 51)
def msgBytes (m : FMsg) : List Byte :=
  ([FMsg0 m, m.w1, m.w2, m.w3, m.w4, m.w5, m.w6, m.w7].flatMap fun x => bytesOf 8 x.toNat) ++ m.data

/-- The lowest place for `n` bytes among `size` that avoids the places in use. -/
def firstFit (used : List (Nat × Nat)) (size n : Nat) : Option Nat :=
  ((0 :: used.map fun u => u.1 + u.2).filter fun a => a + n ≤ size && !used.any fun u => a < u.1 + u.2 && u.1 < a + n).min?

/-- The places of a context's landing region in use. -/
def State.landUsed (s : State) (c : Cid) : List (Nat × Nat) :=
  (s.fab.landing.filter fun p => p.cid == c).map fun p => (p.off, 64 + p.msg.data.length)

/-- A message is kept, with its header, in the context's landing region, if there is room. -/
def State.land (s : State) (c : Cid) (m : FMsg) : Option State :=
  let r := s.fld Fld.BKN_CTX_BUF_LAND c.val
  let n := 64 + m.data.length
  if s.flag Fld.BKN_CTX_BUF_LAND_V c.val && s.rgnOfCtx c r && s.rgnState r == 1 then
    (firstFit (s.landUsed c) (s.rgnSize r) n).map fun a =>
      { s.memWrite (s.placed c (s.rgnBase r + a) n).1 (msgBytes m) with fab := { s.fab with landing := s.fab.landing ++ [⟨c, a, m⟩] } }
  else none

/-- A landed message is read back from its place, which is free again: its data as the region holds them, and the address of an
uncorrectable word (R310). -/
def State.unlandOne (s : State) (p : Landed) : FMsg × State × Option Nat :=
  let n := p.msg.data.length
  let a := s.rgnBase (s.fld Fld.BKN_CTX_BUF_LAND p.cid.val) + p.off + 64
  let r := s.readUE (s.placed p.cid a n).1 n
  ({ p.msg with data := r.1 }, { r.2.1 with fab := { r.2.1.fab with landing := r.2.1.fab.landing.filter fun q => q != p } }, r.2.2)

/-- Landed messages of a context, taken out in order. -/
def State.takeLanded (s : State) (c : Cid) (f : FMsg → Bool) : List FMsg × State × Option Nat :=
  (s.fab.landing.filter fun p => p.cid == c && f p.msg).foldl (fun a p =>
    let r := a.2.1.unlandOne p
    (a.1 ++ [r.1], r.2.1, a.2.2.or r.2.2)) ([], s, none)

/-- An uncorrectable word that a collective has read stops the context (R310). -/
def State.collUE (s : State) (c : Cid) : Option Nat → State
  | some a => s.faultCtx c Ev.MEM_UE (srcHbm (memCtrl s.variant a)) a
  | none => s

/-- Messages that the die kept, taken out. -/
def State.takeKept (s : State) (f : FMsg → Bool) : List Kept × State :=
  (s.fab.kept.filter fun k => f k.msg, { s with fab := { s.fab with kept := s.fab.kept.filter fun k => !f k.msg } })

/-- A kept message moves to a landing region that has room for it, and leaves the port's buffer. -/
def State.landKept (s : State) (k : Kept) : Option State :=
  let at' (c : Cid) : Option State := s.land c k.msg
  ((match k.cid with
    | some c => at' c
    | none => allCids.findSome? at').map fun (t : State) => t.freeBuf k.msg k.buf)

/-- Kept messages, oldest first, to the room there is; one stays if an older one of its lane, sender and tag stays (R206). -/
def State.settleKept (s : State) : State :=
  s.fab.kept.foldl (fun s k =>
    let older (x : Kept) : Bool := x.msg.kind == k.msg.kind && x.msg.src == k.msg.src && bits x.msg.w1 0 8 == bits k.msg.w1 0 8
    if s.fab.kept.any older then { s with fab := { s.fab with kept := s.fab.kept ++ [k] } }
    else (s.landKept k).getD { s with fab := { s.fab with kept := s.fab.kept ++ [k] } }) { s with fab := { s.fab with kept := [] } }

/-- The landing region that a context names is its own (R451). -/
def State.landFault (s : State) (c : Cid) : Option (BitVec 16) :=
  need (!s.flag Fld.BKN_CTX_BUF_LAND_V c.val || s.rgnOfCtx c (s.fld Fld.BKN_CTX_BUF_LAND c.val)) Ev.MEM_RANGE

/-! ### The table of reductions -/

def redKey (g rtag : Nat) : Nat := 4096 * g + rtag
def Red.isFor (r : Red) (m : FMsg) : Bool :=
  r.group.toNat == bits m.w1 0 10 && r.rtag.toNat == bits m.w1 10 12 && r.gen == bits m.w4 0 32

def State.putRed (s : State) (r : Red) : State :=
  let put (l : List Red) : List Red := if l.any fun x => x.no == r.no then l.map fun x => if x.no = r.no then r else x else l ++ [r]
  { s with fab := { s.fab with reds := put s.fab.reds } }

/-- The reduction of a message: one there is, or, if the device has not dispatched its REDUCE yet, one made for it. -/
def State.redFor (s : State) (m : FMsg) : Option Red :=
  let g := bits m.w1 0 10
  let t := bits m.w1 10 12
  let k := bits m.w4 0 32
  match s.fab.reds.find? fun r => r.isFor m with
  | some r => some r
  | none =>
    if s.flag Fld.BKN_GRP_VALID g && (s.rankPos g).isSome && SMap.val s.fab.redCnt 0 (redKey g t) < k then
      some { no := 2 ^ 64 + (k * 1024 + g) * 4096 + t, cid := Fin.ofNat 8 (4 * s.fld Fld.BKN_GRP_SEQ g + s.fld Fld.BKN_GRP_CTX g)
             group := BitVec.ofNat 10 g, rtag := BitVec.ofNat 12 t, gen := k, fmt := if bit m.w2 27 then 1 else 2
             cols := bits m.w6 20 8, nblk := bits m.w6 0 20, count := bits m.w2 46 18, dbell := m.w3.toNat, restarts := s.runOf g }
    else none

/-! ### The reduce-scatter and the all-gather -/

/-- A block delivered to this member, which keeps it or lands it (R431, R434). -/
def State.deliverBlock (s : State) (r : Red) (b : Nat) (x : RBlock) (m : FMsg) : State × Red :=
  if r.dispatched then (s, { r with blocks := SMap.put r.blocks none b (some x) })
  else match s.land r.cid m with
    | some t => (t, r)
    | none => (s, { r with lost := true })

/-- The all-gather sends of a member that has a block: along the line it came by until the owner is next, and along the lines of the
dimensions below (R428). `d` is 3 at the block's owner. -/
def State.gatherOut (s : State) (r : Red) (me : NodeId) (b d : Nat) (x : RBlock) : State :=
  (List.range 3).foldl (fun s k =>
    let line := s.lineOf r.group.toNat me k
    let nx := ringNext (s.blockPlus b) line.length (line.idxOf me)
    if line.length ≤ 1 || d < k || (k == d && nx == s.ownerOfBlock r me b k) then s
    else s.sendBlock r me (line.getD nx me) b x) s

/-- What the owner does with a finished sum (R430, R431). -/
def State.finishBlock (s : State) (r : Red) (me : NodeId) (b : Nat) : State × Red :=
  match SMap.val r.shares none (2 ^ 20 * 2 + b) with
  | none => (s, r)
  | some p =>
    let x := p.finish r.fmt.toNat r.cols
    let m := s.msg me 1 3 [r.w1 b, r.w2 x.n x.emin x.nonfinite x.nlate, BitVec.ofNat 64 r.dbell, r.w4,
      BitVec.ofNat 64 ((x.er + 64) % 128).toNat, r.w6]
      ((x.vals.flatMap fun v => bytesOf 2 v.toNat) ++ bytesF32 x.rows ++ bytesF32 x.cols)
    let q := s.deliverBlock r b x m
    (q.1.gatherOut r me b 3 x, q.2)

/-- The contribution of a member to a block's sum in dimension `d`, once it has one (R429). -/
def Red.contribIn (r : Red) (b : Nat) : Nat → Option Partial
  | 0 => if r.decided then some (r.contrib b) else none
  | d + 1 => SMap.val r.shares none (2 ^ 20 * d + b)

/-- The steps of block `b` from dimension `3 − k` on, as far as they go. -/
def State.redSteps (me : NodeId) (b : Nat) : Nat → State × Red → State × Red
  | 0, x => x.1.finishBlock x.2 me b
  | k + 1, x =>
    let s := x.1
    let r := x.2
    let d := 2 - k
    let key := 2 ^ 20 * d + b
    match r.contribIn b d with
    | none => x
    | some c =>
      let c := { c with dim := d }
      let line := s.lineOf r.group.toNat me d
      let i := line.idxOf me
      let o := s.ownerOfBlock r me b d
      let nx := ringNext (s.blockPlus b) line.length i
      let mine (p : Partial) : State × Red := State.redSteps me b k (s, { r with shares := SMap.put r.shares none key (some p) })
      if line.length ≤ 1 then mine c
      else if i == ringNext (s.blockPlus b) line.length o then
        (if SMap.val r.started false key then x
         else (s.sendPart r me (line.getD nx me) c, { r with started := SMap.put r.started false key true }))
      else match r.held.find? fun p => p.dim == d && p.block == b with
        | none => x
        | some p =>
          let r' := { r with held := r.held.filter fun q => !(q.dim == d && q.block == b) }
          let q := p.join c
          if i == o then State.redSteps me b k (s, { r' with shares := SMap.put r.shares none key (some q) })
          else (s.sendPart r' me (line.getD nx me) q, r')

/-- Every block as far as it goes. -/
def State.redPump (s : State) (r : Red) : State :=
  match s.rankPos r.group.toNat with
  | none => s.putRed r
  | some me =>
    let x := (List.range r.nblk).foldl (fun x b => State.redSteps me b 3 x) (s, r)
    x.1.putRed x.2

/-- A partial taken in: held until it can be added (R429, R432). -/
def State.takePart (s : State) (r : Red) (me : NodeId) (m : FMsg) : State × Red :=
  let b := bits m.w1 22 20
  let d := dimOf me m.src
  let n := bits m.w2 0 19
  let p : Partial := ⟨d, b, if n = 0 then [] else f32s (128 * r.cols) m.data, n, (bits m.w2 19 7 : Int) - 64, bits m.w2 28 18, bit m.w2 26⟩
  let r := { r with held := r.held ++ [p], dbell := min r.dbell m.w3.toNat, full := r.full || bits m.w2 46 18 ≤ n }
  State.redSteps me b (3 - d) (s, r)

/-- A gather block taken in: delivered and passed on (R431). -/
def State.takeBlock (s : State) (r : Red) (me : NodeId) (m : FMsg) : State × Red :=
  let b := bits m.w1 22 20
  let x := blockOf m r.cols
  let q := s.deliverBlock r b x m
  (q.1.gatherOut r me b (dimOf me m.src) x, q.2)

/-- A message of a reduction: of the present run, of one to come, or of one that a restart has dropped (R433). -/
def State.redTake (s : State) (m : FMsg) (f : State → Red → NodeId → FMsg → State × Red) : State :=
  match s.redFor m, s.rankPos (bits m.w1 0 10) with
  | some r, some me =>
    let run := bits m.w4 32 32
    if run < r.restarts then s
    else if r.restarts < run then s.putRed { r with early := r.early ++ [m] }
    else let x := f s r me m; x.1.putRed x.2
  | _, _ => s

/-- PARTIAL_RECEIVE (R429, R432). -/
def execPartialReceive (msg : FMsg) (s : State) : Host.Outcome State Fault Refusal :=
  .next (if s.delivered 2 msg then s.redTake msg State.takePart else s)

/-- GATHER_BLOCK_RECEIVE (R431, R434). -/
def execGatherBlockReceive (msg : FMsg) (s : State) : Host.Outcome State Fault Refusal :=
  .next (if s.delivered 3 msg && msg.w7 == 0 then s.redTake msg State.takeBlock else s)

/-- Messages that came before the device's own restart (R433). -/
def State.takeEarly (s : State) (r : Red) : State :=
  let now := r.early.filter fun m => bits m.w4 32 32 == r.restarts
  now.foldl (fun s m => s.redTake m (if m.kind = 2 then State.takePart else State.takeBlock))
    (s.putRed { r with early := r.early.filter fun m => r.restarts < bits m.w4 32 32 })

/-! ### REDUCE (R205, R423, R426) -/

/-- The bell number of the segment that dispatches now; a slipped segment began a bell earlier. -/
def State.segBell (s : State) (c : Cid) : Nat := s.bellNow - (s.ctx (s.lead c)).slipped.toNat

/-- HSTAT has HS's stations and elements enough (R377). -/
def Handle.statOk (x hs : Handle) : Bool :=
  x.set == hs.set && 4 + hs.rows.toNat + hs.rows.toNat / 128 * hs.colsN ≤ x.rows.toNat * x.colsN

/-- REDUCE's checks at dispatch. A wrong format of HDST or HSTAT is NUM_MODE. -/
def State.reduceChecks (s : State) (c : Cid) (w : NWords) : List (Option (BitVec 16)) :=
  let hs := s.hnd (w.h 42)
  let hsr := s.hnd (w.h 30)
  let hd := s.hnd (w.xh 30)
  let ht := s.hnd (w.xh 42)
  let f := hs.fmt.toNat
  let dest := w.xb 28
  let stats := w.xb 29
  [need (!(s.ctx c).prog.evalFlag) Ev.EVAL_ILLEGAL, need (dest || s.variant != .base) Ev.UNIT_ABSENT,
    s.handleFault c (w.h 42) 0, s.handleFault c (w.h 30) 0,
    if dest then s.handleFault c (w.xh 30) hs.set else none,
    if dest && stats then s.handleFault c (w.xh 42) hs.set else none,
    need (f == 1 || f == 2) Ev.NUM_MODE, need (!dest || hd.fmt == hs.fmt) Ev.NUM_MODE, need (!(dest && stats) || ht.fmt == 0) Ev.NUM_MODE,
    need (16 ≤ hsr.rowSize && subset hs.set hsr.set && hs.rows.toNat % 128 == 0) Ev.BNK_SHAPE,
    need (!dest || (hd.set == hs.set && hd.rows == hs.rows && hd.colsN == hs.colsN)) Ev.BNK_SHAPE,
    need (!(dest && stats) || ht.statOk hs) Ev.BNK_SHAPE,
    s.grpFault c (w.x 27 18) (w.x 17 0), s.landFault (s.lead c)]

/-- Landed blocks of a reduction are delivered (R434). -/
def State.unland (s : State) (r : Red) : State × Option Nat :=
  let q := s.takeLanded r.cid fun m => m.kind == 3 && m.w7 == 0 && r.isFor m && bits m.w4 32 32 == r.restarts
  let blocks := q.1.foldl (fun b m => SMap.put b none (bits m.w1 22 20) (some (blockOf m r.cols))) r.blocks
  ((q.2.1.putRed { r with blocks := blocks }).settleKept, q.2.2)

/-- The REDUCE is dispatched: its handles are registered, and what came before it is joined (R221, R426, R434). -/
def State.startReduce (s : State) (c : Cid) (w : NWords) : State :=
  let l := s.lead c
  let no := s.dispNo
  let g := w.x 27 18
  let t := w.f 29 18
  let key := redKey g t
  let k := SMap.val s.fab.redCnt 0 key + 1
  let hs := s.hnd (w.h 42)
  let old := s.fab.reds.find? fun r => !r.dispatched && r.group.toNat == g && r.rtag.toNat == t && r.gen == k
  let d := s.segBell c + w.f 17 10
  let base : Red := old.getD { no := no, cid := l, group := BitVec.ofNat 10 g, rtag := BitVec.ofNat 12 t, gen := k, dbell := d, restarts := s.runOf g }
  let r : Red := { base with
    no := no, cid := l, hs := w.h 42, set := hs.set, rows := hs.rows.toNat, cols := hs.colsN, hsr := w.h 30, dest := w.xb 28
    stats := w.xb 29, hdst := w.xh 30, hstat := w.xh 42, deadline := w.f 17 10, count := w.x 17 0, fmt := hs.fmt, dispatched := true
    nblk := popcount hs.set * (hs.rows.toNat / 128), dbell := min base.dbell d }
  let named (x : Red) : Bool := (s.mill0.queue ++ s.mill1.queue ++ s.vus).any fun u => u.red == x.no
  let keep (x : Red) : Bool :=
    !(some x.no == old.map (·.no)) && !(x.cid == l && x.rtag.toNat == t && x.dispatched && x.complete && x.issued && !named x)
  let s := { s with
    dispNo := no + 1
    fab := { s.fab with reds := s.fab.reds.filter keep, redCnt := SMap.put s.fab.redCnt 0 key k } }
  let s := s.modBoth c fun x => { x with tags := (x.tags ++ [BitVec.ofNat 12 t]).eraseDups }
  let s := (s.regReader no (w.h 42) hs.set).regReader no (w.h 30) (s.hnd (w.h 30)).set
  let s := if r.dest then
      let s := s.regWriter no r.hdst hs.set
      if r.stats then s.regWriter no r.hstat hs.set else s
    else s
  let u := s.unland r
  let s := ((u.1.pastReturn c).nextPc c 2).collUE c u.2
  if r.lost then s.faultCtx c Ev.BKN_LATE_LOST (srcIod (s.planeList.headD 0)) else s

/-- REDUCE (R205). It waits while a reduction of its tag is unfinished, its own contribution among it (DEDUCED, log entry 135). -/
def execReduce (c : Cid) (w : NWords) (s : State) : Host.Outcome State Fault Refusal :=
  .next (s.seqRun c (Enc.reduce w) [] fun s =>
    s.crossRun c true 2 fun t =>
      t.checked c (s.reduceChecks c w) fun t =>
        if s.fab.reds.any fun r => r.cid == s.lead c && r.rtag.toNat == w.f 29 18 && r.dispatched && !(r.complete && r.issued) then s
        else t.startReduce c w)

/-! ### Reading HS; late contributions (R432, R434) -/

/-- The elements of HS by block, in ascending station and row, the state, and a station with an uncorrectable word. -/
def State.readHs (s : State) (r : Red) : List (BitVec 16) × State × Option StationId :=
  let h := s.hnd r.hs
  (stationsOf r.set).foldl (fun acc i =>
    let q := (List.range r.rows).foldl (fun (a : List (List (BitVec 16)) × State × Bool) row =>
      let x := a.2.1.rowRead h i row
      (a.1 ++ [x.1.map fun e => BitVec.ofNat 16 e], x.2.1, a.2.2 || x.2.2)) ([], acc.2.1, false)
    (acc.1 ++ q.1.flatten, q.2.1, acc.2.2.or (if q.2.2 then some i else none))) ([], s, none)

/-- Events and counts of each die that takes part (R638). -/
def State.dieEvent (s : State) (ev : Nat) : State := s.planeList.foldl (fun s d => s.pcEvent ev d 1) s

/-- The bytes of a fold in its region: a header of 64 bytes, then the elements (DESIGN CHOICE, log entry 41). -/
def foldLen (vals : List (BitVec 16)) : Nat := 64 + ceilDiv (2 * vals.length) 64 * 64
def foldBytes (f : Fold) : List Byte :=
  [1, BitVec.ofNat 8 f.fmt.toNat, BitVec.ofInt 8 f.exp, 0, 0, 0, 0, 0] ++ bytesOf 8 (f.group.toNat + f.rtag.toNat * 2 ^ 10) ++
    bytesOf 8 f.vals.length ++ List.replicate 40 0 ++ f.vals.flatMap fun v => bytesOf 2 v.toNat

/-- The places of a context's fold region in use. -/
def State.foldUsed (s : State) (c : Cid) : List (Nat × Nat) :=
  (s.fab.folds.filter fun f => f.cid == c).map fun f => (f.off, foldLen f.vals)

/-- A late contribution goes to the fold region, or is dropped (R434). -/
def State.lateFold (s : State) (r : Red) : State :=
  let c := r.cid
  let rg := s.fld Fld.BKN_CTX_BUF_FOLD c.val
  let heldF := s.fab.folds.any fun x => x.cid == c && x.group == r.group && x.rtag == r.rtag
  let want := s.flag Fld.BKN_GRP_FOLD r.group.toNat && s.flag Fld.BKN_CTX_BUF_FOLD_V c.val
  if want && !s.rgnOfCtx c rg then s.faultCtx c Ev.MEM_RANGE (srcIod (s.planeList.headD 0))
  else match (if want && !heldF then firstFit (s.foldUsed c) (s.rgnSize rg) (foldLen r.src) else none) with
    | some off =>
      let f : Fold := { cid := c, group := r.group, rtag := r.rtag, exp := r.exp, fmt := r.fmt, vals := r.src, off := off }
      { s.memWrite (s.placed c (s.rgnBase rg + off) (foldLen r.src)).1 (foldBytes f) with fab := { s.fab with folds := s.fab.folds ++ [f] } }.dieEvent 16
    | none => (s.bump Fld.BKN_STATUS_FOLD_DROP).raise Ev.BKN_FOLD_DROP srcDev (some c)

/-- Every die of PLANES runs. -/
def State.diesRun (s : State) : Bool := s.planeList.all s.dieRuns

/-- An I/O die runs 64 reductions at once; one whose REDUCE has issued, or that has been decided, runs until its hand-over (R426; DEDUCED,
log entry 135). -/
def State.redRoom (s : State) : Bool := (s.fab.reds.filter fun x => (x.issued || x.decided) && !x.complete).length < 64

/-- REDUCE_READ_HS (R432, R433): the REDUCE issues, HS and HSR being complete. One whose hand-over is complete is late and registered no
longer. -/
def execReduceReadHs (no : Nat) (s : State) : Host.Outcome State Fault Refusal :=
  match s.fab.reds.find? fun r => r.no == no && r.dispatched && !r.issued with
  | none => .next s
  | some r =>
    let fresh := !r.firstRead
    if !(r.decided || s.redRoom) || !s.diesRun || (fresh && !s.completeAt r.hs no r.set) ||
        (fresh && !s.completeAt r.hsr no (s.hnd r.hsr).set) then .next s
    else
      let i := (stationsOf r.set).headD 0
      let sc := s.bunkRead i ((s.hnd r.hsr).rowAt 0) 16
      let fmt := if fieldN (leAt sc.data 1 1) 3 1 = 1 then 1 else 2
      let x := sc.st.readHs r
      match (if sc.ue then some i else x.2.2) with
      | some j => .next (x.2.1.faultCtx r.cid Ev.BNK_UE (srcStn j))
      | none =>
        if fresh && (s.hnd r.hs).fmt.toNat ≠ fmt then .next (x.2.1.faultCtx r.cid Ev.NUM_MODE (srcIod (s.planeList.headD 0)))
        else
          let s := if r.hsr = r.hs then x.2.1 else x.2.1.endAccs (fun a => a.no == no && a.h == r.hsr) (BitVec.allOnes 96)
          let r := { r with issued := true, firstRead := true, src := x.1, exp := if fresh then signedN (leAt sc.data 0 1) 8 else r.exp }
          if r.complete then .next (((s.putRed { r with src := [] }).endNo no).lateFold r)
          else .next (if r.decided then (s.putRed r).lateFold r else s.putRed r)

/-- The fold that a member holds is taken at its next decision, as the region holds it (R427, R434); its place in the region is marked
free. -/
def State.takeFold (s : State) (r : Red) : State × Red :=
  match s.fab.folds.find? fun f => f.cid == r.cid && f.group == r.group && f.rtag == r.rtag with
  | none => (s, r)
  | some f =>
    let a := s.rgnBase (s.fld Fld.BKN_CTX_BUF_FOLD r.cid.val) + f.off
    let n := 2 * f.vals.length
    let q := s.readUE (s.placed r.cid (a + 64) n).1 n
    let s := q.2.1.memWrite (q.2.1.placed r.cid a 1).1 [0]
    let s := { s with fab := { s.fab with folds := s.fab.folds.filter fun x => x != f } }
    let vals := (List.range f.vals.length).map fun k => BitVec.ofNat 16 (leAt q.1 (2 * k) 2)
    (s.collUE r.cid q.2.2, if q.2.2.isSome then r else { r with fold := some { f with vals := vals } })

/-- REDUCE_DECIDE (R432): at the decision bell, or at a full count. -/
def execReduceDecide (no : Nat) (s : State) : Host.Outcome State Fault Refusal :=
  match s.fab.reds.find? fun r => r.no == no && !r.decided with
  | none => .next s
  | some r =>
    let late := r.dbell ≤ s.bellNow
    if !(late || r.full) || !(r.issued || s.redRoom) || !s.diesRun then .next s
    else
      let q := s.takeFold { r with decided := true, contributes := r.dispatched && r.issued, atBell := !r.full }
      let s := if r.full then q.1 else q.1.dieEvent 15
      .next (s.redPump q.2)

/-! ### The hand-over (R431, R349, R377) -/

/-- Every block of every plane is delivered. -/
def Red.allBlocks (r : Red) : Bool := (List.range r.nblk).all fun b => (SMap.val r.blocks none b).isSome

/-- The statistics of a station as HSTAT holds them (R377). -/
def Red.statWords (r : Red) (i : StationId) : List Nat :=
  let ho := r.over
  let int (k : Int) : Nat := rne32 (.fin (decide (k < 0)) k.natAbs 0)
  [int ho.n, int ho.er, if ho.nf then one32 else 0, int ho.nlate] ++ ((List.range r.rows).map fun row => ho.rowP i row) ++
    (List.range (r.rows / 128)).flatMap fun g => (List.range r.cols).map fun c => ho.colP i g c

/-- The reduced tensor goes to HDST, and the statistics to HSTAT. -/
def State.toHandles (s : State) (r : Red) : State :=
  let hd := s.hnd r.hdst
  let ht := s.hnd r.hstat
  let ho := r.over
  let s := (stationsOf r.set).foldl (fun s i =>
    (List.range r.rows).foldl (fun s row => s.rowWrite hd i row ((List.range r.cols).map fun c => ho.q i row c)) s) s
  let s := s.addFill r.hdst r.rows
  if !r.stats then s
  else
    let k := 4 + r.rows + r.rows / 128 * r.cols
    let rows := ceilDiv k ht.colsN
    let s := (stationsOf r.set).foldl (fun s i =>
      let ws := r.statWords i
      (List.range rows).foldl (fun s j => s.tileRow ht i j ((ws.drop (j * ht.colsN)).take ht.colsN)) s) s
    s.addFill r.hstat rows

/-- A mill that holds the reduction's MILLSTEP counts its hand-over (R387). -/
def State.countHandover (s : State) (r : Red) : State :=
  (List.finRange 2).foldl (fun s m => if (s.mill m).queue.any (·.red == r.no) then s.handReceived m r else s) s

/-- HANDOVER_COMPLETE (R431): to the mill with DEST 0, to HDST and HSTAT with DEST 1. A REDUCE that has not issued stays a reader of HS
and HSR until it does (DEDUCED, log entry 135). -/
def execHandoverComplete (no : Nat) (s : State) : Host.Outcome State Fault Refusal :=
  match s.fab.reds.find? fun r => r.no == no && r.dispatched && !r.complete with
  | none => .next s
  | some r =>
    let ready := !r.dest || (s.writableAt r.hdst no r.set && (!r.stats || s.writableAt r.hstat no r.set))
    if !r.allBlocks || !ready || !s.diesRun then .next s
    else
      let s := if r.dest then s.toHandles r else s
      let s := if r.issued then s.endNo no else s.endAccs (fun a => a.no == no && a.wr) (BitVec.allOnes 96)
      let done := { r with complete := true, held := [], shares := [], src := [] }
      let s := { s with fab := { s.fab with reds := (s.fab.reds.filter fun (x : Red) => x.no != no) ++ [done] } }
      let n := r.over.n
      let w := r.rtag.toNat + r.group.toNat * 2 ^ 16 + n * 2 ^ 32
      .next ((s.countHandover r).trace (srcIod (s.planeList.headD 0)) (some r.cid) 8 (bytesOf 8 w ++ bytesOf 1 r.atBell.toNat))

end Sys2Proof.Machine
end

