-- ==== Sys2Proof/Machine/Regions.lean ====
section
/-! DEFINITION. The region table, purge of device memory, patrol scrub (R306 to R312, R327, R331, R332, R374, R389). -/

namespace Sys2Proof.Machine

/-! ### A relief's parts (R499, R500) -/

/-- Cover entries of a COVER value. -/
def coverCount (cover : Nat) : Nat := cover + 1

/-- Bytes of a part in a unit: hub windows 0 to 3 less the tailings, stockpile halves 4 and 5. -/
def State.partSize (s : State) (cover u : Nat) : Nat :=
  let whole := if u < 4 then unitSize s.variant u - 2 ^ 26 * s.rst.tail.toNat else unitSize s.variant u
  mib2 * (whole / (mib2 * coverCount cover))

/-- One entry of the region table set. -/
def State.setRgn (s : State) (r base size state cls : Nat) : State :=
  let s := (s.setFld Fld.MEM_RGN_A_BASE (base / mib2) r).setFld Fld.MEM_RGN_A_SIZE (size / mib2) r
  (((s.setFld Fld.MEM_RGN_B_STATE state r).setFld Fld.MEM_RGN_B_CLASS cls r).setFld Fld.MEM_RGN_B_SEQ 0 r).setFld Fld.MEM_RGN_B_CTX 0 r

/-- Part `k` of unit `u`, of `n` bytes, is placed. A unit that is not fitted has none. -/
def State.placePart (s : State) (k u n : Nat) : State :=
  if n = 0 then s else s.setRgn (204 + 6 * k + u) (unitBase u + k * n) n 1 2

/-- The parts are placed. -/
def State.placeParts (s : State) (cover : Nat) : State :=
  (List.range (coverCount cover)).foldl (fun s k => (List.range 6).foldl (fun s u => s.placePart k u (s.partSize cover u)) s) s

/-- An entry that holds one of the relief's parts; privileged writes to it are discarded. -/
def State.partEntry (s : State) (r : Nat) : Bool := 204 ≤ r && r < 252 && s.flag Fld.RLF_CFG_ROLE

/-- ROLE and COVER take new values; the parts of a relief are placed. -/
def State.applyRole (s : State) (role : Bool) (cover : Nat) : State :=
  let s := (s.setFld Fld.RLF_CFG_ROLE role.toNat).setFld Fld.RLF_CFG_COVER cover
  let s := { s with rlf := { s.rlf with rolePending := none } }
  if role then s.placeParts cover else s

/-- A role that waits takes effect once the old parts are purged. -/
def State.roleWaits (s : State) : State :=
  match s.rlf.rolePending with
  | some p => if (List.range 48).all fun k => s.rgnState (204 + k) == 0 then s.applyRole p.1 p.2.toNat else s
  | none => s

/-! ### Purge of regions (R308, R374) -/

/-- The purge queue of a region: its hub, or the mill of its half. -/
def State.purgeMill (s : State) (r : Nat) : Option (Fin 2) :=
  if s.rgnBase r < stkBase then none else some (Fin.ofNat 2 ((s.rgnBase r - stkBase) / stkWindow))

/-- A region becomes PURGE_PENDING, last in its purge queue. -/
def State.purgeRegion (s : State) (r : Nat) : State :=
  let t := s.setFld Fld.MEM_RGN_B_STATE 2 r
  match s.purgeMill r with
  | none => { t with hbmPurge := t.hbmPurge ++ [r] }
  | some m => t.modMill m fun x => { x with purge := x.purge ++ [r] }

/-- The allocated regions of a context become PURGE_PENDING (R230). -/
def State.purgeRegions (s : State) (c : Cid) : State :=
  (List.range 256).foldl (fun s r => if s.rgnState r == 1 && s.rgnOfCtx c r then s.purgeRegion r else s) s

/-- The ranges that an accepted update works on: its state, its record, its write-back into HBM. -/
def State.updateAreas (s : State) (u : Update) : List (Nat × Nat) :=
  s.placed u.cid u.recAddr 192 :: (u.areas ++ (if u.hwv then [] else [(u.t.wb, ceilDiv (u.t.rows * u.t.cols * fmtBits u.t.wfmt) 8)]))

/-- The KRON slot that a background refresh works on (R368, R370). -/
def Refresh.area (r : Refresh) : Nat × Nat :=
  (r.slot, 256 + ceilDiv r.rows r.blk * ceilDiv r.cols r.blk * (256 + 24 * r.blk * r.blk))

/-- Ranges that accesses begun earlier still have to reach: LDSs on their way, stores not yet visible, accepted updates, background
refreshes (R308, R374; DEDUCED, log entry 128). -/
def State.inFlight (s : State) : List (Nat × Nat) :=
  (allCids.flatMap fun c => (((s.ctx c).lds.filter fun l => l.space == 0).map fun l => (l.addr, 8)) ++
    (s.ctx c).stores.map fun p => (p.1, 8)) ++
    ((s.mill0.queue ++ s.mill1.queue ++ s.vus).filter (·.accepted)).flatMap s.updateAreas ++
    ((s.mill0.refresh ++ s.mill1.refresh).filter fun r => !r.finished).map Refresh.area

/-- An access already in flight reaches the region. -/
def State.rgnAccess (s : State) (r : Nat) : Bool := s.inFlight.any (overlaps (s.rgnArea r))

/-! ### Tailings (R312) -/

/-- The stacks of a hub wait for, or are under, their zero-fill. -/
def State.hubFilling (s : State) (h : Nat) : Bool := (List.range 3).any fun k => bit (s.rst.memInit ||| s.rst.memDue) (3 * h + k)

/-- The tailings of a hub are placed, while T > 0: from step 6 on, once its stacks are filled, its entry is FREE and no other region lies
there (DEDUCED, log entry 129). -/
def State.placeTail (s : State) (h : Nat) : State :=
  let t := s.rst.tail.toNat
  let r := 252 + h
  let top := if s.variant.stacks = 3 then 102996 else 68664
  let base := hubWindow * h / mib2 + top - 32 * t
  let area := (mib2 * base, mib2 * (32 * t))
  if t = 0 || s.rst.step < 6 || s.rgnState r != 0 || s.hubFilling h || s.rgnUsed.any (fun k => overlaps area (s.rgnArea k)) then s
  else
    let s := (s.setFld Fld.MEM_RGN_A_BASE base r).setFld Fld.MEM_RGN_A_SIZE (32 * t) r
    (((s.setFld Fld.MEM_RGN_B_STATE 1 r).setFld Fld.MEM_RGN_B_CLASS 3 r).setFld Fld.MEM_RGN_B_SEQ 0 r).setFld Fld.MEM_RGN_B_CTX 0 r

/-- The tailings that can be placed. -/
def State.placeTailings (s : State) : State := (List.range 4).foldl State.placeTail s

/-! ### The end of a purge -/

/-- The zero-fill of a region has ended: it is FREE. What a mill holds of a KRON slot there is gone. -/
def State.freeRegion (s : State) (r : Nat) : State :=
  let a := s.rgnArea r
  let drop (x : Mill) : Mill := { x with refresh := x.refresh.filter fun y => !overlaps a y.area }
  (((s.memZero a.1 a.2).setFld Fld.MEM_RGN_B_STATE 0 r).modMill 0 drop).modMill 1 drop

/-- HBM_PURGE_DONE (R308): the region that became pending first in its hub window, once no access in flight reaches it. -/
def execHbmPurgeDone (r : Fin 256) (s : State) : Host.Outcome State Fault Refusal :=
  let h := memHub (s.rgnBase r.val)
  let first := (s.hbmPurge.filter fun k => memHub (s.rgnBase k) == h).head?
  .next (if first = some r.val ∧ s.regionRuns (48 + h.val) ∧ !s.rgnAccess r.val then
      { s.freeRegion r.val with hbmPurge := s.hbmPurge.filter (· != r.val) }.roleWaits.placeTailings
    else s)

/-- STOCKPILE_PURGE_DONE (R374): the first of its mill's regions, once no access in flight reaches it. -/
def execStockpilePurgeDone (r : Fin 256) (s : State) : Host.Outcome State Fault Refusal :=
  .next (match s.purgeMill r.val with
    | none => s
    | some m =>
      if (s.mill m).purge.head? = some r.val ∧ s.regionRuns (56 + m.val) ∧ !s.rgnAccess r.val then
        (((s.freeRegion r.val).bump Fld.MILL_PURGE_DONE (s.fld Fld.MEM_RGN_A_SIZE r.val) m.val).modMill m fun x =>
          { x with purge := x.purge.filter (· != r.val) }).roleWaits
      else s)

/-! ### The table's registers (R306, R307, R312, R331, R332) -/

/-- The entry is one of the tailings entries while T > 0. -/
def State.tailEntry (s : State) (r : Nat) : Bool := 252 ≤ r && s.rst.tail != 0

/-- The rules of R306 for an entry that is to be ALLOCATED. -/
def State.rgnOk (s : State) (r : Nat) : Bool :=
  let a := s.rgnBase r
  let n := s.rgnSize r
  n != 0 && assigned s.variant a n &&
    (List.range 256).all fun k => k == r || s.rgnState k == 0 || !(a < s.rgnBase k + s.rgnSize k && s.rgnBase k < a + n)

/-- The unit of memory is waiting for, or under, its zero-fill after a reset (R597). -/
def State.rgnFilling (s : State) (r : Nat) : Bool :=
  let m := s.rst.memInit ||| s.rst.memDue
  let a := s.rgnBase r
  if a < stkBase then s.hubFilling (memHub a).val else bit m (12 + (a - stkBase) / stkWindow)

/-- A privileged write of STATE = 1 to a FREE entry (R307). Class 3 is set only by R312: such a write is discarded. -/
def State.allocRgn (s : State) (r : Nat) (v : Word) : WOut :=
  let off := 0x702008 + 0x10 * r
  let o : WOut := { st := s }
  if s.rgnState r != 0 || bits v 2 2 == 3 then o
  else if !s.rgnOk r then o.outside off
  else if s.rgnFilling r then o.reject off
  else o.map fun s =>
    (((s.setFld Fld.MEM_RGN_B_STATE 1 r).setFld Fld.MEM_RGN_B_CLASS (bits v 2 2) r).setFld Fld.MEM_RGN_B_SEQ (bits v 4 1) r).setFld
      Fld.MEM_RGN_B_CTX (bits v 5 2) r

/-- A privileged write of STATE = 2 to an ALLOCATED entry (R307). -/
def State.releaseRgn (s : State) (r : Nat) : WOut := { st := if s.rgnState r = 1 then s.purgeRegion r else s }

/-- MEM_RGN_B. -/
def State.wrRgnB (s : State) (who : Requester) (r : Nat) (state : Nat) (v : Word) : WOut :=
  s.privWrite who fun o =>
    if o.st.tailEntry r || o.st.partEntry r then o
    else match state with
      | 1 => o.st.allocRgn r v
      | 2 => o.st.releaseRgn r
      | _ => o

/-- MEM_RGN_A: written only while its entry is FREE. -/
def State.wrRgnA (s : State) (who : Requester) (r : Nat) (v : Word) : WOut :=
  s.privWrite who fun o =>
    if o.st.tailEntry r || o.st.partEntry r then o
    else if o.st.rgnState r != 0 then o.reject (0x702000 + 0x10 * r)
    else o.map fun s => (s.setFld Fld.MEM_RGN_A_BASE (bits v 0 27) r).setFld Fld.MEM_RGN_A_SIZE (bits v 27 26) r

/-- RGN_ALLOCATE (R307). -/
def execRgnAllocate (who : Requester) (r : Fin 256) (v : Word) (s : State) : Host.Outcome State Fault Refusal :=
  .next (s.wrRgnB who r.val 1 v).st

/-- RGN_RELEASE (R307). -/
def execRgnRelease (who : Requester) (r : Fin 256) (v : Word) (s : State) : Host.Outcome State Fault Refusal :=
  .next (s.wrRgnB who r.val 2 v).st

/-! ### Patrol scrub (R310, R311, R327) -/

/-- MEM_SCRUB_CTL: a PERIOD of 0 is discarded with CFG_RANGE; EN of the same write takes effect. -/
def State.wrScrubCtl (s : State) (v : Word) : WOut :=
  let o : WOut := { st := s.setFld Fld.MEM_SCRUB_CTL_EN (bits v 0 1) }
  if bits v 8 8 = 0 then o.outside 0x700008 else o.map (·.setFld Fld.MEM_SCRUB_CTL_PERIOD (bits v 8 8))

/-- The domain of a controller. -/
def ctrlDom (n : Nat) : Nat := if n < 12 then 24 + n else 42 + (n - 12)

/-- A scrub read of the word at device address `a`. -/
def State.patrol (s : State) (a : Nat) : State :=
  match s.memBits.found a 8 with
  | [] => s
  | p :: _ =>
    let t := s.memError true p
    if p.2 ≠ .ue then t
    else if s.rgnUsed.any fun r => s.rgnHolds r a 8 then t.raise Ev.MEM_UE (srcHbm (memCtrl s.variant a))
    else t.memZero (a / 4096 * 4096) 4096

/-- PATROL_SCRUB (R311). -/
def execPatrolScrub (ctrl : Fin 14) (offset : Nat) (s : State) : Host.Outcome State Fault Refusal :=
  let a := ctrlAddr s.variant ctrl.val (offset / 8 * 8)
  .next (if s.flag Fld.MEM_SCRUB_CTL_EN && s.domOn (ctrlDom ctrl.val) && !s.stopDevice && assigned s.variant a 8 &&
      memCtrl s.variant a == ctrl.val then s.patrol a
    else s)

end Sys2Proof.Machine
end

