-- ==== Sys2Proof/Machine/Securing.lean ====
section
/-! DEFINITION. Securing (R495 to R514): plans and their check, what a securing writes and where, its course, commit records;
MARKPOS and RNGSAVE (R208). -/

namespace Sys2Proof.Machine

/-! ### Declared regions (R501, R508) -/

/-- The regions that RLF_DECL0 and RLF_DECL1 list, in their order. -/
def State.declIndices (s : State) : List Nat :=
  (([0, 1].flatMap fun k => (List.range 8).map fun n => fieldN (s.fld Fld.RLF_DECL_REGIONS k) (8 * n) 8)).filter (· != 0xFF)

/-- The declared regions that the secured context's addresses lie in: on an activated relief those of the assumed identity. -/
def State.declList (s : State) (c : Cid) : List (Nat × Nat) :=
  match s.rlf.act with
  | some x => if x.cid == s.lead c then x.decl else s.declIndices.map s.rgnArea
  | none => s.declIndices.map s.rgnArea

/-- A range lies in a declared region. -/
def State.declared (s : State) (c : Cid) (x : Nat × Nat) : Bool := (declPlace s.variant (s.declList c) x.1 x.2).isSome

/-- The footprint in a unit: hub windows 0 to 3, stockpile halves 4 and 5. -/
def State.footprint (s : State) (c : Cid) (u : Nat) : Nat :=
  (if u < 4 then 192 * 2 ^ 20 else 0) + (if u = 0 then 16 * 2 ^ 20 else 0) +
    (((s.declList c).filter fun x => (memUnit s.variant x.1).map (·.1) == some u).map (·.2)).sum

/-! ### Plans (R505, R506) -/

/-- An item from its four words. -/
def planItem (b : List Byte) (i : Nat) : PItem :=
  let w := leAt b (32 * i) 8
  ⟨fieldN w 0 8, fieldN w 9 1 == 1, BitVec.ofNat 12 (fieldN w 16 12), BitVec.ofNat 64 (leAt b (32 * i + 8) 8),
    BitVec.ofNat 64 (leAt b (32 * i + 16) 8)⟩

/-- No reserved bit of the item is set, and its fields have values of their ranges; what R505 gives no meaning for a KIND counts as
reserved (DEDUCED, log entry 46). -/
def planItemOk (b : List Byte) (i : Nat) : Bool :=
  let w := leAt b (32 * i) 8
  let it := planItem b i
  onlyFields w [(9, 0), (27, 16)] && leAt b (32 * i + 24) 8 == 0 &&
    (match it.kind with
     | 1 => it.aux == 0 && it.w2 == 0
     | 2 => it.aux == 0 && it.w1.toNat % 256 == 0 && it.w2.toNat % 256 == 0
     | 3 => it.w1 == 0 && it.w2 == 0
     | 4 => it.aux.toNat < 16 && it.w1 == 0 && it.w2 == 0
     | 5 => it.aux.toNat < 1024 && it.w1.toNat < 2 ^ 24 && it.w2 == 0
     | _ => false)

/-- The header's bytes: TYPE 4, NITEMS in its range, reserved bytes zero. -/
def planHeadOk (b : List Byte) : Bool :=
  leAt b 0 1 == 4 && leAt b 1 1 == 0 && 1 ≤ leAt b 2 2 && leAt b 2 2 ≤ 4096 && leAt b 4 4 < 2 ^ 17 &&
    (List.range 56).all fun i => leAt b (8 + i) 1 == 0

/-- What a plan holds once checked. -/
structure Plan where
  items : List PItem
  anchor : NodeId
  areas : SMap (List (Nat × Nat))

structure PlanRes where
  st : State
  res : Except (BitVec 16) Plan

/-- Bytes of a handle's region. -/
def Handle.bytes (h : Handle) : Nat := h.rows.toNat * h.strideB

/-- Stations of a set served by a hub. -/
def hubStations (set : StationSet) (h : Nat) : List StationId := (stationsOf set).filter fun i => (hubOfStn i).val == h

/-- The bytes that the HANDLE items before item `n` take in a hub's stage region. -/
def State.stageUsed (s : State) (items : List PItem) (h n : Nat) : Nat :=
  ((items.take n).filter fun it => it.kind == 3).foldl (fun a it =>
    let x := s.hnd it.aux
    a + (hubStations x.set h).length * x.bytes) 0

/-- The stage region of a hub. -/
def State.stageArea (s : State) (h : Nat) : Option (Nat × Nat) :=
  if fieldN (s.fld Fld.RLF_CTX_STAGE_VALID) h 1 = 1 then some (s.rgnArea (fieldN (s.fld Fld.RLF_CTX_STAGE_REGION) (8 * h) 8)) else none

/-- The coefficient table that judges a record: its mill's, or the context's VUPDATE table. -/
def State.tableOf (s : State) (c : Cid) (a : Nat) : Nat :=
  if s.variant == .base then 2 + (s.lead c).val else (s.millOf c a).val

/-- The fault of one item, with the areas of a TENSOR. -/
def State.checkItem (s : State) (c : Cid) (it : PItem) : State × Except (BitVec 16) (List (Nat × Nat)) :=
  let range (l : List (Nat × Nat)) : Except (BitVec 16) (List (Nat × Nat)) :=
    if l.all (s.declared c) then .ok l else .error Ev.MEM_RANGE
  match it.kind with
  | 1 =>
    let a := it.w1.toNat
    let tgt := s.tableOf c a
    let r := s.recCheck c tgt a none none (if tgt < 2 then busyAreas (s.mill (Fin.ofNat 2 tgt)).queue else []) true
    match r.res with
    | .error f => (r.st, .error f)
    | .ok k => (r.st, range k.named)
  | 2 => (s, range [(it.w1.toNat, it.w2.toNat)])
  | 3 => (s, if (s.handleFault c it.aux 0).isNone then .ok [] else .error Ev.BNK_HANDLE)
  | 4 => (s, range (s.storeAreas it.aux.toNat))
  | _ => (s, .ok [])

/-- The items in plan order; the first fault ends the check. -/
def State.checkItems (s : State) (c : Cid) : List PItem → Nat → SMap (List (Nat × Nat)) → PlanRes × SMap (List (Nat × Nat))
  | [], _, m => (⟨s, .ok ⟨[], 0, []⟩⟩, m)
  | it :: t, n, m =>
    let r := s.checkItem c it
    match r.2 with
    | .error f => (⟨r.1, .error f⟩, m)
    | .ok l => State.checkItems r.1 c t (n + 1) (if it.kind = 1 then SMap.put m [] n l else m)

/-- The fold region is declared, and the stage region is declared and large enough. -/
def State.planRegions (s : State) (c : Cid) (items : List PItem) : Option (BitVec 16) :=
  let used (h : Nat) : Nat := s.stageUsed items h items.length
  let stages := (List.range 4).filterMap s.stageArea
  let small (h : Nat) : Bool := match s.stageArea h with
    | some x => x.2 < used h
    | none => 0 < used h
  firstFault [need ((s.foldArea (s.lead c) ++ stages).all (s.declared c)) Ev.MEM_RANGE,
    need (!(List.range 4).any small) Ev.BNK_SHAPE]

/-- The check of the plan at an address (R506). A plan that is not aligned, lies outside the context's HBM regions or cannot be
read faults as the context's other records do (DEDUCED, log entry 46). -/
def State.planCheck (s : State) (c : Cid) (a : Nat) : PlanRes :=
  let fail (s : State) (f : BitVec 16) : PlanRes := ⟨s, .error f⟩
  if a % 64 != 0 then fail s Ev.MEM_ALIGN
  else match s.ctxAddr c a 64 with
    | none => fail s Ev.MEM_RANGE
    | some pa =>
      if stkBase ≤ a then fail s Ev.MEM_RANGE
      else
        let h := s.memRead pa 64
        if h.ue then fail h.st Ev.MEM_UE
        else if !planHeadOk h.data then fail h.st Ev.MILL_RECORD
        else
          let n := leAt h.data 2 2
          match s.ctxAddr c (a + 64) (32 * n) with
          | none => fail h.st Ev.MEM_RANGE
          | some pi =>
            let b := h.st.memRead pi (32 * n)
            if b.ue then fail b.st Ev.MEM_UE
            else if !(List.range n).all (planItemOk b.data) then fail b.st Ev.MILL_RECORD
            else
              let items := (List.range n).map (planItem b.data)
              let r := b.st.checkItems c items 0 []
              match r.1.res with
              | .error f => fail r.1.st f
              | .ok _ =>
                match r.1.st.planRegions c items with
                | some f => fail r.1.st f
                | none => ⟨r.1.st, .ok ⟨items, BitVec.ofNat 17 (leAt h.data 4 4), r.2⟩⟩

/-! ### Where a securing writes (R507, R508) -/

/-- The reliefs that are paired. -/
def State.pairedReliefs (s : State) : List Nat := [0, 1].filter fun n => (s.pairing n).paired
def State.reliefId (s : State) (n : Nat) : NodeId := BitVec.ofNat 17 (s.fld Fld.RLF_RELIEF_IDENT n)
def State.seqOf (s : State) (n : Nat) : Nat := if n = 0 then s.rlf.seq0 else s.rlf.seq1

/-- A destination: whom the writes go to, the bases of its slot by unit, the word 3 they carry, and the slot. -/
structure Target where
  dst : NodeId
  base : Nat → Nat
  seq : Nat
  slot : Bool

/-- The targets of a securing (R512): an odd SEQ writes slot A. -/
def State.targetsOf (s : State) (z : Securing) : List Target :=
  match z.copyTo with
  | some id => [⟨id, fun u => z.bases.getD u 0, 1, z.bases.getD 6 0 == 1⟩]
  | none => z.targets.map fun n =>
    let q := s.seqOf n
    let b := q % 2 == 0
    ⟨s.reliefId n, fun u => (s.pairing n).bases.getD (u + (if b then 6 else 0)) 0, q, b⟩

/-- Bytes cut into messages' payloads. -/
def pieces (n : Nat) : Nat → List Byte → List (Nat × List Byte)
  | 0, _ => []
  | fuel + 1, b => if b.isEmpty then [] else
      (0, b.take n) :: (pieces n fuel (b.drop n)).map fun p => (p.1 + n, p.2)

/-- Remote writes on VL3 (R510), of at most 65,536 bytes each. -/
def State.secWrite (s : State) (t : Target) (u off : Nat) (b : List Byte) : State :=
  (pieces 65536 (b.length / 65536 + 1) b).foldl (fun s p =>
    s.sendMsg (s.msg t.dst 3 5 [BitVec.ofNat 64 (t.base u + off + p.1), BitVec.ofNat 64 p.2.length, BitVec.ofNat 64 t.seq] p.2)) s

/-- To every target. -/
def State.secWriteAll (s : State) (z : Securing) (u off : Nat) (b : List Byte) : State :=
  (s.targetsOf z).foldl (fun s t => s.secWrite t u off b) s

/-- Where the bunker image of a station begins (R508). -/
def imageAt (i : StationId) : Nat × Nat :=
  let h := i.val / 24
  (h, (if h = 0 then 16 * 2 ^ 20 else 0) + i.val % 24 * 2 ^ 23)

/-- The end of the control block's place. -/
def ctlStart : Nat := 4096

/-! ### The control block (R507): a list of sections of words, each after its length (DESIGN CHOICE, log entry 45) -/

/-- The configuration fields that the control block holds. -/
def ctlFields : List Fld :=
  [Fld.SEQ_CTX_CFG_SEAM, Fld.SEQ_CTX_CFG_JOIN, Fld.SEQ_CTX_CFG_SLIP_EN, Fld.SEQ_CTX_CFG_SCAN_EN, Fld.SEQ_CTX_SEED_SEED,
   Fld.SEQ_BELL_PERIOD, Fld.SFC_PROFILE_SEAM, Fld.SFC_PROFILE_NUMERICS, Fld.BNK_CTX_RANGE_BASE, Fld.BNK_CTX_RANGE_COUNT,
   Fld.HAUL_Q_OWN_VALID, Fld.HAUL_Q_OWN_SEQ, Fld.HAUL_Q_OWN_CTX, Fld.HAUL_Q_OWN_JOINED, Fld.HAUL_Q_CFG_MODE, Fld.HAUL_Q_CFG_PRI,
   Fld.HAUL_Q_CFG_SB, Fld.HAUL_Q_CFG_DEAL, Fld.MILL_CTX_ENTRY_BASE, Fld.MILL_CTX_ENTRY_COUNT, Fld.BKN_CTX_BUF_LAND,
   Fld.BKN_CTX_BUF_FOLD, Fld.BKN_CTX_BUF_LAND_V, Fld.BKN_CTX_BUF_FOLD_V, Fld.BKN_GRP_BASE, Fld.BKN_GRP_NX, Fld.BKN_GRP_NY,
   Fld.BKN_GRP_NZ, Fld.BKN_GRP_VALID, Fld.BKN_GRP_FOLD, Fld.BKN_GRP_DROP, Fld.BKN_GRP_SEQ, Fld.BKN_GRP_CTX, Fld.BKN_GRP_JOINED,
   Fld.MEM_SS_BASE_SBASE, Fld.MEM_SS_BASE_WBASE, Fld.MEM_SS_CFG_VALID, Fld.MEM_SS_CFG_WEIGHTED, Fld.MEM_SS_CFG_SLOT, Fld.MEM_SS_CFG_N,
   Fld.MEM_SS_CFG_G, Fld.MEM_SS_HEAD_HEAD, Fld.MEM_SMP_CFG_STORE, Fld.MEM_SMP_CFG_EVAL_STORE, Fld.MEM_SMP_CFG_NOREPL,
   Fld.MEM_SMP_CFG_RPS, Fld.MEM_SMP_CFG_WLIM]

/-- A run of `ctlFields` at an index pair. -/
def ctlRun (lo n i j : Nat) : List (Nat × Nat × Nat) := (List.range n).map fun k => (lo + k, i, j)

/-- The stores of a context: those its sampler and its plan name. -/
def State.ctxStores (s : State) (c : Cid) (items : List PItem) : List Nat :=
  ([s.smpStore c false, s.smpStore c true] ++ (items.filter fun it => it.kind == 4).map fun it => it.aux.toNat).eraseDups

/-- The fields of the context's configuration, each with its register's indices. -/
def State.ctlPlaces (s : State) (c : Cid) (items : List PItem) : List (Nat × Nat × Nat) :=
  let l := s.lead c
  let seqJoin := (cSeq l, cLow l)
  ((s.copies l).flatMap fun d => ctlRun 0 5 d.val 0) ++ ctlRun 5 3 0 0 ++ ctlRun 8 2 l.val 0 ++
    (allQueues.flatMap fun hq =>
      if s.flag Fld.HAUL_Q_OWN_VALID hq.1.val hq.2.val && s.fld Fld.HAUL_Q_OWN_SEQ hq.1.val hq.2.val == seqJoin.1 &&
          s.fld Fld.HAUL_Q_OWN_CTX hq.1.val hq.2.val == seqJoin.2 then ctlRun 10 8 hq.1.val hq.2.val else []) ++
    ctlRun 18 2 l.val 0 ++ ctlRun 20 4 l.val 0 ++
    ((List.range 1024).flatMap fun g =>
      if s.flag Fld.BKN_GRP_VALID g && s.fld Fld.BKN_GRP_SEQ g == seqJoin.1 && s.fld Fld.BKN_GRP_CTX g == seqJoin.2 then ctlRun 24 10 g 0
      else []) ++
    ((s.ctxStores l items).flatMap fun k => ctlRun 34 8 k 0) ++ ctlRun 42 5 l.val 0

/-- The last-bell image as words. -/
def imageWords (p : ProgState) : List Nat :=
  [p.pc.toNat, p.step.toNat, p.evalCnt.toNat, p.evalFlag.toNat, p.cross.toNat] ++
    ((List.range 32).map fun r => (SMap.val p.sregs 0 r).toNat) ++ ((List.range 4).map fun r => (SMap.val p.loops 0 r).toNat) ++
    ((List.range 4).map fun r => (SMap.val p.loopAddr 0 r).toNat) ++
    (List.range 8).flatMap fun r => let m := (SMap.val p.masks 0 r).toNat; [m % 2 ^ 64, m / 2 ^ 64]

/-- A handle-table entry as words; the last tells whether a HANDLE item covers it. -/
def handleWords (items : List PItem) (p : HandleId × Handle) : List Nat :=
  let x := p.2
  [p.1.toNat, x.set.toNat % 2 ^ 64, x.set.toNat / 2 ^ 64,
    x.bank.toNat + x.off.toNat * 2 ^ 4 + x.fmt.toNat * 2 ^ 15 + x.cls.toNat * 2 ^ 19 + x.rows.toNat * 2 ^ 21 + x.cols.toNat * 2 ^ 41,
    x.stride.toNat, (items.any fun it => it.kind == 3 && it.aux == p.1).toNat]

/-- The record of RNGSAVE (R208). -/
def rngRecord (seed step evalCnt : Word) (eval : Bool) : List Byte :=
  bytesOf 8 seed.toNat ++ bytesOf 8 step.toNat ++ bytesOf 8 evalCnt.toNat ++ bytesOf 8 eval.toNat

def State.ctxRngRecord (s : State) (c : Cid) (p : ProgState) : List Byte :=
  rngRecord (BitVec.ofNat 64 (s.fld Fld.SEQ_CTX_SEED_SEED (s.lead c).val)) (p.step.setWidth 64) (p.evalCnt.setWidth 64) p.evalFlag

/-- The tables that hold coefficients of the context. -/
def State.ctlTables (s : State) (c : Cid) : List Nat :=
  if s.variant == .base then [2 + (s.lead c).val] else (List.range 2).filter s.variant.hasMill

/-- Its active coefficient entries: table, entry and field, value; its GSCALE. -/
def State.ctlCoefs (s : State) (c : Cid) : List Nat :=
  let l := s.lead c
  (s.ctlTables c).flatMap fun t =>
    let b := s.coefActive t c
    s.coef.flatMap fun p =>
      let e := p.1 / 256 % 4096
      let f := p.1 % 256
      if p.1 / 2 ^ 20 = 2 * t + b && (if e = 0xFFF then f == l.val else s.entryOk (2 ≤ t) c e) then [t, 256 * e + f, p.2.toNat] else []

/-- The control block's sections for a context and its plan. -/
def State.ctlSections (s : State) (c : Cid) (items : List PItem) (anchor : NodeId) : List (List Nat) :=
  let l := s.lead c
  let y := s.smp l
  let img := (s.ctx l).image
  [imageWords img,
   packWords (s.ctxRngRecord l img ++ posRecord y.train (s.posFlags l false) ++ posRecord y.eval (s.posFlags l true)),
   s.ctlCoefs l,
   (s.ctlTables l).flatMap fun t => [t, s.coefActive t l],
   (s.usedHandles.filter fun p => p.2.owner == l && p.2.st != .purgePending).flatMap (handleWords items),
   (s.ctlPlaces l items).flatMap fun p => [p.1, p.2.1, p.2.2, s.fld (ctlFields.getD p.1 Fld.SFC_ID_VENDOR) p.2.1 p.2.2],
   s.winTable.flatMap fun w => [w.1.toNat, w.2.toNat],
   items.flatMap fun it => [it.kind, it.repl.toNat, it.aux.toNat, it.w1.toNat, it.w2.toNat],
   s.fab.redCnt.flatMap fun p => [p.1, p.2],
   (s.declList l).flatMap fun x => [x.1, x.2],
   [anchor.toNat, l.val],
   (s.ctxStores l items).flatMap fun k => [k, (s.store k).head]]

/-- The block's bytes: its length in bytes, then each section after its own length in words. -/
def ctlBytes (secs : List (List Nat)) : List Byte :=
  let ws := secs.flatMap fun l => l.length :: l
  u64s (8 * (ws.length + 1) :: ws)

/-! ### The course of a securing (R507 to R512) -/

/-- The bytes of a handle's region at a station. -/
def State.regionBytes (s : State) (h : HandleId) (i : StationId) : ReadRes := s.bunkRead i ((s.hnd h).rowAt 0) (s.hnd h).bytes

/-- One part of an item as it is sent: its unit, its offset in the slot, its bytes. -/
structure Part where
  unit : Nat
  off : Nat
  data : List Byte

/-- Ranges named by the context, read from where they lie. -/
def State.readRanges (s : State) (c : Cid) (l : List (Nat × Nat)) : List Part × State × Bool :=
  l.foldl (fun acc x =>
    let r := acc.2.1.memRead (s.placed c x.1 x.2).1 x.2
    match declPlace s.variant (s.declList c) x.1 x.2 with
    | some p => (acc.1 ++ [⟨p.1, p.2, r.data⟩], r.st, acc.2.2 || r.ue)
    | none => (acc.1, r.st, acc.2.2 || r.ue)) ([], s, false)

/-- The stage copy of a HANDLE item, station by station, and its parts. -/
def State.stageCopy (s : State) (z : Securing) (n : Nat) (h : HandleId) : List Part × State × Bool :=
  let x := s.hnd h
  (stationsOf x.set).foldl (fun acc i =>
    let hub := i.val / 24
    let r := acc.2.1.regionBytes h i
    let place := s.stageUsed z.items hub n + ((hubStations x.set hub).findIdx (· == i)) * x.bytes
    let t := match s.stageArea hub with
      | some a => r.st.memWrite (a.1 + place) r.data
      | none => r.st
    let p := imageAt i
    (acc.1 ++ [⟨p.1, p.2 + x.rowAt 0, r.data⟩], t, acc.2.2 || r.ue)) ([], s, false)

/-- An item is read. The fold region counts as the item after the last. -/
def State.readItem (s : State) (z : Securing) (n : Nat) : List Part × State × Bool :=
  match z.items[n]? with
  | some it =>
    match it.kind with
    | 1 => s.readRanges z.cid (SMap.val z.areas [] n)
    | 3 => s.stageCopy z n it.aux
    | 5 => ([], s, false)
    | 2 => s.readRanges z.cid [(it.w1.toNat, it.w2.toNat)]
    | _ => s.readRanges z.cid (s.storeAreas it.aux.toNat)
  | none => s.readRanges z.cid (s.foldArea z.cid)

/-- A flight changed: the securing, or the copy. -/
def State.setFlight (s : State) (z : Securing) : State :=
  if z.copyTo.isSome then { s with rlf := { s.rlf with copy := some z } } else { s with rlf := { s.rlf with securing := some z } }

/-- An item is read and sent to every target; a HANDLE item's read ends its hold (R511). An uncorrectable word faults the context
as for a stream (R225, R310), and the item goes out as read (DESIGN CHOICE, log entry 47). -/
def State.itemRead (s : State) (z : Securing) (n : Nat) : State :=
  let r := s.readItem z n
  let bs := r.1.flatMap (·.data)
  let isH := match z.items[n]? with | some it => it.kind == 3 | none => false
  let s := if r.2.2 then r.2.1.faultCtx z.cid (if isH then Ev.BNK_UE else Ev.MEM_UE) srcDev else r.2.1
  let s := r.1.foldl (fun s p => s.secWriteAll z p.unit p.off p.data) s
  let s := match z.items[n]? with
    | some it => if it.kind = 3 then { s with accs := s.accs.filter fun a => !(a.no == z.no && a.h == it.aux && !z.unread.any fun k =>
        k != n && (match z.items[k]? with | some jt => jt.kind == 3 && jt.aux == it.aux | none => false)) } else s
    | none => s
  s.setFlight { z with unread := z.unread.filter (· != n), digests := SMap.put z.digests (0, 0) n (crcD1 bs, crcD2 bs) }

/-- SECURING_ITEM_READ (R511): of the securing, or else of the catch-up copy. A HANDLE item is read once its handle is complete for
the SECURE. -/
def execSecuringItemRead (idx : Nat) (s : State) : Host.Outcome State Fault Refusal :=
  let ready (z : Securing) : Bool := z.unread.contains idx && (match z.items[idx]? with
    | some it => it.kind != 3 || s.completeAt it.aux z.no (s.hnd it.aux).set
    | none => true)
  .next (match s.flights.find? ready with
    | some z => s.itemRead z idx
    | none => s)

/-- A flight begins: the items to read, HANDLE items held by it, the target slots' records zeroed (R510, R511). -/
def State.startFlight (s : State) (z : Securing) : State :=
  let s := z.items.foldl (fun s it => if it.kind = 3 then s.regReader z.no it.aux (s.hnd it.aux).set else s) s
  (s.setFlight z).secWriteAll z 0 0 (List.replicate 1024 0)

/-- The items of a plan that a flight has to read. -/
def toRead (items : List PItem) (fold : Bool) (keep : PItem → Bool) : List Nat :=
  ((List.range items.length).filter fun n => match items[n]? with
    | some it => it.kind != 5 && keep it
    | none => false) ++ (if fold then [items.length] else [])

/-- R496's interval at a risk level. -/
def State.secInterval (s : State) (r : Nat) : Nat :=
  let i := match r with
    | 0 => s.fld Fld.RLF_INTERVAL_I0
    | 1 => s.fld Fld.RLF_INTERVAL_I1
    | 2 => s.fld Fld.RLF_INTERVAL_I2
    | 3 => s.fld Fld.RLF_INTERVAL_I3
    | 4 => s.fld Fld.RLF_INTERVAL_I4
    | 5 => s.fld Fld.RLF_INTERVAL_I5
    | 6 => s.fld Fld.RLF_INTERVAL_I6
    | _ => s.fld Fld.RLF_INTERVAL_I7
  max 1 (min (max 1 i) (s.fld Fld.RLF_CFG_L))

/-- A SECURE of the context is due (R496). -/
def State.secureDue (s : State) (c : Cid) : Bool :=
  s.securedStep + s.secInterval (s.fld Fld.RLF_CANARY_RISK) ≤ (s.ctx c).prog.step.toNat || s.rlf.pairChanged || s.rlf.copyReq.isSome

/-- A due SECURE that finds none in flight, its plan checked (R506, R510). -/
def State.beginSecuring (s : State) (c : Cid) (p : Plan) : State :=
  let no := s.dispNo
  let z : Securing := { cid := s.lead c, no := no, items := p.items, anchor := p.anchor, areas := p.areas
                        unread := toRead p.items (!(s.foldArea (s.lead c)).isEmpty) fun _ => true
                        risk := s.fld Fld.RLF_CANARY_RISK, l := s.fld Fld.RLF_CFG_L, targets := s.pairedReliefs }
  { s with dispNo := no + 1 }.startFlight z

/-- SECURE (R208, R490, R496, R497, R506). -/
def execSecure (c : Cid) (w : NWords) (s : State) : Host.Outcome State Fault Refusal :=
  .next (s.seqRun c (Enc.atSa w) [w.f 53 49] fun s =>
    s.crossRun c true 1 fun s =>
      s.checked c [need (!(s.ctx c).prog.evalFlag) Ev.EVAL_ILLEGAL, need (s.isSecured c) Ev.RLF_MODE] fun s =>
        let done (s : State) : State := (s.pastReturn c).nextPc c 1
        if !s.secureDue c then done (s.bump Fld.RLF_CNT_NOT_DUE)
        else if s.rlf.securing.isSome then done (s.bump Fld.RLF_CNT_BUSY_SKIP)
        else
          let r := s.planCheck c ((s.ctx c).s (w.f 53 49)).toNat
          match r.res with
          | .error f => r.st.seqFault c f
          | .ok p => done (r.st.beginSecuring c p))

/-- The segment of a SECURE has committed: the step, the bell and the control block at that moment (R507). -/
def State.secureCommit (s : State) (c : Cid) (bell : Nat) : State :=
  match s.rlf.securing with
  | some z =>
    if z.cid = s.lead c ∧ !z.committed then
      { s with rlf := { s.rlf with securing := some { z with
        committed := true, step := (s.ctx z.cid).image.step, bell := BitVec.ofNat 64 bell
        stn := some (z.stn.getD (s.stationImage z.cid)), ctl := ctlBytes (s.ctlSections z.cid z.items z.anchor) } } }
    else s
  | none => s

/-- A flight gives its handles back and ends. -/
def State.endFlight (s : State) (z : Securing) : State :=
  let s := s.endNo z.no
  if z.copyTo.isSome then { s with rlf := { s.rlf with copy := none } } else { s with rlf := { s.rlf with securing := none } }

/-- The securing is abandoned (R512). -/
def State.abandon (s : State) (z : Securing) : State := (s.endFlight z).bump Fld.RLF_CNT_ABANDONED

/-- The segment of a SECURE does not commit: its securing is abandoned (DESIGN CHOICE, log entry 47). -/
def State.secureDrop (s : State) (c : Cid) : State :=
  match s.rlf.securing with
  | some z => if z.cid = s.lead c ∧ !z.committed then s.abandon z else s
  | none => s

/-! ### The commit record (R509, R512, R513) -/

/-- The digest table. -/
def digestTable (z : Securing) : List Byte :=
  let entry (w0 w1 : Nat) (d : Word × Word) : List Byte := u64s [w0, w1, d.1.toNat, d.2.toNat]
  let stn := z.stn.getD []
  ((z.items.zip (List.range z.items.length)).flatMap fun p =>
    entry (p.1.kind + p.1.aux.toNat * 2 ^ 16) p.1.w1.toNat (SMap.val z.digests (0, 0) p.2)) ++
    entry 0 0 (crcD1 stn, crcD2 stn) ++ entry 0 0 (crcD1 z.ctl, crcD2 z.ctl)

/-- The record for a slot. -/
def State.commitRecord (s : State) (z : Securing) (t : Target) : List Byte :=
  let tab := digestTable z
  let typ := if z.copyTo.isSome then 6 else 5
  let b := bytesOf 1 typ ++ bytesOf 1 t.slot.toNat ++ bytesOf 6 0 ++ bytesOf 8 t.seq ++ bytesOf 8 z.step.toNat ++ bytesOf 8 z.bell.toNat ++
    bytesOf 4 s.ownId.toNat ++ bytesOf 1 z.risk ++ bytesOf 1 z.l ++ bytesOf 1 s.variant.code ++ bytesOf 1 (bits s.rst.strap 2 2) ++
    bytesOf 8 (s.fld Fld.SEQ_CTX_SEED_SEED z.cid.val) ++ bytesOf 8 (crcD1 tab).toNat ++ bytesOf 8 (crcD2 tab).toNat ++
    bytesOf 4 (z.items.length + 2) ++ bytesOf 4 0 ++ ((List.range 6).flatMap fun u => bytesOf 8 (s.footprint z.cid u)) ++ List.replicate 896 0
  b ++ bytesOf 4 (crc32c b).toNat ++ bytesOf 4 0

/-- What goes before the record: the control block, the digest table and the station image (R508, R510). -/
def State.sendControl (s : State) (z : Securing) : State :=
  let tab := digestTable z
  let s := s.secWriteAll z 0 ctlStart z.ctl
  let s := s.secWriteAll z 0 (ctlStart + z.ctl.length) tab
  s.secWriteAll z 0 (ctlStart + z.ctl.length + tab.length) (z.stn.getD [])

/-- The flight whose items are all read, with its segment committed. -/
def State.flightReady (s : State) : Option Securing := s.flights.find? fun z => z.committed && z.unread.isEmpty && z.sentAt.isNone

/-- SECURING_COMMIT_RECORD (R510). A catch-up copy ends with it (R522). -/
def execSecuringCommitRecord (s : State) : Host.Outcome State Fault Refusal :=
  .next (match s.flightReady with
    | none => s
    | some z =>
      let t := s.sendControl z
      let t := (s.targetsOf z).foldl (fun t x => t.secWrite x 0 0 (s.commitRecord z x)) t
      if z.copyTo.isSome then { t.endFlight z with rlf := { (t.endFlight z).rlf with copyReq := none, copyBases := [] } }
      else t.setFlight { z with sentAt := some s.bellNow })

/-- A management message (R504): its code and further bits in word 1, words 2 and 3, data (DESIGN CHOICE, log entry 48). -/
def State.mgmt (s : State) (dst : NodeId) (code w1 w2 w3 : Nat) (data : List Byte := []) : State :=
  s.sendMsg (s.msg dst 5 7 [BitVec.ofNat 64 (code + w1 * 2 ^ 8), BitVec.ofNat 64 w2, BitVec.ofNat 64 w3] data)

/-- The securing commits (R512); the former relief is told (R525). -/
def State.commitSecuring (s : State) (z : Securing) : State :=
  let s := s.endFlight z
  let s := (s.setFld Fld.RLF_CTX_SECURED_STEP z.step.toNat).setFld Fld.RLF_CTX_SECURED_VALID 1
  let s := (s.bump Fld.RLF_CNT_SECURED).cnt z.cid 7 1
  let r := s.rlf
  let s := { s with rlf := { r with
    pairChanged := false
    seq0 := if z.targets.contains 0 then r.seq0 + 1 else r.seq0
    seq1 := if z.targets.contains 1 then r.seq1 + 1 else r.seq1
    former := none } }
  match r.former with
  | some id => s.mgmt id 9 0 0 0
  | none => s

/-- A relief's acknowledgement: the securing commits once every paired relief has given one. -/
def State.secAck (s : State) (n : Nat) : State :=
  match s.rlf.securing with
  | some z =>
    if z.sentAt.isNone || !z.targets.contains n then s
    else
      let z := { z with acks := (z.acks ++ [n]).eraseDups }
      if s.pairedReliefs.all z.acks.contains then s.commitSecuring z else s.setFlight z
  | none => s

/-- SECURING_ACK (R512). -/
def execSecuringAck (relief : Fin 2) (s : State) : Host.Outcome State Fault Refusal :=
  .next (if (s.pairing relief.val).paired then s.secAck relief.val else s)

/-- SECURING_ABANDON (R512): 8 bells without an acknowledgement, or a target that is no longer paired; a securing for which no
relief was paired ends so too (DESIGN CHOICE, log entry 47). -/
def execSecuringAbandon (s : State) : Host.Outcome State Fault Refusal :=
  .next (match s.rlf.securing with
    | some z =>
      let late := match z.sentAt with
        | some b => b + 8 ≤ s.bellNow
        | none => false
      if late || z.targets.isEmpty || z.targets.any (fun n => !(s.pairing n).paired) then s.abandon z else s
    | none => s)

/-! ### MARKPOS and RNGSAVE (R208) -/

/-- A record stored at s[SA], in a region of the context. -/
def State.storeRecord (s : State) (c : Cid) (w : NWords) (b : List Byte) : State :=
  let a := ((s.ctx c).s (w.f 53 49)).toNat
  s.checked c [need (s.ctxAddr c a b.length).isSome Ev.MEM_RANGE] fun s =>
    ((s.memWrite ((s.ctxAddr c a b.length).getD a) b).pastReturn c).nextPc c 1

/-- MARKPOS (R208, R323): the committed data position, or inside an evaluation the evaluation position. -/
def execMarkpos (c : Cid) (w : NWords) (s : State) : Host.Outcome State Fault Refusal :=
  .next (s.seqRun c (Enc.atSa w) [w.f 53 49] fun s =>
    s.crossRun c true 1 fun s =>
      let l := s.lead c
      let e := (s.ctx c).prog.evalFlag
      s.storeRecord c w (posRecord (if e then (s.smp l).eval else (s.smp l).train) (s.posFlags l e)))

/-- RNGSAVE (R139, R208). -/
def execRngsave (c : Cid) (w : NWords) (s : State) : Host.Outcome State Fault Refusal :=
  .next (s.seqRun c (Enc.atSa w) [w.f 53 49] fun s =>
    s.crossRun c true 1 fun s =>
      s.checked c [need (!(s.ctx c).prog.evalFlag) Ev.EVAL_ILLEGAL] fun s =>
        s.storeRecord c w (s.ctxRngRecord c (s.ctx c).prog))

end Sys2Proof.Machine
end

