-- ==== Sys2Proof/Machine/Relief.lean ====
section
/-! DEFINITION. Reliefs (R499 to R504), remote writes (R406, R407), activation and recovery (R515 to R528), the assay (R519 to R521),
catch-up copies (R522 to R524), the canary (R491 to R494) and the RLF_ registers. -/

namespace Sys2Proof.Machine

/-! ### The canary (R491 to R493) -/

/-- The values of the ten inputs over the window. -/
def State.canaryInputs (s : State) : List Nat :=
  let sums := s.rlf.window.foldl (fun a w => List.zipWith (· + ·) a w) (List.replicate 8 0)
  let n (i : Nat) : Nat := sums.getD i 0
  let now := s.pwr.hist.headD 0
  let old := s.pwr.hist.getD 1024 (s.pwr.hist.getLastD now)
  [n 0, n 1, n 2, n 3, n 4 + n 6 / 65536, n 5, now / 16, (now - old) * 1000 / (16 * 1024), s.fld Fld.PWR_INPUT_RIPPLE, n 7]

/-- T_k of input `i` (R492). -/
def State.canaryThr (s : State) (i k : Nat) : Nat :=
  let b := s.fld Fld.RLF_CAN_IN_BASE i
  let d := (k - 1) * s.fld Fld.RLF_CAN_IN_STEP i
  if s.flag Fld.RLF_CAN_IN_LIN i then b + d else b * 2 ^ d

/-- The level of input `i` at a value. -/
def State.canaryLevel (s : State) (i v : Nat) : Nat :=
  if s.fld Fld.RLF_CAN_IN_BASE i = 0 then 0 else ((List.range 7).filter fun k => s.canaryThr i (k + 1) ≤ v).length

/-- The computed risk of the ten levels (R493). -/
def State.riskOf (s : State) (l : List Nat) : Nat :=
  let sum := ((l.zip (List.range 10)).map fun p => s.fld Fld.RLF_CAN_IN_W p.2 * p.1).sum
  min 7 (max ((sum + 8) / 16) (max (l.foldl max 0 - 2) (s.fld Fld.RLF_CANARY_FLOOR)))

/-- CANARY_CYCLE (R491, R493): the cycle's counts join the window, the levels and the risk are formed. -/
def execCanaryCycle (s : State) : Host.Outcome State Fault Refusal :=
  let s := { s with rlf := { s.rlf with window := (s.rlf.cur :: s.rlf.window).take 1024, cur := List.replicate 8 0 } }
  let l := (s.canaryInputs.zip (List.range 10)).map fun p => s.canaryLevel p.2 p.1
  let r : Nat := if s.flag Fld.DBG_PT_RISK_EN then s.fld Fld.DBG_PT_RISK_LEVEL else s.riskOf l
  let old : Nat := s.fld Fld.RLF_CANARY_RISK
  let s := s.setFld Fld.RLF_CANARY_LEVELS ((l.zip (List.range 10)).foldl (fun a p => a + p.1 * 8 ^ p.2) 0)
  let s := s.setFld Fld.RLF_CANARY_RISK r
  .next (if r == old then s else s.raise Ev.CANARY_RISK srcSurface none (old + r * 16))

/-! ### Pairing (R502, R503) -/

def State.setPairing (s : State) (n : Nat) (p : Pairing) : State :=
  { s with rlf := if n = 0 then { s.rlf with pair0 := p } else { s.rlf with pair1 := p } }

def State.pairLast (s : State) (reason : Nat) (peer : NodeId) : State :=
  ((s.setFld Fld.RLF_PAIR_LAST_REASON reason).setFld Fld.RLF_PAIR_LAST_PEER peer.toNat).raise Ev.RLF_PAIR srcDev

/-- The declaration of this device to relief `n`. -/
def State.declare (s : State) (n : Nat) : State :=
  let other := 1 - n
  let l := s.lead s.securedCtx
  let w1 := s.variant.code + bits s.rst.strap 2 2 * 2 ^ 4 + s.fld Fld.RLF_CFG_FEED_OVR * 2 ^ 6 + s.fld Fld.RLF_RELIEF_VALID other * 2 ^ 7 +
    s.fld Fld.RLF_CFG_TWIN_V * 2 ^ 8
  let s := s.setPairing n { s.pairing n with asked := some s.now, refused := none }
  s.mgmt (s.reliefId n) 1 w1 (s.fld Fld.RLF_RELIEF_IDENT other) (s.fld Fld.RLF_CFG_TWIN) (u64s ((List.range 6).map (s.footprint l)))

/-- SEQ counts per relief (R512): the count of the relief named so far is kept, and that of the one named now goes on, from 1 for a new
one. -/
def State.seqFor (s : State) (n : Nat) (id : NodeId) : State :=
  let m := SMap.put s.rlf.seqs 1 (s.reliefId n).toNat (s.seqOf n)
  let q := SMap.val m 1 id.toNat
  { s with rlf := if n = 0 then { s.rlf with seqs := m, seq0 := q } else { s.rlf with seqs := m, seq1 := q } }

/-- RLF_RELIEFn written (R502, R534). -/
def State.wrRelief (s : State) (who : Requester) (n : Nat) (v : Word) : WOut :=
  s.privWrite who fun o => o.map fun s =>
    let same := (s.pairing n).paired && s.fld Fld.RLF_RELIEF_IDENT n == bits v 0 17 && bit v 17
    let was := (s.pairing n).paired
    let s := s.seqFor n (BitVec.ofNat 17 (bits v 0 17))
    let s := (s.setFld Fld.RLF_RELIEF_IDENT (bits v 0 17) n).setFld Fld.RLF_RELIEF_VALID (bits v 17 1) n
    if same then s
    else
      let s := s.setPairing n {}
      let s := if was then { s with rlf := { s.rlf with pairChanged := true } } else s
      if bit v 17 then s.declare n else s

/-- RELIEF_PAIR_REQ (R502). -/
def execReliefPairReq (who : Requester) (n : Fin 2) (v : Word) (s : State) : Host.Outcome State Fault Refusal :=
  .next (s.wrRelief who n.val v).st

/-- RELIEF_PAIR_RETRY (R502): 1 s after a refusal or a declaration without an answer. -/
def execReliefPairRetry (n : Fin 2) (s : State) : Host.Outcome State Fault Refusal :=
  let p := s.pairing n.val
  .next (match p.refused with
    | some t => if s.flag Fld.RLF_RELIEF_VALID n.val && !p.paired && t + 10 ^ 9 ≤ s.now then s.declare n.val else s
    | none => s)

/-- A refusal of this device's declaration. -/
def State.refused (s : State) (n reason : Nat) : State :=
  (s.setPairing n { asked := none, refused := some s.now }).pairLast reason (s.reliefId n)

/-- RELIEF_PAIR_TIMEOUT (R502). -/
def execReliefPairTimeout (n : Fin 2) (s : State) : Host.Outcome State Fault Refusal :=
  let p := s.pairing n.val
  .next (match p.asked with
    | some t => if !p.paired && t + 10 ^ 7 ≤ s.now then s.refused n.val 8 else s
    | none => s)

def State.cover (s : State) (k : Nat) : Cover := SMap.val s.rlf.covers {} k
def State.setCover (s : State) (k : Nat) (x : Cover) : State := { s with rlf := { s.rlf with covers := SMap.put s.rlf.covers {} k x } }

/-- The entry for a declaration: the identity's own, or a free one. An activated relief has none free (DESIGN CHOICE, log entry 49). -/
def State.coverFor (s : State) (id : NodeId) : Option Nat :=
  if s.rlf.act.isSome then none
  else (s.coverOf id).or ((List.range (s.fld Fld.RLF_CFG_COVER + 1)).find? fun k => !(s.cover k).valid)

/-- The bases of an entry's slots, A's six units and then B's. -/
def State.slotBases (s : State) (k : Nat) : List Nat :=
  [false, true].flatMap fun b => (List.range 6).map fun u => s.slotBase k u b

/-- R502's reason for refusing a declaration; 0 for none. Of several, the least. -/
def State.refuseReason (s : State) (m : FMsg) : Nat :=
  let f (u : Nat) : Nat := leAt m.data (8 * u) 8
  let c := s.fld Fld.RLF_CFG_COVER
  let ovr := bit m.w1 14
  let open_ (k : Nat) : Bool := (List.range 6).all fun u =>
    let r := 204 + 6 * k + u
    s.rgnState r == 0 || s.winTable.any fun w => winPermits w m.src 3 (s.rgnBase r) (s.rgnSize r)
  if !s.flag Fld.RLF_CFG_ROLE then 1
  else if bits m.w1 8 4 != s.variant.code then 2
  else if (List.range 6).any fun u => s.partSize c u / 2 < f u then 3
  else if bits m.w1 12 2 == bits s.rst.strap 2 2 && !ovr then 4
  else match s.coverFor m.src with
    | none => 5
    | some k => if !open_ k then 6 else if ovr && !bit m.w1 15 then 7 else 0

/-- A declaration is answered (R502). -/
def State.declaration (s : State) (m : FMsg) : State :=
  let why := s.refuseReason m
  match why, s.coverFor m.src with
  | 0, some k =>
    let s := s.setCover k { s.cover k with
      ident := m.src, valid := true, feedOvr := bit m.w1 14, feed := BitVec.ofNat 2 (bits m.w1 12 2), other := BitVec.ofNat 17 m.w2.toNat
      twin := if bit m.w1 16 then some (BitVec.ofNat 17 m.w3.toNat) else none }
    s.mgmt m.src 2 (1 + k * 2) 0 0 (u64s (s.slotBases k))
  | _, _ => (s.mgmt m.src 2 (why * 16) 0 0).pairLast why m.src

/-- A management message of a code has come (R504). -/
def State.managed (s : State) (code : Nat) (m : FMsg) : Bool := s.delivered 7 m && bits m.w1 0 8 == code

/-- DECLARATION (R502). -/
def execDeclaration (msg : FMsg) (s : State) : Host.Outcome State Fault Refusal :=
  .next (if s.managed 1 msg then s.declaration msg else s)

/-- The relief `n` that an identity is. -/
def State.reliefOf (s : State) (id : NodeId) : Option Nat :=
  [0, 1].find? fun n => s.flag Fld.RLF_RELIEF_VALID n && s.reliefId n == id

/-- A grant or a refusal comes (R502, R525). -/
def State.answered (s : State) (m : FMsg) : State :=
  match s.reliefOf m.src with
  | none => s
  | some n =>
    let p := s.pairing n
    let why := bits m.w1 12 4
    if bit m.w1 8 then
      if p.asked.isNone then s
      else { s.setPairing n { paired := true, entry := BitVec.ofNat 3 (bits m.w1 9 3), bases := (List.range 12).map fun u => leAt m.data (8 * u) 8 } with
        rlf := { (s.setPairing n { paired := true, entry := BitVec.ofNat 3 (bits m.w1 9 3)
                                   bases := (List.range 12).map fun u => leAt m.data (8 * u) 8 }).rlf with pairChanged := true } }
    else if p.paired then { s.endPairing n why m.src with rlf := { (s.endPairing n why m.src).rlf with former := some m.src } }
    else if p.asked.isSome then s.refused n why
    else s

/-! ### The role (R499, R500, R530) -/

/-- R499's conditions. -/
def State.roleFree (s : State) : Bool :=
  (allCids.all fun c => (s.ctx c).st == .idle) && s.usedHandles.isEmpty && s.rlf.act.isNone && s.rlf.rolePending.isNone &&
    (List.range 256).all fun r => s.rgnState r == 0 || s.tailEntry r || s.partEntry r

/-- ROLE or COVER changes: a relief first ends its pairings and purges its parts. -/
def State.changeRole (s : State) (role : Bool) (cover : Nat) : State :=
  if s.flag Fld.RLF_CFG_ROLE then
    let s := (List.range 48).foldl (fun s k => if s.rgnState (204 + k) == 1 then s.purgeRegion (204 + k) else s) s
    { s with rlf := { s.rlf with covers := [], rolePending := some (role, BitVec.ofNat 3 cover) } }.roleWaits
  else s.applyRole role cover

/-- RLF_CFG written (R499, R530). -/
def State.wrRlfCfg (s : State) (who : Requester) (v : Word) : WOut :=
  let off := 0xB00000
  let role := bit v 0
  let cover := bits v 2 3
  let old := s.fld Fld.RLF_CFG_ROLE + s.fld Fld.RLF_CFG_COVER * 4
  if bits v 9 8 = 0 then WOut.outside { st := s } off
  else
    let keep := BitVec.ofNat 64 (v.toNat - (role.toNat + cover * 4) + old)
    let o := s.regPlain who off s.anyBusy false keep
    if (role.toNat + cover * 4) == old || !s.privileged who then o
    else if s.roleFree then o.map (·.changeRole role cover) else o.reject off

/-- RLF_ROLE_WRITE (R499). -/
def execRlfRoleWrite (who : Requester) (v : Word) (s : State) : Host.Outcome State Fault Refusal := .next (s.wrRlfCfg who v).st

/-! ### Remote writes (R406, R407, R512, R525) -/

/-- The cover entry and slot whose commit record lies at an address. -/
def State.recordAt (s : State) (a : Nat) : Option (Nat × Bool) :=
  if !s.flag Fld.RLF_CFG_ROLE then none
  else (List.range (s.fld Fld.RLF_CFG_COVER + 1)).findSome? fun k =>
    if s.slotBase k 0 false = a then some (k, false) else if s.slotBase k 0 true = a then some (k, true) else none

/-- The activated relief's entry of an identity's copy. -/
def State.setAct (s : State) (x : Activation) : State := { s with rlf := { s.rlf with act := some x } }

/-- A commit record has been applied: it is acknowledged (R512); a copy's record tells its step (R522). -/
def State.recordCame (s : State) (m : FMsg) (k : Nat) (b : Bool) : State :=
  let r := s.commitRec k b
  if recGood 5 r then
    (s.setCover k { s.cover k with served := m.src != (s.cover k).ident }).mgmt m.src 3 0 (leAt r 8 8) 0
  else if recGood 6 r then
    match s.rlf.act with
    | some x => if x.entry.val = k ∧ x.copyAsked then s.setAct { x with copyStep := some (BitVec.ofNat 63 (leAt r 16 8)) } else s
    | none => s
  else s

/-- An activated relief refuses further securings to its other entries (R525). -/
def State.keptPart (s : State) (a n : Nat) : Bool :=
  match s.rlf.act with
  | some x => (List.range (s.fld Fld.RLF_CFG_COVER + 1)).any fun k => k != x.entry.val && (s.cover k).kept &&
      (List.range 6).any fun u => overlaps (a, n) (s.rgnArea (204 + 6 * k + u))
  | none => false

/-- A remote write: its bytes, by its count. An address that is not assigned takes none (DEDUCED, log entry 50). -/
def State.remoteWrite (s : State) (m : FMsg) : State :=
  let n := m.w2.toNat
  let a := bits m.w1 0 48
  if !((s.winsFor m.dst).any fun w => winPermits w m.src m.vl.toNat a n) then s.winDeny m.plane.toNat
  else match s.msgAddr m.dst a n with
    | none => s.winDeny m.plane.toNat
    | some pa =>
      if s.rgnPurging pa n then s.bump Fld.MEM_PURGE_DROPPED
      else if m.vl == 3 && m.w3 != 0 && s.keptPart pa n then s
      else
        let s := s.memWrite pa (m.data.take n)
        if n = 1024 then match s.recordAt pa with
          | some p => s.recordCame m p.1 p.2
          | none => s
        else s

/-- REMOTE_WRITE (R406, R407). -/
def execRemoteWrite (msg : FMsg) (s : State) : Host.Outcome State Fault Refusal :=
  .next (if s.delivered 5 msg then s.remoteWrite msg else s)

/-! ### Reading a slot (R508) -/

/-- The sections of a control block's words. -/
def ctlParse : Nat → List Nat → List (List Nat)
  | 0, _ => []
  | _, [] => []
  | n + 1, k :: t => t.take k :: ctlParse n (t.drop k)

def cutBy (n : Nat) : Nat → List Nat → List (List Nat)
  | 0, _ => []
  | f + 1, l => if l.isEmpty then [] else l.take n :: cutBy n f (l.drop n)

/-- Groups of `n` words. -/
def groupsOf (n : Nat) (l : List Nat) : List (List Nat) := cutBy n l.length l

/-- What a slot holds: the control block's sections, the digest table, where the station image lies. -/
structure SlotData where
  secs : List (List Nat)
  tab : List Byte
  stn : Nat

def State.slotData (s : State) (k : Nat) (b : Bool) : SlotData :=
  let a := s.slotBase k 0 b + ctlStart
  let n := leAt (s.memBits.read a 8) 0 8
  let e := leAt (s.commitRec k b) 64 4
  ⟨ctlParse 12 (packWords ((s.memBits.read a n).drop 8)), s.memBits.read (a + n) (32 * e), a + n + 32 * e⟩

def SlotData.sec (x : SlotData) (i : Nat) : List Nat := x.secs.getD i []
def SlotData.items (x : SlotData) : List PItem :=
  (groupsOf 5 (x.sec 7)).map fun w => ⟨w.getD 0 0, w.getD 1 0 == 1, BitVec.ofNat 12 (w.getD 2 0), BitVec.ofNat 64 (w.getD 3 0), BitVec.ofNat 64 (w.getD 4 0)⟩
def SlotData.decl (x : SlotData) : List (Nat × Nat) := (groupsOf 2 (x.sec 9)).map fun w => (w.getD 0 0, w.getD 1 0)
def SlotData.wins (x : SlotData) : List (Word × Word) :=
  (groupsOf 2 (x.sec 6)).map fun w => (BitVec.ofNat 64 (w.getD 0 0), BitVec.ofNat 64 (w.getD 1 0))
def SlotData.anchor (x : SlotData) : NodeId := BitVec.ofNat 17 ((x.sec 10).getD 0 0)
def SlotData.cid (x : SlotData) : Cid := Fin.ofNat 8 ((x.sec 10).getD 1 0)

/-- The last-bell image of the control block. -/
def SlotData.image (x : SlotData) : ProgState :=
  let l := x.sec 0
  let w (i : Nat) : Nat := l.getD i 0
  { pc := BitVec.ofNat 64 (w 0), step := BitVec.ofNat 63 (w 1), evalCnt := BitVec.ofNat 63 (w 2), evalFlag := w 3 == 1
    cross := BitVec.ofNat 32 (w 4)
    sregs := (List.range 32).foldl (fun m r => SMap.put m 0 r (BitVec.ofNat 64 (w (5 + r)))) []
    loops := (List.range 4).foldl (fun m r => SMap.put m 0 r (BitVec.ofNat 32 (w (37 + r)))) []
    loopAddr := (List.range 4).foldl (fun m r => SMap.put m 0 r (BitVec.ofNat 64 (w (41 + r)))) []
    masks := (List.range 8).foldl (fun m r => SMap.put m 0 r (BitVec.ofNat 96 (w (45 + 2 * r) + w (46 + 2 * r) * 2 ^ 64))) [] }

/-! ### Activation (R515) -/

/-- The relief notice: the identity is mapped to this device's position, here and everywhere (R422). -/
def State.reliefNotice (s : State) (ident : NodeId) : State :=
  let pos := s.posOf ident
  let w3 : Word := BitVec.ofNat 64 (1 + s.ownPos.toNat * 2 + 2 ^ 18)
  let t := (s.remap ident s.ownPos).flood (s.noticeOf pos ident w3) none
  { t with fab := { t.fab with assumed := (t.fab.assumed ++ [ident]).eraseDups } }

/-- The pairings of the other entries end; their live slots are kept (R525). -/
def State.keepOthers (s : State) (k : Nat) : State :=
  (List.range (s.fld Fld.RLF_CFG_COVER + 1)).foldl (fun s j =>
    let y := s.cover j
    if j = k || !y.valid then s else (s.setCover j { y with kept := true }).mgmt y.ident 2 (5 * 16) 0 0) s

/-- When the first notice that names the identity came. -/
def State.noticeTime (s : State) (id : NodeId) : Nat :=
  match s.rlf.firstNotice.find? fun p => p.1 == id with
  | some p => p.2
  | none => s.now

/-- TENSOR items by index. -/
def tensorItems (items : List PItem) : List Nat :=
  (List.range items.length).filter fun n => match items[n]? with
    | some it => it.kind == 1
    | none => false

/-- The twin's digests of every replicated tensor are asked for (R520). -/
def State.digestQueries (s : State) (x : Activation) (twin : NodeId) : State :=
  (tensorItems x.items).foldl (fun s n => match x.items[n]? with
    | some it => if it.repl then s.mgmt twin 6 n x.step.toNat (s.recMaster x.cid it.w1.toNat) else s
    | none => s) s

/-- The catch-up request for a step, with the bases of the slot that is not live (R522); `cur`: the twin's current step. -/
def State.askCopy (s : State) (x : Activation) (sr : Nat) (cur : Bool) : State :=
  match (s.cover x.entry.val).twin with
  | some t =>
    let b := if x.drop then x.slot else !x.slot
    s.mgmt t 8 cur.toNat sr 0 (u64s (((List.range 6).map fun u => s.slotBase x.entry.val u b) ++ [b.toNat]))
  | none => s

/-- Activation in bounded mode from slot `b` of entry `k`. -/
def State.activate (s : State) (k : Fin 8) (b : Bool) : State :=
  let d := s.slotData k.val b
  let c := s.cover k.val
  let items := d.items
  let x : Activation :=
    { entry := k, ident := c.ident, slot := b, cid := d.cid, step := BitVec.ofNat 63 (leAt (s.commitRec k.val b) 16 8), anchor := d.anchor
      items := items, decl := d.decl, queriedAt := s.now, noticeAt := s.noticeTime c.ident, assay := tensorItems items
      copyAsked := c.twin.isSome && items.any (·.repl), wins := d.wins }
  let s := ((s.setCover k.val { c with active := true }).reliefNotice c.ident).setAct x
  let s := (s.keepOthers k.val).bump Fld.RLF_ACT_TIME_COUNT
  let s := s.mgmt x.anchor 4 0 0 0
  match c.twin with
  | some t => s.digestQueries x t
  | none => s

/-- Activation in drop mode (R524): the twin's copy is asked for. -/
def State.activateDrop (s : State) (k : Fin 8) : State :=
  let c := s.cover k.val
  let b := match s.liveSlot k.val with
    | some b => !b
    | none => false
  let x : Activation := { entry := k, ident := c.ident, slot := b, cid := 0, step := 0, anchor := 0, items := [], noticeAt := s.noticeTime c.ident
                          drop := true, copyAsked := c.twin.isSome }
  let s := ((s.setCover k.val { c with active := true }).setAct x).keepOthers k.val
  (s.bump Fld.RLF_ACT_TIME_COUNT).askCopy x 0 true

/-- The relief holds a confirmed notice that names the identity (R421). -/
def State.confirmedFail (s : State) (id : NodeId) : Bool := s.fab.notices.any fun n => bit n.w3 0 && noticeId n == id

/-- RLF_ACTIVATED (R515). -/
def execRlfActivated (entry : Fin 8) (s : State) : Host.Outcome State Fault Refusal :=
  let c := s.cover entry.val
  .next (
    if !s.flag Fld.RLF_CFG_ROLE || s.rlf.act.isSome || !c.valid || s.fld Fld.RLF_CFG_COVER < entry.val || !s.confirmedFail c.ident then s
    else if !s.bounded then s.activateDrop entry
    else match s.liveSlot entry.val with
      | none => s.raise Ev.BOUND_EXCEEDED srcDev
      | some b => s.activate entry b)

/-! ### Restoring (R515, R517) -/

/-- The configuration of the control block. -/
def State.restoreConfig (s : State) (d : SlotData) : State :=
  (groupsOf 4 (d.sec 5)).foldl (fun s w =>
    match ctlFields[w.getD 0 0]? with
    | some F => s.setFld F (w.getD 3 0) (w.getD 1 0) (w.getD 2 0)
    | none => s) s

/-- The handle-table entries, and the bunker images of the covered ones. -/
def State.restoreHandles (s : State) (x : Activation) (d : SlotData) (base : Nat → Nat) : State :=
  (groupsOf 6 (d.sec 4)).foldl (fun s w =>
    let g (i : Nat) : Nat := w.getD i 0
    let h : HandleId := BitVec.ofNat 12 (g 0)
    let y : Handle :=
      { set := BitVec.ofNat 96 (g 1 + g 2 * 2 ^ 64), bank := BitVec.ofNat 4 (fieldN (g 3) 0 4), off := BitVec.ofNat 11 (fieldN (g 3) 4 11)
        fmt := BitVec.ofNat 4 (fieldN (g 3) 15 4), cls := BitVec.ofNat 2 (fieldN (g 3) 19 2), st := .allocated, seq := cSeq x.cid == 1
        ctx := BitVec.ofNat 2 (cLow x.cid), joined := s.joined x.cid, rows := BitVec.ofNat 20 (fieldN (g 3) 21 20)
        cols := BitVec.ofNat 7 (fieldN (g 3) 41 7), stride := BitVec.ofNat 12 (g 4), gen := (s.hnd h).gen + 1 }
    let y := if g 5 = 1 then { y with fill := BitVec.ofNat 21 y.rows.toNat } else y
    let s := s.setHnd h y
    (stationsOf y.set).foldl (fun s i =>
      if g 5 = 1 then
        let p := imageAt i
        let r := s.memRead (base p.1 + p.2 + y.rowAt 0) y.bytes
        r.st.bunkWrite i (y.rowAt 0) r.data
      else s.bunkZero i y.line0 y.lines) s) s

/-- The station image: entries of place with owner, length and words. -/
def State.restoreSlots (s : State) : Nat → Nat → State
  | 0, _ => s
  | n + 1, a =>
    let w (i : Nat) : Nat := leAt (s.memBits.read (a + 8 * i) 8) 0 8
    let len := w 1
    let own := w 0 / 2 ^ 20
    let z : Slot := ⟨if own = 0 then none else some (Fin.ofNat 8 (own - 1)), s.memBits.read (a + 16) len⟩
    let place := w 0 % 2 ^ 20
    let j := place % 1024
    let s := s.modStn (Fin.ofNat 96 (place / 1024)) fun y =>
      if j % 2 = 0 then { y with tables := SMap.put y.tables {} (j / 2) z } else { y with drains := SMap.put y.drains {} (j / 2) z }
    State.restoreSlots s n (a + 16 + 8 * ceilDiv len 8)

/-- The context's state: last-bell image, positions, coefficients into the active buffers, counts of reductions, stores. -/
def State.restoreState (s : State) (x : Activation) (d : SlotData) : State :=
  let img := d.image
  let s := s.modBoth x.cid fun y => { y with prog := img, image := img, inSeg := false, atStart := false, ended := false, faulted := none }
  let pos := u64s (d.sec 1)
  let s := s.setSmp (s.lead x.cid) ⟨Sys2Proof.Machine.posOf (sliceB pos 32 64), Sys2Proof.Machine.posOf (sliceB pos 32 64), Sys2Proof.Machine.posOf (sliceB pos 96 64),
    Sys2Proof.Machine.posOf (sliceB pos 96 64)⟩
  let s := (groupsOf 2 (d.sec 3)).foldl (fun s w =>
    { s with coefSel := SMap.put s.coefSel false (s.selKey (w.getD 0 0) x.cid) (w.getD 1 0 == 1) }) s
  let s := (groupsOf 3 (d.sec 2)).foldl (fun s w =>
    s.coefPut (w.getD 0 0) (s.coefActive (w.getD 0 0) x.cid) (w.getD 1 0 / 256) (w.getD 1 0 % 256) (BitVec.ofNat 64 (w.getD 2 0))) s
  let s := (groupsOf 2 (d.sec 8)).foldl (fun s w =>
    { s with fab := { s.fab with redCnt := SMap.put s.fab.redCnt 0 (w.getD 0 0) (w.getD 1 0) } }) s
  let s := (groupsOf 2 (d.sec 11)).foldl (fun s w => s.setStore (w.getD 0 0) { s.store (w.getD 0 0) with head := w.getD 1 0 }) s
  s.restoreSlots (leAt (s.memBits.read d.stn 8) 0 8) (d.stn + 8)

/-- Steps 3 and 4 of R515 from slot `b` of the entry. -/
def State.restore (s : State) (x : Activation) (b : Bool) : State :=
  let d := s.slotData x.entry.val b
  ((s.restoreConfig d).restoreHandles x d fun u => s.slotBase x.entry.val u b).restoreState x d

/-- R517 and step 7 of R515: once restored and answered, the context is READY, and RLF_ACTIVATED is raised. -/
def State.tryReady (s : State) : State :=
  match s.rlf.act with
  | some x =>
    if !(x.restored && x.rejoined) || x.ready then s
    else
      let step : BitVec 63 := BitVec.ofNat 63 (x.sa - 1)
      let s := s.modBoth x.cid fun y => { y with
        st := .ready, prog := { y.prog with step := step }, image := { y.image with step := step }, takenStep := step }
      let more : Int := (x.sa : Int) - 1 - x.step.toNat
      let s := x.items.foldl (fun s it =>
        if it.kind = 5 then
          let k := redKey it.aux.toNat (bits it.w1 0 12)
          { s with fab := { s.fab with redCnt := SMap.put s.fab.redCnt 0 k ((SMap.val s.fab.redCnt 0 k : Nat) + more * bits it.w1 12 12).toNat } }
        else s) s
      (s.setAct { x with ready := true }).raise Ev.RLF_ACTIVATED srcDev (some x.cid)
  | none => s

/-- RELIEF_RESTORE_DONE (R515, R541). -/
def execReliefRestoreDone (s : State) : Host.Outcome State Fault Refusal :=
  .next (match s.rlf.act with
    | some x =>
      if x.restored || x.drop then s
      else
        let t := (s.restore x x.slot).setFld Fld.RLF_ACT_TIME_BUNKER (min 0xFFFF ((s.now - x.noticeAt) / 1000))
        (t.setAct { x with restored := true }).tryReady
    | none => s)

/-- The anchor's reply (R517): the step, and the catch-up request for it (R522). -/
def State.rejoined (s : State) (sa : Nat) : State :=
  match s.rlf.act with
  | some x =>
    if x.rejoined || x.drop then s
    else
      let x := { x with rejoined := true, sa := sa }
      let s := s.setAct x
      (if x.copyAsked then s.askCopy x sa false else s).tryReady
  | none => s

/-- REJOIN_REPLY (R517). -/
def execRejoinReply (sa : Word) (s : State) : Host.Outcome State Fault Refusal := .next (s.rejoined sa.toNat)

/-- REJOIN_TIMEOUT (R517): 100 µs after the query. -/
def execRejoinTimeout (s : State) : Host.Outcome State Fault Refusal :=
  .next (match s.rlf.act with
    | some x =>
      if x.rejoined || x.drop || x.slow || s.now < x.queriedAt + 100000 then s
      else (s.setAct { x with slow := true }).raise Ev.RLF_SLOW srcDev
    | none => s)

/-- At a bell the anchor is asked again (R517). -/
def State.rejoinBell (s : State) : State :=
  match s.rlf.act with
  | some x => if x.slow && !x.rejoined then s.mgmt x.anchor 4 0 0 0 else s
  | none => s

/-! ### The assay (R519 to R521) -/

/-- The state areas of a tensor as its record and its coefficient entry give them. -/
def State.tensorAreas (s : State) (c : Cid) (a : Nat) : List (Nat × Nat) :=
  let b := s.memBits.read ((s.ctxAddr c a 192).getD a) 128
  let w (i : Nat) : Nat := leAt b (8 * i) 8
  recAreas (s.snapOf (s.tableOf c a) c (fieldN (w 0) 0 12)) (fieldN (w 1) 0 24) (fieldN (w 1) 24 24) w

/-- The digests of a tensor of the restored context. -/
def State.assayDigest (s : State) (x : Activation) (a : Nat) : Word × Word :=
  s.tensorDigest ((s.tensorAreas x.cid a).map fun r => s.placed x.cid r.1 r.2)

/-- The digest table's entry for an item; none when the table does not agree with the commit record. -/
def State.tableDigest (s : State) (x : Activation) (n : Nat) : Option (Word × Word) :=
  let d := s.slotData x.entry.val x.slot
  let r := s.commitRec x.entry.val x.slot
  if (crcD1 d.tab).toNat = leAt r 48 8 ∧ (crcD2 d.tab).toNat = leAt r 56 8 then
    some (BitVec.ofNat 64 (leAt d.tab (32 * n + 16) 8), BitVec.ofNat 64 (leAt d.tab (32 * n + 24) 8))
  else none

/-- What a tensor's digests are compared with: the twin's log entry of a replicated one, else the digest table's (R520). -/
def State.assayWant (s : State) (x : Activation) (n : Nat) (it : PItem) : Option (Word × Word) :=
  match it.repl, SMap.val x.replies none n with
  | true, some (true, d) => some d
  | _, _ => s.tableDigest x n

/-- The twin has not answered for the item yet. -/
def State.awaitsTwin (s : State) (x : Activation) (n : Nat) (it : PItem) : Bool :=
  it.repl && (s.cover x.entry.val).twin.isSome && (SMap.val x.replies none n).isNone

/-- A digest reply comes from the twin (R504, R520). -/
def State.digestCame (s : State) (m : FMsg) : State :=
  match s.rlf.act with
  | some x =>
    if (s.cover x.entry.val).twin == some m.src then
      s.setAct { x with replies := SMap.put x.replies none (bits m.w1 9 39) (some (bit m.w1 8, m.w2, m.w3)) }
    else s
  | none => s

/-- ASSAY (R520, R521): the next TENSOR item in plan order; a replicated one waits for the twin's answer. -/
def execAssay (idx : Nat) (_ _ : Unit) (s : State) : Host.Outcome State Fault Refusal :=
  .next (match s.rlf.act with
    | none => s
    | some x =>
      match x.items[idx]? with
      | none => s
      | some it =>
        if x.assay.head? ≠ some idx || !x.restored || it.kind ≠ 1 || s.awaitsTwin x idx it then s
        else
          let ok := s.assayWant x idx it == some (s.assayDigest x it.w1.toNat)
          let rest := x.assay.drop 1
          let s := s.setAct { x with assay := rest, failed := if ok then x.failed else x.failed ++ [idx] }
          let s := if rest.isEmpty then s.setFld Fld.RLF_ACT_TIME_ASSAY (min 0xFFFF ((s.now - x.noticeAt) / 16000)) else s
          if ok then s
          else
            let s := s.bump Fld.RLF_CNT_ASSAY_FAIL
            if it.repl then s.raise Ev.RLF_ASSAY srcDev (some x.cid)
            else if (s.ctx x.cid).faulted.isSome then s.raise Ev.RLF_ASSAY srcDev (some x.cid)
            else s.faultCtx x.cid Ev.RLF_ASSAY srcDev)

/-- The twin's log entry for a tensor and a step (R520). -/
def State.dlogFind (s : State) (step : Nat) (master : Nat) : Option (Word × Word) :=
  let r := s.fld Fld.RLF_CTX_DLOG_REGION
  if !s.flag Fld.RLF_CTX_DLOG_VALID then none
  else ((List.range (min s.rlf.dlogHead (s.rgnSize r / 32))).map fun i => s.memBits.read (s.rgnBase r + 32 * i) 32).findSome? fun e =>
    if leAt e 0 8 = step ∧ leAt e 8 8 = master then some (BitVec.ofNat 64 (leAt e 16 8), BitVec.ofNat 64 (leAt e 24 8)) else none

/-- A digest query is answered. -/
def State.digestReply (s : State) (m : FMsg) : State :=
  match s.dlogFind m.w2.toNat m.w3.toNat with
  | some d => s.mgmt m.src 7 (1 + bits m.w1 8 40 * 2) d.1.toNat d.2.toNat
  | none => s.mgmt m.src 7 (bits m.w1 8 40 * 2) 0 0

/-! ### Catch-up copies (R522 to R524) -/

/-- A twin takes a request: the step named, or its current one. -/
def State.copyAsk (s : State) (m : FMsg) : State :=
  let cur := (s.ctx (s.lead s.securedCtx)).prog.step
  { s with rlf := { s.rlf with
    copyReq := some (m.src, if bit m.w1 8 then cur else BitVec.ofNat 63 m.w2.toNat)
    copyBases := (List.range 7).map fun u => leAt m.data (8 * u) 8 } }

/-- CATCHUP_REQUEST (R522). -/
def execCatchupRequest (msg : FMsg) (s : State) : Host.Outcome State Fault Refusal :=
  .next (if s.managed 8 msg then s.copyAsk msg else s)

/-- The secured context has just begun a NEWSTEP segment after the step asked for. -/
def State.copyDue (s : State) : Option NodeId :=
  let x := s.ctx (s.lead s.securedCtx)
  match s.rlf.copyReq with
  | some r => if s.rlf.copy.isNone && x.inSeg && x.atStart && x.newstep && r.2.toNat < x.prog.step.toNat then some r.1 else none
  | none => none

/-- CATCHUP_COPY (R522). A plan at RLF_CTX_PLAN that fails R506 ends the request without a copy (DESIGN CHOICE, log entry 51). -/
def execCatchupCopy (s : State) : Host.Outcome State Fault Refusal :=
  .next (match s.copyDue with
    | none => s
    | some id =>
      let c := s.lead s.securedCtx
      let r := s.planCheck c (s.fld Fld.RLF_CTX_PLAN_ADDR * 64)
      match r.res with
      | .error _ => { r.st with rlf := { r.st.rlf with copyReq := none, copyBases := [] } }
      | .ok p =>
        let s := r.st
        let no := s.dispNo
        let z : Securing :=
          { cid := c, no := no, items := p.items, anchor := p.anchor, areas := p.areas, unread := toRead p.items false (·.repl)
            risk := s.fld Fld.RLF_CANARY_RISK, l := s.fld Fld.RLF_CFG_L, copyTo := some id, bases := s.rlf.copyBases, committed := true
            step := (s.ctx c).image.step, bell := BitVec.ofNat 64 s.bellNow, stn := some (s.stationImage c)
            ctl := ctlBytes (s.ctlSections c p.items p.anchor) }
        { s with dispNo := no + 1 }.startFlight z)

/-- An update of the restored context for a step up to `k` is not finished (R523). -/
def State.updatesOpen (s : State) (c : Cid) (k : Nat) : Bool :=
  (s.mill0.queue ++ s.mill1.queue ++ s.vus).any fun u => s.lead u.cid == s.lead c && u.step.toNat ≤ k

/-- The ranges of a replicated item, as the context names them. -/
def State.itemRanges (s : State) (c : Cid) (it : PItem) : List (Nat × Nat) :=
  match it.kind with
  | 1 => s.tensorAreas c it.w1.toNat
  | 2 => [(it.w1.toNat, it.w2.toNat)]
  | 4 => s.storeAreas it.aux.toNat
  | _ => []

/-- One replicated item of the copy takes its place. -/
def State.applyItem (s : State) (x : Activation) (it : PItem) : State :=
  let k := x.entry.val
  let s := (s.itemRanges x.cid it).foldl (fun s r =>
    match declPlace s.variant x.decl r.1 r.2 with
    | some p =>
      let d := s.memRead (s.slotBase k p.1 (!x.slot) + p.2) r.2
      d.st.memWrite (s.slotBase k p.1 x.slot + p.2) d.data
    | none => s) s
  if it.kind = 3 then
    let h := s.hnd it.aux
    (stationsOf h.set).foldl (fun s i =>
      let p := imageAt i
      let d := s.memRead (s.slotBase k p.1 (!x.slot) + p.2 + h.rowAt 0) h.bytes
      d.st.bunkWrite i (h.rowAt 0) d.data) s
  else s

/-- The copy is in place; tensors that waited for it may be updated (R521). -/
def Activation.applied (x : Activation) : Activation :=
  { x with copyAsked := false, copyStep := none, failed := x.failed.filter fun n => match x.items[n]? with
    | some it => !it.repl
    | none => true }

/-- The copy of a drop-mode relief: configuration and state of the twin; the context is STOPPED (R524). -/
def State.applyDrop (s : State) (x : Activation) : State :=
  let d := s.slotData x.entry.val x.slot
  let x := { x with cid := d.cid, items := d.items, decl := d.decl, wins := d.wins, anchor := d.anchor, restored := true, ready := false
                    step := d.image.step }
  let s := (s.setAct x.applied).restore x x.slot
  (s.modBoth x.cid fun y => { y with st := .stopped, stopEvent := Ev.RLF_ACTIVATED, takenStep := y.prog.step }).raise Ev.RLF_ACTIVATED srcDev (some x.cid)

/-- CATCHUP_APPLY (R523, R524). -/
def execCatchupApply (s : State) : Host.Outcome State Fault Refusal :=
  .next (match s.rlf.act with
    | none => s
    | some x =>
      match x.copyStep with
      | none => s
      | some k =>
        if x.drop then s.applyDrop x
        else if !x.restored || s.updatesOpen x.cid k.toNat then s
        else ((x.items.filter (·.repl)).foldl (fun s it => s.applyItem x it) s).setAct x.applied)

/-! ### Overlapping failures (R525, R526) -/

/-- Release frees a kept entry. -/
def State.release (s : State) (m : FMsg) : State :=
  match (List.range (s.fld Fld.RLF_CFG_COVER + 1)).find? fun k => (s.cover k).kept && (s.cover k).ident == m.src with
  | some k => s.setCover k {}
  | none => s

/-- RELEASE (R525). -/
def execRelease (msg : FMsg) (s : State) : Host.Outcome State Fault Refusal :=
  .next (if s.managed 9 msg then s.release msg else s)

/-- SERVED_COPY (R526): the live slot of a kept entry, its record last. The writes go to the addresses that the copy has here
(DESIGN CHOICE, log entry 52). -/
def execServedCopy (entry : Fin 8) (dst : NodeId) (s : State) : Host.Outcome State Fault Refusal :=
  .next (match s.liveSlot entry.val with
    | none => s
    | some b =>
      if s.rlf.act.isNone || !(s.cover entry.val).kept then s
      else
        let rec_ := s.commitRec entry.val b
        let t : Target := ⟨dst, fun u => s.slotBase entry.val u b, leAt rec_ 8 8, b⟩
        let size := s.slotSize entry.val
        let s := s.secWrite t 0 0 (List.replicate 1024 0)
        let s := (List.range 6).foldl (fun s u =>
          let lo := if u = 0 then 1024 else 0
          let r := s.memRead (t.base u + lo) (size u - lo)
          r.st.secWrite t u lo r.data) s
        s.secWrite t 0 0 rec_)

/-! ### Management messages (R504) -/

/-- MANAGEMENT_MSG (R504): what its code asks. -/
def execManagementMsg (msg : FMsg) (s : State) : Host.Outcome State Fault Refusal :=
  .next (
    if !s.delivered 7 msg then s
    else match bits msg.w1 0 8 with
      | 1 => s.declaration msg
      | 2 => s.answered msg
      | 3 => (match s.reliefOf msg.src with
        | some n => if s.seqOf n = msg.w2.toNat ∧ (s.pairing n).paired then s.secAck n else s
        | none => s)
      | 4 => s.mgmt msg.src 5 0 (s.ctx (s.lead s.securedCtx)).image.step.toNat 0
      | 5 => (match s.rlf.act with
        | some x => if x.anchor = msg.src then s.rejoined msg.w2.toNat else s
        | none => s)
      | 6 => s.digestReply msg
      | 7 => s.digestCame msg
      | 8 => s.copyAsk msg
      | 9 => s.release msg
      | _ => s)

end Sys2Proof.Machine
end

