-- ==== Sys2Proof/Machine/Domains.lean ====
section
/-! DEFINITION. What a reset does to the parts it covers, domain by domain (R67, R68, R231, R592 to R597), and the assertion of
the reset sources of data reach with the removal of data-plane power (R569, R570, R592 to R594, R621). -/

namespace Sys2Proof.Machine

/-! ### Registers -/

/-- The cell belongs to an RWL field: held in domain 49, so only a full reset clears it (R616). -/
def rwlCell (k : Nat) : Bool :=
  match regAt (k / 64) with
  | some (d, _) => d.fields.any fun f => f.lo == k % 64 && f.acc == .rwl
  | none => false

/-- A block of registers back at its reset values, the RWL fields aside. -/
def State.resetBlock (s : State) (lo n : Nat) : State :=
  { s with regs := s.regs.filter fun p => p.1 < lo * 64 || (lo + n) * 64 ≤ p.1 || rwlCell p.1 }

/-- A clock region's counters cleared (R559, R591). -/
def State.resetRegion (s : State) (r : Nat) : State :=
  { s.resetBlock (0x201000 + 0x10 * r) 0x10 with
    time := { s.time with cyc := SMap.del s.time.cyc r, strCyc := SMap.del s.time.strCyc r
                          fallback := s.time.fallback.filter fun x => x / 64 != r } }

/-! ### The domains -/

/-- A station: its array, queue, slots and counters; its slice is zero-filled (R68, R244, R597). -/
def State.resetStation (s : State) (i : StationId) : State :=
  (((s.setStn i {}).resetBlock (0x400000 + 0x1000 * i.val) 0x1000).resetBlock (0x510000 + 0x100 * i.val) 0x100).bunkZero i 0 32768

/-- Handles with a station in the group go to the purge engines (R231). -/
def State.groupHandles (s : State) (g : Nat) : State :=
  (s.usedHandles.filter fun p => p.2.set &&& rangeSet (4 * g) 4 != 0).foldl (fun s p => s.startPurge p.1 false) s

def State.resetGroup (s : State) (g : Nat) : State :=
  (List.range 4).foldl (fun s k => s.resetStation (Fin.ofNat 96 (4 * g + k))) (s.endAccs (fun _ => true) (rangeSet (4 * g) 4))

/-- A mill loses its queue and its tables (R366, R380); the zero-fills it owes stay owed. -/
def State.resetMill (s : State) (m : Fin 2) : State :=
  let nos := (s.mill m).queue.map (·.no)
  let s := (s.modMill m fun x => { purge := x.purge }).resetBlock (0x801000 + 0x1000 * m.val) 0x1000
  { s with
    accs := s.accs.filter fun a => !nos.contains a.no
    coef := s.coef.filter fun p => p.1 / 2 ^ 21 != m.val
    coefSel := s.coefSel.filter fun p => p.1 / 8 != m.val
    coefSwap := s.coefSwap.filter fun p => p.1 / 8 != m.val
    coefLate := s.coefLate.filter fun x => x.tgt != m.val }

/-- A haulage hub: its streams, its trace buffer and its counters (R293). -/
def State.resetHub (s : State) (h : HubId) : State :=
  let runs := (s.allStreams.filter fun p => p.1 == h).map fun p => p.2.2.2.no
  let s := (List.finRange 16).foldl (fun s q => s.setQue h q {}) (s.setHub h {})
  { s with accs := s.accs.filter fun a => !runs.contains a.no }.resetBlock (0x600000 + 0x10000 * h.val) 0x10000

def State.resetDie (s : State) (d : Nat) : State :=
  (List.range 12).foldl (fun s j => s.setBport (Fin.ofNat 48 (12 * d + j)) {}) (s.resetBlock (0x908000 + 0x40 * 12 * d) (0x40 * 12))

/-- The Lalux ports and the block's registers (R481, R593). The event queue, its numbers and the recovery buffer are the surface's. -/
def State.resetLlx (s : State) : State :=
  { s.resetBlock 0xA00000 0x2000 with llx := { s.llx with
      up := {}, dn := {}, tally := 0, upq := [], dnq := [], upFlight := [], dnFlight := [], ratio := [], pushes := [],
      wrDenyGiven := false, resetDue := none } }

/-- Every region but the tailings becomes PURGE_PENDING (R597). A relief's parts are among them: they are placed again once purged
(DESIGN CHOICE, log entry 53). -/
def State.purgeAll (s : State) : State :=
  let s := (List.range 256).foldl (fun s r => if s.rgnState r == 1 && s.rgnClass r != 3 then s.purgeRegion r else s) s
  if s.flag Fld.RLF_CFG_ROLE then
    { s with rlf := { s.rlf with rolePending := some (true, BitVec.ofNat 3 (s.fld Fld.RLF_CFG_COVER)) } }
  else s

/-- Securing and activation do not outlive the contexts; a relief's pairings end (R597). -/
def State.resetRlf (s : State) : State :=
  { s with rlf := { s.rlf with
      securing := none, copy := none, copyReq := none, copyBases := [], covers := [], act := none, former := none, dlogHead := 0,
      hold := false, firstNotice := [] } }

/-- The next bell for an origin (R155): bell 0 at the origin if that is later than the timebase, else the first bell after it, counted
as though the period in effect had held since the origin. -/
def State.schedule (s : State) (origin : Nat) : State :=
  if s.now < origin then { s with time := { s.time with nextBell := origin, nextNum := 0 } }
  else
    let k := (s.now - origin) / s.periodNs + 1
    { s with time := { s.time with nextBell := origin + k * s.periodNs, nextNum := k } }

/-- The sequencer region: contexts IDLE, handles FREE with their regions zero-filled, the token, the samplers, the region table
(R597; that the freed handles' regions read zero at once is a DESIGN CHOICE, log entry 56). -/
def State.resetSeq (s : State) : State :=
  let s := allCids.foldl State.abortCtx s
  let s := s.usedHandles.foldl (fun s p =>
    ((stationsOf p.2.set).foldl (fun s i => s.bunkZero i p.2.line0 p.2.lines) s).stampBanks p.2) s
  let s := s.purgeAll.resetRlf
  let regs := s.regs.filter fun p => 0x702000 * 64 ≤ p.1 && p.1 < 0x703000 * 64
  let s := ((s.resetBlock 0x300000 0x10000).resetBlock 0x500000 0x10000).resetBlock 0x700000 0x1000
  let s := (s.resetBlock 0x702000 0x4000)
  let s : State := { s.resetBlock 0x800100 0x40 with
    regs := regs.foldl (fun m p => SMap.ins m p.1 p.2) (s.resetBlock 0x800100 0x40).regs
    shadow := []
    ctxs := [], token := {}, insts := [], passes := [], accs := [], handles := [], purgeQ := [], stores := [], samplers := []
    vus := [], vuFrozen := []
    mill0 := { purge := s.mill0.purge }, mill1 := { purge := s.mill1.purge }
    coef := [], coefSel := [], coefSwap := [], coefLate := []
    fab := { s.fab with reds := [], folds := [], colls := [], landing := [], redCnt := [] }
    dbg := { s.dbg with cnt := [], stop := match s.dbg.stop with
      | some a => if a.ctx.isSome then none else some a
      | none => none } }
  s.schedule 0

/-- Perturbations of a unit in the domain are cleared (R655). -/
def State.clearPert (s : State) (d : Nat) : State :=
  let z (s : State) (o : Nat) : State := s.resetBlock (0xC00000 + o) 8
  let stn (i : Nat) : Bool := d < 24 && i / 4 == d
  let s := if (List.range 4).any (fun k => d < 24 && s.fld Fld.DBG_PT_HOP_FIRST ≤ 4 * d + k && 4 * d + k ≤ s.fld Fld.DBG_PT_HOP_LAST)
    then z s 0x800 else s
  let u := s.fld Fld.DBG_PT_BP_UNIT
  let bp := match s.fld Fld.DBG_PT_BP_TARGET with
    | 1 => stn u
    | 2 => d == 44 + u
    | 3 => d == ctrlDom u
    | 4 => d == 36 + u / 12
    | 5 => d == 48
    | _ => false
  let s := if bp then z s 0x808 else s
  let x := (List.range 60).foldl (fun x r => if regionDom r = d then x &&& ~~~(1#60 <<< r) else x)
    (BitVec.ofNat 60 (s.fld Fld.DBG_PT_XING_REGIONS))
  let s := s.setFld Fld.DBG_PT_XING_REGIONS x.toNat
  let h := (List.range 14).foldl (fun x k => if ctrlDom k = d then x &&& ~~~(1#14 <<< k) else x)
    (BitVec.ofNat 14 (s.fld Fld.DBG_PT_HBM_CTRL))
  let s := s.setFld Fld.DBG_PT_HBM_CTRL h.toNat
  let p := s.fld Fld.DBG_PT_LINK_PORT
  let s := if (if p < 48 then d == 36 + p / 12 else d == 48) then z s 0x820 else s
  let a := s.fld Fld.DBG_PT_ECC_A_ADDR
  let ecc := match s.fld Fld.DBG_PT_ECC_A_TARGET with
    | 1 => stn (fieldN a 0 7)
    | 2 => d == ctrlDom (memCtrl s.variant (fieldN a 3 45 * 8))
    | _ => false
  if ecc then z (z s 0x828) 0x830 else s

/-- A reset of one domain (R592). -/
def State.resetDomain (s : State) (d : Nat) : State :=
  let s := s.clearPert d
  let s := ((List.range 59).filter fun r => regionDom r == d).foldl State.resetRegion s
  if d < 24 then (s.groupHandles d).resetGroup d
  else if d < 36 then s.resetBlock (0x701000 + 0x100 * (d - 24)) 0x100
  else if d < 40 then s.resetDie (d - 36)
  else if d < 42 then s.resetMill (Fin.ofNat 2 d)
  else if d < 44 then s.resetBlock (0x701000 + 0x100 * (d - 30)) 0x100
  else if d < 48 then s.resetHub (Fin.ofNat 4 d)
  else if d = 48 then s.resetSeq.resetLlx
  else s

/-- The marks of a scan go with a reset that covers every scanned region (R651). -/
def State.unscan (s : State) (dom : Nat → Bool) : State :=
  if s.dbg.scanned.all fun r => dom (regionDom r.val) then { s with dbg := { s.dbg with scanned := [] } } else s

/-- A reset of data reach: domains 0 to 48 and the Lalux ports. A fill under way stops and is due again (R597). -/
def State.resetData (s : State) : State :=
  let s := s.resetSeq
  let s := ((List.range 48).foldl State.resetDomain s).resetLlx
  let s := (List.range 59).foldl State.resetRegion s
  { s.resetBlock 0x900000 0x8000 with
    fab := {}
    time := { s.time with fallback := [], allFallback := false }
    rst := { s.rst with memDue := s.rst.memDue ||| s.rst.memInit, memInit := 0 }
    dbg := { s.dbg with stop := none, scanned := [] } }

/-- The fitted units of memory: HBM stacks 0 to 11 and stockpile halves 12 and 13. -/
def memFitted (v : Variant) : BitVec 14 :=
  (List.range 14).foldl (fun a k => if domFitted v (ctrlDom k) then a ||| (1#14 <<< k) else a) 0

/-- Data-plane power goes: memory is lost, every unit is due for its zero-fill, and the tailings are placed again after it
(R593, R597). What lost memory reads as before its fill is zero (DESIGN CHOICE, log entry 57). -/
def State.dropPower (s : State) : State :=
  let s := (List.range 4).foldl (fun s h =>
    if s.rgnClass (252 + h) = 3 then (s.setFld Fld.MEM_RGN_B_STATE 0 (252 + h)).setFld Fld.MEM_RGN_B_CLASS 0 (252 + h) else s) s
  { s with
    mem := [], memErr := [], bunk := [], bunkErr := [], side := [], sideErr := []
    pwr := { s.pwr with dataOn := false }
    rst := { s.rst with memDue := memFitted s.variant, memInit := 0 } }

/-! ### The sources (R592, R594, R621) -/

/-- RST_CAUSE takes a source; it stands asserted. -/
def State.cause (s : State) (k : Fin 9) : State :=
  let c := s.fld Fld.RST_CAUSE_SOURCES
  let s := s.setFld Fld.RST_CAUSE_SOURCES (if k = 0 then 1 else (BitVec.ofNat 9 c ||| (1#9 <<< k.val)).toNat)
  let s := s.setFld Fld.RST_CAUSE_LAST k.val
  { s with rst := { s.rst with asserted := s.rst.asserted ||| (1#9 <<< k.val) } }

/-- A source of data reach is asserted: domains 0 to 48 are held and a release under way goes back to before step 4. -/
def State.assertData (s : State) (k : Fin 9) : State :=
  let s := s.resetData.cause k
  { s with rst := { s.rst with
      held := s.rst.held ||| BitVec.ofNat 50 (2 ^ 49 - 1)
      step := min s.rst.step 3
      swPulse := 0 } }

/-- The PWRFAIL reset (R570): AUX_LOSS shows whether the 12 V input caused it (R622). -/
def State.pwrFail (s : State) (aux : Bool) : State :=
  let s := s.dropPower.assertData 5
  { s with rst := { s.rst with auxLoss := aux } }

/-- PEER (R592): an accepted fabric reset. -/
def execPeer (s : State) : Host.Outcome State Fault Refusal :=
  .next (if s.fab.resetAsked then s.assertData 6 else s)

/-- DBG (R592): a reset request from the debug port after debug unlock. -/
def execDbg (s : State) : Host.Outcome State Fault Refusal :=
  .next (if s.dbg.unlocked then s.assertData 8 else s)

/-- PWRGD_IN_LOW (R592): PWRGD_IN is low for at least 1 µs. -/
def execPwrgdInLow (s : State) : Host.Outcome State Fault Refusal :=
  .next (({ s with pins := { s.pins with pwrgdIn := false } } : State).pwrFail false)

end Sys2Proof.Machine
end

