-- ==== Sys2Proof/Machine/Clocks.lean ====
section
/-! DEFINITION. Clocks, power, thermal (R545 to R591): frequency steps and their ceilings, crossings, droop, the limiters, the
surge credit, the sensors and the envelope loop, the supplies, the power domains, the profile register. -/

namespace Sys2Proof.Machine

/-! ### Ceilings and the effective step (R553 to R557) -/

/-- A ceiling takes a new value: a fall may act from 10 µs on, a rise from 20 µs on (R556). A decision replaces those that would act
after it. -/
def Ceil.set (c : Ceil) (v : BitVec 3) (now : Nat) : Ceil :=
  if v = c.val then c
  else
    let due := now + if v.toNat < c.val.toNat then 10000 else 20000
    { c with val := v, wait := (c.wait.filter fun p => p.1 ≤ due) ++ [(due, v)] }

/-- At a step point the decisions due by then act. -/
def Ceil.take (c : Ceil) (t : Nat) : Ceil :=
  let due := c.wait.filter fun p => p.1 ≤ t
  { c with act := (due.getLast?.map (·.2)).getD c.act, wait := c.wait.filter fun p => t < p.1 }

def min3 (a b : BitVec 3) : BitVec 3 := if a.toNat ≤ b.toNat then a else b

/-- The effective step without the limiter's term. -/
def State.stepBut (s : State) : BitVec 3 :=
  [s.pwr.mode.act, s.pwr.therm.act, s.pwr.surge.act, s.pwr.trim.act, s.variant.maxStep].foldl min3 s.pwr.req

/-- R553. -/
def State.effStep (s : State) : BitVec 3 := min3 s.stepBut s.pwr.limit.act

/-- The index of the first step point at least `d` ns ahead. -/
def State.firstPoint (s : State) (d : Nat) : Nat := ceilDiv (s.now + d) 10000

/-- One step lower, down to step 0. -/
def lower (x : BitVec 3) : BitVec 3 := if x = 0 then 0 else x - 1

/-- The effective step changes: all crossings fall back, counted once, and the change is reported (R554, R556, R582, R641). -/
def State.changeStep (s : State) (x : BitVec 3) : State :=
  if x = s.pwr.step then s
  else
    let old := s.pwr.step
    let s := { s with pwr := { s.pwr with step := x }, time := { s.time with allFallback := true } }
    let s := s.bump Fld.CLK_XING_CNT_FALLBACKS
    let s := s.raise Ev.CLK_STEP srcSurface none (old.toNat + 16 * x.toNat)
    s.trace srcSurface none 9 [BitVec.ofNat 8 old.toNat, BitVec.ofNat 8 x.toNat]

/-- STEP_POINT (R554, R557): everything due by the point acts at once. -/
def execStepPoint (point : Nat) (s : State) : Host.Outcome State Fault Refusal :=
  let t := point * 10000
  let s := s.advanceTo t
  let p := s.pwr
  let p := { p with
    mode := p.mode.take t, therm := p.therm.take t, limit := p.limit.take t, surge := p.surge.take t, trim := p.trim.take t }
  let p := match p.plan with
    | some x => if x.point ≤ point then { p with req := x.step, plan := none } else p
    | none => p
  let s := { s with pwr := p }
  .next (s.changeStep s.effStep)

/-- A request accepted (R555); one above the fused maximum is clamped (R553; DEDUCED, log entry 142). -/
def State.request (s : State) (point : Nat) (x : BitVec 3) : State :=
  let s := (s.setFld Fld.CLK_STEP_AT_POINT point).setFld Fld.CLK_STEP_AT_STEP x.toNat
  { s with pwr := { s.pwr with plan := some ⟨point, min3 x s.variant.maxStep, false⟩ } }

/-- CLK_STEP_AT (R555, R578). -/
def State.wrStepAt (s : State) (v : Word) : WOut :=
  let point := bits v 0 60
  if s.now + 20000 ≤ point * 10000 then { st := s.request point (BitVec.ofNat 3 (bits v 61 3)) }
  else WOut.outside { st := s } 0x200008

def execClkStepAt (_who : Requester) (v : Word) (s : State) : Host.Outcome State Fault Refusal := .next (s.wrStepAt v).st

/-! ### The profile (R560 to R563) -/

/-- The ceiling of a clock mode. -/
def modeStep (mode : Nat) : BitVec 3 := match mode with | 0 => 3 | 1 => 5 | _ => 7

/-- The requested step becomes the mode's ceiling, at the first step point at least 20 µs ahead (R562). -/
def State.modeRequest (s : State) : State :=
  { s with pwr := { s.pwr with plan := some ⟨s.firstPoint 20000, s.pwr.mode.val, true⟩ } }

/-- The clock mode changes. -/
def State.setClock (s : State) (mode : Nat) : State :=
  if mode = s.fld Fld.SFC_PROFILE_CLOCK then s
  else
    let s := s.setFld Fld.SFC_PROFILE_CLOCK mode
    { s with pwr := { s.pwr with mode := s.pwr.mode.set (modeStep mode) s.now } }.modeRequest

/-- A field of the profile that changes only while no context is RUNNING or WAITING (R48, R94, R490). -/
def profField (F : Fld) (v : Nat) (o : WOut) : WOut :=
  if v = o.st.fld F then o else if o.st.anyBusy then { o with busy := true } else o.map (·.setFld F v)

/-- SFC_PROFILE (R560): Surge is refused where it is not permitted (R11); each refusal leaves the other fields alone (R12, R18). -/
def State.wrProfile (s : State) (v : Word) : WOut :=
  let c := bits v 0 2
  let o : WOut := { st := s }
  let o := if c = 3 then o.outside 0x10 else if c = 2 ∧ s.variant ≠ .full then o.absent 0x10 else o.map (·.setClock c)
  let o := profField Fld.SFC_PROFILE_SEAM (bits v 4 2)
    (profField Fld.SFC_PROFILE_RESILIENCE (bits v 3 1) (profField Fld.SFC_PROFILE_NUMERICS (bits v 2 1) o))
  if o.busy then o.map (·.regEvent Ev.CFG_BUSY 0x10) else o

def execSfcProfileWrite (_who : Requester) (v : Word) (s : State) : Host.Outcome State Fault Refusal := .next (s.wrProfile v).st

/-! ### Crossings and stretching (R548 to R551) -/

/-- DROOP_STRETCH (R550): the supply of a region falls below its threshold, or recovers. Droop monitors are off while safe defaults
are held (R604). -/
def execDroopStretch (r : Fin 60) (on : Bool) (s : State) : Host.Outcome State Fault Refusal :=
  let there := s.time.droop.contains r
  .next (if on then
      if s.variant != .full || s.pwr.trim.val == 3 || there || !s.regionRuns r.val then s
      else
        (({ s with time := { s.time with droop := r :: s.time.droop } } : State).bump Fld.CLK_R_STAT_DROOPS 1 r.val).canary 5 1
    else { s with time := { s.time with droop := s.time.droop.filter (· != r) } })

/-- XING_FALLBACK (R548): not at the surface's crossings, which always run as handshakes (R545), nor at one that is in fallback already,
by itself or by DBG_PT_XING (R668). -/
def execXingFallback (r : Fin 60) (xing : Fin 64) (s : State) : Host.Outcome State Fault Refusal :=
  let k := 64 * r.val + xing.val
  .next (if r.val = 59 ∨ !s.regionRuns r.val ∨ s.time.allFallback ∨ s.time.fallback.contains k ∨
      fieldN (s.fld Fld.DBG_PT_XING_REGIONS) r.val 1 = 1 then s
    else ({ s with time := { s.time with fallback := k :: s.time.fallback } } : State).bump Fld.CLK_XING_CNT_FALLBACKS)

/-! ### The limiters (R565, R566) -/

/-- The limiter ceiling goes one step below the effective step. -/
def State.limitFall (s : State) : State :=
  let v := lower s.pwr.step
  let s := if v.toNat < s.pwr.limit.val.toNat then s.bump Fld.PWR_LIMIT_CNT_LIMIT_STEPS else s
  { s with pwr := { s.pwr with limit := s.pwr.limit.set v s.now, limitSince := s.now } }

/-- The fast limiter triggers. -/
def State.limiter (s : State) : State :=
  let s := (s.bump Fld.PWR_LIMIT_CNT_TRIGGERS).raise Ev.PWR_LIMIT srcSurface
  if s.variant = .full then
    if s.pwr.stretching then s else { s with pwr := { s.pwr with stretching := true, stretchSince := s.now } }
  else (s.canary 5 1).limitFall

/-- FAST_LIMITER_TRIGGER: a span over 70 A; while the stretching lasts such a span is no trigger. -/
def execFastLimiterTrigger (s : State) : Host.Outcome State Fault Refusal :=
  .next (if s.variant = .full ∧ s.pwr.stretching then s else s.limiter)

/-- LIMITER_STRETCH_TIMEOUT: the stretching has lasted 1 ms; its count starts again. -/
def execLimiterStretchTimeout (s : State) : Host.Outcome State Fault Refusal :=
  .next (if s.pwr.stretching ∧ s.pwr.stretchSince + 1000000 ≤ s.now then
      { s with pwr := { s.pwr with stretchSince := s.now } }.limitFall
    else s)

/-- LIMITER_STRETCH_END: the current has stayed at or below 66 A for 100 µs. -/
def execLimiterStretchEnd (s : State) : Host.Outcome State Fault Refusal :=
  .next { s with pwr := { s.pwr with stretching := false } }

/-- LIMITER_CEIL_RISE: 10 ms at or below 66 A. At the effective step of the other terms the ceiling no longer limits. -/
def execLimiterCeilRise (s : State) : Host.Outcome State Fault Refusal :=
  let l := s.pwr.limit
  .next (if l.val = 7 ∨ s.now < s.pwr.limitSince + 10000000 then s
    else
      let v := if s.stepBut.toNat ≤ l.val.toNat + 1 then 7 else l.val + 1
      { s with pwr := { s.pwr with limit := l.set v s.now, limitSince := s.now } })

/-- INPUT_CAP (R566): an engagement is counted, throttles the groups, and triggers the limiter. -/
def execInputCap (s : State) : Host.Outcome State Fault Refusal :=
  .next (({ s with pwr := { s.pwr with cap := true } } : State).bump Fld.PWR_LIMIT_CNT_CAPS).limiter

/-- INPUT_CAP_RELEASE (R566): 100 µs after the release the throttle ends. -/
def execInputCapRelease (s : State) : Host.Outcome State Fault Refusal := .next { s with pwr := { s.pwr with cap := false } }

/-! ### Surge credit (R567) -/

/-- SURGE_SPENT: the credit has reached 0. -/
def execSurgeSpent (s : State) : Host.Outcome State Fault Refusal :=
  .next (if s.variant != .full || s.pwr.spent || s.pwr.credit != 0 then s
    else
      let s := { s with pwr := { s.pwr with spent := true, surge := s.pwr.surge.set 5 s.now } }
      (s.bump Fld.CLK_SURGE_SPENT_CNT).raise Ev.SURGE_SPENT srcSurface)

/-- SURGE_RESTORED: the credit has risen to 30 s. -/
def execSurgeRestored (s : State) : Host.Outcome State Fault Refusal :=
  .next (if s.pwr.spent && 150000000000 ≤ s.pwr.credit then
      { s with pwr := { s.pwr with spent := false, surge := s.pwr.surge.set 7 s.now } }
    else s)

/-! ### Sensors, thermal ceiling, envelope (R564, R568, R571, R584, R585) -/

/-- The readings of the fitted sensors: region `k` for `k` below 60, stack `k - 60` above; the others read zero. -/
def State.readings (s : State) (l : List Nat) : List Nat :=
  (List.range 72).map fun k =>
    if (if k < 60 then domFitted s.variant (regionDom k) else s.variant.hasStack (k - 60)) then l.getD k 0 else 0

def hottest (l : List Nat) : Nat := l.foldl max 0

/-- A quotient as shown, in the rounding the manual leaves open. -/
def shown (a : Int) (b : Nat) : Int := a / b + if a % b = 0 then 0 else (Config.roundUp a b).toNat

/-- The thermal ceiling falls: one below the effective step, or one further step at each cycle that still reads 100 °C. -/
def State.thermFall (s : State) (again : Bool) : State :=
  let v := if again then lower s.pwr.therm.val else lower s.pwr.step
  if s.pwr.therm.val.toNat ≤ v.toNat then s
  else
    let s := { s with pwr := { s.pwr with therm := s.pwr.therm.set v s.now, coolRun := 0 } }
    (s.bump Fld.PWR_LIMIT_CNT_THERM_STEPS).raise Ev.THERM_THROTTLE srcSurface

/-- The envelope of the clock mode in W (R1, R563). -/
def State.envelope (s : State) : Nat :=
  if s.fld Fld.SFC_PROFILE_CLOCK = 2 then 3200
  else match s.variant with | .full => 2600 | .memory => 2350 | .link => 2250 | .base => 1750

/-- The firmware's envelope loop: it runs once an image runs and the data plane is released. -/
def State.envelopeLoop (s : State) : State :=
  let n := s.pwr.powers.length
  let sum := s.pwr.powers.sum
  let env := s.envelope
  let low := if 100 * sum < 95 * env * n then s.pwr.envLow + 1 else 0
  let s := { s with pwr := { s.pwr with envLow := low } }
  if s.rst.running.isNone || s.rst.step != 11 then s
  else if env * n < sum then
    if s.pwr.req = 0 then s else s.request (s.firstPoint 20000) (s.pwr.req - 1)
  else if 10 ≤ low && s.pwr.req.toNat < s.pwr.mode.val.toNat then s.request (s.firstPoint 20000) (s.pwr.req + 1)
  else s

/-- SURFACE_CYCLE (R571). -/
def execSurfaceCycle (x : Sensors) (s : State) : Host.Outcome State Fault Refusal :=
  let l := s.readings x.temps
  let hot := hottest l
  let again := 1600 ≤ s.pwr.hist.headD 0
  let hist := (hot :: s.pwr.hist).take 1025
  let slope := shown (((hot : Int) - (hist.getLastD hot : Nat)) * 1000) 1024
  let powers := (x.power :: s.pwr.powers).take 10
  let s := { s with pwr := { s.pwr with
    temps := l, hist := hist, powers := powers
    coolRun := if l.all fun t => t < 1520 then s.pwr.coolRun + 1 else 0 } }
  let s := s.setFld Fld.PWR_TEMP_MAX hot
  let s := s.setFld Fld.PWR_TEMP_SENSOR (l.findIdx (· == hot))
  let s := s.setFld Fld.PWR_TEMP_SLOPE (slope % 2 ^ 16).toNat
  let s := s.setFld Fld.PWR_INPUT_VOLT x.volt
  let s := s.setFld Fld.PWR_INPUT_CURRENT x.current
  let s := s.setFld Fld.PWR_INPUT_POWER (shown powers.sum powers.length).toNat
  let s := s.setFld Fld.PWR_INPUT_RIPPLE (x.vmax - x.vmin)
  let s := if 1600 ≤ hot then s.thermFall again else s
  .next s.envelopeLoop

/-- THERM_CEIL_RISE (R568): 100 readings in a row below 95 °C since the ceiling last changed. -/
def execThermCeilRise (s : State) : Host.Outcome State Fault Refusal :=
  let t := s.pwr.therm
  .next (if t.val = 7 ∨ s.pwr.coolRun < 100 then s
    else { s with pwr := { s.pwr with therm := t.set (t.val + 1) s.now, coolRun := 0 } })

/-- THERM_TRIP (R569). -/
def execThermTrip (s : State) : Host.Outcome State Fault Refusal :=
  .next (((s.dropPower.bump Fld.PWR_LIMIT_CNT_TRIPS).raise Ev.THERM_TRIP srcSurface).assertData 4)

/-! ### Supplies (R570, R575) -/

/-- PWR_INPUT (R570): the 48 V input goes out of range for 20 µs, or is back in range. -/
def execPwrInput (ok : Bool) (s : State) : Host.Outcome State Fault Refusal :=
  let s := { s with pwr := { s.pwr with inOk := ok } }
  .next (if ok then s else (s.raise Ev.PWR_INPUT srcSurface).pwrFail false)

/-- AUX_LOSS (R570): the 12 V input goes out of range for 10 µs, or has been back in range for 10 ms. -/
def execAuxLoss (ok : Bool) (s : State) : Host.Outcome State Fault Refusal :=
  let s := { s with pwr := { s.pwr with auxOk := ok } }
  .next (if ok then s else s.pwrFail true)

/-- HOLDUP_CHARGED (R575, R589): the store's energy in mJ; CHARGED from 90 % of its 6 J on. -/
def execHoldupCharged (energy : Nat) (s : State) : Host.Outcome State Fault Refusal :=
  .next { s with pwr := { s.pwr with energy := energy, charged := s.pwr.charged || 5400 ≤ energy } }

/-! ### Power domains (R572 to R574) -/

/-- Contexts that R574 names for a station group: their seam contains it, or their handles hold a line of its slices. -/
def State.groupUsers (s : State) (g : Nat) : List Cid :=
  allCids.filter fun c => s.lead c == c && (s.ctx c).st != .idle &&
    (s.seamSet c &&& rangeSet (4 * g) 4 != 0 || s.usedHandles.any fun p => p.2.owner == c && p.2.set &&& rangeSet (4 * g) 4 != 0)

/-- A region of a mill's half that is not FREE. -/
def State.halfUsed (s : State) (m : Nat) : Bool :=
  s.rgnUsed.any fun r => stkBase ≤ s.rgnBase r && (s.rgnBase r - stkBase) / stkWindow == m

/-- The refusals of R574. -/
def State.domBusy (s : State) (d : Nat) : Bool :=
  if d < 24 then !(s.groupUsers d).isEmpty || s.usedHandles.any fun p => p.2.set &&& rangeSet (4 * d) 4 != 0
  else if d < 36 then true
  else if d < 40 then (List.range 12).any fun j => s.flag Fld.BKN_P_CFG_EN (12 * (d - 36) + j)
  else if d < 42 then !(s.mill (Fin.ofNat 2 d)).queue.isEmpty || s.halfUsed (d - 40)
  else if d < 44 then s.domState (d - 2) == 1 || s.halfUsed (d - 42)
  else true

/-- A domain that R573 keeps ON. -/
def keptOn (d : Nat) : Bool := (24 ≤ d && d < 36) || 44 ≤ d

/-- PWR_DOM_REQ (R574, R588). The states of a unit refuse the turning off; a domain that is kept ON refuses every request
(DESIGN CHOICE, log entry 62). -/
def State.wrDomReq (s : State) (who : Requester) (v : Word) : WOut :=
  let d := bits v 0 6
  let off := bit v 6
  let keep (s : State) : State := (s.setFld Fld.PWR_DOM_REQ_DOMAIN d).setFld Fld.PWR_DOM_REQ_OFF off.toNat
  let del (l : List (Fin 50)) : List (Fin 50) := l.filter fun x => x.val != d
  s.privWrite who fun o =>
    if 49 < d then o.outside 0x200130
    else if s.domState d = 3 then o.absent 0x200130
    else if keptOn d || (off && s.domBusy d) then o.reject 0x200130
    else o.map fun s =>
      let p := s.pwr
      let there := p.off.any fun x => x.val == d
      if off then
        { keep s with pwr := { p with off := Fin.ofNat 50 d :: del p.off, turningOn := del p.turningOn, waking := del p.waking } }
      else if there then { keep s with pwr := { p with turningOn := Fin.ofNat 50 d :: del p.turningOn } }
      else keep s

def execPwrDomReq (who : Requester) (v : Word) (s : State) : Host.Outcome State Fault Refusal := .next (s.wrDomReq who v).st

/-- DOMAIN_POWER_ON (R574): the domain has power, its old contents are lost, and it passes through a reset of domain reach; the
release order lets it go. -/
def execDomainPowerOn (d : Fin 50) (s : State) : Host.Outcome State Fault Refusal :=
  .next (if !s.pwr.turningOn.contains d then s
    else
      let s := (s.resetDomain d.val).unscan fun k => k == d.val
      { s with
        pwr := { s.pwr with turningOn := s.pwr.turningOn.filter (· != d), waking := d :: s.pwr.waking }
        rst := { s.rst with held := s.rst.held ||| (1#50 <<< d.val) } })

end Sys2Proof.Machine
end

