-- ==== Sys2Proof/Machine/Signed.lean ====
section
/-! DEFINITION. Signed stores: the header that images, configuration copies and debug tokens share, and the checks that the boot ROM
and the security block make of them (R604, R605, R609, R610, R652). SHA-512 and Ed25519 are free functions: the manual names them and
does not restate them. -/

namespace Sys2Proof.Machine

/-- The SHA-512 digest. -/
def sha512 (b : List Byte) : List Byte := (List.range 64).map (Config.sha512 b)

/-- The key check (R610): the key's digest is the fused one of its index, and the index is not revoked. -/
def keyCheck (index : Nat) (key : List Byte) : Bool :=
  index < 4 && !Config.keyRevoked index && (sha512 key).take 32 == (List.range 32).map (Config.keyDigest index)

/-- KEY_INDEX, PUBKEY and SIGNATURE of a header hold for the bytes `signed` (R605). -/
def signedBy (b signed : List Byte) : Bool :=
  keyCheck (leAt b 12 1) (sliceB b 64 32) && Config.ed25519 (sliceB b 64 32) (sha512 signed) (sliceB b 96 64)

/-- The body that LENGTH gives. -/
def storeBody (b : List Byte) : List Byte := (b.drop 256).take (leAt b 8 4)

/-- MAGIC and SIGNATURE hold, and the body is whole. -/
def storeOk (magic : Nat) (b : List Byte) : Bool :=
  leAt b 0 4 == magic && 256 + leAt b 8 4 ≤ b.length && signedBy b (sliceB b 0 96 ++ storeBody b)

/-! ### Configuration copies (R605) -/

def cfgSeq (b : List Byte) : BitVec 32 := BitVec.ofNat 32 (leAt b 4 4)
def cfgTail (b : List Byte) : Nat := leAt b 13 1

/-- The copy is valid. A TAIL above 16 makes it invalid too (DESIGN CHOICE, log entry 63). -/
def cfgOk (b : List Byte) : Bool := leAt b 8 4 % 16 == 0 && leAt b 8 4 ≤ 65280 && cfgTail b ≤ 16 && storeOk 0x5A544346 b

/-- The body's entries: offset and value. -/
def cfgEntries (b : List Byte) : List (Nat × Word) :=
  let body := storeBody b
  (List.range (body.length / 16)).map fun k =>
    let e := (body.drop (16 * k)).take 16
    (leAt e 0 8, BitVec.ofNat 64 (leAt e 8 8))

/-! ### Firmware images (R609) -/

def imgVersion (b : List Byte) : Nat := leAt b 4 4
def imgRollback (b : List Byte) : Nat := leAt b 13 1

/-- The image is valid against a rollback count. -/
def imgOk (count : BitVec 6) (b : List Byte) : Bool :=
  leAt b 8 4 ≤ 8 * 2 ^ 20 - 256 && imgRollback b < 64 && count.toNat ≤ imgRollback b && storeOk 0x5A544657 b

/-! ### The trim block (R604) -/

/-- 4 KiB whose last four bytes are the CRC of the others. -/
def trimOk (b : List Byte) : Bool := b.length == 4096 && leAt b 4092 4 == (crc32c (b.take 4092)).toNat

/-! ### Debug tokens (R652) -/

/-- Bytes of the token that R652 does not name are zero. -/
def tokenZeros (t : List Byte) : Bool := (List.range 192).all fun k => k < 9 || k == 12 || (16 ≤ k && k < 160) || t.getD k 0 == 0

/-- The checks of R653 against the power-up count, the nonce and the device's public key. -/
def tokenOk (por nonce : Nat) (key t : List Byte) : Bool :=
  leAt t 0 4 == 0x5A544454 && por ≤ leAt t 4 4 && leAt t 8 1 < 8 && leAt t 16 8 == nonce && sliceB t 24 32 == (sha512 key).take 32 &&
    tokenZeros t && signedBy t (sliceB t 0 96)

end Sys2Proof.Machine
end

