-- ==== Sys2Proof/Machine/Reset.lean ====
section
/-! DEFINITION. Resets of full and domain reach and their release, the last-gasp record, secure boot, the configuration store, the
rollback count, attestation and the watchdog (R592 to R619, R682). The release order itself is in Machine/Boot.lean. -/

namespace Sys2Proof.Machine

/-! ### Full reach (R592, R586, R597, R621, R625) -/

/-- The cells that a full reset other than POR keeps: RST_CAUSE, RST_WDT, PWR_LIMIT_CNT.TRIPS and the region table, whose entries are
then purged. -/
def keptCell (k : Nat) : Bool :=
  k / 64 == 0x100000 || k / 64 == 0x100020 || k == 0x200118 * 64 + 56 || (0x702000 * 64 ≤ k && k < 0x703000 * 64)

/-- What no reset touches: the fuses, the flash, the pins, the supplies, and the model's own fields. -/
def State.fresh (s : State) : State :=
  { State.reset with
    pending := s.pending, variant := s.variant, freeCtr := s.freeCtr, pins := s.pins
    pwr := { inOk := s.pwr.inOk, auxOk := s.pwr.auxOk }
    rst := { porCount := s.rst.porCount, gasps := s.rst.gasps, copyA := s.rst.copyA, copyB := s.rst.copyB,
             rollback := s.rst.rollback } }

/-- A full reset that leaves power on: memory keeps its contents, which the purge of the regions removes; tailings are placed anew. -/
def State.resetFull (s : State) : State :=
  let t := s.fresh
  let t := { t with
    regs := s.regs.filter fun p => keptCell p.1
    mem := s.mem, memErr := s.memErr
    pwr := { t.pwr with dataOn := s.pwr.dataOn, energy := s.pwr.energy, charged := s.pwr.charged }
    rst := { t.rst with memDue := s.rst.memDue ||| s.rst.memInit } }
  let t := (List.range 4).foldl (fun t h =>
    if t.rgnClass (252 + h) = 3 then (t.setFld Fld.MEM_RGN_B_STATE 0 (252 + h)).setFld Fld.MEM_RGN_B_CLASS 0 (252 + h) else t) t
  (List.range 256).foldl (fun t r => if t.rgnState r = 0 then t else t.purgeRegion r) t

/-- POR (R592): the surface rail is below its threshold. Memory has lost its contents. -/
def execPor (s : State) : Host.Outcome State Fault Refusal :=
  let t := s.fresh
  .next (({ t with rst := { t.rst with porCount := t.rst.porCount + 1 } } : State).cause 0)

/-- PIN (R592): RST_N goes low, or high again; RESET_RELEASE ends the reset. -/
def execPin (level : Bool) (s : State) : Host.Outcome State Fault Refusal :=
  let t := { s with pins := { s.pins with rstN := level } }
  .next (if level then t else t.resetFull.cause 1)

/-- WDT (R618): no kick within TIMEOUT. -/
def execWdt (s : State) : Host.Outcome State Fault Refusal :=
  .next (if s.rst.lastKick + 1000000 * s.fld Fld.RST_WDT_TIMEOUT ≤ s.now then
      (s.bump Fld.RST_WDT_EXPIRIES).resetFull.cause 3
    else s)

/-- The watchdog is serviced. -/
def State.kick (s : State) : State :=
  ({ s with rst := { s.rst with lastKick := s.now } } : State).bump Fld.RST_WDT_SURF_CYCLES

/-- KICK (R618, R625). -/
def execKick (_who : Requester) (s : State) : Host.Outcome State Fault Refusal := .next s.kick

/-! ### Release (R594) -/

/-- Bits of the sources of full and of data reach in RST_CAUSE's order. -/
def fullSources : BitVec 9 := 0b000001011
def dataSources : BitVec 9 := 0b101110100

/-- Some asserted source covers the domain. -/
def State.covered (s : State) (d : Nat) : Bool :=
  s.rst.asserted &&& fullSources != 0 || (d < 49 && s.rst.asserted &&& dataSources != 0) ||
    bit (s.rst.swHeld ||| s.rst.swPulse) d

/-- The source's condition has ended (R569, R570, R592). -/
def State.ended (s : State) (k : Fin 9) : Bool :=
  if k = 1 then s.pins.rstN
  else if k = 4 then s.pwr.temps.all fun t => t < 1440
  else if k = 5 then s.pwr.inOk && s.pwr.auxOk
  else true

/-- RESET_RELEASE (R594): the source is released. PWRGD_IN is high when PWRFAIL ends. A SWDOM that holds stands on. -/
def execResetRelease (src : Fin 9) (s : State) : Host.Outcome State Fault Refusal :=
  let off := s.rst.asserted &&& ~~~(1#9 <<< src.val)
  .next (if !bit s.rst.asserted src.val || !s.ended src then s
    else if src = 7 then
      { s with rst := { s.rst with swPulse := 0, asserted := if s.rst.swHeld = 0 then off else s.rst.asserted } }
    else
      let s := if src = 5 then { s with pins := { s.pins with pwrgdIn := true } } else s
      { s with rst := { s.rst with asserted := off } })

/-- ALERT_N as the device drives it (R619): false is low. -/
def State.alertN (s : State) : Bool :=
  BitVec.ofNat 9 (s.fld Fld.RST_CAUSE_SOURCES) &&& 0b001111000 == 0 && s.rst.held &&& BitVec.ofNat 50 (2 ^ 49 - 1) == 0

/-! ### SWDOM (R598, R599, R624) -/

/-- A domain reset is asserted, for 64 reference cycles or until it is released. -/
def State.assertDomain (s : State) (d : Fin 50) (hold : Bool) : State :=
  let s := ((s.resetDomain d.val).unscan fun k => k == d.val).cause 7
  let b := 1#50 <<< d.val
  let due := if 24 ≤ d.val ∧ d.val < 36 then 1#14 <<< (d.val - 24) else if 42 ≤ d.val ∧ d.val < 44 then 1#14 <<< (d.val - 30) else 0
  { s with rst := { s.rst with
    held := s.rst.held ||| b
    swHeld := if hold then s.rst.swHeld ||| b else s.rst.swHeld
    swPulse := if hold then s.rst.swPulse else s.rst.swPulse ||| b
    memDue := s.rst.memDue ||| (s.rst.memInit &&& due)
    memInit := s.rst.memInit &&& ~~~due } }

/-- The contexts that the conditions of R574 name for a domain. -/
def State.domUsers (s : State) (d : Nat) : List Cid :=
  if d < 24 then s.groupUsers d
  else if 40 ≤ d && d < 44 then
    allCids.filter fun c => (d < 42 && (s.mill (Fin.ofNat 2 d)).queue.any (fun u => s.lead u.cid == c)) ||
      s.rgnUsed.any fun r => s.rgnOwned r && s.rgnOwner r == c.val && stkBase ≤ s.rgnBase r &&
        (s.rgnBase r - stkBase) / stkWindow == d % 2
  else []

/-- A context-reach reset acts at action 3 of the next bell. -/
def State.askReset (s : State) (c : Cid) : State := s.modCtx (s.lead c) fun x => { x with resetReq := true }

/-- RST_SWREQ: a request that is discarded or refused leaves its fields alone. -/
def State.wrSwreq (s : State) (who : Requester) (v : Word) : WOut :=
  let d := bits v 0 6
  let hold := bit v 11
  s.privWrite who fun o =>
    let taken (f : State → State) : WOut := o.map fun s =>
      let s := (s.setFld Fld.RST_SWREQ_DOMAIN d).setFld Fld.RST_SWREQ_CONTEXT (bits v 6 1)
      let s := (s.setFld Fld.RST_SWREQ_SEQ (bits v 7 1)).setFld Fld.RST_SWREQ_CTX (bits v 8 2)
      f ((s.setFld Fld.RST_SWREQ_FORCE (bits v 10 1)).setFld Fld.RST_SWREQ_HOLD (bits v 11 1))
    if bit v 6 then taken fun s =>
      let t := (s.askReset (Fin.ofNat 8 (4 * bits v 7 1 + bits v 8 2))).cause 7
      { t with rst := { t.rst with asserted := s.rst.asserted } }
    else if 49 ≤ d then o.outside 0x100018
    else if s.domState d = 3 then o.absent 0x100018
    else if bit s.rst.swHeld d then taken fun s =>
      if hold then s
      else
        let h := s.rst.swHeld &&& ~~~(1#50 <<< d)
        { s with rst := { s.rst with
          swHeld := h
          asserted := if h ||| s.rst.swPulse = 0 then s.rst.asserted &&& ~~~(1#9 <<< 7) else s.rst.asserted } }
    else if !(keptOn d || s.domBusy d) then taken (·.assertDomain (Fin.ofNat 50 d) hold)
    else if !bit v 10 then o.reject 0x100018
    else taken fun s =>
      let users := s.domUsers d
      if users.isEmpty then s.assertDomain (Fin.ofNat 50 d) hold
      else
        let s := users.foldl State.askReset s
        { s with rst := { s.rst with forced := s.rst.forced ++ [(Fin.ofNat 50 d, hold)] } }

def execRstSwreq (who : Requester) (v : Word) (s : State) : Host.Outcome State Fault Refusal := .next (s.wrSwreq who v).st

/-- After the bell's context resets the domains that waited for them are asserted (R598). -/
def State.assertForced (s : State) : State :=
  s.rst.forced.foldl (fun s p => s.assertDomain p.1 p.2) { s with rst := { s.rst with forced := [] } }

/-! ### Memory after a reset (R597) -/

/-- MEMORY_ZERO_FILL_DONE: one stack or half. -/
def execMemoryZeroFillDone (unit : Fin 14) (s : State) : Host.Outcome State Fault Refusal :=
  .next (if bit s.rst.memInit unit.val && s.domOn (ctrlDom unit.val) then
      { s with rst := { s.rst with memInit := s.rst.memInit &&& ~~~(1#14 <<< unit.val) } }.placeTailings
    else s)

/-- SYSREF_EDGE (R682): in step 3 the edge sets the divider's phase. -/
def execSysrefEdge (s : State) : Host.Outcome State Fault Refusal :=
  .next (if s.rst.step = 2 ∧ s.rst.asserted &&& fullSources = 0 then { s with rst := { s.rst with sysrefSeen := true } } else s)

/-! ### The last-gasp record (R608) -/

/-- RST_CAUSE[31:0]. -/
def State.causeWord (s : State) : Nat := s.fld Fld.RST_CAUSE_SOURCES + s.fld Fld.RST_CAUSE_LAST * 2 ^ 16

def gaspEvent (f : EvFrame) : List Byte :=
  bytesOf 2 f.code.toNat ++ [f.source, f.unit] ++ bytesOf 4 0 ++ bytesOf 8 f.time.toNat

def State.gasp (s : State) (why : Nat) : List Byte :=
  let pin := s.fld Fld.PWR_INPUT_VOLT + s.fld Fld.PWR_INPUT_CURRENT * 2 ^ 16 + s.fld Fld.PWR_INPUT_POWER * 2 ^ 32 +
    s.fld Fld.PWR_INPUT_RIPPLE * 2 ^ 48
  let tmp := s.fld Fld.PWR_TEMP_MAX + s.fld Fld.PWR_TEMP_SENSOR * 2 ^ 12 + s.fld Fld.PWR_TEMP_SLOPE * 2 ^ 32
  let head := bytesOf 4 (7 + why * 256) ++ bytesOf 4 s.rst.porCount.toNat ++ bytesOf 8 s.now ++ bytesOf 8 (s.fld Fld.SEQ_BELL_NUM_NUMBER) ++
    bytesOf 4 s.causeWord ++ bytesOf 4 (s.fld Fld.RLF_CANARY_RISK + s.pwr.step.toNat * 256) ++ bytesOf 8 pin ++ bytesOf 8 tmp ++
    bytesOf 2 s.pwr.energy
  let body := sliceB (sliceB head 0 64 ++ s.llx.recent.flatMap gaspEvent) 0 252
  body ++ bytesOf 4 (crc32c body).toNat

/-- LAST_GASP: into the older slot; on hold-up energy only with 1.5 J left. With both causes asserted it is the later one. -/
def execLastGasp (s : State) : Host.Outcome State Fault Refusal :=
  let supply : Bool := bit s.rst.asserted 5 && s.fld Fld.RST_CAUSE_LAST = 5
  let why := if bit s.rst.asserted 4 && !supply then 3 else if bit s.rst.asserted 5 then (if s.rst.auxLoss then 2 else 1) else 0
  .next (if why = 0 || (!s.pwr.auxOk && s.pwr.energy < 1500) then s
    else { s with rst := { s.rst with gasps := s.gasp why :: s.rst.gasps.take 1 } })

/-! ### Secure boot and the stores (R605 to R615) -/

/-- An image that the boot ROM may run. -/
def State.imageOk (s : State) (i : List Byte) : Bool := imgOk s.rst.rollback i

/-- IMAGE_VERIFY (R609, R611): the valid image with the higher VERSION, slot 0 when equal; recovery boot without one or by the
strap. -/
def execImageVerify (slot0 slot1 : List Byte) (s : State) : Host.Outcome State Fault Refusal :=
  let run (i : List Byte) (slot : Bool) : State :=
    { s with rst := { s.rst with running := some i, imageSlot := slot, verified := true } }
  let recover : State := { s with rst := { s.rst with recovery := true } }
  .next (if s.rst.step < 2 || s.rst.running.isSome then s
    else
      let a := s.imageOk slot0
      let b := s.imageOk slot1
      if !a && !b then recover.raise Ev.SEC_IMAGE srcSurface
      else if bit s.rst.strap 0 then recover
      else if a && (!b || imgVersion slot1 ≤ imgVersion slot0) then run slot0 false
      else run slot1 true)

/-- Serial comparison modulo 2^32: the first is the greater, or the two are equal. -/
def serialGe (a b : BitVec 32) : Bool :=
  let d := (a - b).toNat
  if d = 2 ^ 31 then Config.serialHalf a b else d < 2 ^ 31

/-- CFG_STORE_WRITE (R607): the management core writes the copy that was not selected, its SEQ one above the selected one's; with none
selected it is copy A (DESIGN CHOICE, log entry 64). -/
def execCfgStoreWrite (head body : List Byte) (s : State) : Host.Outcome State Fault Refusal :=
  let c := head.take 4 ++ bytesOf 4 (s.fld Fld.SEC_CFG_SEQ + 1) ++ head.drop 8 ++ body
  .next (if s.rst.running.isNone then s
    else if s.pwr.energy < 800 then s.raise Ev.CFG_HOLDUP_LOW srcSurface
    else if s.fld Fld.SEC_CFG_SEL = 0 then { s with rst := { s.rst with copyB := c } }
    else { s with rst := { s.rst with copyA := c } })

/-- SEC_ROLLBACK (R612, R631). -/
def State.wrRollback (s : State) (who : Requester) (v : Word) : WOut :=
  let n := BitVec.ofNat 6 (bits v 0 6)
  s.privWrite who fun o =>
    match s.rst.running with
    | some i =>
      if s.rst.rollback.toNat < n.toNat && n.toNat ≤ imgRollback i then o.map fun s => { s with rst := { s.rst with rollback := n } }
      else o
    | none => o

def execSecRollbackWrite (who : Requester) (v : Word) (s : State) : Host.Outcome State Fault Refusal := .next (s.wrRollback who v).st

/-- The mailbox's bytes. -/
def State.mbox (s : State) : List Byte := (List.range 512).flatMap fun k => bytesOf 8 (s.fld Fld.SEC_MBOX_WORD k)

/-- The request codes of R614 in SPDM 1.2 (PRESUMED from the standard, log entry 65). -/
def spdmCodes : List Nat := [0x81, 0x82, 0x83, 0x84, 0xE0, 0xE1, 0xE3]

/-- The request in the mailbox: its first LEN bytes (R615). -/
def State.mboxReq (s : State) : List Byte :=
  let n := s.fld Fld.SEC_MBOX_CTL_LEN
  s.mbox.take (if n = 0 then 4096 else n)

/-- SPDM_REQUEST (R614, R615): the response replaces the request; any other request is answered with UnsupportedRequest. -/
def execSpdmRequest (response : List Byte) (s : State) : Host.Outcome State Fault Refusal :=
  let q := s.mboxReq
  let r := if spdmCodes.contains (leAt q 1 1) then response.take 4096 else [q.getD 0 0, 0x7F, 0x07, q.getD 1 0]
  let s := (List.range 512).foldl (fun s k => s.setFld Fld.SEC_MBOX_WORD (leAt r (8 * k) 8) k) s
  .next (((s.setFld Fld.SEC_MBOX_CTL_LEN (r.length % 4096)).setFld Fld.SEC_MBOX_CTL_DONE 1).setFld Fld.SEC_MBOX_CTL_BUSY 0)

end Sys2Proof.Machine
end

