-- ==== Sys2Proof/Machine/Debug.lean ====
section
/-! DEFINITION. Observability and debug (R638 to R668): all-stops and their release, unlock, readout, trace rings and remote trace, the
programmable counters' switch. The test port is in Machine/Tap.lean. -/

namespace Sys2Proof.Machine

/-! ### All-stops (R646, R649, R659) -/

/-- A debug command: only from a privileged requester while debug is unlocked. -/
def State.debugCmd (s : State) (who : Requester) (body : State → State) : WOut :=
  if s.dbg.unlocked && s.privileged who then { st := body s } else WOut.refuse { st := s }

/-- Every stopped region restarts; all crossings fall back, counted once (R582, R649). -/
def State.restart (s : State) : State :=
  match s.dbg.stop with
  | none => s
  | some _ =>
    ({ s with dbg := { s.dbg with stop := none }, time := { s.time with allFallback := true } } : State).bump
      Fld.CLK_XING_CNT_FALLBACKS

/-- A write of RELEASE; refused while a region is marked scanned (R651). -/
def State.releaseStop (s : State) (who : Requester) : WOut :=
  s.debugCmd who fun s => if s.dbg.scanned.isEmpty then s.restart else s

/-- A write of STOP with its scope. -/
def State.stopWrite (s : State) (who : Requester) (v : Word) : WOut :=
  s.debugCmd who fun s =>
    s.stopNow (if bit v 2 then some (s.lead (Fin.ofNat 8 (4 * bits v 3 1 + bits v 4 2))) else none) 1

/-- A write of DBGRST: from the debug port alone. -/
def State.dbgReset (s : State) (who : Requester) : WOut :=
  if who = .debug then s.debugCmd who (·.assertData 8) else WOut.refuse { st := s }

/-- The fields of DBG_STOP that hold a value. -/
def State.stopFields (s : State) (v : Word) : State :=
  ((s.setFld Fld.DBG_STOP_SCOPE (bits v 2 1)).setFld Fld.DBG_STOP_SEQ (bits v 3 1)).setFld Fld.DBG_STOP_CTX (bits v 4 2)

/-- DBG_STOP: each bit that is set acts, in the order STOP, RELEASE, DBGRST (DESIGN CHOICE, log entry 66). -/
def State.wrStop (s : State) (who : Requester) (v : Word) : WOut :=
  let o := s.privWrite who fun o => o.map (·.stopFields v)
  let add (o : WOut) (b : Bool) (f : State → WOut) : WOut :=
    if b then let p := f o.st; { p with denied := p.denied || o.denied } else o
  add (add (add o (bit v 0) fun s => s.stopWrite who v) (bit v 1) fun s => s.releaseStop who) (bit v 6) fun s => s.dbgReset who

/-- STOP (R646). -/
def execStop (who : Requester) (v : Word) (s : State) : Host.Outcome State Fault Refusal :=
  let s := if s.privileged who then s.stopFields v else s
  .next (s.stopWrite who v).st

/-- ALLSTOP_RELEASE (R649). -/
def execAllstopRelease (who : Requester) (s : State) : Host.Outcome State Fault Refusal := .next (s.releaseStop who).st

/-- DBGRST (R659). -/
def execDbgrst (who : Requester) (s : State) : Host.Outcome State Fault Refusal := .next (s.dbgReset who).st

/-! ### Unlock (R652, R653) -/

/-- DBG_NONCE takes a random value (R658). -/
def State.newNonce (s : State) : State := let p := s.takeFree; p.2.setFld Fld.DBG_NONCE_NONCE p.1.toNat

/-- A write of DBG_UNLOCK.GO (R653), by any requester. GO is ignored for 1 s after a refusal. -/
def State.unlock (s : State) : State :=
  let t := SMap.vals s.dbg.token 0 0 192
  let waits : Bool := match s.dbg.refusedAt with
    | some r => s.now < r + 1000000000
    | none => false
  let level := BitVec.ofNat 3 (leAt t 8 1)
  let ok := tokenOk s.rst.porCount.toNat (s.fld Fld.DBG_NONCE_NONCE) s.pubKey t
  if waits then s
  else
    let s := s.newNonce
    if ok then
      ({ s with dbg := { s.dbg with unlocked := true, level := s.dbg.level ||| level, measured := t } } : State).raise Ev.DBG_UNLOCK srcDev
    else
      (({ s with dbg := { s.dbg with refusedAt := some s.now } } : State).bump Fld.DBG_STATUS_REFUSALS).raise Ev.DBG_TOKEN srcDev

/-- DBG_UNLOCK written; its bit 0 is GO. -/
def State.wrUnlock (s : State) (v : Word) : WOut := { st := if bit v 0 then s.unlock else s }

/-- DBG_UNLOCK. -/
def execDbgUnlock (_ : Requester) (v : Word) (s : State) : Host.Outcome State Fault Refusal := .next (s.wrUnlock v).st

/-! ### Readout (R650, R667) -/

/-- The word of a space, with the status of the read: 0 done, 1 not stopped, 2 inaccessible. -/
def State.readout (s : State) (space : Nat) (a : Nat) : Word × Nat × State :=
  let i : StationId := Fin.ofNat 96 (fieldN a 0 7)
  let bad : Word × Nat × State := (0, 2, s)
  let isStn := fieldN a 0 7 < 96
  match space with
  | 0 =>
    let line := fieldN a 7 15
    let w := fieldN a 22 6
    let purging := match s.lineHolder i line with
      | some p => p.2.st == .purgePending
      | none => false
    if !isStn || 34 ≤ w || purging then bad
    else
      let x := if w < 32 then s.bunkRead i (256 * line + 8 * w) 8 else s.sideRead i (16 * line + 8 * (w - 32)) 8
      if x.ue then (0, 2, x.st) else (BitVec.ofNat 64 (ofBytes x.data), 0, x.st)
  | 1 =>
    let b := (s.stn i).bank (Fin.ofNat 2 (fieldN a 7 1))
    let e := fieldN a 15 7
    if !isStn then bad
    else if !s.stnStopped i then (0, 1, s)
    else ((SMap.val b.acc 0 (128 * fieldN a 8 7 + e)).setWidth 64, 0, s)
  | 2 =>
    if !isStn then bad
    else if !s.stnStopped i then (0, 1, s)
    else match (s.stn i).queue[fieldN a 7 5]? with
      | none => bad
      | some no => match s.inst no with
        | none => bad
        | some x => match fieldN a 12 2 with
          | 0 => (BitVec.ofNat 64 (x.kind.op * 2 ^ 56 + x.w.next.toNat * 2 ^ 54 + x.w.opnd.toNat), 0, s)
          | 1 => (x.w.ext, 0, s)
          | _ => bad
  | 3 =>
    let c : Cid := Fin.ofNat 8 (fieldN a 0 3)
    let x := s.ctx c
    let k := fieldN a 3 7
    let v : Option Word :=
      if k < 32 then some (x.s k)
      else if k < 36 then some ((x.loopC (k - 32)).setWidth 64)
      else if k < 40 then some (x.loopA (k - 36))
      else if k < 56 then some (BitVec.ofNat 64 (bits (x.m ((k - 40) / 2)) (64 * ((k - 40) % 2)) 64))
      else none
    match v with
    | none => bad
    | some v => if s.ctxStopped c then (v, 0, s) else (0, 1, s)
  | 4 =>
    let m := fieldN a 3 45 * 8
    if !assigned s.variant m 8 || s.rgnPurging m 8 then bad
    else
      let x := s.memRead m 8
      if x.ue then (0, 2, x.st) else (BitVec.ofNat 64 (ofBytes x.data), 0, x.st)
  | 5 =>
    if 60 ≤ fieldN a 0 6 then bad
    else if !s.stopDevice then (0, 1, s)
    else let p := s.takeFree; (p.1, 0, p.2)
  | _ => bad

/-- DBG_RD_SEL: the write performs the read; without the READOUT level it is denied. -/
def State.wrRdSel (s : State) (who : Requester) (v : Word) : WOut :=
  s.privWrite who fun o => o.map fun s =>
    let s := (s.setFld Fld.DBG_RD_SEL_SPACE (bits v 0 3)).setFld Fld.DBG_RD_SEL_ADDR (bits v 4 48)
    let r := if s.dbg.unlocked && bit s.dbg.level 0 then s.readout (bits v 0 3) (bits v 4 48) else (0, 3, s)
    (r.2.2.setFld Fld.DBG_RD_SEL_STATUS r.2.1).setFld Fld.DBG_RD_DATA_DATA r.1.toNat

def execDbgRdSelWrite (who : Requester) (v : Word) (s : State) : Host.Outcome State Fault Refusal := .next (s.wrRdSel who v).st

/-! ### Counters, perturbation, trace configuration -/

/-- DBG_PC_CTL (R638, R662). -/
def State.wrPcCtl (s : State) (who : Requester) (v : Word) : WOut :=
  s.privWrite who fun o => o.map fun s =>
    { s.setFld Fld.DBG_PC_CTL_FREEZE (bits v 1 1) with dbg := { s.dbg with pcPend := some (bit v 0) } }

def execDbgPcCtlWrite (who : Requester) (v : Word) (s : State) : Host.Outcome State Fault Refusal := .next (s.wrPcCtl who v).st

/-- A perturbation register takes writes only from a privileged requester while the PERTURB level is unlocked (R655). -/
def State.wrPert (s : State) (who : Requester) (off : Nat) (v : Word) : WOut :=
  if s.privileged who && s.dbg.unlocked && bit s.dbg.level 1 then s.regPlain who off false false v else WOut.refuse { st := s }

/-- DBG_TR_CFG (R642): EN = 1 while T = 0 leaves EN at 0 and raises CFG_RANGE. -/
def State.wrTrCfg (s : State) (who : Requester) (v : Word) : WOut :=
  let bare := bit v 0 && s.rst.tail == 0
  let o := s.regPlain who 0xC00600 false false (if bare then v &&& ~~~1#64 else v)
  if bare && s.privileged who then o.outside 0xC00600 else o

/-- DBG_TR_PTRh: RWS while EN = 1 (R666). -/
def State.wrTrPtr (s : State) (who : Requester) (off : Nat) (v : Word) : WOut :=
  s.regPlain who off (s.flag Fld.DBG_TR_CFG_EN) false v

/-- DBG_TOKEN: written by any requester (R656). -/
def State.wrToken (s : State) (k : Nat) (v : Word) : WOut :=
  { st := { s with dbg := { s.dbg with token := SMap.putList s.dbg.token 0 (8 * k) (bytesOf 8 v.toNat) } } }

/-- DBG_TR_MARK (R641, R666). -/
def execDbgTrMark (v : Word) (s : State) : Host.Outcome State Fault Refusal :=
  .next (s.trace srcSurface none 0xA (bytesOf 8 v.toNat))

/-! ### Trace rings (R639, R642, R645) -/

/-- Records in a hub's ring. -/
def State.ringLen (s : State) : Nat := 2 ^ 21 * s.rst.tail.toNat

/-- One record into the ring of a hub; a full ring that stops loses it. -/
def State.ringPut (s : State) (h : Nat) (r : List Byte) : State :=
  let n := s.fld Fld.DBG_TR_PTR_NEXT h
  if s.ringLen = 0 || s.flag Fld.DBG_TR_PTR_FULL h then s.bump Fld.DBG_TR_PTR_LOST 1 h
  else
    let s := s.memWrite (s.rgnBase (252 + h) + 32 * n) r
    if n + 1 < s.ringLen then s.setFld Fld.DBG_TR_PTR_NEXT (n + 1) h
    else if s.flag Fld.DBG_TR_CFG_STOPFULL then (s.setFld Fld.DBG_TR_PTR_NEXT 0 h).setFld Fld.DBG_TR_PTR_FULL 1 h
    else (s.setFld Fld.DBG_TR_PTR_NEXT 0 h).setFld Fld.DBG_TR_PTR_WRAPPED 1 h

/-- The LOST record due once a hub's buffer has space. -/
def State.lostRecord (s : State) (h : HubId) : List (List Byte) :=
  let x := s.hub h
  if x.trDropped = 0 then [] else [traceBytes s.time.ns srcSurface none 0xB x.trNo (bytesOf 4 x.trDropped)]

/-- TRACE_RECORD_WRITE: the hub writes its buffered records, or hub 0 sends them on (R645). Records dropped for a full buffer show
after those that the buffer holds. -/
def execTraceRecordWrite (hub : HubId) (s : State) : Host.Outcome State Fault Refusal :=
  let x := s.hub hub
  let lost := s.lostRecord hub
  let s := s.setHub hub { x with trBuf := [], trDropped := 0, trNo := if lost.isEmpty then x.trNo else x.trNo + 1 }
  let all := x.trBuf ++ lost
  .next (if !s.domOn (44 + hub.val) || all.isEmpty then s.setHub hub x
    else if hub = 0 && s.flag Fld.DBG_TR_CFG_REMOTE then
      s.sendMsg (s.msg (BitVec.ofNat 17 (s.fld Fld.DBG_TR_CFG_DEST)) 6 10 [] all.flatten)
    else all.foldl (fun s r => s.ringPut hub.val r) s)

/-- The 32-byte records of a message's data. -/
def recordsOf (d : List Byte) : List (List Byte) := (List.range (d.length / 32)).map fun k => sliceB d (32 * k) 32

/-- REMOTE_TRACE (R645). -/
def execRemoteTrace (msg : FMsg) (s : State) : Host.Outcome State Fault Refusal :=
  let mask := BitVec.ofNat 17 (s.fld Fld.DBG_TR_CFG_AMASK)
  .next (if !s.delivered 10 msg then s
    else if s.flag Fld.DBG_TR_CFG_ACCEPT && msg.src &&& mask == BitVec.ofNat 17 (s.fld Fld.DBG_TR_CFG_ASRC) &&& mask then
      let l := recordsOf msg.data
      let x := s.hub 0
      let head := traceBytes s.time.ns srcSurface none 0xC x.trNo (bytesOf 4 msg.src.toNat ++ bytesOf 2 l.length)
      (head :: l).foldl (fun s r => s.ringPut 0 r) (s.setHub 0 { x with trNo := x.trNo + 1 })
    else s.bump Fld.DBG_TR_PTR_LOST 1 0)

end Sys2Proof.Machine
end

