-- ==== Sys2Proof/Machine/Record.lean ====
section
/-! DEFINITION. Activation records (R278 to R284): the codings of rows, sections, header and directory. -/

namespace Sys2Proof.Machine

/-! ### Packed fields -/

/-- Fields of `w` bits from bit 0 upward, padded to whole bytes. -/
def packFields (w : Nat) (l : List Nat) : List Byte :=
  bytesOf (ceilDiv (l.length * w) 8) ((l.zip (List.range l.length)).foldl (fun a p => a + p.1 % 2 ^ w * 2 ^ (p.2 * w)) 0)

/-- `n` fields of `w` bits. -/
def unpackFields (w n : Nat) (b : List Byte) : List Nat := unpackRow w n b

/-! ### CODE 1 (R281, R282) -/

/-- Element width and exponent bits of the formats of CODE 1. -/
def planeFmt : Nat → Option (Nat × Nat)
  | 0 => some (32, 8)
  | 1 => some (16, 8)
  | 2 => some (16, 5)
  | 3 => some (8, 4)
  | 4 => some (8, 5)
  | _ => none

/-- Elements per group. -/
def groupLen (n : Nat) : Nat := 2048 / n

def expField (n x e : Nat) : Nat := fieldN e (n - 1 - x) x
/-- The sign above the fraction. -/
def restField (n x e : Nat) : Nat := fieldN e (n - 1) 1 * 2 ^ (n - 1 - x) + fieldN e 0 (n - 1 - x)
def joinElem (n x e r : Nat) : Nat := fieldN r (n - 1 - x) 1 * 2 ^ (n - 1) + e * 2 ^ (n - 1 - x) + fieldN r 0 (n - 1 - x)

/-- The smallest w ≥ 1 with 2^w ≥ m. -/
def widthFor (m : Nat) : Nat := max 1 (if m ≤ 1 then 0 else bitLen (m - 1))

/-- b and w of a group (R282). -/
def planeParams (es : List Nat) : Nat × Nat :=
  match es.filter (· != 0) with
  | [] => (0, 0)
  | a :: t =>
    let b := t.foldl min a
    (b, widthFor (t.foldl max a - b + 2))

def encodeGroup (n x : Nat) (g : List Nat) : List Byte :=
  let es := g.map (expField n x)
  let p := planeParams es
  let packed := 2 + ceilDiv (g.length * (n - x)) 8 + ceilDiv (g.length * p.2) 8
  let raw := 1 + ceilDiv (g.length * n) 8
  if packed < raw then
    [BitVec.ofNat 8 (16 + p.2), BitVec.ofNat 8 p.1] ++ packFields (n - x) (g.map (restField n x)) ++
      packFields p.2 (es.map fun e => if e = 0 then 2 ^ p.2 - 1 else e - p.1)
  else 0 :: packFields n g

/-- A group of `g` elements, and the bytes it takes. -/
def decodeGroup (n x g : Nat) (b : List Byte) : Option (List Nat × Nat) :=
  match b with
  | [] => none
  | h :: t =>
    if h = 0 then
      let k := ceilDiv (g * n) 8
      if t.length < k then none else some (unpackFields n g (t.take k), 1 + k)
    else if bits h 4 4 != 1 then none
    else
      let w := bits h 0 4
      let kr := ceilDiv (g * (n - x)) 8
      let ke := ceilDiv (g * w) 8
      if t.length < 1 + kr + ke then none
      else
        let base := leAt t 0 1
        let rs := unpackFields (n - x) g (sliceB t 1 kr)
        let es := (unpackFields w g (sliceB t (1 + kr) ke)).map fun f => if f = 2 ^ w - 1 then 0 else base + f
        some ((es.zip rs).map fun p => joinElem n x p.1 p.2, 2 + kr + ke)

def groupsFuel (n x : Nat) : Nat → Nat → List Byte → Option (List Nat × Nat)
  | 0, _, _ => some ([], 0)
  | k + 1, cols, b =>
    if cols = 0 then some ([], 0)
    else
      let g := min cols (groupLen n)
      match decodeGroup n x g b with
      | none => none
      | some p => match groupsFuel n x k (cols - g) (b.drop p.2) with
        | none => none
        | some q => some (p.1 ++ q.1, p.2 + q.2)

def splitEvery (n : Nat) : Nat → List Nat → List (List Nat)
  | 0, _ => []
  | k + 1, l => if l.isEmpty then [] else l.take n :: splitEvery n k (l.drop n)

/-! ### CODE 2 (R283) -/

/-- A block of up to 32 BF16 elements: its scale byte and E4M3 bytes. -/
def encodeBlock (g : List Nat) : List Byte :=
  let p := mxBlock 5 (g.map fun e => FFmt.bf16.decode e) .rne true fun _ => 0
  p.1 :: p.2.map fun c => BitVec.ofNat 8 c.bits

def decodeBlock (sc : Byte) (b : List Byte) : List Nat :=
  b.map fun x => match e8m0 sc with
    | none => FFmt.bf16.nanBits
    | some k => (FFmt.bf16.convert ((FFmt.e4m3.decode x.toNat).scale k) .rne false 0).bits

def blocksFuel : Nat → Nat → List Byte → List Nat
  | 0, _, _ => []
  | k + 1, cols, b =>
    if cols = 0 then []
    else
      let g := min cols 32
      decodeBlock (b.headD 0) (sliceB b 1 g) ++ blocksFuel k (cols - g) (b.drop (1 + g))

/-! ### Sections (R279, R280) -/

/-- What a record says of its rows. -/
structure RecShape where
  code : Nat
  fmt : Nat
  cols : Nat
  rows : Nat
  deriving DecidableEq, Repr

def RecShape.rowBytes (x : RecShape) : Nat := ceilDiv (x.cols * fmtBits x.fmt) 8

/-- The coded bytes of a row. -/
def encodeRow (x : RecShape) (r : List Nat) : List Byte :=
  match x.code with
  | 0 => packRow (fmtBits x.fmt) x.rowBytes r
  | 1 => match planeFmt x.fmt with
    | some (n, e) => (splitEvery (groupLen n) 128 r).flatMap (encodeGroup n e)
    | none => []
  | _ => (splitEvery 32 4 r).flatMap encodeBlock

/-- The elements of a row, and the bytes it takes. -/
def decodeRow (x : RecShape) (b : List Byte) : Option (List Nat × Nat) :=
  match x.code with
  | 0 => if b.length < x.rowBytes then none else some (unpackRow (fmtBits x.fmt) x.cols (b.take x.rowBytes), x.rowBytes)
  | 1 => match planeFmt x.fmt with
    | some (n, e) => groupsFuel n e 128 x.cols b
    | none => none
  | _ =>
    let k := x.cols + ceilDiv x.cols 32
    if b.length < k then none else some (blocksFuel 4 x.cols b, k)

def decodeRows (x : RecShape) : Nat → List Byte → Option (List (List Nat) × Nat)
  | 0, _ => some ([], 0)
  | n + 1, b => match decodeRow x b with
    | none => none
    | some p => match decodeRows x n (b.drop p.2) with
      | none => none
      | some q => some (p.1 :: q.1, p.2 + q.2)

/-- Bytes of the scale array a section of CODE 0 carries. -/
def RecShape.scaleBytes (x : RecShape) : Nat := if x.code = 0 && isMX x.fmt then 4 * x.rows else 0

/-- A section: its rows, its scale array and its coded length. -/
def decodeSection (x : RecShape) (b : List Byte) : Option (List (List Nat) × List Byte × Nat) :=
  match decodeRows x x.rows b with
  | none => none
  | some p =>
    if b.length < p.2 + x.scaleBytes then none else some (p.1, sliceB b p.2 x.scaleBytes, p.2 + x.scaleBytes)

/-- The largest section of a code (R284). -/
def RecShape.maxSection (x : RecShape) : Nat :=
  match x.code with
  | 0 => x.rows * x.rowBytes + x.scaleBytes
  | 1 => match planeFmt x.fmt with
    | some (n, _) => x.rows * (x.rowBytes + ceilDiv x.cols (groupLen n))
    | none => 0
  | _ => x.rows * (x.cols + ceilDiv x.cols 32)

def pad256 (n : Nat) : Nat := ceilDiv n 256 * 256

/-- Bytes of header and directory. -/
def headBytes (nsec : Nat) : Nat := pad256 (64 + 8 * nsec)

/-- The smallest section of a code: of CODE 1, every group packed without exponents, or raw where that is smaller (R282). -/
def RecShape.minSection (x : RecShape) : Nat :=
  match x.code, planeFmt x.fmt with
  | 1, some (n, e) => x.rows * ((splitEvery (groupLen n) 128 (List.replicate x.cols 0)).map fun g =>
      min (2 + ceilDiv (g.length * (n - e)) 8) (1 + ceilDiv (g.length * n) 8)).sum
  | _, _ => x.maxSection

/-- The bytes that software reserves (R284). -/
def RecShape.reserve (x : RecShape) (nsec : Nat) : Nat := headBytes nsec + nsec * pad256 x.maxSection

/-- The directory: an offset in units of 256 bytes and a check for each section. -/
def sectionTable : Nat → List (List Byte) → List (Nat × BitVec 32)
  | _, [] => []
  | off, b :: t => (off / 256, crc32c b) :: sectionTable (off + pad256 b.length) t

def padded (b : List Byte) : List Byte := b ++ List.replicate (pad256 b.length - b.length) 0

/-- Header and directory of a record of `len` bytes, padded (R278, R279). -/
def recordHead (x : RecShape) (dir : List (Nat × BitVec 32)) (len : Nat) : List Byte :=
  let h := [BitVec.ofNat 8 x.code, BitVec.ofNat 8 x.fmt, BitVec.ofNat 8 (x.cols % 128), 0] ++ bytesOf 4 x.rows ++
    bytesOf 2 dir.length ++ List.replicate 6 0 ++ bytesOf 8 len
  let h := h ++ bytesOf 4 (crc32c h).toNat ++ List.replicate 36 0
  padded (h ++ dir.flatMap fun p => bytesOf 4 p.1 ++ bytesOf 4 p.2.toNat)

/-- A whole record from its coded sections (R278, R279). -/
def recordBytes (x : RecShape) (secs : List (List Byte)) : List Byte :=
  let body := secs.flatMap padded
  recordHead x (sectionTable (headBytes secs.length) secs) (headBytes secs.length + body.length) ++ body

/-! ### A record's header as LOADACT sees it (R278, R287) -/

def hdrShape (h : List Byte) : RecShape :=
  ⟨leAt h 0 1, leAt h 1 1, if leAt h 2 1 = 0 then 128 else leAt h 2 1, leAt h 4 4⟩
def hdrNsec (h : List Byte) : Nat := leAt h 8 2
def hdrLen (h : List Byte) : Nat := leAt h 16 8
/-- Offset in bytes and check of section `n`. -/
def hdrSection (h : List Byte) (n : Nat) : Nat × BitVec 32 := (leAt h (64 + 8 * n) 4 * 256, BitVec.ofNat 32 (leAt h (68 + 8 * n) 4))

/-- The first 64 bytes keep R278; a code accepts its formats only (R284). -/
def hdrOk (h : List Byte) : Bool :=
  let x := hdrShape h
  leAt h 24 4 == (crc32c (h.take 24)).toNat && x.code ≤ 2 && x.fmt ≤ 11 && leAt h 2 1 < 128 && leAt h 3 1 == 0 &&
    1 ≤ hdrNsec h && hdrNsec h ≤ 96 && ofBytes (sliceB h 10 6) == 0 && ofBytes (sliceB h 28 36) == 0 && 1 ≤ x.rows &&
    (x.code != 1 || (planeFmt x.fmt).isSome) && (x.code != 2 || x.fmt == 1) &&
    hdrLen h % 256 == 0 && headBytes (hdrNsec h) + hdrNsec h * pad256 x.minSection ≤ hdrLen h && hdrLen h ≤ x.reserve (hdrNsec h)

/-- Where section `n` ends with its padding: at the next section, or at the end of the record. -/
def hdrNext (h : List Byte) (n : Nat) : Nat := if n + 1 < hdrNsec h then (hdrSection h (n + 1)).1 else hdrLen h

/-- The directory keeps R279: the first section follows it, each has room for the bytes its rows need and no more, and zeros fill the
directory up. -/
def dirOk (h : List Byte) : Bool :=
  let x := hdrShape h
  let n := hdrNsec h
  (hdrSection h 0).1 == headBytes n && (h.drop (64 + 8 * n)).all (· == 0) &&
    (List.range n).all fun k =>
      (hdrSection h k).1 + pad256 x.minSection ≤ hdrNext h k && hdrNext h k ≤ (hdrSection h k).1 + pad256 x.maxSection

end Sys2Proof.Machine
end

