-- ==== Sys2Proof/Machine/Haul.lean ====
section
/-! DEFINITION. Haulage at dispatch (R191 to R195, R254, R255, R291) and the blocks a stream is described by: descriptors (R259 to
R267) and address programs (R268 to R271), with their checks (R272). -/

namespace Sys2Proof.Machine

/-! ### Dispatch -/

/-- The queue is assigned to the context (R255). -/
def State.queueMine (s : State) (c : Cid) (h : HubId) (q : QueueId) : Bool :=
  let l := s.lead c
  s.flag Fld.HAUL_Q_OWN_VALID h.val q.val && s.fld Fld.HAUL_Q_OWN_SEQ h.val q.val == cSeq l &&
    s.fld Fld.HAUL_Q_OWN_CTX h.val q.val == cLow l && s.flag Fld.HAUL_Q_OWN_JOINED h.val q.val == s.joined c

/-- In a joined context the half that holds the hub dispatches (R254). -/
def State.hubHere (s : State) (c : Cid) (h : HubId) : Bool := !s.joined c || (h.val < 2) == (cSeq c == 0)

/-- A stream reaches its queue: it starts there, or waits in the shadow slot (R291). -/
def State.placeStream (s : State) (h : HubId) (q : QueueId) (r : Stream) : State :=
  let x := s.que h q
  if x.st = .idle && x.shadow.isNone then (s.setQue h q { x with st := .fetch, run := some r }).bump Fld.HAUL_Q_STATUS_GEN 1 h.val q.val
  else s.setQue h q { x with shadow := some r }

/-- A descriptor at an address asks for the context's sampler (R260), as it stands when the sequencer reaches the instruction. -/
def State.samplerBlock (s : State) (c : Cid) (a : Nat) : Bool :=
  let b := s.ctxPeek c a 64
  leAt b 7 1 == 1 && leAt b 24 1 % 4 == 3

/-- In a joined context a stream that the sampler drives is a cross-half instruction: the sequencer of its hub's half issues it under the
token, and the other waits until it has been issued (R118, R254; DEDUCED, log entry 136). -/
def State.samplerRun (s : State) (c : Cid) (here : Bool) (body : State → State) : State :=
  if here then s.crossRun c true 1 body
  else if (s.ctx c).prog.cross + 1 ≤ s.token.last then (s.countCross c).nextPc c 1
  else s

/-- Dispatch of a haulage instruction: `r0` is its stream without number, step and owner. -/
def State.dispatchStream (s : State) (c : Cid) (w : NWords) (checks : List (Option (BitVec 16))) (r0 : Stream) : State :=
  let hub : HubId := Fin.ofNat 4 (w.f 53 52)
  let q : QueueId := Fin.ofNat 16 (w.f 51 48)
  let x := s.ctx c
  let here := s.hubHere c hub
  let shared := s.joined c && r0.kind == .block && !s.flag Fld.HAUL_Q_CFG_MODE hub.val q.val && s.samplerBlock c (x.s (w.f 47 43)).toNat
  let run (body : State → State) : State := if shared then s.samplerRun c here body else if here then body s else s.nextPc c 1
  run fun s =>
    s.checked c (checks ++ [need (s.queueMine c hub q) Ev.HAUL_QUEUE, s.handleFault c r0.h 0,
      need (s.que hub q).shadow.isNone Ev.HAUL_REARM_BUSY]) fun s =>
      let no := s.dispNo
      let r := { r0 with no := no, cid := c, addr := (x.s (w.f 47 43)).toNat, step := x.rngStep, eval := x.prog.evalFlag }
      let a : Access := { no := no, h := r.h, set := (s.hnd r.h).set, rd := r.dir, wr := !r.dir, prov := r.prov }
      let s := { s with dispNo := no + 1 }.register a
      let s := if r.prov then s.modCtx (s.lead c) fun y => { y with provH := y.provH ++ [r.h.toNat] } else s
      (s.placeStream hub q r).nextPc c 1

/-- A stream as dispatched. -/
def newStream (kind : StreamKind) (h : HandleId) (dir prov : Bool) : Stream :=
  { no := 0, cid := 0, kind := kind, h := h, dir := dir, prov := prov, addr := 0, step := 0, eval := false }

/-- STREAM (R192). -/
def execStream (c : Cid) (w : NWords) (s : State) : Host.Outcome State Fault Refusal :=
  .next (s.seqRun c (Enc.stream w) [w.f 47 43] fun s => s.dispatchStream c w [] (newStream .block (w.h 31) (w.fb 30) false))

/-- STREAMP (R193). -/
def execStreamp (c : Cid) (w : NWords) (s : State) : Host.Outcome State Fault Refusal :=
  .next (s.seqRun c (Enc.stream w) [w.f 47 43] fun s =>
    s.dispatchStream c w [need (!w.fb 30) Ev.HAUL_DIR] (newStream .block (w.h 31) false true))

/-- SAVEACT (R195, R139). -/
def execSaveact (c : Cid) (w : NWords) (s : State) : Host.Outcome State Fault Refusal :=
  .next (s.seqRun c (Enc.saveact w) [w.f 47 43] fun s =>
    s.dispatchStream c w [need (!(s.ctx c).prog.evalFlag) Ev.EVAL_ILLEGAL]
      (newStream (.saveact (BitVec.ofNat 2 (w.f 30 29))) (w.h 31) true false))

/-- LOADACT (R195). -/
def execLoadact (c : Cid) (w : NWords) (s : State) : Host.Outcome State Fault Refusal :=
  .next (s.seqRun c (Enc.loadact w) [w.f 47 43] fun s =>
    s.dispatchStream c w [] (newStream (.loadact (w.fb 30)) (w.h 31) false (w.fb 29)))

/-- The wait of a WAITH is over (R194). -/
def State.waithDone (s : State) (h : HandleId) (count no : Nat) : Bool :=
  let x := s.hnd h
  if count = 0 then s.completeAt h no x.set else count ≤ x.fill.toNat

/-- WAITH (R194). -/
def execWaith (c : Cid) (w : NWords) (s : State) : Host.Outcome State Fault Refusal :=
  .next (s.seqRun c (Enc.waith w) [] fun s =>
    let h := w.h 42
    let n := w.f 41 21
    let prov := (s.hnd h).st == .provisional || (s.ctx (s.lead c)).provH.contains h.toNat
    s.checked c [s.handleFault c h 0, need (!prov) Ev.SEQ_WAIT] fun s =>
      let s := s.nextPc c 1
      if s.waithDone h n s.dispNo then s else s.modCtx c fun x => { x with wait := .waith h n s.dispNo })

/-- WAITH_RELEASE (R194). -/
def execWaithRelease (c : Cid) (s : State) : Host.Outcome State Fault Refusal :=
  match (s.ctx c).wait with
  | .waith h n no => .next (if s.waithDone h n no then s.modCtx c fun x => { x with wait := .none } else s)
  | _ => .next s

/-! ### Descriptors (R260 to R267) -/

/-- A descriptor's fields. -/
structure Desc where
  base : Nat
  stride : Nat
  count : Nat
  srcCols : Nat
  place : Nat
  groups : Nat
  turn : Bool
  sb : Bool
  drow : Nat
  ix : Bool
  isrc : Bool
  iw : Nat
  ibase : Nat
  ilimit : Nat
  subset : StationSet

def blkW (b : List Word) (i : Nat) : Word := b.getD i 0

/-- The descriptor of a block; GROUPS of 0 is the number of stations of the set. -/
def descOf (b : List Word) (set : StationSet) : Desc :=
  let w := blkW b
  let g := bits (w 2) 22 7
  let sub := BitVec.ofNat 96 ((w 6).toNat + bits (w 7) 0 32 * 2 ^ 64)
  ⟨bits (w 0) 0 48, bits (w 1) 0 36, bits (w 1) 36 20, bits (w 2) 0 16, bits (w 2) 20 2,
    if g = 0 then (stationsOf set).length else g, bit (w 2) 29, bit (w 2) 30, bits (w 2) 32 20, bit (w 3) 0, bit (w 3) 1,
    if bit (w 3) 2 then 8 else 4, bits (w 4) 0 48, bits (w 5) 0 48, if sub = 0 then set else sub⟩

/-- Reserved bits of a descriptor are zero (R260). -/
def descReserved (b : List Word) : Bool :=
  let w := blkW b
  bits (w 0) 48 8 == 0 && bits (w 1) 56 8 == 0 && bits (w 2) 16 4 == 0 && !bit (w 2) 31 && bits (w 2) 52 12 == 0 &&
    bits (w 3) 3 61 == 0 && bits (w 4) 48 16 == 0 && bits (w 5) 48 16 == 0 && bits (w 7) 32 32 == 0

/-- Groups that have a served station, ascending. BCAST is one group: its row goes to every served station (R261, R263). -/
def Desc.served (d : Desc) (set : StationSet) : List (Nat × List StationId) :=
  let l := (stationsOf set).zip (List.range 96)
  if d.place = 0 then [(0, (l.filter fun p => has d.subset p.1).map fun p => p.1)]
  else
    (List.range d.groups).filterMap fun g =>
      let m := (l.filter fun p => has d.subset p.1 && p.2 % d.groups == g).map fun p => p.1
      if m.isEmpty then none else some (g, m)

/-- The bytes of a memory row (R260 to R262). -/
def Desc.memRow (d : Desc) (h : Handle) : Nat := if d.place = 2 || d.turn then ceilDiv (d.srcCols * h.width) 8 else h.rowSize

/-- Rows that a station receives. -/
def Desc.rows (d : Desc) : Nat := if d.turn then d.srcCols else d.count

/-- Entries of the index list or draw (R265, R267). -/
def Desc.entries (d : Desc) : Nat := if d.place = 1 then d.groups * d.count else d.count

/-- Source row of row `j` of group `g`, before indexing. -/
def Desc.srcRow (d : Desc) (g j : Nat) : Nat := if d.place = 1 then g * d.count + j else j

/-- Fields of a descriptor are valid (R260 to R264, R267, R322). -/
def State.descFields (s : State) (r : Stream) (hub : HubId) (b : List Word) : Bool :=
  let h := s.hnd r.h
  let d := descOf b h.set
  let k := s.smpStore (s.lead r.cid) r.eval
  let rps := s.smpRps (s.lead r.cid)
  descReserved b && d.count != 0 && d.place != 3 && d.groups ≤ 96 && d.groups != 0 && subset d.subset h.set &&
    (d.stride % 32 != 0 || d.stride == 0 || d.memRow h ≤ d.stride) &&
    (d.place != 2 || (d.srcCols == d.groups * h.colsN && (d.groups == 1 || h.colsN * h.width % 256 == 0))) &&
    (!d.turn || (!r.dir && d.place != 2 && d.count == 128 && h.colsN == 128 && d.srcCols % 128 == 0 && !d.ix)) &&
    (!(d.ix && d.isrc) || ((!s.joined r.cid || hub.val < 2) && s.ssValid k && d.entries % rps == 0 &&
      d.stride * rps == s.ssSlot k && d.ilimit == s.ssN k * rps))

/-- Every address a descriptor can reach is the context's (R266, R272). -/
def State.descRange (s : State) (r : Stream) (b : List Word) : Bool :=
  let h := s.hnd r.h
  let d := descOf b h.set
  let n := d.memRow h
  if d.ix then
    (d.ilimit == 0 || s.ctxRange r.cid d.base ((d.ilimit - 1) * d.stride + n)) &&
      (d.isrc || s.ctxRange r.cid d.ibase (d.entries * d.iw))
  else
    let gs := d.served h.set
    let lo := (gs.headD (0, [])).1
    let hi := (gs.getLastD (0, [])).1
    let a0 := d.base + d.srcRow lo 0 * d.stride
    let a1 := d.base + d.srcRow hi (d.count - 1) * d.stride + n
    (s.ctxAddr r.cid a0 (a1 - a0)).isSome ||
      gs.all fun g => (List.range d.count).all fun j => s.ctxRange r.cid (d.base + d.srcRow g.1 j * d.stride) n

/-- The checks of a descriptor in the order of R272. -/
def State.descFault (s : State) (r : Stream) (hub : HubId) (b : List Word) : Option (BitVec 16) :=
  let h := s.hnd r.h
  let d := descOf b h.set
  firstFault [need (s.descFields r hub b) Ev.HAUL_DESC,
    need (d.base % 32 == 0 && d.stride % 32 == 0 && (!d.ix || d.isrc || d.ibase % 8 == 0)) Ev.MEM_ALIGN,
    need (s.descRange r b) Ev.MEM_RANGE,
    need (d.drow + d.rows ≤ h.rows.toNat) Ev.BNK_SHAPE,
    need (!d.turn || h.width == 8 || h.width == 16) Ev.NUM_MODE]

/-! ### Address programs (R268 to R271) -/

/-- A step of a program. -/
inductive PStep where
  | fin
  | loop (count : Nat) (astr dstr : Int)
  | endl
  | xfer (rows rstr sel : Nat) (all turn : Bool)
  | adda (off : Int)
  | addd (rows : Int)
  | bad
  deriving DecidableEq, Repr

def stepOf (w : Word) : PStep :=
  match bits w 60 4 with
  | 0 => if bits w 0 60 = 0 then .fin else .bad
  | 1 => if bits w 40 20 = 0 then .bad else .loop (bits w 40 20) (256 * signedN (bits w 16 24) 24) (signedN (bits w 0 16) 16)
  | 2 => if bits w 0 60 = 0 then .endl else .bad
  | 3 => if bits w 40 20 = 0 || bits w 0 7 != 0 then .bad
         else .xfer (bits w 40 20) (bits w 16 24 * 32) (bits w 9 7) (bit w 8) (bit w 7)
  | 4 => if bits w 48 12 = 0 then .adda (signedN (bits w 0 48) 48) else .bad
  | 5 => if bits w 20 40 = 0 then .addd (signedN (bits w 0 20) 20) else .bad
  | _ => .bad

def progSteps (b : List Word) : List PStep := (List.range (bits (blkW b 0) 48 5 + 1)).map fun i => stepOf (blkW b (i + 2))

/-- The program's structure is valid from a step on, with `d` loops open. -/
def progFlow : Nat → List PStep → Bool
  | _, [] => false
  | d, .fin :: _ => d == 0
  | d, .loop _ _ _ :: t => d < 6 && progFlow (d + 1) t
  | d, .endl :: t => 0 < d && progFlow (d - 1) t
  | d, _ :: t => progFlow d t

/-- An interval of values. -/
structure Span where
  lo : Int
  hi : Int
  deriving DecidableEq, Repr

def Span.add (x : Span) (k : Int) : Span := ⟨x.lo + k, x.hi + k⟩
/-- Extended by 0 to n − 1 steps of k. -/
def Span.steps (x : Span) (n : Nat) (k : Int) : Span :=
  let m : Int := (n - 1 : Nat) * k
  ⟨x.lo + min 0 m, x.hi + max 0 m⟩

/-- The addresses and rows that each XFER covers (R271): address span of row starts, row span, and the step. -/
def progSpans : List (Span × Span × Nat × Int × Int) → Span → Span → List PStep → List (Span × Span)
  | _, _, _, [] => []
  | _, _, _, .fin :: _ => []
  | st, a, d, .loop n x y :: t => progSpans ((a, d, n, x, y) :: st) (a.steps n x) (d.steps n y) t
  | st, _, _, .endl :: t =>
    match st with
    | [] => []
    | (a0, d0, n, x, y) :: st' => progSpans st' (a0.add (n * x)) (d0.add (n * y)) t
  | st, a, d, .xfer rows rstr _ _ _ :: t =>
    (a.steps rows rstr, d.steps rows 1) :: progSpans st (a.add (rows * rstr : Nat)) (d.add rows) t
  | st, a, d, .adda k :: t => progSpans st (a.add k) d t
  | st, a, d, .addd k :: t => progSpans st a (d.add k) t
  | st, a, d, .bad :: t => progSpans st a d t

/-- Stations that a program serves. -/
def progServed (b : List Word) (set : StationSet) : StationSet :=
  (progSteps b).foldl (fun m p => match p with
    | .xfer _ _ sel all _ => if all then m ||| set else m ||| single (Fin.ofNat 96 sel)
    | _ => m) 0

/-- The checks of a program in the order of R272. -/
def State.progFault (s : State) (r : Stream) (b : List Word) : Option (BitVec 16) :=
  let h := s.hnd r.h
  let w := blkW b
  let steps := progSteps b
  let base : Int := bits (w 0) 0 48
  let drow : Int := bits (w 1) 0 20
  let spans := progSpans [] ⟨base, base⟩ ⟨drow, drow⟩ steps
  let valid := bits (w 0) 53 3 == 0 && bits (w 1) 21 43 == 0 && steps.all (· != .bad) && progFlow 0 steps &&
    steps.all fun p => match p with
      | .xfer rows _ sel all turn =>
        (all || (sel < 96 && has h.set (Fin.ofNat 96 sel))) && (!turn || (!r.dir && rows == 128 && h.colsN == 128))
      | _ => true
  let aligned := bits (w 0) 0 48 % 32 == 0 && steps.all fun p => match p with
    | .adda k => k % 32 == 0
    | _ => true
  let range := spans.all fun p => decide (0 ≤ p.1.lo) && s.ctxRange r.cid p.1.lo.toNat ((p.1.hi - p.1.lo).toNat + h.rowSize)
  let rows := spans.all fun p => decide (0 ≤ p.2.lo) && decide (p.2.hi < h.rows.toNat)
  let fmts := steps.all fun p => match p with
    | .xfer _ _ _ _ turn => !turn || h.width == 8 || h.width == 16
    | _ => true
  firstFault [need valid Ev.HAUL_PROG, need aligned Ev.MEM_ALIGN, need range Ev.MEM_RANGE, need rows Ev.BNK_SHAPE,
    need fmts Ev.NUM_MODE]

/-! ### Records (R284 to R287) -/

/-- What SAVEACT writes of a handle. -/
def Handle.recShape (h : Handle) (code : Nat) : RecShape := ⟨code, h.fmt.toNat, h.colsN, h.rows.toNat⟩

/-- The checks of a SAVEACT (R283, R284). -/
def State.saveFault (s : State) (r : Stream) (code : Nat) : Option (BitVec 16) :=
  let h := s.hnd r.h
  let n := (stationsOf h.set).length
  firstFault [need (r.addr % 32 == 0) Ev.MEM_ALIGN,
    need (r.addr < stkBase && s.ctxRange r.cid r.addr ((h.recShape code).reserve n)) Ev.MEM_RANGE,
    need ((code != 1 || (planeFmt h.fmt.toNat).isSome) && (code != 2 || (h.fmt == 1 && !s.numSolori))) Ev.NUM_MODE]

/-- Blocks of 128 rows in a record (R286). -/
def recBlocks (hd : List Byte) : Nat := hdrNsec hd * (hdrShape hd).rows / 128

/-- The deal modulus of a queue (R286). -/
def State.deal (s : State) (hub : HubId) (q : QueueId) (h : Handle) : Nat :=
  let d := s.fld Fld.HAUL_Q_CFG_DEAL hub.val q.val
  if d = 0 then (stationsOf h.set).length else d

/-- The shapes of record and handle agree (R285, R286). -/
def State.loadFits (s : State) (hub : HubId) (q : QueueId) (r : Stream) (trans : Bool) (hd : List Byte) : Bool :=
  let h := s.hnd r.h
  let x := hdrShape hd
  let fmt := h.fmt.toNat == x.fmt && h.colsN == x.cols
  if trans then
    fmt && x.cols == 128 && x.rows % 128 == 0 && (h.width == 8 || h.width == 16) &&
      ceilDiv (recBlocks hd) (s.deal hub q h) * 128 ≤ h.rows.toNat
  else fmt && hdrNsec hd == (stationsOf h.set).length && x.rows ≤ h.rows.toNat

end Sys2Proof.Machine
end

