-- ==== Sys2Proof/Machine/Streams.lean ====
section
/-! DEFINITION. Streams in their hubs: fetch and check (R272), engines (R257), row moves in generation order (R261 to R273), records
(R278 to R287), the end and the shadow (R274, R289, R291), arbitration rounds (R258). -/

namespace Sys2Proof.Machine

/-! ### Helpers -/

/-- The hub's streams move: out of reset, no all-stop over the stream (R646). -/
def State.streamRuns (s : State) (h : HubId) (r : Stream) : Bool := !s.held (44 + h.val) && !s.ctxStopped r.cid && !s.stopDevice

/-- Record of a stream's start or end (R641). -/
def State.traceStream (s : State) (h : HubId) (q : QueueId) (r : Stream) (fin : Bool) : State :=
  let b := [BitVec.ofNat 8 q.val, BitVec.ofNat 8 fin.toNat] ++ bytesOf 2 r.h.toNat ++
    bytesOf 2 (s.fld Fld.HAUL_Q_STATUS_GEN h.val q.val) ++ bytesOf 4 r.moved
  s.trace (srcHub h) (some r.cid) 5 b

/-- A stream's fault (R272). -/
def State.streamFault (s : State) (h : HubId) (r : Stream) (code : BitVec 16) : State := s.faultCtx r.cid code (srcHub h)

/-- The engines it needs are claimed (R257). -/
def Hub.engines (y : Hub) (q : QueueId) (r : Stream) : Bool :=
  (!r.needTurn || y.turn.contains q.val) && (!r.needCoder || y.coder.contains q.val)

/-- A provisional stream has become effective: its handle is PROVISIONAL (R193, R214). -/
def State.provReady (s : State) (r : Stream) : Bool := !r.prov || (s.hnd r.h).st == .provisional

/-- A checked stream goes from FETCH to WAITING, and to RUNNING once nothing holds it (R256). -/
def State.tryRun (s : State) (h : HubId) (q : QueueId) : State :=
  let x := s.que h q
  match x.run with
  | none => s
  | some r =>
    if !r.checked || !(x.st == .fetch || x.st == .waiting) then s
    else if (s.hub h).engines q r && s.provReady r then s.setQue h q { x with st := .running }
    else
      let s := s.setQue h q { x with st := .waiting }
      if x.st = .fetch && !(s.hub h).engines q r then s.modHub h fun y => { y with req := y.req ++ [q.val] } else s

def Stream.put (s : State) (h : HubId) (q : QueueId) (shadow : Bool) (r : Stream) : State :=
  s.modQue h q fun x => if shadow then { x with shadow := some r } else { x with run := some r }

/-! ### Fetch and check (R272) -/

/-- Words of memory without counting a read. -/
def State.peekWords (s : State) (c : Cid) (a n : Nat) : List Word :=
  let b := s.ctxPeek c a (8 * n)
  (List.range n).map fun i => BitVec.ofNat 64 (leAt b (8 * i) 8)

/-- The draws of a sampler-driven stream, once (R267, R318). -/
def State.drawFor (s : State) (r : Stream) (b : List Word) : Stream × State × Bool :=
  let c := s.lead r.cid
  let d := descOf b (s.hnd r.h).set
  if r.drawn || !(d.ix && d.isrc) || s.smpRps c = 0 then (r, s, false)
  else
    let p := s.drawRows c r.eval (s.rngKey r.cid r.step r.eval) (d.entries / s.smpRps c)
    ({ r with drawn := true, idx := p.1 }, p.2)

/-- Streams of a context that have been dispatched earlier and may still draw. -/
def State.drawsBefore (s : State) (r : Stream) : Bool :=
  (s.streamsOf r.cid).any fun t => t.no < r.no && !t.checked && !t.drawn && t.kind == .block

/-- What a check finds. -/
structure Checked where
  st : State
  r : Stream
  fault : Option (BitVec 16) := none
  /-- The check cannot end yet. -/
  wait : Bool := false

/-- A read that the check needs: bytes, or the fault. -/
def State.fetch (s : State) (r : Stream) (a n : Nat) : List Byte × State × Option (BitVec 16) :=
  match s.ctxRead r.cid a n with
  | none => ([], s, some Ev.MEM_RANGE)
  | some p => (p.data, p.st, if p.ue then some Ev.MEM_UE else none)

def wordsOf (b : List Byte) : List Word := (List.range (b.length / 8)).map fun i => BitVec.ofNat 64 (leAt b (8 * i) 8)

/-- A descriptor or a program (R259). -/
def State.checkBlock (s : State) (hub : HubId) (q : QueueId) (r : Stream) : Checked :=
  if r.addr % 8 != 0 then ⟨s, r, some Ev.MEM_ALIGN, false⟩
  else
    let f := s.fetch r r.addr 8
    match f.2.2 with
    | some e => ⟨f.2.1, r, some e, false⟩
    | none =>
      let w0 := (wordsOf f.1).headD 0
      let prog := s.flag Fld.HAUL_Q_CFG_MODE hub.val q.val
      if bits w0 56 8 != (if prog then 2 else 1) then ⟨f.2.1, r, some Ev.HAUL_DESC, false⟩
      else
        let g := f.2.1.fetch r r.addr (if prog then 8 * (bits w0 48 5 + 3) else 64)
        match g.2.2 with
        | some e => ⟨g.2.1, r, some e, false⟩
        | none =>
          let b := wordsOf g.1
          let s := g.2.1
          let set := (s.hnd r.h).set
          if prog then
            match s.progFault r b with
            | some e => ⟨s, r, some e, false⟩
            | none =>
              let turn := (progSteps b).any fun p => match p with
                | .xfer _ _ _ _ t => t
                | _ => false
              ⟨s, { r with checked := true, blk := b, sb := bit (blkW b 1) 20 && !r.prov, served := progServed b set
                           needTurn := turn, pa := bits (blkW b 0) 0 48, pd := bits (blkW b 1) 0 20 }, none, false⟩
          else
            match s.descFault r hub b with
            | some e => ⟨s, r, some e, false⟩
            | none =>
              let d := descOf b set
              let ok : Stream := { r with checked := true, blk := b, sb := d.sb && !r.prov, served := d.subset, needTurn := d.turn }
              if d.ix && d.isrc then
                if !r.drawn && s.drawsBefore r then ⟨s, r, none, true⟩
                else
                  let p := s.drawFor ok b
                  ⟨p.2.1, p.1, if p.2.2 then some Ev.MEM_UE else none, false⟩
              else if d.ix then
                let t := s.fetch r d.ibase (d.entries * d.iw)
                let ix := (List.range d.entries).map fun i => some (leAt t.1 (i * d.iw) d.iw)
                ⟨t.2.1, { ok with idx := ix }, t.2.2, false⟩
              else ⟨s, ok, none, false⟩

/-- A record's header and directory (R287). -/
def State.checkHeader (s : State) (hub : HubId) (q : QueueId) (r : Stream) (tr : Bool) : Checked :=
  if r.addr % 32 != 0 then ⟨s, r, some Ev.MEM_ALIGN, false⟩
  else
    let f := s.fetch r r.addr 64
    match f.2.2 with
    | some e => ⟨f.2.1, r, some e, false⟩
    | none =>
      if !hdrOk f.1 then ⟨f.2.1, r, some Ev.HAUL_RECORD, false⟩
      else
        let g := f.2.1.fetch r r.addr (headBytes (hdrNsec f.1))
        match g.2.2 with
        | some e => ⟨g.2.1, r, some e, false⟩
        | none =>
          let s := g.2.1
          let e := firstFault [need (dirOk g.1) Ev.HAUL_RECORD, need (s.ctxRange r.cid r.addr (hdrLen g.1)) Ev.MEM_RANGE,
            need (s.loadFits hub q r tr g.1) Ev.BNK_SHAPE]
          ⟨s, { r with checked := true, blk := wordsOf g.1, sb := s.flag Fld.HAUL_Q_CFG_SB hub.val q.val && !r.prov
                       served := (s.hnd r.h).set, needTurn := tr, needCoder := (hdrShape g.1).code != 0 }, e, false⟩

/-- The check of a stream of any kind. -/
def State.checkStream (s : State) (hub : HubId) (q : QueueId) (r : Stream) : Checked :=
  match r.kind with
  | .block => s.checkBlock hub q r
  | .loadact tr => s.checkHeader hub q r tr
  | .saveact code =>
    let set := (s.hnd r.h).set
    ⟨s, { r with checked := true, sb := s.flag Fld.HAUL_Q_CFG_SB hub.val q.val && !r.prov, served := set
                 saveOff := headBytes (stationsOf set).length, needCoder := code != 0 }, s.saveFault r code.toNat, false⟩

/-- STREAM_CHECK_DONE (R272): of the running stream, or of the shadow when the running one is checked already (R291). -/
def execStreamCheckDone (hub : HubId) (q : QueueId) (s : State) : Host.Outcome State Fault Refusal :=
  let x := s.que hub q
  let pick : Option (Bool × Stream) := match x.run, x.shadow with
    | some r, sh => if !r.checked then some (false, r) else match sh with
      | some t => if t.checked then none else some (true, t)
      | none => none
    | none, some t => if t.checked then none else some (true, t)
    | none, none => none
  match pick with
  | none => .next s
  | some (shadow, r) =>
    if !s.streamRuns hub r then .next s
    else
      let c := s.checkStream hub q r
      if c.wait then .next s
      else match c.fault with
      | some f => .next (c.st.streamFault hub r f)
      | none =>
        -- stations of the set that the stream does not serve are not accessed (R264)
        let s := (Stream.put c.st hub q shadow c.r).endAccs (fun a => a.no == r.no) (~~~c.r.served)
        .next (if shadow then s else (s.traceStream hub q r false).tryRun hub q)

/-- ENGINE_GRANT (R257): engines are granted in the order of request; a hub has two of each kind. -/
def execEngineGrant (hub : HubId) (q : QueueId) (s : State) : Host.Outcome State Fault Refusal :=
  let x := s.que hub q
  let y := s.hub hub
  match x.run with
  | none => .next s
  | some r =>
    if x.st != .waiting || !s.streamRuns hub r then .next s
    else
      let ahead := y.req.takeWhile (· != q.val)
      let wants (f : Stream → Bool) : Bool := ahead.any fun k => match (s.que hub (Fin.ofNat 16 k)).run with
        | some t => f t
        | none => false
      let turnOk := !r.needTurn || (y.turn.length < 2 && !wants fun t => t.needTurn)
      let codeOk := !r.needCoder || (y.coder.length < 2 && !wants fun t => t.needCoder)
      if y.req.contains q.val && turnOk && codeOk then
        let y' : Hub := { y with
          req := y.req.filter (· != q.val)
          turn := if r.needTurn then y.turn ++ [q.val] else y.turn
          coder := if r.needCoder then y.coder ++ [q.val] else y.coder }
        .next ((s.setHub hub y').tryRun hub q)
      else .next (s.tryRun hub q)

/-! ### Row moves -/

/-- One generated row: where it goes or comes from. -/
structure Move where
  /-- Handle row. -/
  row : Nat
  /-- Stations written; for a drain, the station read. -/
  stns : List StationId
  /-- Device address; `none` gives zeros, or no write. -/
  addr : Option Nat
  /-- For a turned row: the 128 source addresses of its column, and the bytes of an element. -/
  turn : Option (List Nat × Nat) := none
  /-- The row index begins, and ends, with this row. -/
  first : Bool := true
  last : Bool := true
  /-- Its index is out of range. -/
  oob : Bool := false
  /-- The index has stood in an earlier move: a group of COLSPLIT takes another part of the same row. -/
  again : Bool := false
  /-- The first row of a turned block: with it the block is read. -/
  head : Bool := false

/-- Row moves of a descriptor (R273). -/
def Desc.total (d : Desc) (set : StationSet) : Nat := d.rows * (d.served set).length

/-- Move `m` of a descriptor stream. An index-driven drain writes its rows in the order of the list's entries (R265). -/
def descMove (d : Desc) (h : Handle) (idx : List (Option Nat)) (dir : Bool) (m : Nat) : Move :=
  let gs := d.served h.set
  let n := max 1 gs.length
  let stns (g : Nat × List StationId) : List StationId := if dir then g.2.take 1 else g.2
  if d.turn then
    let q := m / (128 * n)
    let gi := m % (128 * n) / 128
    let k := m % 128
    let g := gs.getD gi (0, [])
    let wb := h.width / 8
    let col (j : Nat) : Nat := d.base + d.srcRow g.1 j * d.stride + (128 * q + k) * wb
    ⟨d.drow + 128 * q + k, stns g, none, some ((List.range 128).map col, wb), gi == 0, gi + 1 == n, false, false, k == 0⟩
  else
    let byEntry := dir && d.ix && d.place == 1
    let j := if byEntry then m % d.count else m / n
    let gi := if byEntry then m / d.count else m % n
    let g := gs.getD gi (0, [])
    let part := if d.place = 2 then g.1 * h.colsN * h.width / 8 else 0
    let r := d.srcRow g.1 j
    let x : Option Nat := if d.ix then idx.getD r none else some r
    let oob := d.ix && (match x with | some v => decide (d.ilimit ≤ v) | none => false)
    ⟨d.drow + j, stns g, if oob then none else x.map fun v => d.base + v * d.stride + part, none, gi == 0, gi + 1 == n, oob,
      d.place == 2 && gi != 0, false⟩

/-- Where a program stands: at an XFER with a row to move, or at its end (R270). -/
def progSeek (steps : List PStep) : Nat → Stream → Option Stream
  | 0, _ => none
  | n + 1, r =>
    match steps.getD r.ppc .fin with
    | .loop c x y => progSeek steps n { r with ppc := r.ppc + 1, pstack := ⟨r.ppc, c, x, y, r.pa, r.pd, 0⟩ :: r.pstack }
    | .endl =>
      match r.pstack with
      | [] => none
      | f :: t =>
        let i := f.iter + 1
        let r := { r with pa := f.a0 + i * f.astr, pd := f.d0 + i * f.dstr }
        if i < f.count then progSeek steps n { r with ppc := f.start + 1, pstack := { f with iter := i } :: t }
        else progSeek steps n { r with ppc := r.ppc + 1, pstack := t }
    | .xfer rows rstr _ _ _ =>
      if r.pj < rows then some r
      else progSeek steps n { r with pa := r.pa + (rows * rstr : Nat), pd := r.pd + rows, pj := 0, ppc := r.ppc + 1 }
    | .adda k => progSeek steps n { r with pa := r.pa + k, ppc := r.ppc + 1 }
    | .addd k => progSeek steps n { r with pd := r.pd + k, ppc := r.ppc + 1 }
    | _ => none

/-- More steps than six loops of 2²⁰ passes over 32 steps can take. -/
def progFuel : Nat := 2 ^ 140

/-- The move at an XFER. -/
def progMove (h : Handle) (dir : Bool) (r : Stream) : Move :=
  match (progSteps r.blk).getD r.ppc .fin with
  | .xfer _ rstr sel all turn =>
    let stns := if all then stationsOf h.set else [Fin.ofNat 96 sel]
    let stns := if dir then stns.take 1 else stns
    let wb := h.width / 8
    if turn then ⟨r.pd.toNat + r.pj, stns, none, some ((List.range 128).map fun j => r.pa.toNat + j * rstr + r.pj * wb, wb), true, true, false, false,
      r.pj == 0⟩
    else ⟨r.pd.toNat + r.pj, stns, some (r.pa.toNat + r.pj * rstr), none, true, true, false, false, false⟩
  | _ => ⟨0, [], none, none, true, true, false, false, false⟩

/-- From where a program's stream stands it still has to write a row index at a station outside the set. -/
def progMisses (h : Handle) (row : Nat) (set : StationSet) : Nat → Stream → Bool
  | 0, _ => false
  | k + 1, r =>
    match progSeek (progSteps r.blk) progFuel r with
    | none => false
    | some t =>
      let m := progMove h false t
      (m.row == row && m.stns.any fun i => !has set i) || progMisses h row set k { t with pj := t.pj + 1 }

/-- A row's counts (R273, R301): a row index is generated with its first row, and counts once every station that receives it has it and
every index generated before it has counted. A drain counts none. `r` stands after the move; the answer is the stream and the indices
newly counted. -/
def Stream.countMove (r : Stream) (h : Handle) (m : Move) (prog : Bool) : Stream × Nat :=
  if !prog then
    let k := if m.last && !r.dir then 1 else 0
    ({ r with generated := r.generated + (if m.first then 1 else 0), counted := r.counted + k }, k)
  else
    let new := !r.rowsGen.contains m.row
    let gen := if new then r.rowsGen ++ [m.row] else r.rowsGen
    let opn := if new then r.rowsOpen ++ [(m.row, setOf m.stns)]
      else r.rowsOpen.map fun p => if p.1 = m.row then (p.1, p.2 ||| setOf m.stns) else p
    let done := if r.dir then [] else opn.takeWhile fun p => !progMisses h p.1 p.2 progFuel r
    ({ r with generated := gen.length, rowsGen := gen, rowsOpen := opn.drop done.length, counted := r.counted + done.length }, done.length)

/-- A row's bytes into a station, zero to the end of the stride (R216). -/
def State.rowPut (s : State) (h : Handle) (i : StationId) (r : Nat) (b : List Byte) : State :=
  let s := s.bunkWrite i (h.rowAt r) (b ++ List.replicate (h.strideB - b.length) 0)
  s.pcEvent 6 i.val (max 1 (ceilDiv h.rowSize 256))

/-- The bytes a fill's move brings; `none` where its region has become inaccessible (R229, R308). A turned block is read with its first
row, the 128 columns of each of its memory rows. -/
def State.moveBytes (s : State) (r : Stream) (h : Handle) (m : Move) : Option ReadRes :=
  match m.turn with
  | some (as, wb) =>
    if !as.all fun a => s.ctxRange r.cid a wb then none
    else if m.head then
      as.foldl (fun acc a => acc.bind fun x => (x.st.ctxRead r.cid a (128 * wb)).map fun p =>
        ⟨x.data ++ p.data.take wb, p.st, x.ue || p.ue⟩) (some ⟨[], s, false⟩)
    else some ⟨as.flatMap fun a => s.ctxPeek r.cid a wb, s, false⟩
  | none =>
    match m.addr with
    | some a => s.ctxRead r.cid a h.rowSize
    | none => some ⟨List.replicate h.rowSize 0, s, false⟩

/-- Out-of-range indices and empty draws are counted and raised once a stream (R266, R322). -/
def State.noteIndex (s : State) (hub : HubId) (q : QueueId) (r : Stream) (m : Move) : State × Stream :=
  if m.oob && !m.again then
    let s := s.bump Fld.HAUL_Q_CNT_INDEX_OOB 1 hub.val q.val
    if r.oobRaised then (s, r) else (s.raise Ev.HAUL_INDEX (srcHub hub) (some r.cid), { r with oobRaised := true })
  else (s, r)

/-- The outcome of a move: state and fault. -/
structure Moved where
  st : State
  fault : Option (BitVec 16 × Src) := none

/-- An access of a checked stream to a region that its context no longer owns, or that is PURGE_PENDING, is refused: MEM_RANGE, as its
check would have found (R229, R272, R308; DEDUCED, log entry 128). -/
def Moved.refused (s : State) (hub : HubId) : Moved := ⟨s, some (Ev.MEM_RANGE, srcHub hub)⟩

/-- The data of one move. -/
def State.doMove (s : State) (hub : HubId) (r : Stream) (m : Move) : Moved :=
  let h := s.hnd r.h
  if r.dir then
    match m.stns, m.addr with
    | i :: _, some a =>
      let p := s.bunkRead i (h.rowAt m.row) h.rowSize
      if p.ue then ⟨p.st, some (Ev.BNK_UE, srcStn i)⟩
      else
        match (p.st.pcEvent 6 i.val (max 1 (ceilDiv h.rowSize 256))).ctxWrite r.cid a p.data with
        | some t => ⟨t, none⟩
        | none => .refused s hub
    | _, _ => ⟨s, none⟩
  else
    match s.moveBytes r h m with
    | none => .refused s hub
    | some p =>
      if p.ue then ⟨p.st, some (Ev.MEM_UE, srcHbm (memCtrl s.variant (m.addr.getD 0)))⟩
      else ⟨m.stns.foldl (fun s i => s.rowPut h i m.row p.data) p.st, none⟩

/-- The handle can take the move at its stations: readers before it have finished, or it is complete (R221). -/
def State.moveReady (s : State) (r : Stream) (stns : List StationId) : Bool :=
  stns.all fun i => if r.dir then s.complete r.h r.no i else s.writable r.h r.no i r.prov

/-- A drained row waits for a securing to read what it would write over (R511). -/
def State.moveHeld (s : State) (r : Stream) (m : Move) : Bool :=
  r.dir && match m.addr with
    | some a => s.secHolds r.no (s.placed r.cid a (s.hnd r.h).rowSize)
    | none => false

/-! ### Rows of a record (R285, R286) -/

def Stream.head (r : Stream) : List Byte := r.blk.flatMap fun w => bytesOf 8 w.toNat

/-- The bytes of section `n` and what follows it in the record; `none` where the record has become inaccessible. -/
def State.sectionBytes (s : State) (r : Stream) (n : Nat) : Option ReadRes :=
  let hd := r.head
  let o := (hdrSection hd n).1
  s.ctxRead r.cid (r.addr + o) (min (hdrLen hd - o) (hdrShape hd).maxSection)

/-- Row moves of a LOADACT: section and row in it for TRANS = 0; for TRANS = 1 block and turned row. -/
def loadTotal (hd : List Byte) : Nat := hdrNsec hd * (hdrShape hd).rows

/-- Where move `m` of a LOADACT goes: the section it needs, handle row, stations, and for TRANS the first row of its block in the
section with the column. -/
structure LoadMove where
  sec : Nat
  row : Nat
  stns : List StationId
  src : Nat
  col : Option Nat

def State.loadMove (s : State) (hub : HubId) (q : QueueId) (r : Stream) (tr : Bool) (m : Nat) : LoadMove :=
  let hd := r.head
  let h := s.hnd r.h
  let rows := (hdrShape hd).rows
  let st := stationsOf h.set
  if tr then
    let j := m / 128
    let k := m % 128
    let d := s.deal hub q h
    let dst := (st.zip (List.range st.length)).filterMap fun p => if p.2 % d = j % d then some p.1 else none
    ⟨128 * j / rows, 128 * (j / d) + k, dst, 128 * j % rows, some k⟩
  else ⟨m / rows, m % rows, (st.drop (m / rows)).take 1, m % rows, none⟩

/-- One row of a record into the handle. -/
def State.doLoad (s : State) (hub : HubId) (q : QueueId) (r : Stream) (tr : Bool) : Moved :=
  let hd := r.head
  let h := s.hnd r.h
  let m := s.loadMove hub q r tr r.moved
  match s.sectionBytes r m.sec with
  | none => .refused s hub
  | some b =>
  if b.ue then ⟨b.st, some (Ev.MEM_UE, srcHbm (memCtrl s.variant r.addr))⟩
  else match decodeSection (hdrShape hd) b.data with
  | none => ⟨b.st, some (Ev.HAUL_RECORD, srcHub hub)⟩
  | some p =>
    let els := match m.col with
      | some k => (List.range 128).map fun j => (p.1.getD (m.src + j) []).getD k 0
      | none => p.1.getD m.src []
    ⟨m.stns.foldl (fun s i => s.rowWrite h i m.row els) b.st, none⟩

/-- Row indices that count once `n` sections have passed (R273, R287). -/
def loadCounted (s : State) (hub : HubId) (q : QueueId) (r : Stream) (tr : Bool) (n : Nat) : Nat :=
  let hd := r.head
  let rows := (hdrShape hd).rows
  if tr then
    let d := s.deal hub q (s.hnd r.h)
    if n = hdrNsec hd then 128 * ceilDiv (recBlocks hd) d else 128 * (n * rows / 128 / d)
  else if n = hdrNsec hd then rows else 0

/-! ### Rows of a SAVEACT (R279 to R284) -/

/-- The stations whose rows a SAVEACT saves and the rows of one of them: its section and row `m`. -/
def State.saveAt (s : State) (r : Stream) : StationId × Nat :=
  let h := s.hnd r.h
  ((stationsOf h.set).getD (r.moved / h.rows.toNat) 0, r.moved % h.rows.toNat)

/-- A section is complete: its scale array is added, it is written in its place with its padding and entered in the directory. -/
def State.saveSection (s : State) (hub : HubId) (r : Stream) (x : RecShape) (i : StationId) : Moved × Stream :=
  let z : ReadRes := if x.scaleBytes = 0 then ⟨[], s, false⟩ else s.sideRead i ((s.hnd r.h).scaleAt 0) x.scaleBytes
  let b := r.sect ++ z.data
  if z.ue then (⟨z.st, some (Ev.BNK_UE, srcStn i)⟩, r)
  else match z.st.ctxWrite r.cid (r.addr + r.saveOff) (padded b) with
    | none => (.refused s hub, r)
    | some t => (⟨t, none⟩, { r with
        saved := r.saved ++ [(r.saveOff / 256, crc32c b)], saveOff := r.saveOff + pad256 b.length, sect := [], sections := r.sections + 1 })

/-- The next row of a SAVEACT is read and coded; with the last one of a station its section is written. -/
def State.doSave (s : State) (hub : HubId) (r : Stream) (code : Nat) : Moved × Stream :=
  let h := s.hnd r.h
  let x := h.recShape code
  let p := s.saveAt r
  let q := s.rowRead h p.1 p.2
  if q.2.2 then (⟨q.2.1, some (Ev.BNK_UE, srcStn p.1)⟩, r)
  else
    let t := q.2.1.pcEvent 6 p.1.val (max 1 (ceilDiv h.rowSize 256))
    let r := { r with sect := r.sect ++ encodeRow x q.1, moved := r.moved + 1
                      generated := r.generated + (if r.moved < h.rows.toNat then 1 else 0) }
    if p.2 + 1 = h.rows.toNat then t.saveSection hub r x p.1 else (⟨t, none⟩, r)

/-- A section that would be written over what a securing has not read waits (R511). -/
def State.saveHeld (s : State) (r : Stream) (code : Nat) : Bool :=
  let h := s.hnd r.h
  (s.saveAt r).2 + 1 == h.rows.toNat &&
    s.secHolds r.no (s.placed r.cid (r.addr + r.saveOff) (pad256 (h.recShape code).maxSection))

/-! ### The commands -/

/-- How many reorder lines the queue's reads take the commands do not show: a free value, within the hub's 12,288 (R252, R294). -/
def State.useLines (s : State) (hub : HubId) (q : QueueId) : State :=
  let p := s.takeFree
  let other := ((List.finRange 16).filter (· != q)).foldl (fun n k => n + (s.que hub k).lines) 0
  p.2.modQue hub q fun x => { x with lines := p.1.toNat % (12288 - other + 1) }

/-- STREAM_ROW_WRITE (R273): the next generated row. -/
def execStreamRowWrite (hub : HubId) (q : QueueId) (s : State) : Host.Outcome State Fault Refusal :=
  let s := s.tryRun hub q
  let x := s.que hub q
  match x.run with
  | none => .next s
  | some r =>
    if x.st != .running || !s.streamRuns hub r then .next s
    else
      let h := s.hnd r.h
      let out (o : Moved) (r : Stream) : Host.Outcome State Fault Refusal :=
        match o.fault with
        | some f => .next (o.st.faultCtx r.cid f.1 f.2)
        | none => .next ((Stream.put o.st hub q false r).useLines hub q)
      -- a move of a descriptor or program, with its counting; `empty`: its draw was empty (R322)
      let go (m : Move) (r' : Stream) (prog empty : Bool) : Host.Outcome State Fault Refusal :=
        if !s.moveReady r m.stns || s.moveHeld r m then .next s
        else
          let p := s.noteIndex hub q r' m
          let p : State × Stream := if empty && !p.2.oobRaised then
              (p.1.raise Ev.SMP_EMPTY (srcHub hub) (some r.cid), { p.2 with oobRaised := true }) else p
          let o := p.1.doMove hub r m
          let k := ({ p.2 with moved := r.moved + 1 }).countMove h m prog
          out (if o.fault.isSome || k.2 = 0 then o else { o with st := o.st.addFill r.h k.2 }) k.1
      match r.kind with
      | .block =>
        if bits (blkW r.blk 0) 56 8 = 2 then
          match progSeek (progSteps r.blk) progFuel r with
          | none => .next s
          | some t => go (progMove h r.dir t) { t with pj := t.pj + 1 } true false
        else
          let d := descOf r.blk h.set
          if d.total h.set ≤ r.moved then .next s
          else
            let m := descMove d h r.idx r.dir r.moved
            go m r false (d.ix && d.isrc && m.turn.isNone && m.addr.isNone && !m.oob)
      | .loadact tr =>
        let m := s.loadMove hub q r tr r.moved
        let rows := (hdrShape r.head).rows
        if loadTotal r.head ≤ r.moved || r.sections < m.sec || !s.moveReady r m.stns then .next s
        else
          let g := if tr then (if r.moved / 128 % s.deal hub q h = 0 then 1 else 0) else if r.moved < rows then 1 else 0
          out (s.doLoad hub q r tr) { r with moved := r.moved + 1, generated := r.generated + g }
      | .saveact code =>
        if popcount h.set * h.rows.toNat ≤ r.moved || !s.completeAt r.h r.no h.set || s.saveHeld r code.toNat then .next s
        else
          let p := s.doSave hub r code.toNat
          out p.1 p.2

/-- LOADACT_SECTION_CHECK (R287): the section whose rows have all streamed in. -/
def execLoadactSectionCheck (hub : HubId) (q : QueueId) (s : State) : Host.Outcome State Fault Refusal :=
  let x := s.que hub q
  match x.run with
  | none => .next s
  | some r =>
    match r.kind with
    | .loadact tr =>
      let hd := r.head
      let sh := hdrShape hd
      let n := r.sections
      if x.st != .running || !s.streamRuns hub r || hdrNsec hd ≤ n || r.moved < (n + 1) * sh.rows then .next s
      else match s.sectionBytes r n with
      | none => .next (s.streamFault hub r Ev.MEM_RANGE)
      | some b =>
        match decodeSection sh b.data with
        | none => .next (b.st.streamFault hub r Ev.HAUL_RECORD)
        | some p =>
          if b.ue then .next (b.st.faultCtx r.cid Ev.MEM_UE (srcHbm (memCtrl s.variant r.addr)))
          else if crc32c (b.data.take p.2.2) != (hdrSection hd n).2 || (hdrSection hd n).1 + pad256 p.2.2 != hdrNext hd n then
            .next (b.st.streamFault hub r Ev.HAUL_RECORD)
          else
            -- the scale array follows the rows of a CODE 0 section (R280)
            let h := s.hnd r.h
            let i := (stationsOf h.set).getD n 0
            let s := if sh.scaleBytes = 0 || tr then b.st else b.st.sideWrite i (h.scaleAt 0) p.2.1
            let k := loadCounted s hub q r tr (n + 1) - loadCounted s hub q r tr n
            .next (Stream.put (s.addFill r.h k) hub q false { r with sections := n + 1, counted := r.counted + k })
    | _ => .next s

/-- The stream ends: accesses, engines, counts (R274, R291). -/
def State.endStream (s : State) (hub : HubId) (q : QueueId) (r : Stream) : State :=
  let s := s.endNo r.no
  let s := s.modHub hub fun y => { y with turn := y.turn.filter (· != q.val), coder := y.coder.filter (· != q.val) }
  let s := s.modQue hub q fun x => { x with st := .idle, run := none, lines := 0 }
  (s.bump Fld.HAUL_Q_CNT_STREAMS 1 hub.val q.val).traceStream hub q r true

/-- A stream has moved all it generates. -/
def State.streamDone (s : State) (r : Stream) : Bool :=
  match r.kind with
  | .block =>
    if bits (blkW r.blk 0) 56 8 = 2 then (progSeek (progSteps r.blk) progFuel r).isNone
    else (descOf r.blk (s.hnd r.h).set).total (s.hnd r.h).set ≤ r.moved
  | .loadact _ => r.sections = hdrNsec r.head
  | .saveact _ => r.sections = popcount (s.hnd r.h).set

/-- STREAM_FINISH (R274). A SAVEACT writes its directory and header last (R279, R284). -/
def execStreamFinish (hub : HubId) (q : QueueId) (s : State) : Host.Outcome State Fault Refusal :=
  let s := s.tryRun hub q
  let x := s.que hub q
  match x.run with
  | none => .next s
  | some r =>
    if x.st != .running || !s.streamRuns hub r || !s.streamDone r then .next s
    else match r.kind with
    | .saveact code =>
      let b := recordHead ((s.hnd r.h).recShape code.toNat) r.saved r.saveOff
      if s.secHolds r.no (s.placed r.cid r.addr b.length) then .next s
      else match s.ctxWrite r.cid r.addr b with
      | none => .next (s.streamFault hub r Ev.MEM_RANGE)
      | some t =>
        let t := (t.setFld Fld.HAUL_Q_LAST_LENGTH r.saveOff hub.val q.val).setFld Fld.HAUL_Q_LAST_CODE code.toNat hub.val q.val
        .next (t.endStream hub q r)
    | _ => .next (s.endStream hub q r)

/-- SHADOW_START (R291): the shadow stream takes the queue when the stream before it is over. -/
def execShadowStart (hub : HubId) (q : QueueId) (s : State) : Host.Outcome State Fault Refusal :=
  let x := s.que hub q
  match x.shadow with
  | none => .next s
  | some r =>
    if x.run.isSome || x.st != .idle || !s.streamRuns hub r then .next s
    else
      let s := s.setQue hub q { st := .fetch, run := some r }
      let s := (s.bump Fld.HAUL_Q_STATUS_GEN 1 hub.val q.val).bump Fld.HAUL_Q_CNT_REARMS 1 hub.val q.val
      .next (if r.checked then (s.traceStream hub q r false).tryRun hub q else s)

/-- QUEUE_DRAIN_DONE (R289): the marked lines have arrived and are dropped. -/
def execQueueDrainDone (hub : HubId) (q : QueueId) (lines : Nat) (s : State) : Host.Outcome State Fault Refusal :=
  let x := s.que hub q
  if x.st != .draining then .next s
  else .next ((s.setQue hub q { x with st := .idle, lines := 0 }).bump Fld.HAUL_HUB_DISCARD_LINES lines hub.val)

/-! ### Arbitration (R258) -/

/-- The configured priority of a client. -/
def State.clientPri (s : State) (hub : HubId) (k : Nat) : Nat :=
  if k < 16 then s.fld Fld.HAUL_Q_CFG_PRI hub.val k
  else match k with
    | 16 => s.fld Fld.HAUL_HUB_CFG_INGRESS_PRI hub.val
    | 17 => s.fld Fld.HAUL_HUB_CFG_COLL_PRI hub.val
    | 18 => s.fld Fld.HAUL_HUB_CFG_MILL_PRI hub.val
    | _ => s.fld Fld.HAUL_HUB_CFG_PURGE_PRI hub.val

/-- Priorities at reset (R295, R299). -/
def priDflt (k : Nat) : Nat := if k < 16 then 3 else if k = 16 then 6 else if k = 19 then 1 else 7

/-- The context whose queue it is. -/
def State.queueOwner (s : State) (hub : HubId) (k : Nat) : Option Cid :=
  if k < 16 && s.flag Fld.HAUL_Q_OWN_VALID hub.val k then
    some (Fin.ofNat 8 (4 * s.fld Fld.HAUL_Q_OWN_SEQ hub.val k + s.fld Fld.HAUL_Q_OWN_CTX hub.val k))
  else none

/-- The client has work: a queue whose stream moves, purge while a region or a reset's fill is due at the hub. What ingress, the
collectives and the mill have to move the command says. -/
def State.clientWorks (s : State) (hub : HubId) (k : Nat) : Bool :=
  if k < 16 then
    let x := s.que hub (Fin.ofNat 16 k)
    match x.run with
    | some r => x.st == .running && s.streamRuns hub r
    | none => false
  else if k = 19 then
    (s.hbmPurge.any fun r => memHub (s.rgnBase r) == hub) || (List.range 3).any fun j => bit s.rst.memInit (3 * hub.val + j)
  else true

/-- The priority a round goes by: a queue's as it stood when the round began (R299), a system client's as it is set (R15, R295). -/
def State.roundPri (s : State) (hub : HubId) (k : Nat) : Nat :=
  if k < 16 then SMap.val (s.hub hub).pri (priDflt k) k else s.clientPri hub k

/-- CROSSBAR_ROUND (R258): a round of grants, at most 2^p lines to a client that has work; then the counts refresh and the queues'
priorities are taken. -/
def execCrossbarRound (hub : HubId) (grants : List (Fin 20)) (s : State) : Host.Outcome State Fault Refusal :=
  let taken (k : Nat) : Nat :=
    if s.clientWorks hub k then min (2 ^ s.roundPri hub k) (grants.filter fun g => g.val == k).length else 0
  let t := (List.range 20).foldl (fun t k =>
    let n := taken k
    let t := (t.bump Fld.HAUL_HUB_LINES_LINES n hub.val).pcEvent 7 hub.val n
    match s.queueOwner hub k with
    | some c => t.cnt c 3 n
    | none => t) s
  let now := (List.range 16).foldl (fun m k => SMap.put m (priDflt k) k (s.clientPri hub k)) (s.hub hub).pri
  .next (if s.regionRuns (48 + hub.val) then t.modHub hub fun y => { y with pri := now } else s)

end Sys2Proof.Machine
end

