-- ==== Sys2Proof/Machine/Bell.lean ====
section
/-! DEFINITION. The bell and its ordered actions, the pre-read of submission slots, the bell's own registers, and a split charge
(R27 to R30, R113 to R142, R154, R155, R163, R475, R549, R599, R636, R648). -/

namespace Sys2Proof.Machine

/-! ### Ends of segments (R125, R128, R163) -/

/-- SEGMENT ends: its trace record (R641). What LENGTH holds of a segment that is not complete the manual does not say: a free
value. -/
def State.traceEnd (s : State) (c : Cid) (len outcome : Nat) : State :=
  s.trace (srcSeq c) (some c) 2 (bytesOf 4 len ++ [BitVec.ofNat 8 outcome] ++ bytesOf 3 0 ++ bytesOf 8 s.bellNow)

def State.traceCut (s : State) (c : Cid) (outcome : Nat) : State :=
  let p := s.takeFree
  p.2.traceEnd c (p.1.toNat % 2 ^ 32) outcome

/-- Everything of a segment that does not commit is aborted or cancelled (R63, R134). -/
def State.dropSegment (s : State) (c : Cid) : State := ((((s.checkBudget c).abortCtx c).cancelAhead c).secureDrop c).coefDrop c

/-- Its tags fall back with it. -/
def State.stopWith (s : State) (c : Cid) (code : BitVec 16) : State :=
  (s.stopCtx c code).modBoth c fun x => { x with tags := x.tagImage }

/-- The sampler draws of provisional streams whose check has not ended are made before the commit takes the working copy
(R133, R318). -/
def State.lateDraws (s : State) (c : Cid) : State :=
  (s.allStreams.filter fun p => s.lead p.2.2.2.cid == s.lead c && p.2.2.2.prov && !p.2.2.2.checked && !p.2.2.2.drawn &&
      p.2.2.2.kind == .block && p.2.2.2.addr % 8 == 0 && s.ctxRange p.2.2.2.cid p.2.2.2.addr 64 &&
      !s.flag Fld.HAUL_Q_CFG_MODE p.1.val p.2.1.val).mergeSort
    (fun a b => a.2.2.2.no ≤ b.2.2.2.no) |>.foldl (fun s p =>
      let r := p.2.2.2
      let b := s.peekWords r.cid r.addr 8
      if bits (blkW b 0) 56 8 != 1 || (s.descFault r p.1 b).isSome then s
      else
        let d := s.drawFor r b
        Stream.put d.2.1 p.1 p.2.1 (!p.2.2.1) d.1) s

/-- Provisional fills and their handles become real (R133, R219). -/
def State.commitAhead (s : State) (c : Cid) : State :=
  let mine := s.usedHandles.filter fun p => p.2.owner == s.lead c
  let s := mine.foldl (fun s p => s.modHnd p.1 fun x => { x with
    st := if x.st == .provisional then .allocated else x.st, tentative := false }) s
  let nos := ((s.streamsOf c).filter (·.prov)).map (·.no)
  let s : State := { s with accs := s.accs.map fun a => if nos.contains a.no then { a with prov := false } else a }
  let real (r : Option Stream) : Option Stream :=
    r.map fun r => if s.lead r.cid == s.lead c then { r with prov := false } else r
  let s := allQueues.foldl (fun s p => s.modQue p.1 p.2 fun x => { x with run := real x.run, shadow := real x.shadow }) s
  s.modBoth c fun x => { x with provH := [] }

/-- HALT has committed: IDLE, its handles freed, its seam left (R173). -/
def State.halted (s : State) (c : Cid) : State :=
  let mine := s.usedHandles.filter fun p => p.2.owner == s.lead c && p.2.st != .purgePending
  (mine.foldl (fun s p => s.freeHandle p.1) s).modBoth c fun x => { x with st := .idle, owner := false }

/-- The segment commits (R125, R133, R140, R152). Of a joined context the controlling instance takes SEQ_CTX_SEGSTAT and SEQ_CTX_CNT
(DESIGN CHOICE, log entry 122). -/
def State.commitCtx (s : State) (c : Cid) : State :=
  let s := ((s.flushStores c).lateDraws c).commitDraws c |>.commitAhead c
  let y := s.ctx c
  let s := s.modBoth c fun x =>
    let p := if x.evalEnded then { x.prog with evalCnt := x.prog.evalCnt + 1 } else x.prog
    { x with
      prog := p, image := p, tagImage := x.tags, pastReturn := false, millUe := false, slipped := false, inSeg := false
      atStart := false, newstep := false, evalEnded := false, ended := false, halting := false, emptySeg := false }
  let s := s.setFld Fld.SEQ_CTX_SEGSTAT_LAST y.segLen c.val
  let s := s.setFld Fld.SEQ_CTX_SEGSTAT_MAX (max y.segLen (s.fld Fld.SEQ_CTX_SEGSTAT_MAX c.val)) c.val
  let s := (s.secureCommit c s.bellNow).coefBell c
  let s := ((s.ao 10 1).cnt c 5 1).traceEnd c y.segLen 0
  if y.halting then s.halted c else s

/-- A faulted context stops (R163); an IDLE one has nothing to stop. -/
def State.stopFaulted (s : State) (c : Cid) (code : BitVec 16) : State :=
  let st := (s.ctx c).st
  if st == .idle || st == .purging || st == .stopped then s.modBoth c fun x => { x with faulted := none }
  else ((s.dropSegment c).ao 11 1).traceCut c 3 |>.stopWith c code

/-- R128. A STOP command that waits is used up by it (R137). -/
def State.overrun (s : State) (c : Cid) : State :=
  let s := ((s.dropSegment c).bump Fld.SEQ_CTX_CNT_OVERRUNS 1 c.val).raise Ev.SEG_OVERRUN (srcSeq c) (some c)
  ((s.ao 11 1).traceCut c 1 |>.stopWith c Ev.SEG_OVERRUN).modBoth c fun x => { x with cmd := if x.cmd == 1 then 0 else x.cmd }

/-- R129. -/
def State.slip (s : State) (c : Cid) : State :=
  let s := (s.modBoth c fun x => { x with slipped := true }).bump Fld.SEQ_CTX_CNT_SLIPS 1 c.val
  ((s.raise Ev.SEG_SLIP (srcSeq c) (some c)).ao 11 1).traceCut c 2

/-! ### The actions of R30 -/

/-- The contexts that the bell acts on: the controlling copies, those under an all-stop aside (R648). -/
def State.bellCtxs (s : State) : List Cid := allCids.filter fun c => s.lead c == c && !s.ctxStopped c

/-- Action 1 for one context. -/
def State.judge (s : State) (c : Cid) : State :=
  let x := s.ctx c
  match x.faulted with
  | some f => s.stopFaulted c f
  | none =>
    if x.st == .waiting then s.commitCtx c
    else if x.st != .running then s
    else if s.flag Fld.SEQ_CTX_CFG_SLIP_EN c.val && !x.slipped && x.cmd != 1 then s.slip c
    else s.overrun c

/-- Every bell-latched field takes its shadow's value. -/
def State.latch (s : State) : State :=
  s.shadow.foldl (fun s p =>
    match p.2, regAt (p.1 / 64) with
    | some v, some (d, _) =>
      match d.fields.find? fun f => f.lo == p.1 % 64 with
      | some f => s.setCell (p.1 / 64) f v.toNat
      | none => s
    | _, _ => s) { s with shadow := [] }

/-- Crossings in fallback re-align (R549). -/
def State.realign (s : State) : State :=
  if s.time.allFallback || !s.time.fallback.isEmpty then
    { s.bump Fld.CLK_XING_CNT_REALIGNS with time := { s.time with allFallback := false, fallback := [] } }
  else s

/-- Action 2: shadows, the bell period, the counters' enable, the crossings. -/
def State.latchAll (s : State) : State :=
  let s := s.latch.realign
  match s.dbg.pcPend with
  | some b => { s.setFld Fld.DBG_PC_CTL_EN b.toNat with dbg := { s.dbg with pcOn := b, pcPend := none } }
  | none => s

/-- KILL (R137, R230): everything of the context is dropped, its handles and regions are purged. -/
def State.killCtx (s : State) (c : Cid) : State :=
  let l := s.lead c
  let s := s.dropSegment c
  let mine (d : Cid) : Bool := s.lead d == l
  let gone (u : Update) : Bool := mine u.cid
  let s := { s with
    fab := { s.fab with
      reds := s.fab.reds.filter fun r => !(mine r.cid && r.dispatched)
      colls := s.fab.colls.filter fun x => !mine x.cid
      landing := s.fab.landing.filter fun p => !mine p.cid
      folds := s.fab.folds.filter fun f => !mine f.cid
      kept := s.fab.kept.filter fun k => !(k.cid.any mine)
      parked := s.fab.parked.filter fun p => !(p.2.any mine) }
    mill0 := { s.mill0 with queue := s.mill0.queue.filter fun u => !gone u }
    mill1 := { s.mill1 with queue := s.mill1.queue.filter fun u => !gone u } }.dropVus gone
  let hs := s.usedHandles.filter fun p => p.2.owner == l
  let s := { s with accs := s.accs.filter fun a => !(hs.any fun p => p.1 == a.h) }
  let s := hs.foldl (fun s p => if p.2.st == .purgePending then s else s.startPurge p.1 false) s
  ((s.purgeRegions l).stopCtx c 0).modBoth c fun x => { x with
    st := .purging, owner := false, stopEvent := (s.ctx l).stopEvent, cmd := 0, tags := [], tagImage := [], pastReturn := false }

/-- A context-reach reset (R599): KILL, and the seam's stations are left empty. -/
def State.resetCtx (s : State) (c : Cid) : State :=
  let set := s.seamSet c
  let x := s.ctx c
  let s := if x.st == .idle || x.st == .purging then s else s.killCtx c
  let here (no : Nat) : Bool := match s.inst no with
    | some i => i.mask &&& set != 0
    | none => false
  let s := { s with
    insts := s.insts.filter fun p => !here p.1
    passes := s.passes.filter fun p => match p.2 with | some q => !has set q.orig | none => true }
  let s := (stationsOf set).foldl (fun s i => s.modStn i fun y => { y with
    bank0 := {}, bank1 := {}, queue := [], tables := [], drains := [], replay := false, turn0 := false, turn1 := false }) s
  s.modBoth c fun x => { x with resetReq := false }

/-- STOP has no event of its own: what STOP_EVENT then reads the manual does not say (a free value). What is left of a BELLWAIT
stands. -/
def State.stopCmd (s : State) (c : Cid) : State :=
  let p := s.takeFree
  let n := (s.ctx c).waitBells
  (p.2.stopWith c (p.1.setWidth 16)).modBoth c fun x => { x with waitBells := n }

/-- RESUME (R126, R375). At a relief in Drop mode it floods the relief notice (R524). -/
def State.resume (s : State) (c : Cid) : State :=
  let x := s.ctx c
  if x.pastReturn || x.millUe then s.raise Ev.SEQ_NO_RESTART (srcSeq c) (some c)
  else
    let s := s.modBoth c fun x => { x with st := .ready }
    match s.rlf.act with
    | some a => if a.drop && a.cid == c && !a.ready then
        { s with rlf := { s.rlf with act := some { a with ready := true } } }.reliefNotice a.ident
      else s
    | none => s

/-- The target of PREEMPT can take the seam (R136). -/
def State.preemptOk (s : State) (c t : Cid) : Bool :=
  s.lead t != c && s.lead t == t && (s.ctx t).st == .ready && s.seamOf t == s.seamOf c && s.joined t == s.joined c

/-- PREEMPT: the context becomes READY, the target takes the seam. A segment that slips is given up: it starts again from the
last-bell image (DESIGN CHOICE, log entry 70). -/
def State.preempt (s : State) (c t : Cid) : State :=
  let slips := (s.ctx c).st == .running
  let n := (s.ctx c).waitBells
  let e := (s.ctx c).stopEvent
  let s := if slips then ((s.dropSegment c).stopWith c e).modBoth c fun x => { x with waitBells := 0 } else s
  let s := s.modBoth c fun x => { x with st := .ready, owner := false, waitBells := if slips then 0 else n }
  s.modBoth t fun x => { x with owner := true }

/-- A context's command takes effect (R136, R137). -/
def State.takeCmd (s : State) (c : Cid) : State :=
  let x := s.ctx c
  let s := s.modBoth c fun x => { x with cmd := 0 }
  let bad := s.raise Ev.SEQ_CMD (srcSeq c) (some c)
  let active := x.st == .running || x.st == .waiting
  match x.cmd.toNat with
  | 0 => s
  | 1 => if active || x.st == .ready then s.stopCmd c else bad
  | 2 => if x.st == .stopped then s.resume c else bad
  | 3 => if x.st == .idle || x.st == .purging then bad else s.killCtx c
  | 4 =>
    let t : Cid := Fin.ofNat 8 (4 * cSeq c + x.cmdTarget.toNat)
    if active && s.preemptOk c t then s.preempt c t else bad
  | _ => bad

/-- A READY context whose seam field breaks R115 stops at the bell at which it would begin. -/
def State.badSeam (s : State) (c : Cid) : State :=
  if (s.ctx c).st == .ready && !s.seamOk c then
    ((s.stopWith c Ev.SEQ_SEAM).modBoth c fun x => { x with owner := false }).raise Ev.SEQ_SEAM (srcSeq c) (some c)
  else s

/-- Contexts of one sequencer, or joined ones, that name the same seam. -/
def State.sameSeam (s : State) (c d : Cid) : Bool := s.seamOf c == s.seamOf d && s.joined c == s.joined d && (s.joined c || cSeq c == cSeq d)

/-- A READY context takes its seam if nobody has it, or if only a stopped context does (R116). Contexts are asked in the order
of their numbers. -/
def State.settle (s : State) (keepStopped : Bool) (c : Cid) : State :=
  let own := allCids.find? fun d => s.lead d == d && (s.ctx d).owner && s.sameSeam c d
  let free := match own with
    | none => true
    | some d => !keepStopped && (s.ctx d).st == .stopped && !s.ctxStopped d
  if (s.ctx c).st == .ready && s.seamOk c && free then
    let s := match own with
      | some d => s.modBoth d fun x => { x with owner := false }
      | none => s
    s.modBoth c fun x => { x with owner := true }
  else s

/-- Action 3: context resets, commands, ownership, domain resets that waited. Among contexts R136 gives no order: commands are taken in
the order of their numbers (DESIGN CHOICE, log entry 123). -/
def State.settleAll (s : State) : State :=
  let cs := s.bellCtxs
  let s := cs.foldl (fun s c => if (s.ctx c).resetReq then s.resetCtx c else s) s
  let s := cs.foldl State.takeCmd s
  let s := cs.foldl State.badSeam s
  (cs.foldl (fun s c => s.settle false c) s).assertForced

/-- The entry point of a slot is 8-byte aligned and lies in an HBM region of the context (R475). -/
def State.entryFits (s : State) (c : Cid) (a : Nat) : Bool :=
  a % 8 == 0 && (match s.rgnFor c a 8 with | some r => s.rgnState r == 1 && s.rgnBase r < stkBase | none => false)

/-- An IDLE context takes new work (R141): entry address, seed and step come from the slot, the rest of the program state starts
cleared (DESIGN CHOICE, log entry 73). -/
def State.takeWork (s : State) (c : Cid) (h : List Byte) : State :=
  let st := BitVec.ofNat 63 (leAt h 24 8)
  let s := s.modBoth c fun x =>
    let p : ProgState := { pc := BitVec.ofNat 64 (leAt h 8 8), step := st, evalCnt := x.prog.evalCnt }
    { x with
      st := .ready, prog := p, image := p, tags := [], tagImage := [], takenStep := st, pastReturn := false, millUe := false
      waitBells := 0, faulted := none }
  let s := (s.setFld Fld.SEQ_CTX_SEED_SEED (leAt h 16 8) c.val).setFld Fld.SEQ_CTX_SUBSEQ_NEXT_SEQ (s.fld Fld.SEQ_CTX_SUBSEQ_NEXT_SEQ c.val + 1) c.val
  let s := s.bump Fld.SEQ_CTX_SUBSEQ_TAKEN 1 c.val
  { s with dbg := { s.dbg with cnt := SMap.clear s.dbg.cnt (8 * c.val) 8 } }

/-- Action 5 for one context (R141, R475). A relief takes no submission (R499). -/
def State.scan (s : State) (c : Cid) : State :=
  let x := s.ctx c
  let seq := s.fld Fld.SEQ_CTX_SUBSEQ_NEXT_SEQ c.val
  let s := s.modBoth c fun x => { x with preread := none }
  match x.preread with
  | none => s
  | some h =>
    if x.st != .idle || !s.flag Fld.SEQ_CTX_CFG_SCAN_EN c.val || s.flag Fld.RLF_CFG_ROLE || leAt h 0 4 != seq then s
    else if leAt h 4 4 == (crc32c (sliceB h 0 4 ++ sliceB h 8 24)).toNat && s.entryFits c (leAt h 8 8) then s.takeWork c h
    else if x.slotBad == some (BitVec.ofNat 32 seq) then s
    else (s.modBoth c fun x => { x with slotBad := some (BitVec.ofNat 32 seq) }).raise Ev.SEQ_SLOT (srcSeq c) (some c)

/-- Action 6 for one context: it begins a segment, an empty one while a BELLWAIT lasts (R124, R127). -/
def State.begin (s : State) (c : Cid) : State :=
  let x := s.ctx c
  if !x.owner || !(x.st == .ready || x.st == .waiting) then s
  else if !s.seamOk c then
    ((s.stopWith c Ev.SEQ_SEAM).modBoth c fun x => { x with owner := false }).raise Ev.SEQ_SEAM (srcSeq c) (some c)
  else if x.waitBells != 0 then
    s.modBoth c fun x => { x with st := .waiting, emptySeg := true, waitBells := x.waitBells - 1, segLen := 0, segNo := s.dispNo }
  else
    let s := s.modBoth c fun x => { x with
      st := .running, emptySeg := false, segNo := s.dispNo
      ldsOrd := 0, ldsPeer := [], flagOrd := 0, flagPeer := [], barOrd := 0 }
    -- the token's count follows the context that runs, and a re-run (DEDUCED, log entry 111)
    let s : State := if s.joined c then { s with token := { s.token with last := x.prog.cross } } else s
    let s := if s.isSecured c then { s with rlf := { s.rlf with hold := false } } else s
    s.trace (srcSeq c) (some c) 1 (bytesOf 8 x.prog.pc.toNat ++ bytesOf 8 x.prog.step.toNat)

/-- Counters are copied into their registers (R636, R637, R661). -/
def State.snapCounters (s : State) : State :=
  let live (k : Nat) : Nat := let n := SMap.val s.dbg.ao 0 k; if k = 1 then n / 5000 else n
  let s := (List.range 12).foldl (fun t k => t.setFld Fld.DBG_AO_COUNT (live k) k) s
  let own (c k : Nat) : Nat :=
    let n (k : Nat) : Nat := SMap.val s.dbg.cnt 0 (8 * c + k)
    if k = 1 || k = 2 then n k / 5000
    else if k = 5 then n 5 % 2 ^ 32 + n 6 % 2 ^ 16 * 2 ^ 32 + n 7 % 2 ^ 16 * 2 ^ 48
    else n k
  let s := (List.range 8).foldl (fun t c => (List.range 6).foldl (fun t k => t.setFld Fld.DBG_CTX_CNT_COUNT (own c k) c k) t) s
  s.setFld Fld.DBG_SNAP_BELL_BELL s.bellNow

/-- Events that are raised at most once between bells may be raised again (R406, R415, R470, R479). -/
def State.clearGiven (s : State) : State :=
  { s with
    vuFrozen := [], mill0 := { s.mill0 with frozenGiven := false }, mill1 := { s.mill1 with frozenGiven := false }
    fab := { s.fab with winGiven := false, unreachGiven := false }
    llx := { s.llx with wrDenyGiven := false } }

/-- All the actions of bell `k`, once the timebase has reached it. -/
def State.bellActions (s : State) (k : Nat) : State :=
  let cs := s.bellCtxs
  let s := s.snapCounters.publish
  let s := cs.foldl State.judge s
  let s := s.latchAll
  let s := { s with time := { s.time with nextBell := s.time.nextBell + s.periodNs, nextNum := k + 1 } }
  let s := s.settleAll
  let s := ((s.sendHeartbeats k).countMissed k).countOffset.rejoinBell
  let cs := s.bellCtxs
  let s := cs.foldl State.scan s
  let s := cs.foldl State.badSeam s
  let s := cs.foldl (fun s c => s.settle true c) s
  cs.foldl State.begin s

/-- BELL (R27, R30, R648): the timebase reaches the next bell. During an all-stop of the device no action is taken; nor is one
while domain 48 is in reset. -/
def execBell (s : State) : Host.Outcome State Fault Refusal :=
  .next (if !s.time.counting then s
    else
      let s := s.advanceTo s.time.nextBell
      let k := s.time.nextNum
      let past : State := { s with time := { s.time with nextBell := s.time.nextBell + s.periodNs, nextNum := k + 1 } }
      if s.held 48 then past
      else
        let s := (s.setFld Fld.SEQ_BELL_NUM_NUMBER k).clearGiven
        let s := if s.dbg.stop.isSome then s.bump Fld.DBG_STOP_STAT_BELLS_SKIPPED else s
        if s.stopDevice then { s with time := past.time } else s.bellActions k)

/-! ### Pre-read (R141, R142, R150, R474) -/

/-- The address of the slot with the context's next sequence number. -/
def State.slotAddr (s : State) (c : Cid) : Nat :=
  let d := min 10 (s.fld Fld.SEQ_CTX_SUBBASE_DEPTH c.val)
  4096 * s.fld Fld.SEQ_CTX_SUBBASE_BASE c.val + s.fld Fld.SEQ_CTX_SUBSEQ_NEXT_SEQ c.val % 2 ^ d * 64

/-- One context's header; what cannot be read is no header. -/
def State.readSlot (s : State) (c : Cid) : State :=
  if !s.flag Fld.SEQ_CTX_CFG_SCAN_EN c.val then s
  else
    let a := s.slotAddr c
    if !assigned s.variant a 32 || stkBase ≤ a || s.rgnPurging a 32 then s.modBoth c fun x => { x with preread := none }
    else
      let r := s.memRead a 32
      r.st.modBoth c fun x => { x with preread := if r.ue then none else some r.data }

/-- SLOT_PREREAD: 2 µs before the bell. -/
def execSlotPreread (s : State) : Host.Outcome State Fault Refusal :=
  .next (if !s.time.counting || s.held 48 || s.stopDevice then s
    else
      let s := s.advanceTo (s.time.nextBell - 2000)
      s.bellCtxs.foldl State.readSlot s)

/-! ### The bell's registers -/

/-- SEQ_BELL_ORIGIN (R155). -/
def State.wrBellOrigin (s : State) (_who : Requester) (v : Word) : WOut :=
  s.stoppedWrite s.anyBusy 0x308008 fun o => o.map fun s =>
    let s := (s.setFld Fld.SEQ_BELL_ORIGIN_ORIGIN v.toNat).schedule v.toNat
    s.setFld Fld.SEQ_BELL_NUM_NUMBER (s.time.nextNum - 1)

/-- SEQ_BELL_ORIGIN_WRITE. -/
def execSeqBellOriginWrite (who : Requester) (v : Word) (s : State) : Host.Outcome State Fault Refusal := .next (s.wrBellOrigin who v).st

/-- SEQ_BELL (R154). -/
def State.wrBell (s : State) (who : Requester) (v : Word) : WOut :=
  let n := bits v 0 7
  if n = 0 || 100 < n then WOut.outside { st := s } 0x308000 else s.regPlain who 0x308000 false false v

/-- SEQ_BELL_WRITE. -/
def execSeqBellWrite (who : Requester) (v : Word) (s : State) : Host.Outcome State Fault Refusal := .next (s.wrBell who v).st

/-! ### SPLIT_CHARGE (R121, R649) -/

/-- SPLIT_CHARGE: the all-stop of the joined context, its abort and restore; the end of the restore releases the stop (log entry
68). -/
def execSplitCharge (c : Fin 4) (s : State) : Host.Outcome State Fault Refusal :=
  let w : Cid := ⟨c.val, by omega⟩
  .next (if !(s.joined w && (s.ctx w).owner && s.busyCtx w) then s
    else
      let free := s.dbg.stop.isNone
      let s := (s.stopNow (some w) 3).raise Ev.SPLIT_CHARGE srcDev (some w)
      let s := (s.bump Fld.SEQ_CHARGE_SPLITS).dropSegment w |>.stopWith w Ev.SPLIT_CHARGE
      let s := { s with token := { s.token with holder := none, epoch := s.token.epoch + 1, reqWest := false, reqEast := false } }
      if free then s.restart else s)

end Sys2Proof.Machine
end

