-- ==== Sys2Proof/Machine/Bunker.lean ====
section
/-! DEFINITION. The bunker's handle table, purge, scrub and bank power (R196 to R198, R218 to R249). -/

namespace Sys2Proof.Machine

/-! ### HALLOC, HFREE, HPURGE (R196 to R198, R218 to R220) -/

/-- Two regions share a line at a common station. -/
def Handle.meets (x y : Handle) : Bool :=
  x.set &&& y.set != 0 && x.line0 < y.line0 + y.lines && y.line0 < x.line0 + x.lines

/-- The handle that an HALLOC describes. -/
def State.hallocEntry (s : State) (c : Cid) (w : NWords) : Handle :=
  let l := s.lead c
  { set := (s.ctx c).m (w.f 41 39), bank := BitVec.ofNat 4 (w.f 32 29), off := BitVec.ofNat 11 (w.f 28 18),
    fmt := BitVec.ofNat 4 (w.f 36 33), cls := BitVec.ofNat 2 (w.f 38 37), st := .allocated, seq := cSeq l == 1,
    ctx := BitVec.ofNat 2 (cLow l), joined := s.joined c, rows := BitVec.ofNat 20 (w.x 19 0),
    stride := BitVec.ofNat 12 (w.x 31 20), cols := BitVec.ofNat 7 (w.x 38 32), tentative := true,
    gen := (s.hnd (w.h 42)).gen + 1 }

/-- The shape rules of R197 and R217. -/
def Handle.shapeOk (x : Handle) : Bool :=
  x.rowSize ≤ x.strideB && x.line0 + x.lines ≤ 32768 &&
    (!x.mx || (x.colsN % 32 == 0 && x.strideB == ceilDiv x.rowSize 32 * 32))

/-- The handle number lies in the context's range (R220). -/
def State.inRange (s : State) (c : Cid) (h : HandleId) : Bool :=
  let l := (s.lead c).val
  s.fld Fld.BNK_CTX_RANGE_BASE l ≤ h.toNat && h.toNat < s.fld Fld.BNK_CTX_RANGE_BASE l + s.fld Fld.BNK_CTX_RANGE_COUNT l

/-- The banks of a region that are not AWAKE, by station. -/
def State.sleepers (s : State) (x : Handle) : List (StationId × Nat) :=
  (stationsOf x.set).flatMap fun i => (x.banks.filter fun b => (s.bankPwr i b).st != .awake).map fun b => (i, b)

/-- An HALLOC wakes the sleeping banks it touches (R235); one that waits to power down is left to do so (R233). -/
def State.wakeFor (s : State) (l : List (StationId × Nat)) : State :=
  l.foldl (fun s p => if (s.bankPwr p.1 p.2).st = .asleep then s.wakeBank p.1 p.2 else s) s

/-- HALLOC's effect: its faults, its waits, the new entry. -/
def State.halloc (s : State) (c : Cid) (w : NWords) (t : State) : State :=
  let h := w.h 42
  let x := s.hallocEntry c w
  let others := s.usedHandles.map fun p => p.2
  let live := others.any fun y => y.st != .purgePending && y.meets x
  let checks := [need (subset x.set (s.seamSet c)) Ev.RING_SPAN, need (x.fmt.toNat < 12) Ev.NUM_MODE, need x.shapeOk Ev.BNK_SHAPE,
    need (s.inRange c h && (s.hnd h).st == .free) Ev.BNK_HANDLE, need (!live) Ev.BNK_OVERLAP]
  let zz := s.sleepers x
  match firstFault checks with
  | some f => t.seqFault c f
  | none =>
    if others.any (fun y => y.meets x) || !zz.isEmpty then s.wakeFor zz
    else (t.setHnd h x).nextPc c 2

/-- HALLOC (R197). A mask of one half of a joined context is for that half's sequencer alone (R117). -/
def execHalloc (c : Cid) (w : NWords) (s : State) : Host.Outcome State Fault Refusal :=
  .next (s.seqRun c (Enc.halloc w) [] fun s =>
    let set := (s.ctx c).m (w.f 41 39)
    if set = 0 || s.ownHalf c set = 0 then s.nextPc c 2
    else s.crossRun c (bothHalves set) 2 fun t => s.halloc c w t)

/-- HFREE (R198). -/
def execHfree (c : Cid) (w : NWords) (s : State) : Host.Outcome State Fault Refusal :=
  .next (s.seqRun c (Enc.hfree w) [] fun s =>
    s.crossRun c true 1 fun s => s.checked c [s.handleFault c (w.h 42) 0] fun s => ((s.freeHandle (w.h 42)).pastReturn c).nextPc c 1)

/-- HPURGE (R198): at once, or when the hold ends (R44). A second HPURGE of a handle whose first still waits is held at the
sequencer (DESIGN CHOICE, log entry 26). -/
def execHpurge (c : Cid) (w : NWords) (s : State) : Host.Outcome State Fault Refusal :=
  .next (s.seqRun c (Enc.hfree w) [] fun s =>
    let h := w.h 42
    s.crossRun c true 1 fun t => t.checked c [t.handleFault c h 0] fun t =>
      if (t.hnd h).purgeNo.isSome then s
      else
        let no := t.dispNo
        let t := { t with dispNo := no + 1 }
        let t := if t.heldHandle h then t.modHnd h fun x => { x with purgeNo := some no } else t.startPurge h true
        (t.pastReturn c).nextPc c 1)

/-- HANDLE_HOLD_END (R44, R223): a pending HFREE, or a waiting HPURGE whose earlier accesses have ended, takes effect. -/
def execHandleHoldEnd (h : HandleId) (s : State) : Host.Outcome State Fault Refusal :=
  let x := s.hnd h
  .next (
    if x.freePending then (if s.heldHandle h then s else s.startPurge h false)
    else match x.purgeNo with
      | some n => if s.accs.any fun a => a.h == h && a.no < n then s else s.startPurge h true
      | none => s)

/-! ### Purge (R228) -/

/-- BNK_PURGE_DONE (R228): every station's engine has come to the region and zero-filled it. -/
def execBnkPurgeDone (h : HandleId) (s : State) : Host.Outcome State Fault Refusal :=
  let x := s.hnd h
  .next (match s.purgeFirst h with
    | some keep => if (stationsOf x.set).all s.sliceRuns then
        (let s := s.endPurge h keep
         if keep then s else s.stampBanks x) else s
    | none => s)

/-! ### The table's readout (R212, R239, R240) -/

/-- Word `n` of a handle table entry. -/
def State.handleWord (s : State) (h : HandleId) (n : Nat) : Nat :=
  let x := s.hnd h
  let free := x.st == .free
  match n with
  | 0 => bits x.set 0 64
  | 1 =>
    bits x.set 64 32 + x.bank.toNat * 2 ^ 32 + x.off.toNat * 2 ^ 36 + x.fmt.toNat * 2 ^ 47 + x.cls.toNat * 2 ^ 51 +
      (match x.st with | .free => 0 | .allocated => 1 | .provisional => 2 | .purgePending => 3) * 2 ^ 53 +
      (if free then 0 else x.seq.toNat * 2 ^ 56 + x.ctx.toNat * 2 ^ 57 + x.joined.toNat * 2 ^ 59)
  | 2 => x.rows.toNat + x.stride.toNat * 2 ^ 20 + x.cols.toNat * 2 ^ 32 + x.fill.toNat * 2 ^ 40
  | _ =>
    s.writers h % 2 ^ 16 + s.readers h % 2 ^ 16 * 2 ^ 16 + (s.writingBack h).toNat * 2 ^ 32 + x.zeroing.toNat * 2 ^ 33 +
      x.freePending.toNat * 2 ^ 34 + x.tentative.toNat * 2 ^ 35 + x.gen.toNat * 2 ^ 48

/-- The snapshot of the selected entry. -/
def State.snapHandle (s : State) : State :=
  let h : HandleId := BitVec.ofNat 12 (s.fld Fld.BNK_HSEL_HANDLE)
  (List.range 4).foldl (fun t n => t.setFld Fld.BNK_HENT_WORD (s.handleWord h n) n) s

/-- The write of BNK_HSEL (R239). -/
def State.wrHsel (s : State) (who : Requester) (v : Word) : WOut := (s.regPlain who 0x500008 false false v).map (·.snapHandle)

/-- BNK_HSEL_WRITE (R239). -/
def execBnkHselWrite (who : Requester) (v : Word) (s : State) : Host.Outcome State Fault Refusal := .next (s.wrHsel who v).st

/-- BNK_HENT0_READ (R239). -/
def execBnkHent0Read (_who : Requester) (s : State) : Host.Outcome State Fault Refusal := .next s.snapHandle

/-! ### Register writes of the block (R242, R243) -/

/-- BNK_PWR_CTL: an IDLE of 0 is discarded with CFG_RANGE; AUTO of the same write takes effect (R18). -/
def State.wrPwrCtl (s : State) (v : Word) : WOut :=
  let o : WOut := { st := s.setFld Fld.BNK_PWR_CTL_AUTO (bits v 0 1) }
  if bits v 8 8 = 0 then o.outside 0x500038 else o.map (·.setFld Fld.BNK_PWR_CTL_IDLE (bits v 8 8))

/-- BNK_CTX_RANGE: BASE + COUNT above 4,096 is clamped (R243). -/
def State.wrCtxRange (s : State) (who : Requester) (c : Nat) (v : Word) : WOut :=
  s.privWrite who fun o => o.map fun s =>
    let b := bits v 0 12
    (s.setFld Fld.BNK_CTX_RANGE_BASE b c).setFld Fld.BNK_CTX_RANGE_COUNT (min (bits v 12 13) (4096 - b)) c

/-- BNK_SCRUB_CTL (R241). The time in which scrubbing was off is no part of a round (DESIGN CHOICE, log entry 127). -/
def State.wrScrubEn (s : State) (who : Requester) (v : Word) : WOut :=
  let o := s.regPlain who 0x500030 false false v
  if bit v 0 && !s.flag Fld.BNK_SCRUB_CTL_EN then o.map fun s =>
    (List.finRange 96).foldl (fun s i => s.modStn i fun x => { x with scrubTime := s.now }) s
  else o

/-! ### Bank power (R232 to R236, R247) -/

/-- The SLEEP bits of a write of BNK_ST_PWR_REQ; a bit also set in WAKE is a wake request. -/
def State.sleepReq (s : State) (i : StationId) (v : Word) : State :=
  (List.range 16).foldl (fun s b => if bit v b && !bit v (16 + b) then s.sleepBank i b else s) s

/-- Its WAKE bits. -/
def State.wakeReq (s : State) (i : StationId) (v : Word) : State :=
  (List.range 16).foldl (fun s b => if bit v (16 + b) then s.wakeBank i b else s) s

/-- BANK_SLEEP_REQ (R233). -/
def execBankSleepReq (st : StationId) (v : Word) (s : State) : Host.Outcome State Fault Refusal := .next (s.sleepReq st v)

/-- BANK_WAKE_REQ (R235). -/
def execBankWakeReq (st : StationId) (v : Word) (s : State) : Host.Outcome State Fault Refusal := .next (s.wakeReq st v)

/-- The time after which a deferral is cancelled: 16 µs. -/
def deferLimit : Nat := 16000

/-- BANK_POWER_DOWN (R234): the bank's in-flight writes are all stored, its counter has reached zero. -/
def execBankPowerDown (st : StationId) (bank : Fin 16) (s : State) : Host.Outcome State Fault Refusal :=
  let x := s.bankPwr st bank.val
  .next (if x.st = .deferring ∧ s.now ≤ x.since + deferLimit ∧ s.sliceRuns st then
      s.setBankPwr st bank.val { x with st := .asleep, since := s.now, inFlight := 0 }
    else s)

/-- PWR_DEFER (R234): 16 µs have gone by and the counter has not reached zero. -/
def execPwrDefer (st : StationId) (bank : Fin 16) (s : State) : Host.Outcome State Fault Refusal :=
  let x := s.bankPwr st bank.val
  .next (if x.st = .deferring ∧ x.since + deferLimit ≤ s.now ∧ x.inFlight ≠ 0 ∧ s.sliceRuns st then
      ((s.setBankPwr st bank.val { x with st := .awake, since := s.now, idleSince := s.now }).bump Fld.BNK_ST_PWR_DEFERS 1 st.val).raise
        Ev.PWR_DEFER (srcStn st)
    else s)

/-- BANK_WAKE_DONE (R235): 2.0 µs of power-up, then the zero-fill. -/
def execBankWakeDone (st : StationId) (bank : Fin 16) (s : State) : Host.Outcome State Fault Refusal :=
  let x := s.bankPwr st bank.val
  .next (if x.st = .waking ∧ x.since + 2000 ≤ s.now ∧ s.sliceRuns st then
      ((s.bunkZero st (2048 * bank.val) 2048).bump Fld.BNK_ST_PURGE_LINES_DONE 2048 st.val).setBankPwr st bank.val
        { x with st := .awake, since := s.now, idleSince := s.now }
    else s)

/-- BANK_AUTO_SLEEP (R236). -/
def execBankAutoSleep (st : StationId) (bank : Fin 16) (s : State) : Host.Outcome State Fault Refusal :=
  let x := s.bankPwr st bank.val
  .next (if s.flag Fld.BNK_PWR_CTL_AUTO && s.sliceRuns st && x.st == .awake && !s.bankHeld st bank.val &&
      x.idleSince + 1000 * s.fld Fld.BNK_PWR_CTL_IDLE ≤ s.now then s.sleepBank st bank.val else s)

/-! ### The scrubber (R225 to R227) -/

/-- The line belongs to the round. -/
def State.scrubLine (s : State) (i : StationId) (line : Nat) : Bool := (s.scrubNeed i).testBit line

/-- An uncorrectable word that the scrubber meets (R225). -/
def State.scrubUe (s : State) (i : StationId) (sb : Bool) (line w : Nat) : State :=
  let s := s.bunkError sb true (w, .ue)
  match s.lineHolder i line with
  | some p => if p.2.st = .purgePending then s else s.raise Ev.BNK_UE (srcStn i)
  | none => s.bunkZero i line 1

/-- The scrubber reads a line and its sideband. -/
def State.scrubRead (s : State) (i : StationId) (line : Nat) : State :=
  let one (sb : Bool) (s : State) (p : Nat × Ecc) : State :=
    match p.2 with
    | .ue => s.scrubUe i sb line p.1
    | e => s.bunkError sb true (p.1, e)
  let s := (s.bunkBits.found (slice i + 256 * line) 256).foldl (one false) s
  (s.sideBits.found (sideSlice i + 16 * line) 16).foldl (one true) s

/-- SCRUB_READ (R225, R226): a line of the round not read yet. -/
def execScrubRead (st : StationId) (line : Fin 32768) (s : State) : Host.Outcome State Fault Refusal :=
  let x := s.stn st
  .next (if !(s.flag Fld.BNK_SCRUB_CTL_EN && s.sliceRuns st && s.scrubLine st line.val && !x.scrubSeen.testBit line.val) then s
    else ((s.scrubRead st line.val).modStn st fun x =>
      { x with scrubDone := x.scrubDone + 1, scrubSeen := x.scrubSeen ||| 2 ^ line.val }).scrubRound st)

/-- BNK_SCRUB_SLOW (R227). -/
def execBnkScrubSlow (st : StationId) (s : State) : Host.Outcome State Fault Refusal :=
  let x := s.stn st
  let lim := s.fld Fld.BNK_SCRUB_CTL_LIMIT
  .next (if s.flag Fld.BNK_SCRUB_CTL_EN && lim != 0 && !x.scrubSlow && x.scrubTime + 1000 * lim < s.now then
      (s.setStn st { x with scrubSlow := true }).raise Ev.BNK_SCRUB_SLOW (srcStn st)
    else s)

end Sys2Proof.Machine
end

