-- ==== Sys2Proof/Machine/RegView.lean ====
section
/-! DEFINITION. What registers show of the state they have no home for, and reading a register (R10, R13 to R15, R69, R70, R144, R157,
R238, R239, R246, R248, R294, R300, R301, R326, R328, R382, R389, R446, R447, R452, R482, R487, R531, R534, R544, R577 to R591,
R621 to R634, R657, R660). A field that names something which is not there reads as after reset. -/

namespace Sys2Proof.Machine

def BankSt.code : BankSt → Nat
  | .empty => 0
  | .exchanging => 1
  | .loaded => 2
  | .computing => 3
  | .done => 4
  | .replay => 5

def BankPwr.code : BankPwr → Nat
  | .awake => 0
  | .deferring => 1
  | .asleep => 2
  | .waking => 3

def QState.code : QState → Nat
  | .idle => 0
  | .fetch => 1
  | .waiting => 2
  | .running => 3
  | .draining => 4

def PortSt.code : PortSt → Nat
  | .down => 0
  | .training => 1
  | .pairing => 2
  | .paired => 3
  | .retraining => 4

/-- A Lalux port shows 0 down, 1 training, 2 up (R487). -/
def PortSt.llxCode : PortSt → Nat
  | .down => 0
  | .training => 1
  | .retraining => 1
  | .pairing => 2
  | .paired => 2

/-- Fields with their low bits: what a register shows. -/
abbrev Shown := List (Nat × Nat)

/-! ### Surface, reset, clocks -/

def State.showRst (s : State) (r : Reg) (i : Nat) : Shown :=
  match r with
  | .RST_STATUS => [(0, s.rst.step), (4, if bits s.rst.held 0 49 = 0 then 0 else 1), (5, s.rst.memInit.toNat), (19, s.rst.auxLoss.toNat),
      (32, s.rst.porCount.toNat)]
  | .RST_HELD => [(0, s.rst.held.toNat)]
  | .RST_STRAP => [(0, s.rst.strap.toNat), (4, s.rst.ambig.toNat)]
  | .RST_LG => [(0, leAt s.rst.lg (8 * i) 8)]
  | _ => []

/-- MAX_VOLT: the per-part value within the bounds of R579. -/
def State.maxVolt (s : State) : Nat :=
  let hi := if s.variant = .full then 186 else 166
  max (hi - 12) (min hi Config.maxVolt)

/-- The codes of domains `lo` to `lo + n - 1`, two bits each. -/
def State.domCodes (s : State) (lo n : Nat) : Nat := (List.range n).foldl (fun a k => a + s.domState (lo + k) * 4 ^ k) 0

def State.showClk (s : State) (r : Reg) (i : Nat) : Shown :=
  match r with
  | .CLK_STATUS =>
    let p := s.pwr
    let plan := match p.plan with | some x => if x.byMode then (0, 0) else (1, x.step.toNat) | none => (0, 0)
    [(0, p.step.toNat), (3, p.req.toNat), (6, p.mode.val.toNat), (9, p.therm.val.toNat), (12, p.limit.val.toNat),
      (15, if s.variant = .full then p.surge.val.toNat else 5), (18, plan.1), (19, plan.2), (22, p.stretching.toNat), (23, p.cap.toNat),
      (24, p.trim.val.toNat)]
  | .CLK_FUSE => if s.rst.step < 2 then [] else [(0, s.variant.maxStep.toNat), (3, s.maxVolt)]
  | .CLK_TIMEBASE => [(0, s.now)]
  | .CLK_SURGE => [(0, if s.variant = .full then s.pwr.credit / 5000000 else 0), (17, if 5 < s.pwr.step.toNat then 1 else 0),
      (18, s.pwr.spent.toNat)]
  | .PWR_STATUS => [(0, s.pwr.inOk.toNat), (1, s.pwr.auxOk.toNat), (2, if (List.range 24).any fun d => s.domState d == 2 then 1 else 0),
      (3, s.pwr.dataOn.toNat)]
  | .PWR_DOM_STATE0 => [(0, s.domCodes 0 32)]
  | .PWR_DOM_STATE1 => [(0, s.domCodes 32 18)]
  | .PWR_HOLDUP => [(0, s.pwr.energy), (16, s.pwr.charged.toNat)]
  | .CLK_R_CNT => [(0, SMap.val s.time.cyc 0 i / 5000)]
  | .CLK_R_STAT => [(0, SMap.val s.time.strCyc 0 i / 5000)]
  | _ => []

/-! ### Sequencers, stations, bunker, haulage -/

def State.showSeq (s : State) (r : Reg) (i : Nat) : Shown :=
  let c : Cid := Fin.ofNat 8 i
  let x := s.ctx c
  match r with
  | .SEQ_CTX_STATUS => [(0, x.st.code), (3, x.owner.toNat), (4, x.prog.evalFlag.toNat), (5, x.pastReturn.toNat), (6, x.slipped.toNat),
      (7, (s.joined c).toNat), (16, x.stopEvent.toNat)]
  | .SEQ_CTX_STEP => [(0, x.prog.step.toNat)]
  | .SEQ_CTX_EVALCNT => [(0, x.prog.evalCnt.toNat)]
  | .SEQ_CHARGE =>
    let t := s.token
    if allCids.any s.joined then [(0, t.holder.isSome.toNat), (1, (t.holder.getD false).toNat), (32, t.epoch.toNat)] else [(16, 0)]
  | _ => []

/-- The tag of the pass that a station consumes or captures. -/
def State.passAt (s : State) (i : StationId) : Option Nat :=
  s.passes.findSome? fun p => match p.2 with
    | some q => if q.awaiting.any fun a => has a.2 i then some q.tag.val else none
    | none => none

def holdCode : Option HoldCause → Nat
  | none => 0
  | some .throttle => 1
  | some .crossing => 2
  | some .debug => 3

def State.showRing (s : State) (r : Reg) (i : Nat) : Shown :=
  let n : StationId := Fin.ofNat 96 i
  let y := s.stn n
  match r with
  | .RING_STATUS =>
    let p := s.passAt n
    [(0, y.bank0.st.code), (3, y.bank1.st.code), (6, p.getD 0), (10, p.isSome.toNat), (11, holdCode (s.holdOf n)),
      (13, (y.replay || y.bank0.st == .replay || y.bank1.st == .replay).toNat)]
  | .RING_SEAM =>
    let own := s.ownerOf n
    [(0, i / seamSize s.layout), (3, s.layout), (5, i % seamSize s.layout), (12, i / 48),
      (13, match own with | some c => cLow c | none => 0), (15, own.isSome.toNat)]
  | _ => []

def State.handlesIn (s : State) (st : HState) : Nat := (s.usedHandles.filter fun p => p.2.st == st).length

def State.showBnk (s : State) (r : Reg) (i : Nat) : Shown :=
  let n : StationId := Fin.ofNat 96 i
  match r with
  | .BNK_STATUS => [(0, s.handlesIn .allocated), (13, s.handlesIn .provisional), (26, s.handlesIn .purgePending),
      (39, (!s.purgeQ.isEmpty || (List.finRange 96).any fun k => s.slicePending k || s.wakeFills k != 0).toNat)]
  | .BNK_ST_PWR => [(0, (List.range 16).foldl (fun a b => a + (s.bankPwr n b).st.code * 4 ^ b) 0)]
  | .BNK_ST_PURGE => [(0, min 32768 (s.purgePendingLines n))]
  | _ => []

/-- Bits for the engines that are claimed. -/
def claimed (l : List Nat) : Nat := 2 ^ min 2 l.length - 1

def State.showHaul (s : State) (r : Reg) (i j : Nat) : Shown :=
  let h : HubId := Fin.ofNat 4 i
  let x := s.que h (Fin.ofNat 16 j)
  match r with
  | .HAUL_HUB_STATUS =>
    let y := s.hub h
    let lines := (List.range 16).foldl (fun n k => n + (s.que h (Fin.ofNat 16 k)).lines) 0
    [(0, (List.range 16).foldl (fun a k => if (s.que h (Fin.ofNat 16 k)).st == .idle then a else a + 2 ^ k) 0), (16, claimed y.turn),
      (18, claimed y.coder), (20, lines)]
  | .HAUL_Q_STATUS =>
    let own : Nat × Nat × Nat := match x.run with | some z => (z.prov.toNat, z.dir.toNat, z.h.toNat) | none => (0, 0, 0)
    [(0, x.st.code), (3, x.shadow.isSome.toNat), (4, own.1), (5, match x.shadow with | some z => z.prov.toNat | none => 0), (6, own.2.1),
      (7, own.2.2)]
  | .HAUL_Q_POS => match x.run with | some z => [(0, z.generated), (21, z.counted)] | none => []
  | _ => []

/-! ### Memory, mills -/

def State.showMem (s : State) (r : Reg) : Shown :=
  match r with
  | .MEM_MAP => [(0, s.variant.stacks), (2, (s.variant.hasMill 0).toNat + 2 * (s.variant.hasMill 1).toNat), (4, s.rst.tail.toNat)]
  | .MEM_PURGE => [(0, s.hbmPurge.length)]
  | _ => []

/-- Queued updates whose tensor's slot has PENDING set. -/
def State.pendingTensors (s : State) (m : Mill) : Nat :=
  (((m.queue.filter fun u => u.accepted && u.snap.family == 1).map fun u => u.t.slots.getD 3 0).eraseDups.filter fun a => (kronHead (s.memBits.read a 16)).1).length

def State.showMill (s : State) (r : Reg) (i : Nat) : Shown :=
  let m := s.mill (Fin.ofNat 2 i)
  match r with
  | .MILL_STATUS => [(0, (m.queue.filter (·.accepted)).length), (7, (m.queue.any (·.running)).toNat),
      (8, (m.refresh.any fun x => !x.finished).toNat), (9, if m.purge.isEmpty then 0 else 1), (10, s.pendingTensors m)]
  | .MILL_PURGE => [(0, m.purge.length)]
  | _ => []

/-! ### Fabric, Lalux, resilience -/

def State.showBkn (s : State) (r : Reg) (i : Nat) : Shown :=
  match r with
  | .BKN_TIME => [(34, s.holdover.toNat)]
  | .BKN_STATUS => [(56, min 63 s.fab.faults.length)]
  | .BKN_P_STATUS =>
    let x := s.bport (Fin.ofNat 48 i)
    [(0, x.st.code), (3, x.lanes.toNat), (7, x.spared.toNat), (8, if x.st == .paired then x.peer.toNat else 0)]
  | _ => []

def State.showLlx (s : State) (r : Reg) (i : Nat) : Shown :=
  match r with
  | .LLX_STATUS => [(0, s.llx.tally.toNat), (6, s.rst.recovery.toNat), (7, bits s.rst.strap 1 1)]
  | .LLX_P_STATUS =>
    let x := if i = 0 then s.llx.up else s.llx.dn
    [(0, x.st.llxCode), (2, x.lanes.toNat)]
  | _ => []

def State.showCover (s : State) (k : Nat) : Shown :=
  if !s.flag Fld.RLF_CFG_ROLE then [(0, 0)]
  else
    let x := SMap.val s.rlf.covers {} k
    let live := if x.valid then s.liveSlot k else none
    let b := live.getD false
    [(0, x.ident.toNat), (17, x.valid.toNat), (18, x.active.toNat), (19, x.feedOvr.toNat), (20, x.feed.toNat), (22, live.isSome.toNat),
      (23, b.toNat), (24, if live.isSome then leAt (s.commitRec k b) 8 8 else 0)]

def State.showRlf (s : State) (r : Reg) (i : Nat) : Shown :=
  match r with
  | .RLF_STATUS =>
    let a := s.rlf.act
    let own : Nat × Nat := match a with | some x => (x.ident.toNat, x.entry.val) | none => (0, 0)
    let copy := s.rlf.copy.isSome || s.rlf.copyReq.isSome || (match a with | some x => x.copyAsked | none => false)
    [(0, bits s.rst.strap 2 2), (2, a.isSome.toNat), (3, own.1), (20, own.2), (23, s.rlf.securing.isSome.toNat), (24, s.rlf.hold.toNat),
      (25, copy.toNat)]
  | .RLF_RELIEF => let x := s.pairing i; [(18, x.paired.toNat), (19, if x.paired then x.entry.toNat else 0)]
  | .RLF_COVER => s.showCover i
  | _ => []

/-! ### Debug, security -/

def State.showDbg (s : State) (r : Reg) : Shown :=
  match r with
  | .DBG_STATUS => [(0, s.dbg.unlocked.toNat), (1, s.dbg.level.toNat), (4, s.dbg.stop.isSome.toNat), (5, if s.dbg.scanned.isEmpty then 0 else 1)]
  | .DBG_STOP_STAT => [(0, s.dbg.stop.isSome.toNat)]
  | _ => []

def State.showSec (s : State) (r : Reg) : Shown :=
  match r with
  | .SEC_STATUS => [(0, s.rst.recovery.toNat), (1, s.rst.imageSlot.toNat), (2, s.rst.verified.toNat), (3, s.dbg.unlocked.toNat),
      (32, match s.rst.running with | some i => imgVersion i | none => 0)]
  | .SEC_ROLLBACK => [(0, s.rst.rollback.toNat)]
  | _ => []

/-- SFC_ID and SFC_CAPS by field, zero until the option load (R4). -/
def State.showSfc (s : State) (r : Reg) : Shown :=
  let v : Word := match r with
    | .SFC_ID => s.variant.ident
    | .SFC_CAPS => s.variant.caps
    | _ => 0
  match r with
  | .SFC_ID => (regSfc.flatMap fun d => if d.reg == r then d.fields else []).map fun f => (f.lo, if s.rst.step < 2 then 0 else bits v f.lo f.width)
  | .SFC_CAPS => (regSfc.flatMap fun d => if d.reg == r then d.fields else []).map fun f => (f.lo, if s.rst.step < 2 then 0 else bits v f.lo f.width)
  | _ => []

/-- The fields of a register that show state with a home elsewhere. -/
def State.shows (s : State) (r : Reg) (off i j : Nat) : Shown :=
  match off / 2 ^ 20 with
  | 0 => s.showSfc r
  | 1 => s.showRst r i
  | 2 => s.showClk r i
  | 3 => s.showSeq r i
  | 4 => s.showRing r i
  | 5 => s.showBnk r i
  | 6 => s.showHaul r i j
  | 7 => s.showMem r
  | 8 => s.showMill r i
  | 9 => s.showBkn r i
  | 10 => s.showLlx r i
  | 11 => s.showRlf r i
  | 12 => s.showDbg r
  | 13 => s.showSec r
  | _ => []

/-! ### Reading -/

/-- Registers of the East instance that read as the West's in a joined context (R117). -/
def Reg.shared : Reg → Bool
  | .SEQ_CTX_CMD => true
  | .SEQ_CTX_SEED => true
  | .SEQ_CTX_STEP => true
  | .SEQ_CTX_EVALCNT => true
  | .SEQ_CTX_SUBBASE => true
  | _ => false

/-- The East copy of such a register in a joined context. -/
def State.eastCopy (s : State) (r : Reg) (i : Nat) : Bool := r.shared && 4 ≤ i && s.joined (Fin.ofNat 8 i)

/-- One field as a requester reads it (R15). -/
def State.fieldRead (s : State) (who : Requester) (off : Nat) (shown : Shown) (f : FieldDef) : Nat :=
  if f.acc == .wo || (f.acc == .rwp && !s.privileged who) then 0
  else match shown.lookup f.lo with
    | some v => v % 2 ^ f.width
    | none => s.cell off f

/-- The word of a register. -/
def State.regWord (s : State) (who : Requester) (off : Nat) : Word :=
  match regAt off with
  | none => 0
  | some (d, i, j) =>
    if !d.reg.fitted s.variant i then 0
    else
      let o := if s.eastCopy d.reg i then off - 0x4000 else off
      let k := if s.eastCopy d.reg i then i - 4 else i
      BitVec.ofNat 64 ((d.fields.map fun f => s.fieldRead who o (s.shows d.reg o k j) f * 2 ^ f.lo).sum)

/-- A register read: the word, and the state after it (a read of BNK_HENT0 takes the snapshot again, R239). -/
def State.regRead (s : State) (who : Requester) (off : Nat) : Word × State :=
  let t := if off = 0x500010 then s.snapHandle else s
  (t.regWord who off, t)

end Sys2Proof.Machine
end

