-- ==== Sys2Proof/Machine/RegWrite.lean ====
section
/-! DEFINITION. Writing a register (R10, R12 to R18): the registers whose write does more than its access codes say, and the write of
any register of the surface window. -/

namespace Sys2Proof.Machine

/-! ### Registers with a behaviour of their own -/

/-- RST_WDT: TIMEOUT outside 2 to 255 is discarded with CFG_RANGE; KICK services the watchdog for any requester (R618, R625). -/
def State.wrWdt (s : State) (who : Requester) (v : Word) : WOut :=
  let t := bits v 0 8
  let o := s.privWrite who fun o => if t < 2 then o.outside 0x100020 else o.map (·.setFld Fld.RST_WDT_TIMEOUT t)
  if bit v 8 then o.map (·.kick) else o

/-- SEQ_CTX_CMD (R137, R146). CMD 0 and a reserved code leave a command that waits as it is, and SEQ_CMD of a reserved code is raised at
the write (DESIGN CHOICE, log entry 124). -/
def State.wrCtxCmd (s : State) (c : Cid) (v : Word) : WOut :=
  { st := match bits v 0 3 with
    | 0 => s
    | 5 => s.raise Ev.SEQ_CMD (srcSeq c) (some c)
    | 6 => s.raise Ev.SEQ_CMD (srcSeq c) (some c)
    | 7 => s.raise Ev.SEQ_CMD (srcSeq c) (some c)
    | n => s.postCmd c (BitVec.ofNat 3 n) (BitVec.ofNat 2 (bits v 4 2)) }

/-- The context is not IDLE and not STOPPED: its registers are fixed (R143, R325). -/
def State.ctxFixed (s : State) (c : Cid) : Bool := !((s.ctx c).st == .idle || (s.ctx c).st == .stopped)

/-- A STOPPED context whose SEAM or JOIN was rewritten no longer owns the seam that it named in `s` (R116; DEDUCED, log entry 125). -/
def State.leaveSeam (t s : State) (c : Cid) : State :=
  if t.seamOf c == s.seamOf c && t.flag Fld.SEQ_CTX_CFG_JOIN c.val == s.flag Fld.SEQ_CTX_CFG_JOIN c.val then t
  else (s.copies c).foldl (fun t d => t.modCtx d fun x => { x with owner := false }) t

/-- SEQ_CTX_STEP and SEQ_CTX_EVALCNT live in the program state and its image. -/
def State.wrProgReg (s : State) (c : Cid) (off : Nat) (f : ProgState → ProgState) : WOut :=
  s.stoppedWrite (s.ctxFixed c) off fun o => o.map fun s => s.modBoth c fun x => { x with prog := f x.prog, image := f x.image }

/-- The context that runs on a station is RUNNING or WAITING. -/
def State.stnFixed (s : State) (i : StationId) : Bool :=
  match s.ownerOf i with
  | some c => s.busyCtx c
  | none => false

/-- HAUL_Q_CFG: a DEAL above 96 is discarded with CFG_RANGE (R299). -/
def State.wrQueueCfg (s : State) (who : Requester) (off : Nat) (h q : Nat) (v : Word) : WOut :=
  let x := s.que (Fin.ofNat 4 h) (Fin.ofNat 16 q)
  let busy := x.st != .idle || x.shadow.isSome
  let bad := 96 < bits v 5 7
  let v' := if bad then BitVec.ofNat 64 (bits v 0 5 + s.fld Fld.HAUL_Q_CFG_DEAL h q * 32) else v
  let o := s.regPlain who off busy false v'
  if bad && !busy then o.outside off else o

/-- LLX_CFG: CHAIN is 1 to 32 (R483). -/
def State.wrLlxCfg (s : State) (who : Requester) (v : Word) : WOut :=
  let n := bits v 0 6
  if n = 0 || 32 < n then WOut.outside { st := s } 0xA00008 else s.regPlain who 0xA00008 false false v

/-- BNK_ST_PWR_REQ (R247): a bank in both lists wakes. -/
def State.wrBankReq (s : State) (i : StationId) (v : Word) : WOut := { st := (s.sleepReq i v).wakeReq i v }

/-- SEC_PRIV (R630): HOST takes writes only from a privileged requester; LOCK locks both. -/
def State.wrPriv (s : State) (who : Requester) (v : Word) : WOut :=
  if s.flag Fld.SEC_PRIV_LOCK then { st := s, denied := true }
  else
    let o : WOut := if s.privileged who then { st := s.setFld Fld.SEC_PRIV_HOST (bits v 0 1) } else { st := s, denied := true }
    o.map (·.setFld Fld.SEC_PRIV_LOCK (bits v 1 1))

/-- SEC_MBOX_CTL (R615, R634): GO starts the request, which SPDM_REQUEST answers. -/
def State.wrMboxCtl (s : State) (v : Word) : WOut :=
  let s := s.setFld Fld.SEC_MBOX_CTL_LEN (bits v 0 12)
  let s := if bit v 14 then s.setFld Fld.SEC_MBOX_CTL_DONE 0 else s
  { st := if bit v 12 then s.setFld Fld.SEC_MBOX_CTL_BUSY 1 else s }

/-- SEC_MBOX takes no write while a request runs. -/
def State.wrMbox (s : State) (k : Nat) (v : Word) : WOut :=
  { st := if s.flag Fld.SEC_MBOX_CTL_BUSY then s else s.setFld Fld.SEC_MBOX_WORD v.toNat k }

/-! ### Any register -/

/-- The write of register `r`, its `i`-th (and `j`-th) one, at offset `off`. -/
def State.wrReg (s : State) (who : Requester) (r : Reg) (off i j : Nat) (v : Word) : WOut :=
  let c : Cid := Fin.ofNat 8 i
  let busy (b : Bool) : WOut := s.regPlain who off b false v
  let lock (b : Bool) : WOut := s.regPlain who off false b v
  match r with
  | .SFC_PROFILE => s.wrProfile v
  | .RST_SWREQ => s.wrSwreq who v
  | .RST_WDT => s.wrWdt who v
  | .CLK_STEP_AT => s.wrStepAt v
  | .PWR_DOM_REQ => s.wrDomReq who v
  | .SEQ_CTX_CFG => (busy (s.ctxFixed c)).map fun t => t.leaveSeam s c
  | .SEQ_CTX_CMD => s.wrCtxCmd c v
  | .SEQ_CTX_SEED => busy (s.ctxFixed c)
  | .SEQ_CTX_STEP => s.wrProgReg c off fun p => { p with step := BitVec.ofNat 63 (bits v 0 63) }
  | .SEQ_CTX_EVALCNT => s.wrProgReg c off fun p => { p with evalCnt := BitVec.ofNat 63 (bits v 0 63) }
  | .SEQ_CTX_SUBBASE => busy (s.ctxFixed c)
  | .SEQ_CTX_SUBSEQ => busy (s.ctxFixed c)
  | .SEQ_BELL => s.wrBell who v
  | .SEQ_BELL_ORIGIN => s.wrBellOrigin who v
  | .RING_CTL => busy (s.stnFixed (Fin.ofNat 96 i))
  | .BNK_HSEL => s.wrHsel who v
  | .BNK_SCRUB_CTL => s.wrScrubEn who v
  | .BNK_PWR_CTL => s.wrPwrCtl v
  | .BNK_CTX_RANGE => s.wrCtxRange who i v
  | .BNK_ST_PWR_REQ => s.wrBankReq (Fin.ofNat 96 i) v
  | .HAUL_Q_CFG => s.wrQueueCfg who off i j v
  | .MEM_SCRUB_CTL => s.wrScrubCtl v
  | .MEM_RGN_A => s.wrRgnA who i v
  | .MEM_RGN_B => s.wrRgnB who i (bits v 0 2) v
  | .MEM_SS_BASE => busy (s.storeBusy i)
  | .MEM_SS_CFG => s.wrSsCfg who i v
  | .MEM_SMP_CFG => s.wrSmpCfg c v
  | .MEM_SMP_LOAD => s.wrSmpLoad c v
  | .MILL_CTX_ENTRY => s.wrMillEntry who c v
  | .BKN_TORUS => busy s.bknBusy
  | .BKN_CFG => s.wrBknCfg who v
  | .BKN_VL_CFG => s.wrVlCfg who v
  | .BKN_AUTH => lock (s.flag Fld.BKN_LOCK_AUTH)
  | .BKN_LOCK => s.wrBknLock v
  | .BKN_WIN_A => lock (s.flag Fld.BKN_LOCK_WIN)
  | .BKN_WIN_B => lock (s.flag Fld.BKN_LOCK_WIN)
  | .BKN_RT_DATA => s.wrRtData v
  | .BKN_CTX_BUF => busy (s.busyCtx c)
  | .BKN_P_CFG => s.wrPortCfg (Fin.ofNat 48 i) v
  | .LLX_CFG => s.wrLlxCfg who v
  | .RLF_CFG => s.wrRlfCfg who v
  | .RLF_RELIEF => s.wrRelief who i v
  | .RLF_DECL => busy s.anyBusy
  | .RLF_CTX_PLAN => busy s.anyBusy
  | .RLF_CTX_STAGE => busy s.anyBusy
  | .RLF_CTX_DLOG => busy s.anyBusy
  | .DBG_UNLOCK => s.wrUnlock v
  | .DBG_STOP => s.wrStop who v
  | .DBG_PC_CTL => s.wrPcCtl who v
  | .DBG_TR_CFG => s.wrTrCfg who v
  | .DBG_TR_MARK => { st := s.trace srcSurface none 0xA (bytesOf 8 v.toNat) }
  | .DBG_RD_SEL => s.wrRdSel who v
  | .DBG_PT_HOP => s.wrPert who off v
  | .DBG_PT_BP => s.wrPert who off v
  | .DBG_PT_XING => s.wrPert who off v
  | .DBG_PT_HBM => s.wrPert who off v
  | .DBG_PT_LINK => s.wrPert who off v
  | .DBG_PT_ECC_A => s.wrPert who off v
  | .DBG_PT_ECC_B => s.wrPert who off v
  | .DBG_PT_RISK => s.wrPert who off v
  | .DBG_TR_PTR => s.wrTrPtr who off v
  | .DBG_TOKEN => s.wrToken i v
  | .SEC_PRIV => s.wrPriv who v
  | .SEC_ROLLBACK => s.wrRollback who v
  | .SEC_MBOX_CTL => s.wrMboxCtl v
  | .SEC_MBOX => s.wrMbox i v
  | _ => s.regPlain who off false false v

/-- A register write. An offset without a register, a unit that is not fitted and the East copy of a joined context's register take
none (R10, R117). -/
def State.regWrite (s : State) (who : Requester) (off : Nat) (v : Word) : WOut :=
  match regAt off with
  | none => { st := s }
  | some (d, i, j) =>
    if !d.reg.fitted s.variant i || s.eastCopy d.reg i then { st := s } else s.wrReg who d.reg off i j v

/-- REG_WRITE (R15, R18). -/
def execRegWrite (who : Requester) (off : BitVec 24) (v : Word) (s : State) : Host.Outcome State Fault Refusal :=
  .next (s.regWrite who off.toNat v).st

end Sys2Proof.Machine
end

