-- ==== Sys2Proof/Machine/Boot.lean ====
section
/-! DEFINITION. The release order (R594 to R606, R613): what each step releases and what its completion does. -/

namespace Sys2Proof.Machine

/-! ### Steps and domains -/

/-- The step of a domain in the release order. -/
def domStep (d : Nat) : Nat :=
  if d < 24 then 7 else if d < 36 then 6 else if d < 40 then 9 else if d < 44 then 8 else if d < 48 then 6 else if d = 48 then 5 else 1

/-- The domains that a step releases, in order. -/
def stepDoms (k : Nat) : List Nat := (List.range 50).filter fun d => domStep d == k

/-- The counted gap after a step, in reference cycles; step 7 has one after each of its `n` groups. -/
def stepGap (k n : Nat) : Nat :=
  match k with
  | 1 => 256
  | 2 => 1024
  | 3 => 128
  | 4 => 4096
  | 5 => 256
  | 6 => 2048
  | 7 => 64 * n
  | 8 => 1024
  | 9 => 512
  | _ => 256

/-- The gap elapses; before step 3 the timebase does not count. -/
def State.gap (s : State) (cycles : Nat) : State := if s.time.counting then s.advance (10 * cycles) else s

/-- Fitted domains of a step that are held and that no source covers. -/
def State.free (s : State) (k : Nat) : List Nat :=
  (stepDoms k).filter fun d => bit s.rst.held d && domFitted s.variant d && !s.covered d

/-- A slice leaves reset: its purge engine has zero-filled it; its banks hold no line and its scrubber starts a round (R227, R236,
R248, R597). -/
def State.sliceFilled (s : State) (i : StationId) : State :=
  (s.modStn i fun x => { x with
    fillDue := false, scrubTime := s.now, scrubStart := s.coreCyc i
    bpwr := (List.range 16).foldl (fun m b => SMap.put m {} b { SMap.val m {} b with idleSince := s.now }) x.bpwr }).bump
      Fld.BNK_ST_PURGE_LINES_DONE 32768 i.val

/-- A group leaves reset: its handles, whose lines are zero-filled with the slices, become FREE (R231). At their stations of other
groups the lines are zero-filled too and counted there. -/
def State.groupFree (s : State) (g : Nat) : State :=
  let here : StationSet := rangeSet (4 * g) 4
  let s := (s.purgeQ.filter fun p => (s.hnd p.1).set &&& here != 0).foldl (fun s p =>
    let x := s.hnd p.1
    let s := (stationsOf (x.set &&& ~~~here)).foldl (fun s i =>
      (s.bunkZero i x.line0 x.lines).bump Fld.BNK_ST_PURGE_LINES_DONE x.lines i.val) s
    if p.2 then s.purged p.1 true else (s.purged p.1 false).stampBanks x) s
  (List.range 4).foldl (fun s k => s.sliceFilled (Fin.ofNat 96 (4 * g + k))) s

/-- Memory units due for their zero-fill begin it (R597). -/
def State.startFill (s : State) (mask : BitVec 14) : State :=
  let m := (List.range 14).foldl (fun a k => if bit (s.rst.memDue &&& mask) k && s.domOn (ctrlDom k) then a ||| (1#14 <<< k) else a) 0
  { s with rst := { s.rst with memInit := s.rst.memInit ||| m, memDue := s.rst.memDue &&& ~~~m } }

/-- Ports that are enabled begin to train. -/
def State.trainPorts (s : State) (die : Nat → Bool) : State :=
  (List.finRange 48).foldl (fun s p => if die (p.val / 12) && s.flag Fld.BKN_P_CFG_EN p.val then s.portEnable p true else s) s

def State.trainLlx (s : State) : State :=
  if s.llx.up.st == .down then { s with llx := { s.llx with up := { s.llx.up with st := .training } } } else s

/-- A domain is let go. -/
def State.letGo (s : State) (d : Nat) : State :=
  let del (l : List (Fin 50)) : List (Fin 50) := if s.pwr.waking.any (fun x => x.val == d) then l.filter (fun x => x.val != d) else l
  let s : State := { s with
    rst := { s.rst with held := s.rst.held &&& ~~~(1#50 <<< d) }
    pwr := { s.pwr with off := del s.pwr.off, waking := del s.pwr.waking } }
  if d < 24 then s.groupFree d else s

/-! ### Configuration entries (R605) -/

/-- The step that releases a register's block. -/
def blockStep (off : Nat) : Nat :=
  match off / 2 ^ 20 with
  | 3 => 5
  | 4 => 7
  | 5 => 7
  | 6 => 6
  | 7 => 6
  | 8 => 8
  | 9 => 9
  | 10 => 10
  | 11 => 5
  | _ => 2

/-- The domain that holds a register, where it is one. -/
def regDomain (off : Nat) : Option Nat :=
  let o := off % 2 ^ 20
  match off / 2 ^ 20 with
  | 3 => some 48
  | 4 => some (o / 0x4000)
  | 5 => some (if o < 0x10000 then 48 else (o - 0x10000) / 0x400)
  | 6 => some (44 + o / 0x10000)
  | 7 => some (if 0x1000 ≤ o ∧ o < 0x2000 then ctrlDom ((o - 0x1000) / 0x100) else 48)
  | 8 => some (if o < 0x1000 then 48 else 40 + (o - 0x1000) / 0x1000)
  | 9 => if o < 0x8000 then none else some (36 + (o - 0x8000) / 0x300)
  | 10 => some 48
  | _ => none

/-- The entries of the selected copy. -/
def State.cfgBody (s : State) : List (Nat × Word) :=
  match s.fld Fld.SEC_CFG_SEL with
  | 0 => cfgEntries s.rst.copyA
  | 1 => cfgEntries s.rst.copyB
  | _ => []

/-- The entries that satisfy `p` are written, as by a privileged requester. -/
def State.writeCfg (s : State) (p : Nat → Bool) : State :=
  s.cfgBody.foldl (fun s e => if p e.1 then (s.regWrite .config e.1 e.2).st else s) s

/-- The entries due when step `k` ends; those of a domain that is still held wait for its own release. -/
def State.stepCfg (s : State) (k : Nat) : State :=
  s.writeCfg fun off => blockStep off == k && match regDomain off with
    | some d => s.domOn d
    | none => true

/-! ### Steps 1 and 2 -/

/-- The code read most often, the lower one on a tie, and how often (R601). -/
def strapOf (l : List (BitVec 4)) : BitVec 4 × Nat :=
  (List.range 16).foldl (fun best k =>
    let n := (l.filter fun x => x.toNat == k).length
    if best.2 < n then (BitVec.ofNat 4 k, n) else best) (0, 0)

/-- Step 1: the strap, the device key, a fresh nonce (R600, R601, R613, R658). -/
def State.step1 (s : State) (strap : List (BitVec 4)) : State :=
  let x := strapOf strap
  let s : State := { s with rst := { s.rst with strap := x.1, ambig := x.2 < 12, recovery := bit x.1 0 } }
  let s := (List.range 4).foldl (fun s k => s.setFld Fld.SEC_PUBKEY_KEY (Config.deviceKey k).toNat k) s
  s.newNonce

/-- The trim block: safe defaults when its check fails (R604). -/
def State.loadTrim (s : State) (ok : Bool) : State :=
  if ok then s.setFld Fld.SEC_CFG_TRIM_OK 1
  else ({ s with pwr := { s.pwr with trim := { s.pwr.trim with val := 3, act := 3 } } } : State).raise Ev.TRIM_DEFAULT srcSurface

/-- Copy selection (R606): 0 A, 1 B, 2 none. -/
def selectCopy (a b : List Byte) : Nat :=
  if cfgOk a then (if cfgOk b && !serialGe (cfgSeq a) (cfgSeq b) then 1 else 0) else if cfgOk b then 1 else 2

/-- The configuration store: each copy as the store holds it, or as the command gives it where the store holds none that is valid
(log entry 63). -/
def State.loadCfg (s : State) (copyA copyB : List Byte) : State :=
  let a := if cfgOk s.rst.copyA then s.rst.copyA else copyA
  let b := if cfgOk s.rst.copyB then s.rst.copyB else copyB
  let sel := selectCopy a b
  let c := if sel = 0 then a else b
  let s : State := { s with rst := { s.rst with copyA := a, copyB := b, tail := BitVec.ofNat 5 (if sel = 2 then 0 else cfgTail c) } }
  let s := if cfgOk a then s else s.raise Ev.CFG_STORE srcSurface
  let s := if cfgOk b then s else s.raise Ev.CFG_STORE srcSurface
  let s := (s.setFld Fld.SEC_CFG_SEL sel).setFld Fld.SEC_CFG_SEQ (if sel = 2 then 0 else (cfgSeq c).toNat)
  (s.setFld Fld.SEC_CFG_VALID_A (cfgOk a).toNat).setFld Fld.SEC_CFG_VALID_B (cfgOk b).toNat

/-- Step 2: the option and trim load, and the last-gasp record (R602 to R608). -/
def State.step2 (s : State) (trim copyA copyB : List Byte) : State :=
  let s := (s.loadTrim (trimOk trim)).loadCfg copyA copyB
  { s with rst := { s.rst with lg := s.rst.gasps.headD [] } }

/-! ### The order (R594 to R596) -/

/-- Step 4: the clock generators, at step 0 with the crossings aligned (R547). -/
def State.step4 (s : State) : State :=
  { s with
    pwr := { s.pwr with dataOn := true, step := 0, req := 0, plan := none }
    time := { s.time with fallback := [], allFallback := false } }

/-- HBM stacks and stockpile halves, by bits of RST_STATUS.MEMINIT. -/
def hbmBits : BitVec 14 := 0x0FFF
def stkBits : BitVec 14 := 0x3000

/-- What a step's completion does besides letting its domains go. -/
def State.stepWork (s : State) (k : Nat) (strap : List (BitVec 4)) (trim copyA copyB : List Byte) : State :=
  match k with
  | 1 => s.step1 strap
  | 2 => s.step2 trim copyA copyB
  | 3 => ({ s with time := { s.time with counting := true } } : State).schedule 0
  | 4 => s.step4
  | 6 => (s.startFill hbmBits).placeTailings
  | 8 => s.startFill stkBits
  | 10 => s.trainLlx
  | 11 => s.trainPorts fun _ => true
  | _ => s

/-- A step is passed over without its gap: its units are absent, or its domains are all still held (R596). -/
def State.passedOver (s : State) (k : Nat) : Bool :=
  5 ≤ k && k ≤ 9 && (s.free k).isEmpty

/-- The next step of the order completes and its gap elapses. Steps from 4 on wait while a source of data reach stands (DESIGN CHOICE,
log entry 55); step 4 waits for its supplies. -/
def State.orderStep (s : State) (strap : List (BitVec 4)) (trim copyA copyB : List Byte) : State :=
  let k := s.rst.step + 1
  if 4 ≤ k && s.rst.asserted &&& dataSources != 0 then s
  else if k = 4 && !(s.pins.pwrgdIn && s.pwr.inOk) then s
  else
    let doms := s.free k
    let skip := s.passedOver k
    let s := ((stepDoms k).filter fun d => bit s.rst.held d && !s.covered d).foldl State.letGo s
    let s : State := { s with rst := { s.rst with step := k } }
    let s := if skip then s else (s.stepWork k strap trim copyA copyB).stepCfg k
    let s := if skip then s else s.gap (stepGap k doms.length)
    if k = 11 then s.modeRequest.raise Ev.RST_DONE srcSurface none s.causeWord else s

/-- After the order has ended, the domains of the earliest step that wait are let go. -/
def State.domainStep (s : State) : State :=
  match (List.range 12).find? fun k => !(s.free k).isEmpty with
  | none => s
  | some k =>
    let doms := s.free k
    let s := doms.foldl State.letGo s
    let s := (s.startFill (if k = 6 then hbmBits else if k = 8 then stkBits else 0))
    let s := if k = 6 then s.placeTailings else s
    let s := if doms.contains 48 then s.trainLlx else s
    let s := if k = 9 then s.trainPorts fun d => doms.contains (36 + d) else s
    let s := s.writeCfg fun off => match regDomain off with
      | some d => doms.contains d
      | none => false
    s.gap (stepGap k doms.length)

/-- RELEASE_STEP_DONE (R595). -/
def execReleaseStepDone (strap : List (BitVec 4)) (trim copyA copyB : List Byte) (s : State) : Host.Outcome State Fault Refusal :=
  .next (if s.rst.asserted &&& fullSources != 0 then s
    else if s.rst.step < 11 then s.orderStep strap trim copyA copyB
    else s.domainStep)

end Sys2Proof.Machine
end

