-- ==== Sys2Proof/Machine/Collect.lean ====
section
/-! DEFINITION. GATHER, BCAST, SEND and RECV (R206, R435). A handle's elements travel as its rows' bytes, with an MX handle's scales
behind them. -/

namespace Sys2Proof.Machine

/-! ### Rows as bytes -/

/-- Rows `r0` to `r0 + n - 1` of a handle at a station, as bytes: packed rows, then an MX handle's scales. -/
def State.rowsOut (s : State) (h : Handle) (i : StationId) (r0 n : Nat) : ReadRes :=
  let rows := (List.range n).foldl (fun (a : ReadRes) r =>
    let x := a.st.bunkRead i (h.rowAt (r0 + r)) h.rowSize
    ⟨a.data ++ x.data, x.st, a.ue || x.ue⟩) ⟨[], s, false⟩
  if !h.mx then rows
  else (List.range (ceilDiv n 32)).foldl (fun (a : ReadRes) g =>
    let x := a.st.sideRead i (h.scaleAt (128 * (r0 / 32 + g))) h.colsN
    ⟨a.data ++ x.data, x.st, a.ue || x.ue⟩) rows

/-- Length of those bytes. -/
def Handle.rowsLen (h : Handle) (n : Nat) : Nat := n * h.rowSize + (if h.mx then ceilDiv n 32 * h.colsN else 0)

/-- The bytes of a range of the rows' bytes put in their places; what lies past their end is left out. With a row's last byte its stride is
filled with zeros (R216). -/
def State.rowsIn (s : State) (h : Handle) (i : StationId) (r0 n off : Nat) (d : List Byte) : State :=
  let put (s : State) (base len : Nat) (w : State → Nat → List Byte → State) : State :=
    let lo := max base off
    let hi := min (base + len) (off + d.length)
    if hi ≤ lo then s else w s (lo - base) ((d.drop (lo - off)).take (hi - lo))
  let s := (List.range n).foldl (fun s r =>
    put s (r * h.rowSize) h.rowSize fun s k bs =>
      let rest := if k + bs.length = h.rowSize then h.strideB - h.rowSize else 0
      s.bunkWrite i (h.rowAt (r0 + r) + k) (bs ++ List.replicate rest 0)) s
  if !h.mx then s
  else (List.range (ceilDiv n 32)).foldl (fun s g =>
    put s (n * h.rowSize + g * h.colsN) h.colsN fun s k bs => s.sideWrite i (h.scaleAt (128 * (r0 / 32 + g)) + k) bs) s

/-- The 128-row groups of a handle: those of a station, and the rows of one. -/
def Handle.groups (h : Handle) : Nat := ceilDiv h.rows.toNat 128
def Handle.groupRows (h : Handle) (g : Nat) : Nat := min 128 (h.rows.toNat - 128 * g)

/-- The station and the group of block `b` (R428). -/
def Handle.blockAt (h : Handle) (b : Nat) : StationId × Nat := ((stationsOf h.set).getD (b / max 1 h.groups) 0, b % max 1 h.groups)
def Handle.nblocks (h : Handle) : Nat := popcount h.set * h.groups

/-! ### Messages of GATHER and BCAST

KIND 3 on VL1: word 1 GROUP and BLOCK as for a reduction, word 2 the origin's position, word 4 the ordinal of the group's GATHER or
BCAST on the device, word 7 1 for GATHER and 2 for BCAST (DESIGN CHOICE, log entry 38). -/

def collKey (kind g : Nat) : Nat := 2 ^ 23 + 1024 * kind + g

def State.collMsg (s : State) (own : Cid) (me dst : NodeId) (m : FMsg) : State :=
  s.sendOn { m with dst := dst, src := me, plane := BitVec.ofNat 2 (s.blockPlane (bits m.w1 22 20)) } (some own)

def State.collMake (s : State) (kind g b k : Nat) (origin : NodeId) (d : List Byte) : FMsg :=
  s.msg 0 1 3 [BitVec.ofNat 64 (g + b * 2 ^ 22), origin.setWidth 64, 0, BitVec.ofNat 64 k, 0, 0, BitVec.ofNat 64 kind] d

/-- The all-gather of a member's block: along the line it came by until the origin is next, and along the lines of the dimensions
below; `d` is 3 at the origin. -/
def State.gatherFwd (s : State) (own : Cid) (me : NodeId) (d : Nat) (m : FMsg) : State :=
  let g := bits m.w1 0 10
  let b := bits m.w1 22 20
  let origin : NodeId := BitVec.ofNat 17 (bits m.w2 0 17)
  (List.range 3).foldl (fun s k =>
    let line := s.lineOf g me k
    let nx := ringNext (s.blockPlus b) line.length (line.idxOf me)
    let stop := line.idxOf (setCoord me k (coord origin k))
    if line.length ≤ 1 || d < k || (k == d && nx == stop) then s else s.collMsg own me (line.getD nx me) m) s

/-- The positions of the default route, from a position to a target, both ends included. -/
def State.routeTo (s : State) (target : NodeId) : Nat → NodeId → List NodeId
  | 0, p => [p]
  | f + 1, p => match s.defaultDir p target with
    | none => [p]
    | some d => p :: s.routeTo target f (s.neighbour p d)

/-- The members to which a member passes a BCAST on: those whose route from the root last meets it (R435). -/
def State.bcastNext (s : State) (g : Nat) (root me : NodeId) : List NodeId :=
  let mem := (s.grpMembers g).filter fun p => !s.memberGone g p
  mem.filter fun x => x != root && ((s.routeTo x 160 root).dropLast.filter mem.contains).getLast? == some me

def State.bcastFwd (s : State) (own : Cid) (me : NodeId) (m : FMsg) : State :=
  (s.bcastNext (bits m.w1 0 10) (BitVec.ofNat 17 (bits m.w2 0 17)) me).foldl (fun s x => s.collMsg own me x m) s

/-! ### GATHER -/

def State.putColl (s : State) (x : Coll) : State :=
  let put (l : List Coll) : List Coll := if l.any fun y => y.no == x.no then l.map fun y => if y.no = x.no then x else y else l ++ [x]
  { s with fab := { s.fab with colls := put s.fab.colls } }

def State.dropColl (s : State) (no : Nat) : State :=
  { s.endNo no with fab := { s.fab with colls := s.fab.colls.filter fun y => y.no != no } }

/-- The members of a group in rank order with their rank, those passed over left out. -/
def State.presentRanks (s : State) (g : Nat) : List (NodeId × Nat) :=
  let l := s.grpMembers g
  (l.zip (List.range l.length)).filter fun p => !s.memberGone g p.1

/-- Rows that a collective has filled at every station count in FILL of its destination, each once (R222). -/
def State.countRows (s : State) (x : Coll) (rows : Nat) : State × Coll :=
  (s.addFill x.hd (rows - x.counted), { x with counted := max x.counted rows })

/-- What a GATHER has in place is counted, absent ranks' rows among it; the GATHER ends with its last piece. -/
def State.gatherCount (s : State) (x : Coll) : State :=
  let hs := s.hnd x.hs
  let l := s.presentRanks x.group.toNat
  let has (r b : Nat) : Bool := x.pieces.contains (2 ^ 20 * r + b) || !(l.any fun q => q.2 == r)
  let stns := (List.range (popcount hs.set)).map (· * hs.groups)
  let fill := ((List.range (s.grpSize x.group.toNat)).flatMap fun r => (List.range hs.groups).map fun g =>
    if stns.all fun k => has r (k + g) then hs.groupRows g else 0).sum
  let q := s.countRows x fill
  if l.all fun q => (List.range hs.nblocks).all fun b => x.pieces.contains (2 ^ 20 * q.2 + b) then q.1.dropColl x.no else q.1.putColl q.2

/-- A piece of a GATHER: the block of a rank put in place and counted. -/
def State.gatherPiece (s : State) (x : Coll) (rank b : Nat) (d : List Byte) : State :=
  let hs := s.hnd x.hs
  let p := hs.blockAt b
  let s := s.rowsIn (s.hnd x.hd) p.1 (rank * hs.rows.toNat + 128 * p.2) (hs.groupRows p.2) 0 d
  s.gatherCount { x with pieces := (x.pieces ++ [2 ^ 20 * rank + b]).eraseDups }

/-- Rows of absent members are zeros (R435). -/
def State.gatherZeros (s : State) (x : Coll) (which : NodeId → Bool) : State :=
  let g := x.group.toNat
  let hs := s.hnd x.hs
  let hd := s.hnd x.hd
  let l := s.grpMembers g
  ((l.zip (List.range l.length)).filter fun p => s.memberGone g p.1 && which p.1).foldl (fun s p =>
    (stationsOf hs.set).foldl (fun s i =>
      s.rowsIn hd i (p.2 * hs.rows.toNat) hs.rows.toNat 0 (List.replicate (hd.rowsLen hs.rows.toNat) 0)) s) s

/-- A member of a running GATHER's group has become absent: its rows are zeros, whatever of it has come (R425, R435). -/
def State.gatherLost (s : State) (pos : NodeId) : State :=
  (s.fab.colls.filter fun x => x.kind == .gather && s.memberGone x.group.toNat pos && (s.grpRank x.group.toNat pos).isSome).foldl
    (fun s x => (s.gatherZeros x (· == pos)).gatherCount x) s

/-- The ordinal of the group's next GATHER or BCAST. -/
def State.collNext (s : State) (kind g : Nat) : Nat := SMap.val s.fab.redCnt 0 (collKey kind g) + 1
def isColl (kind g k : Nat) (m : FMsg) : Bool := m.kind == 3 && m.w7.toNat == kind && bits m.w1 0 10 == g && m.w4.toNat == k

/-- A collective is dispatched. -/
def State.newColl (s : State) (c : Cid) (kind : CollKind) (hs hd : HandleId) (g : Nat) (node : NodeId) (mtag : Nat) (ord : Nat) :
    Coll × State :=
  let x : Coll := { no := s.dispNo, cid := s.lead c, kind := kind, hs := hs, hd := hd, group := BitVec.ofNat 10 g, node := node
                    mtag := BitVec.ofNat 8 mtag, read := true, ord := ord }
  (x, { s with dispNo := s.dispNo + 1 }.putColl x)

/-- A piece of a BCAST; it ends with its last piece. -/
def State.bcastPiece (s : State) (x : Coll) (b : Nat) (d : List Byte) : State :=
  let h := s.hnd x.hd
  let p := h.blockAt b
  let s := s.rowsIn h p.1 (128 * p.2) (h.groupRows p.2) 0 d
  let x := { x with pieces := (x.pieces ++ [b]).eraseDups }
  let stns := (List.range (popcount h.set)).map (· * h.groups)
  let fill := ((List.range h.groups).map fun g => if stns.all fun k => x.pieces.contains (k + g) then h.groupRows g else 0).sum
  let q := s.countRows x fill
  if (List.range h.nblocks).all x.pieces.contains then q.1.dropColl x.no else q.1.putColl q.2

/-- A message of a GATHER or BCAST whose instruction is dispatched goes into its place. -/
def State.collPlace (s : State) (kind g : Nat) (m : FMsg) : State :=
  match s.fab.colls.find? fun x => x.kind == (if kind = 1 then CollKind.gather else .bcast) && x.group.toNat == g && x.ord == m.w4.toNat with
  | some x =>
    if kind = 1 then s.gatherPiece x ((s.grpMembers g).idxOf (BitVec.ofNat 17 (bits m.w2 0 17))) (bits m.w1 22 20) m.data
    else s.bcastPiece x (bits m.w1 22 20) m.data
  | none => s

/-- Messages of a collective that came before its instruction: from the landing region, then those that the die kept. -/
def State.collCome (s : State) (c : Cid) (kind g k : Nat) : State :=
  let t := s.takeLanded c (isColl kind g k)
  let u := t.2.1.takeKept (isColl kind g k)
  ((t.1 ++ u.1.map (·.msg)).foldl (fun s m => s.collPlace kind g m) u.2).settleKept.collUE c t.2.2

/-- A faulty read of a source handle stops the context (R225). -/
def State.collRead (s : State) (c : Cid) (i : StationId) (x : ReadRes) (go : State → State) : State :=
  if x.ue then x.st.faultCtx (s.lead c) Ev.BNK_UE (srcStn i) else go x.st

/-- GATHER (R206, R435). HS is read and sent when the instruction leaves the sequencer, which waits for its handles (DESIGN CHOICE,
log entry 43). -/
def State.startGather (s : State) (c : Cid) (w : NWords) (me : NodeId) : State :=
  let g := w.f 29 20
  let k := s.collNext 1 g
  let hs := s.hnd (w.h 42)
  let l := s.lead c
  let rank := (s.grpMembers g).idxOf me
  let p := s.newColl c .gather (w.h 42) (w.h 30) g 0 0 k
  let s := (p.2.regWriter p.1.no (w.h 30) (s.hnd (w.h 30)).set).pastReturn c |>.nextPc c 1
  let s := { s with fab := { s.fab with redCnt := SMap.put s.fab.redCnt 0 (collKey 1 g) k } }
  let s := s.gatherZeros p.1 fun _ => true
  let now (s : State) : Coll := (s.fab.colls.find? fun y => y.no == p.1.no).getD p.1
  let s := (List.range hs.nblocks).foldl (fun s b =>
    let q := hs.blockAt b
    let x := s.rowsOut hs q.1 (128 * q.2) (hs.groupRows q.2)
    s.collRead c q.1 x fun s => (s.gatherFwd l me 3 (s.collMake 1 g b k me x.data)).gatherPiece (now s) rank b x.data) s
  s.collCome l 1 g k

def execGather (c : Cid) (w : NWords) (s : State) : Host.Outcome State Fault Refusal :=
  .next (s.seqRun c (Enc.gather w) [] fun s =>
    s.crossRun c true 1 fun t =>
      let g := w.f 29 20
      let hs := s.hnd (w.h 42)
      let hd := s.hnd (w.h 30)
      t.checked c [s.handleFault c (w.h 42) 0, s.handleFault c (w.h 30) hs.set, need (hd.fmt == hs.fmt) Ev.NUM_MODE,
        need (hd.set == hs.set && hd.colsN == hs.colsN && s.grpSize g * hs.rows.toNat ≤ hd.rows.toNat &&
          (!hs.mx || hs.rows.toNat % 32 == 0)) Ev.BNK_SHAPE,
        s.grpFault c g 0, s.landFault (s.lead c)] fun t =>
        match s.rankPos g with
        | none => s
        | some me =>
          if !s.completeAt (w.h 42) s.dispNo hs.set || !s.writableAt (w.h 30) s.dispNo hd.set then s
          else t.startGather c w me)

/-! ### BCAST -/

def State.startBcast (s : State) (c : Cid) (w : NWords) (me root : NodeId) : State :=
  let g := w.f 41 32
  let k := s.collNext 2 g
  let h := s.hnd (w.h 42)
  let l := s.lead c
  let s := { (s.pastReturn c).nextPc c 1 with fab := { s.fab with redCnt := SMap.put s.fab.redCnt 0 (collKey 2 g) k } }
  if me = root then
    { (List.range h.nblocks).foldl (fun s b =>
      let q := h.blockAt b
      let x := s.rowsOut h q.1 (128 * q.2) (h.groupRows q.2)
      s.collRead c q.1 x fun s => s.bcastFwd l me (s.collMake 2 g b k root x.data)) s with dispNo := s.dispNo + 1 }
  else
    let p := s.newColl c .bcast (w.h 42) (w.h 42) g root 0 k
    let s := p.2.regWriter p.1.no (w.h 42) h.set
    s.collCome l 2 g k

/-- BCAST (R206, R435). -/
def execBcast (c : Cid) (w : NWords) (s : State) : Host.Outcome State Fault Refusal :=
  .next (s.seqRun c (Enc.bcast w) [] fun s =>
    s.crossRun c true 1 fun t =>
      let g := w.f 41 32
      let root : NodeId := BitVec.ofNat 17 (w.f 31 15)
      let h := s.hnd (w.h 42)
      t.checked c [s.handleFault c (w.h 42) 0, need (s.inTorus root) Ev.BKN_NODE, s.grpFault c g 0,
        need (s.grpRank g root).isSome Ev.BKN_GROUP, s.landFault (s.lead c)] fun t =>
        match s.rankPos g with
        | none => s
        | some me =>
          if (if me = root then s.completeAt (w.h 42) s.dispNo h.set else s.writableAt (w.h 42) s.dispNo h.set) then t.startBcast c w me root
          else s)

/-- COLLECTIVE_MSG_RECEIVE (R435): passed on, then put in place, or kept in the landing region until the instruction is dispatched. Where
there is no room the die keeps it (DESIGN CHOICE, log entry 38). -/
def execCollectiveMsgReceive (msg : FMsg) (s : State) : Host.Outcome State Fault Refusal :=
  let g := bits msg.w1 0 10
  let kind := msg.w7.toNat
  match s.rankPos g with
  | none => .next s
  | some me =>
    if !(s.delivered 3 msg && (kind == 1 || kind == 2) && s.flag Fld.BKN_GRP_VALID g) then .next s
    else
      let own : Cid := Fin.ofNat 8 (4 * s.fld Fld.BKN_GRP_SEQ g + s.fld Fld.BKN_GRP_CTX g)
      let s := if kind = 1 then s.gatherFwd own me (dimOf me msg.src) msg else s.bcastFwd own me msg
      if SMap.val s.fab.redCnt 0 (collKey kind g) < msg.w4.toNat then
        .next ((s.land own msg).getD { s with fab := { s.fab with kept := s.fab.kept ++ [⟨msg, some own, none⟩] } })
      else .next (s.collPlace kind g msg)

/-! ### SEND and RECV -/

/-- The bytes that a SEND's messages carry at most (R396). -/
def msgRoom : Nat := 192 + 256 * 256

/-- SEND (R206, R435): HS's bytes, station by station, in messages of up to 256 body flits (DESIGN CHOICE of the order, log entry 39). -/
def State.startSend (s : State) (c : Cid) (w : NWords) : State :=
  let h := s.hnd (w.h 42)
  let l := s.lead c
  let node : NodeId := BitVec.ofNat 17 (w.f 41 25)
  let r := (stationsOf h.set).foldl (fun (a : ReadRes) i =>
    let x := a.st.rowsOut h i 0 h.rows.toNat
    ⟨a.data ++ x.data, x.st, a.ue || x.ue⟩) ⟨[], s, false⟩
  s.collRead c ((stationsOf h.set).headD 0) r fun s =>
    let n := r.data.length
    let s := (List.range (ceilDiv n msgRoom)).foldl (fun s k =>
      let m := s.msg node 2 4 [BitVec.ofNat 64 (w.f 24 17), BitVec.ofNat 64 n, BitVec.ofNat 64 (k * msgRoom)]
        ((r.data.drop (k * msgRoom)).take msgRoom)
      s.sendMsg m (some l)) s
    ({ s with dispNo := s.dispNo + 1 }.pastReturn c).nextPc c 1

def execSend (c : Cid) (w : NWords) (s : State) : Host.Outcome State Fault Refusal :=
  .next (s.seqRun c (Enc.send w) [] fun s =>
    s.crossRun c true 1 fun t =>
      t.checked c [s.handleFault c (w.h 42) 0, need (s.inTorus (BitVec.ofNat 17 (w.f 41 25))) Ev.BKN_NODE] fun t =>
        if s.completeAt (w.h 42) s.dispNo (s.hnd (w.h 42)).set then t.startSend c w else s)

/-- The rows of HD that `got` bytes fill at every station. -/
def Handle.sendFill (h : Handle) (got : Nat) : Nat :=
  let n := popcount h.set
  let rest := got - (n - 1) * h.rowsLen h.rows.toNat
  if h.mx then min h.rows.toNat (32 * ((rest - h.rows.toNat * h.rowSize) / h.colsN)) else min h.rows.toNat (rest / max 1 h.rowSize)

/-- A SEND message goes into the RECV it matches; with its last byte the RECV ends. -/
def State.recvMsg (s : State) (x : Coll) (m : FMsg) : State :=
  let h := s.hnd x.hd
  let off := m.w3.toNat
  let len := h.rowsLen h.rows.toNat
  let stns := stationsOf h.set
  let s := (stns.zip (List.range stns.length)).foldl (fun s p =>
    let lo := p.2 * len
    let d := if lo ≤ off then m.data else m.data.drop (lo - off)
    s.rowsIn h p.1 0 h.rows.toNat (off - lo) d) s
  let got := x.got + m.data.length
  let q := s.countRows x (h.sendFill got)
  if m.w2.toNat ≤ got then q.1.dropColl x.no else q.1.putColl { q.2 with got := got }

/-- The RECV that a message matches: the oldest of its node and tag (R206). -/
def State.recvFor (s : State) (m : FMsg) : Option Coll :=
  s.fab.colls.find? fun x => x.kind == .recv && x.node == m.src && x.mtag.toNat == bits m.w1 0 8

/-- The message is one of a SEND to the RECV. -/
def Coll.wants (x : Coll) (m : FMsg) : Bool := m.kind == 4 && x.node == m.src && x.mtag.toNat == bits m.w1 0 8

/-- Messages of SENDs that waited in a landing region go to the RECV, in order, as long as it runs. -/
def State.recvLanded (s : State) (no : Nat) : List Landed → State
  | [] => s
  | p :: t => match s.fab.colls.find? fun x => x.no == no with
    | none => s
    | some x =>
      if x.wants p.msg then
        let q := s.unlandOne p
        State.recvLanded ((q.2.1.recvMsg x q.1).collUE x.cid q.2.2) no t
      else State.recvLanded s no t

/-- The same of those that the die kept; each leaves the port's buffer. -/
def State.recvKept (s : State) (no : Nat) : List Kept → State
  | [] => s
  | k :: t => match s.fab.colls.find? fun x => x.no == no with
    | none => s
    | some x =>
      if x.wants k.msg then
        let s : State := { s with fab := { s.fab with kept := s.fab.kept.erase k } }
        State.recvKept ((s.recvMsg x k.msg).freeBuf k.msg k.buf) no t
      else State.recvKept s no t

/-- RECV (R206, R435). -/
def execRecv (c : Cid) (w : NWords) (s : State) : Host.Outcome State Fault Refusal :=
  .next (s.seqRun c (Enc.send w) [] fun s =>
    s.crossRun c true 1 fun t =>
      let node : NodeId := BitVec.ofNat 17 (w.f 41 25)
      let h := s.hnd (w.h 42)
      t.checked c [s.handleFault c (w.h 42) 0, need (s.inTorus node) Ev.BKN_NODE, s.landFault (s.lead c)] fun t =>
        if s.writableAt (w.h 42) s.dispNo h.set then
          let p := t.newColl c .recv (w.h 42) (w.h 42) 0 node (w.f 24 17) 0
          let s := (p.2.regWriter p.1.no (w.h 42) h.set).pastReturn c |>.nextPc c 1
          let s := s.recvLanded p.1.no s.fab.landing
          (s.recvKept p.1.no s.fab.kept).settleKept
        else s)

/-- SEND_MSG_RECEIVE (R435): into the matching RECV, else into the first landing region with room; it then leaves the port's buffer. Else,
and behind an older one of its sender and tag that is kept, it stays there, and its credits are not returned. -/
def execSendMsgReceive (a : Arrival) (s : State) : Host.Outcome State Fault Refusal :=
  .next (
    if !s.delivered 4 a.msg then s
    else match s.recvFor a.msg with
      | some x => (s.recvMsg x a.msg).leaveBuf a.port a.msg.vl a.cls a.msg.flits
      | none => ({ s with fab := { s.fab with kept := s.fab.kept ++ [⟨a.msg, none, some (a.port, a.cls)⟩] } } : State).settleKept)

end Sys2Proof.Machine
end

