-- ==== Sys2Proof/Machine/Control.lean ====
section
/-! DEFINITION. Control and scalar instructions (R166 to R173). -/

namespace Sys2Proof.Machine

/-- NOP (R166), and a word whose opcode no table assigns, which faults with SEQ_OPCODE (R159). -/
def execNop (c : Cid) (w : Word) (s : State) : Host.Outcome State Fault Refusal :=
  .next (s.seqRun c (w == 0) [] fun s => s.nextPc c 1)

/-- The instructions that end a segment's issue (R123, R124, R173). They may follow EVALEND. -/
def State.endSegment (s : State) (c : Cid) (enc : Bool) (halt : Bool) (bells : Nat) : State :=
  let x := s.ctx c
  if !s.canExec c then s
  else if !x.inSeg then s.seqFault c Ev.SEQ_NO_SEGMENT
  else if !enc then s.seqFault c Ev.SEQ_OPCODE
  else if halt && (x.prog.evalFlag || x.evalEnded) then s.seqFault c Ev.EVAL_PLACE
  else if !x.unbound.isEmpty then s.seqFault c Ev.SEQ_GROUP
  else (s.nextPc c 1).modCtx c fun x => { x with ended := true, halting := halt, waitBells := bells }

/-- HALT (R173). -/
def execHalt (c : Cid) (w : NWords) (s : State) : Host.Outcome State Fault Refusal :=
  .next (s.endSegment c (Enc.none w) true 0)

/-- The target of a branch: a signed count of words from the instruction word (R167). -/
def branchTo (pc : Word) (off : Nat) : Word := pc + wordOfInt (8 * signedN off 32)

/-- BR (R167). -/
def execBr (c : Cid) (w : NWords) (s : State) : Host.Outcome State Fault Refusal :=
  .next (s.seqRun c (Enc.br w) [] fun s => s.goto c (branchTo (s.ctx c).prog.pc (w.f 31 0)))

/-- The conditions of BRC (R167). -/
def condHolds (cond : Nat) (a b : Word) : Bool :=
  match cond with
  | 0 => a == b
  | 1 => a != b
  | 2 => a.slt b
  | 3 => !a.slt b
  | 4 => a.ult b
  | _ => !a.ult b

/-- BRC (R167). -/
def execBrc (c : Cid) (w : NWords) (s : State) : Host.Outcome State Fault Refusal :=
  let sa := w.f 50 46
  let sb := w.f 45 41
  .next (s.seqRun c (Enc.brc w) (if w.fb 40 then [sa] else [sa, sb]) fun s =>
    let x := s.ctx c
    if condHolds (w.f 53 51) (x.s sa) (if w.fb 40 then 0 else x.s sb) then s.goto c (branchTo x.prog.pc (w.f 31 0))
    else s.nextPc c 1)

/-- LOOP (R168). -/
def execLoop (c : Cid) (w : NWords) (s : State) : Host.Outcome State Fault Refusal :=
  .next (s.seqRun c (Enc.loop w) (if w.fb 51 then [] else [w.f 50 46]) fun s =>
    let x := s.ctx c
    let n : BitVec 32 := if w.fb 51 then BitVec.ofNat 32 (w.f 45 24) else (x.s (w.f 50 46)).setWidth 32
    let s := s.modCtx c fun x => (x.setLoop (w.f 53 52) n).setLoopA (w.f 53 52) (x.prog.pc + 8)
    if n = 0 then s.goto c (x.prog.pc + BitVec.ofNat 64 (8 * w.f 23 0)) else s.nextPc c 1)

/-- ENDLOOP (R168). -/
def execEndloop (c : Cid) (w : NWords) (s : State) : Host.Outcome State Fault Refusal :=
  .next (s.seqRun c (Enc.endloop w) [] fun s =>
    let x := s.ctx c
    let n := x.loopC (w.f 53 52)
    let m : BitVec 32 := if n = 0 then 0 else n - 1
    let s := s.modCtx c fun x => x.setLoop (w.f 53 52) m
    if m = 0 then s.nextPc c 1 else s.goto c (x.loopA (w.f 53 52)))

/-- CALL (R169). -/
def execCall (c : Cid) (w : NWords) (s : State) : Host.Outcome State Fault Refusal :=
  .next (s.seqRun c (Enc.call w) [w.f 53 49] fun s =>
    let pc := (s.ctx c).prog.pc
    (s.modCtx c fun x => x.setS (w.f 53 49) (pc + 8)).goto c (branchTo pc (w.f 31 0)))

/-- RET (R169). -/
def execRet (c : Cid) (w : NWords) (s : State) : Host.Outcome State Fault Refusal :=
  .next (s.seqRun c (Enc.ret w) [w.f 53 49] fun s => s.goto c ((s.ctx c).s (w.f 53 49)))

/-- The immediate of SETS and SALUI, sign-extended (R170, R171). -/
def immWord (w : NWords) : Word := wordOfInt (signedN (w.f 31 0) 32)

/-- SETS (R170). -/
def execSets (c : Cid) (w : NWords) (s : State) : Host.Outcome State Fault Refusal :=
  let dst := w.f 53 52
  let regs := (if dst = 0 then [w.f 51 47] else []) ++ (if w.fb 42 then [w.f 41 37] else [])
  .next (s.seqRun c (Enc.sets w) regs fun s =>
    let x := s.ctx c
    let v : Word := if w.fb 43 then w.ext else if w.fb 42 then x.s (w.f 41 37) else immWord w
    let md := w.f 46 44
    let s := s.modCtx c fun x =>
      match dst with
      | 0 => x.setS (w.f 51 47) v
      | 1 => x.setM md (BitVec.ofNat 96 (bits (x.m md) 64 32 * 2 ^ 64 + v.toNat))
      | _ => x.setM md (BitVec.ofNat 96 (bits v 0 32 * 2 ^ 64 + bits (x.m md) 0 64))
    s.nextPc c w.len)

/-- The operations of SALU and SALUI (R171). -/
def saluFn (fn : Nat) (a b : Word) : Word :=
  let sh := bits b 0 6
  match fn with
  | 0 => a + b
  | 1 => a - b
  | 2 => a * b
  | 3 => a &&& b
  | 4 => a ||| b
  | 5 => a ^^^ b
  | 6 => a <<< sh
  | 7 => a >>> sh
  | 8 => a.sshiftRight sh
  | 9 => if a.slt b then a else b
  | 10 => if a.slt b then b else a
  | 11 => if a.slt b then 1 else 0
  | _ => if a.ult b then 1 else 0

/-- SALU (R171). -/
def execSalu (c : Cid) (w : NWords) (s : State) : Host.Outcome State Fault Refusal :=
  let sd := w.f 53 49
  let sa := w.f 48 44
  let sb := w.f 43 39
  .next (s.seqRun c (Enc.salu w) [sd, sa, sb] fun s =>
    (s.modCtx c fun x => x.setS sd (saluFn (w.f 38 35) (x.s sa) (x.s sb))).nextPc c 1)

/-- SALUI (R171). -/
def execSalui (c : Cid) (w : NWords) (s : State) : Host.Outcome State Fault Refusal :=
  let sd := w.f 53 49
  let sa := w.f 48 44
  .next (s.seqRun c (Enc.salui w) [sd, sa] fun s =>
    (s.modCtx c fun x => x.setS sd (saluFn (w.f 38 35) (x.s sa) (immWord w))).nextPc c 1)

/-! ### LDS and STS (R172) -/

/-- The byte address that LDS and STS name: s[SA] + OFF, wrapping in 64 bits. -/
def lsAddr (x : Ctx) (w : NWords) : Nat := (x.s (w.f 48 44) + wordOfInt (signedN (w.f 23 0) 24)).toNat

/-- The station of a handle that LDS and STS reach. -/
def lowest (set : StationSet) : StationId := (stationsOf set).headD 0

/-- HBM checks of R172, in the order of its words. -/
def State.lsHbm (s : State) (c : Cid) (a : Nat) : List (Option (BitVec 16)) :=
  [need (a % 8 == 0) Ev.MEM_ALIGN, need (s.ctxAddr c a 8).isSome Ev.MEM_RANGE]

/-- Bunker checks: R162, and the eight bytes within the handle's rows (DEDUCED, log entry 20). -/
def State.lsBunk (s : State) (c : Cid) (h : HandleId) (a : Nat) : List (Option (BitVec 16)) :=
  let x := s.hnd h
  [s.handleFault c h 0, need (a + 8 ≤ x.rows.toNat * x.strideB) Ev.BNK_SHAPE]

/-- The context items of LDS (R172). -/
def State.ctxItem (s : State) (c : Cid) (k : Nat) : Word :=
  let x := s.ctx c
  match k with
  | 0 => x.prog.step.setWidth 64
  | 1 => x.prog.evalCnt.setWidth 64
  | 2 => BitVec.ofNat 64 (s.fld Fld.SEQ_BELL_NUM_NUMBER)
  | 3 => s.time.ns
  | 4 => BitVec.ofNat 64 (s.seamFirst c)
  | 5 => BitVec.ofNat 64 (seamSize s.layout)
  | _ => s.variant.caps

/-- The value an LDS returns: what the other half of a joined context took, if it came first, else `v`, which the other half
will take (R165). -/
def State.ldsValue (s : State) (c : Cid) (ord : Nat) (v : Word) : Word × State :=
  match (s.ctx c).ldsPeer.find? fun p => p.1 == ord with
  | some p => (p.2, s.modCtx c fun x => { x with ldsPeer := x.ldsPeer.filter fun q => q.1 != ord })
  | none => (v, if s.joined c then s.modCtx (peer c) fun x => { x with ldsPeer := x.ldsPeer ++ [(ord, v)] } else s)

/-- LDS (R172). -/
def execLds (c : Cid) (w : NWords) (s : State) : Host.Outcome State Fault Refusal :=
  let sd := w.f 53 49
  .next (s.seqRun c (Enc.lds w) [sd, w.f 48 44] fun s =>
    let x := s.ctx c
    let a := lsAddr x w
    let h := w.h 30
    let ord := x.ldsOrd
    let go (s : State) (e : LdsOut) : State :=
      (s.modCtx c fun x => { x with lds := x.lds ++ [e], ldsOrd := ord + 1 }).nextPc c 1
    match w.f 43 42 with
    | 0 => s.checked c (s.lsHbm c a) fun s => go s ⟨Fin.ofNat 32 sd, 0, (s.ctxAddr c a 8).getD a, 0, s.dispNo, ord⟩
    | 1 => s.checked c (s.lsBunk c h a) fun s =>
        let no := s.dispNo
        let s := { s with dispNo := no + 1 }.regReader no h (single (lowest (s.hnd h).set))
        go s ⟨Fin.ofNat 32 sd, 1, a, h, no, ord⟩
    | _ =>
        let r := s.ldsValue c ord (s.ctxItem c (w.f 23 0))
        (r.2.modCtx c fun x => { x.setS sd r.1 with ldsOrd := ord + 1 }).nextPc c 1)

/-- Memory as the context's own loads see it: with its stores that are not yet visible (R172). -/
def State.withStores (s : State) (c : Cid) (a : Nat) (v : Word) : Word :=
  match ((s.ctx (s.lead c)).stores.filter fun p => p.1 == a).getLast? with
  | some p => p.2
  | none => v

/-- LDS_RETURN (R161, R172): the oldest outstanding LDS into the scalar. A bunker LDS waits until its handle is complete. -/
def execLdsReturn (c : Cid) (sd : Fin 32) (s : State) : Host.Outcome State Fault Refusal :=
  match (s.ctx c).lds.find? fun l => l.sd == sd with
  | none => .next s
  | some l =>
    let i := lowest (s.hnd l.h).set
    if l.space == 1 && !s.complete l.h l.no i then .next s
    else
      let r := if l.space = 0 then s.memRead l.addr 8 else s.bunkRead i ((s.hnd l.h).rowAt 0 + l.addr) 8
      if r.ue then
        .next (if l.space = 0 then r.st.faultCtx c Ev.MEM_UE (srcHbm (memCtrl s.variant l.addr)) else r.st.faultCtx c Ev.BNK_UE (srcStn i))
      else
        let v := BitVec.ofNat 64 (ofBytes r.data)
        let v := if l.space = 0 then s.withStores c l.addr v else v
        let p := (r.st.endNo l.no).ldsValue c l.ord v
        .next (p.2.modCtx c fun x => { x.setS sd.val p.1 with lds := x.lds.filter fun e => e.ord != l.ord })

/-- STS (R172). In a joined context the West sequencer performs it (R165). A bunker store waits at the sequencer until its handle
is writable at that station. -/
def execSts (c : Cid) (w : NWords) (s : State) : Host.Outcome State Fault Refusal :=
  let sv := w.f 53 49
  .next (s.seqRun c (Enc.sts w) [sv, w.f 48 44] fun s =>
    let x := s.ctx c
    let a := lsAddr x w
    let h := w.h 30
    if s.lead c ≠ c then s.nextPc c 1
    else if w.f 43 42 = 0 then
      s.checked c (s.lsHbm c a) fun s =>
        (s.modCtx c fun x => { x with stores := x.stores ++ [((s.ctxAddr c a 8).getD a, x.s sv)] }).nextPc c 1
    else
      s.checked c (s.lsBunk c h a) fun s =>
        let i := lowest (s.hnd h).set
        let no := s.dispNo
        if !s.writable h no i then s
        else
          let s := { s with dispNo := no + 1 }.regWriter no h (single i)
          ((s.bunkWrite i ((s.hnd h).rowAt 0 + a) (bytesOf 8 (x.s sv).toNat)).endNo no).nextPc c 1)

end Sys2Proof.Machine
end

