-- ==== Sys2Proof/Machine/Lalux.lean ====
section
/-! DEFINITION. The Lalux chain and the host (R459 to R480): requests at their destination, responses, forwarding, event frames. A flit
reaches the device only while the UP port is out of reset and up. -/

namespace Sys2Proof

open Machine

/-- Header bytes 0 to 23 (R460). -/
def LFlit.head (f : LFlit) : List Byte :=
  bytesOf 8 (f.dst.toNat + f.src.toNat * 2 ^ 6 + f.typ.toNat * 2 ^ 12 + f.len.toNat * 2 ^ 16 + f.tag.toNat * 2 ^ 24) ++
    bytesOf 8 (f.addr.toNat + f.status.toNat * 2 ^ 48) ++ bytesOf 8 f.aux.toNat

/-- The payload bytes that LEN names. -/
def LFlit.data (f : LFlit) : List Byte := sliceB f.payload 0 f.len.toNat

def LFlit.checkOk (f : LFlit) : Bool := f.check == Machine.crc32c (f.head ++ f.data)

/-- MEM_WR, PUSH and IMG_WR have no response. -/
def LFlit.posted (f : LFlit) : Bool := f.typ == 3 || f.typ == 9 || f.typ == 10

/-- A flit from this device to the sender of `f`, as in the request but for type, address, status and payload. -/
def LFlit.reply (f : LFlit) (tally : BitVec 6) (typ : BitVec 4) (addr : BitVec 48) (status : BitVec 8) (data : List Byte) : LFlit :=
  let r : LFlit := { f with
    dst := f.src, src := tally, typ := typ, len := BitVec.ofNat 8 data.length, addr := addr, status := status, check := 0, payload := data }
  { r with check := crc32c (r.head ++ data) }

end Sys2Proof

namespace Sys2Proof.Machine

/-! ### Responses (R460, R461) -/

/-- A flit out of UP. -/
def State.sendUp (s : State) (f : LFlit) : State := { s with llx := { s.llx with upq := s.llx.upq ++ [f] } }

/-- RESP. -/
def State.answerAs (s : State) (tally : BitVec 6) (f : LFlit) (status : BitVec 8) (data : List Byte) : State :=
  s.sendUp (f.reply tally 0xC f.addr status data)
def State.answer (s : State) (f : LFlit) (status : BitVec 8) (data : List Byte := []) : State := s.answerAs s.llx.tally f status data

/-- `n` words of which nothing is stated. -/
def State.freeWords (s : State) : Nat → List Byte × State
  | 0 => ([], s)
  | n + 1 =>
    let p := s.takeFree
    let r := p.2.freeWords n
    (bytesOf 8 p.1.toNat ++ r.1, r.2)

/-- RESP of a request that is not executed: REG_RD and ENUM carry a payload of which the manual states nothing (free values). -/
def State.refuseReq (s : State) (f : LFlit) (status : BitVec 8) : State :=
  if f.posted then s
  else
    let r := s.freeWords (if f.typ = 1 then 1 else if f.typ = 6 then 4 else 0)
    r.2.answer f status r.1

/-! ### The chain (R463, R464, R466) -/

/-- A port passes flits. -/
def State.llxUp (s : State) (p : LinkPort) : Bool := s.portOn p && (s.port p).st == .paired

/-- The flit is for this device: its tally, or every device, or the first untallied one. -/
def State.forMe (s : State) (f : LFlit) : Bool := f.dst == 63 || (if s.llx.tally = 0 then f.dst == 62 else f.dst == s.llx.tally)

/-- ENUM is for an untallied device alone: a tallied one passes it on. -/
def State.takes (s : State) (f : LFlit) : Bool := s.forMe f && !(f.typ == 6 && s.llx.tally != 0)

/-- A tallied device passes a flit down; with the DN port down it answers an ENUM with END. -/
def State.forwardDn (s : State) (f : LFlit) : State :=
  if s.llx.tally = 0 then s
  else if f.typ == 6 && s.llx.dn.st == .down then s.refuseReq f 6
  else { s with llx := { s.llx with dnq := s.llx.dnq ++ [f] } }

/-- What an untallied device executes (R466). -/
def untalliedReq (f : LFlit) : Bool := f.typ == 6 || f.typ == 7 || (f.typ == 1 && (f.addr == 0 || f.addr == 8))

/-- A request of type `t` at its destination: CHECK, then what an untallied device may execute; a flit for every device goes on, a
RESET_REQ apart, which is discarded (R468). -/
def State.llxTake (s : State) (t : Nat) (f : LFlit) (body : State → State) : State :=
  if !(s.llxUp .llxUp && f.typ.toNat == t) then s
  else if !s.takes f then (if f.typ == 6 then s.forwardDn f else s)
  else
    let s := if f.dst = 63 && t != 8 then s.forwardDn f else s
    if !f.checkOk then (s.bump Fld.LLX_P_CNT_BADFLIT).refuseReq f 5
    else if s.llx.tally = 0 && !untalliedReq f then s.refuseReq f 2
    else body s

/-- FLIT_FORWARD (R459, R464): a flit on a reserved channel is discarded; its frame counted it. A flit for this device is executed by its
own command. -/
def execFlitForward (fromDn : Bool) (chan : BitVec 3) (f : LFlit) (s : State) : Host.Outcome State Fault Refusal :=
  .next (if !s.llxUp (if fromDn then .llxDn else .llxUp) then s
    else if 3 ≤ chan.toNat then s
    else if fromDn then s.sendUp f
    else if s.takes f then s
    else s.forwardDn f)

/-- LLX_INVALID_REQUEST (R461): answered with RANGE. -/
def execLlxInvalidRequest (f : LFlit) (s : State) : Host.Outcome State Fault Refusal :=
  .next (if 1 ≤ f.typ.toNat && f.typ.toNat ≤ 11 then s else s.llxTake f.typ.toNat f fun s => s.refuseReq f 2)

/-! ### Registers (R469, R480) -/

/-- Register blocks that recovery boot serves: SFC_, RST_, LLX_, SEC_. -/
def recoveryBlock (a : Nat) : Bool := [0, 1, 10, 13].contains (a / 2 ^ 20)

/-- A register request at an offset that can be served. -/
def State.regReq (s : State) (f : LFlit) (body : State → Nat → State) : State :=
  let a := f.addr.toNat
  if s.rst.recovery && !recoveryBlock a then s.refuseReq f 4
  else if 2 ^ 24 ≤ a || a % 8 != 0 || (f.typ == 2 && f.len != 8) then s.refuseReq f 2
  else body s a

/-- REG_RD. -/
def execRegRd (f : LFlit) (s : State) : Host.Outcome State Fault Refusal :=
  .next (s.llxTake 1 f fun s => s.regReq f fun s a =>
    let r := s.regRead .host a
    r.2.answer f 0 (bytesOf 8 r.1.toNat))

/-- REG_WR: the write, then its status. A write that resets the ports takes the answer with them. -/
def execRegWr (f : LFlit) (s : State) : Host.Outcome State Fault Refusal :=
  .next (s.llxTake 2 f fun s => s.regReq f fun s a =>
    let o := s.regWrite .host a (BitVec.ofNat 64 (leAt f.payload 0 8))
    if o.st.portOn .llxUp then o.st.answerAs s.llx.tally f o.status [] else o.st)

/-! ### Memory (R470 to R473) -/

/-- MEM_WR (R471, R308). -/
def execMemWr (f : LFlit) (s : State) : Host.Outcome State Fault Refusal :=
  .next (s.llxTake 3 f fun s =>
    let a := f.addr.toNat
    let n := f.len.toNat
    if s.rst.recovery then s.bump Fld.LLX_WR_CNT_DENIED
    else if !s.postedOk Fld.LLX_HWIN_B_WR a n then s.denyWrite a
    else if s.rgnPurging a n then s.bump Fld.MEM_PURGE_DROPPED
    else s.memWrite a f.data)

/-- MEM_DATA flits of `bs` from address `a`. -/
def State.dataFlits (s : State) (f : LFlit) (a : Nat) (bs : List Byte) : State :=
  (List.range ((bs.length + 223) / 224)).foldl (fun s k =>
    s.sendUp (f.reply s.llx.tally 0xD (BitVec.ofNat 48 (a + 224 * k)) 0 ((bs.drop (224 * k)).take 224))) s

/-- MEM_RD (R472): the bytes before an uncorrectable word are returned. -/
def execMemRd (f : LFlit) (s : State) : Host.Outcome State Fault Refusal :=
  .next (s.llxTake 4 f fun s =>
    let a := f.addr.toNat
    let n := bits f.aux 0 17
    if s.rst.recovery then s.refuseReq f 4
    else if n = 0 || 65536 < n || !assigned s.variant a n then s.refuseReq f 2
    else if !s.hostMay Fld.LLX_HWIN_B_RD a n then s.refuseReq f 1
    else if s.rgnPurging a n then s.refuseReq f 2
    else match (s.memBits.found a n).find? fun p => p.2 == .ue with
      | none =>
        let r := s.memRead a n
        (r.st.dataFlits f a r.data).answer f 0
      | some p =>
        let m := 8 * p.1 - a
        let r := s.memRead a (min n (m + 8))
        ((r.st.raise Ev.MEM_UE (srcHbm (memCtrl s.variant (8 * p.1))) none (8 * p.1)).dataFlits f a (r.data.take m)).answer f 2)

/-- FLUSH (R471): every earlier MEM_WR has reached memory when its command has run. -/
def execFlush (f : LFlit) (s : State) : Host.Outcome State Fault Refusal :=
  .next (s.llxTake 5 f fun s => if s.rst.recovery then s.refuseReq f 4 else s.answer f 0)

/-! ### PUSH (R473) -/

/-- The bytes of a flit of a push: to their place, or kept while the push is held. -/
def State.pushBytes (s : State) (f : LFlit) (p : Push) : State :=
  let n := min 224 (p.total - p.next)
  if f.len.toNat != n then s.badPush p
  else if p.held then
    let q := { p with next := p.next + n, buf := p.buf ++ f.data }
    let st := s.store p.store
    if q.next < p.total then s.putPush q
    else (s.dropPush p.tag).setStore p.store { st with held := st.held.map fun h => if h = .lalux p.tag then .come q else h }
  else s.pushPut p f.data

/-- The first flit of a push: it takes the slot at the write head, or is held. A push over SLOT counts in both counts (R314, R473). -/
def State.pushFirst (s : State) (f : LFlit) (k : Nat) : State :=
  let total := bits f.aux 0 32
  let p : Push := { tag := f.tag, store := k, slot := (s.store k).head, total := total, weight := BitVec.ofNat 16 (bits f.aux 32 16), next := 0 }
  match s.pushFate k total with
  | .drop =>
    let t := (s.putPush { p with bad := true }).bump Fld.LLX_WR_CNT_PUSH_BAD
    if s.ssValid k && s.ssSlot k < total then t.pushMissed k .drop else t
  | .purge => (s.putPush { p with bad := true }).pushMissed k .purge
  | .hold => ((s.putPush { p with held := true }).holdPush k (.lalux f.tag)).pushBytes f { p with held := true }
  | .take => (s.takeSlot k).pushBytes f p

/-- A flit of a push under way, or the first of one. A push whose first flit is not that of offset 0 is a bad one, counted once. -/
def State.pushFlit (s : State) (f : LFlit) : State :=
  let k := bits f.addr 0 4
  let off := bits f.addr 24 24 * 32
  match s.llx.pushes.find? fun p => p.tag == f.tag with
  | none => if off = 0 then s.pushFirst f k
    else (s.putPush { tag := f.tag, store := k, slot := 0, total := 0, weight := 0, next := 0, bad := true }).bump Fld.LLX_WR_CNT_PUSH_BAD
  | some p =>
    if p.bad then (if off = 0 then s.pushFirst f k else if p.denied then s.bump Fld.LLX_WR_CNT_DENIED else s)
    else if off != p.next || k != p.store || bits f.aux 0 32 != p.total || !s.ssValid k then s.badPush p
    else s.pushBytes f p

/-- PUSH. -/
def execPush (f : LFlit) (s : State) : Host.Outcome State Fault Refusal :=
  .next (s.llxTake 9 f fun s => if s.rst.recovery then s.bump Fld.LLX_WR_CNT_DENIED else s.pushFlit f)

/-! ### Tallies (R466 to R468) -/

/-- ENUM's payload. -/
def State.enumData (s : State) : List Byte :=
  bytesOf 8 s.variant.ident.toNat ++ bytesOf 8 s.variant.caps.toNat ++ [s.rst.strap.setWidth 8, if s.rst.recovery then 1 else 0] ++
    bytesOf 6 0 ++ (List.range 8).map (Config.sha512 s.pubKey)

/-- ENUM: the tally is taken and the DN port trains. -/
def execEnum (f : LFlit) (s : State) : Host.Outcome State Fault Refusal :=
  .next (s.llxTake 6 f fun s =>
    let v := bits f.aux 0 6
    if v = 0 || 32 < v then s.refuseReq f 2
    else
      let s : State := { s with llx := { s.llx with tally := BitVec.ofNat 6 v, dn := { s.llx.dn with st := .training } } }
      s.answer f 0 s.enumData)

/-- DN_PORT_TRAIN_DONE: up, or reported down. -/
def execDnPortTrainDone (up : Bool) (s : State) : Host.Outcome State Fault Refusal :=
  .next (if s.llx.tally = 0 || s.llx.dn.st != .training || !s.portOn .llxDn then s
    else if up then s.linkUp .llxDn .paired 0xFF
    else { s with llx := { s.llx with dn := { s.llx.dn with st := .down } } })

/-- UNTALLY: the device answers with the tally it gives up. It has passed the flit on; its DN port is let go once that has arrived
(DEDUCED, log entry 76). -/
def execUntally (f : LFlit) (s : State) : Host.Outcome State Fault Refusal :=
  .next (s.llxTake 7 f fun s =>
    if s.anyBusy then s.answer f 3
    else
      let t := s.llx.tally
      ({ s with llx := { s.llx with tally := 0 } } : State).releaseDn.answerAs t f 0 [])

/-- RESET_REQ: one for every device is discarded (R468). The answer joins the UP port's queue, and LLX is asserted once it has left
(DEDUCED, log entry 79). -/
def execResetReq (f : LFlit) (s : State) : Host.Outcome State Fault Refusal :=
  .next (s.llxTake 8 f fun s =>
    if f.dst = 63 then s
    else
      let r := f.reply s.llx.tally 0xC f.addr 0 []
      ({ s with llx := { s.llx with resetDue := some r } } : State).sendUp r)

/-- The answer to a RESET_REQ has left: LLX is asserted (R468, R592). -/
def State.resetAnswered (s : State) : State :=
  match s.llx.resetDue with
  | some r => if s.llx.upq.contains r then s else ({ s with llx := { s.llx with resetDue := none } } : State).assertData 2
  | none => s

/-- FRAME_SEND (R394, R400, R401). -/
def execFrameSend (p : LinkPort) (s : State) : Host.Outcome State Fault Refusal := .next (s.frameSend p).resetAnswered

/-! ### Recovery images (R480) -/

/-- The recovery buffer's size. -/
def imgSize : Nat := 8 * 2 ^ 20

/-- IMG_WR: bytes beyond the buffer are discarded and the flit counted. -/
def execImgWr (f : LFlit) (s : State) : Host.Outcome State Fault Refusal :=
  .next (s.llxTake 10 f fun s =>
    let a := f.addr.toNat
    let t : State := { s with llx := { s.llx with img := SMap.putList s.llx.img 0 a (f.data.take (imgSize - a)) } }
    if imgSize < a + f.len.toNat then t.bump Fld.LLX_WR_CNT_DENIED else t)

/-- The image that the recovery buffer holds: header and body. -/
def State.bufImage (s : State) : List Byte :=
  SMap.vals s.llx.img 0 0 (min imgSize (256 + leAt (SMap.vals s.llx.img 0 0 256) 8 4))

/-- IMG_GO: the security block verifies the buffer as a signed image (R609, R610); what fails leaves the buffer zero. -/
def execImgGo (f : LFlit) (_ : Unit) (s : State) : Host.Outcome State Fault Refusal :=
  .next (s.llxTake 11 f fun s =>
    let img := s.bufImage
    if s.imageOk img then ({ s with rst := { s.rst with running := some img, verified := true } } : State).answer f 0
    else ((({ s with llx := { s.llx with img := [] } } : State)).raise Ev.SEC_IMAGE srcSurface).answer f 5)

/-! ### Event frames (R476, R477) -/

/-- The 64 bytes of an event frame. -/
def EvFrame.payload (e : EvFrame) : List Byte :=
  bytesOf 2 e.code.toNat ++ [e.source, e.unit, e.ctx] ++ bytesOf 3 0 ++ bytesOf 8 e.time.toNat ++ bytesOf 8 e.bell.toNat ++
    bytesOf 4 e.number.toNat ++ bytesOf 4 e.rep.toNat ++ bytesOf 8 e.detail.toNat ++ bytesOf 24 0

/-- EVENT: the oldest frame goes out of UP to the host. -/
def execEvent (s : State) : Host.Outcome State Fault Refusal :=
  .next (match s.llx.events with
    | [] => s
    | e :: rest =>
      if s.llx.tally = 0 || !s.llxUp .llxUp then s
      else
        let f : LFlit := ⟨0, 0, 0, 0, 0, 0, 0, 0, 0, []⟩
        let s : State := { s with llx := { s.llx with events := rest } }
        (s.sendUp (f.reply s.llx.tally 0xE 0 0 e.payload)).bump Fld.LLX_EVT_CNT_SENT)

/-- LLX_EVT_LOST: one frame for the raises lost since the last one. -/
def execLlxEvtLost (s : State) : Host.Outcome State Fault Refusal :=
  let n := s.llx.evLost
  .next (if n = 0 || 256 ≤ s.llx.events.length then s
    else
      let src := srcLlx false
      let t := (s.enqueue Ev.LLX_EVT_LOST src none n n).traceRec src none 6 (bytesOf 4 Ev.LLX_EVT_LOST.toNat ++ bytesOf 4 n)
      ({ t with llx := { t.llx with evLost := 0 } } : State).trigger src none 6)

end Sys2Proof.Machine
end

