-- ==== Sys2Proof/Machine/Notice.lean ====
section
/-! DEFINITION. Suspicion, notices and confirmed failures (R419 to R422, R425, R433), with what a failure does to the collectives in
flight. -/

namespace Sys2Proof.Machine

/-- A reduction drops what it has and runs again (R433). The bell of a REDUCE that is not dispatched is not known yet. -/
def Red.restart (b run : Nat) (r : Red) : Red :=
  { r with
    issued := false, decided := false, contributes := false, held := [], shares := [], blocks := [], full := false, src := []
    started := [], dbell := if r.dispatched then b + r.deadline else 2 ^ 64, restarts := run, complete := false }

/-- A message of a reduction of a group that holds a position. -/
def State.redMsgOf (s : State) (pos : NodeId) (m : FMsg) : Bool :=
  (m.kind == 2 || (m.kind == 3 && m.w7 == 0)) && (s.grpRank (bits m.w1 0 10) pos).isSome

/-- Reductions in flight of every group that holds a position are restarted, those of which only messages have come among them; what
waits of their old run goes, and what has come of the new one is taken in (R421, R433). -/
def State.restartReds (s : State) (pos : NodeId) : State :=
  let hit (r : Red) : Bool := !r.complete && (s.grpRank r.group.toNat pos).isSome
  let live (r : Red) : Red := if hit r then r.restart s.bellNow (s.runOf r.group.toNat) else r
  let old (m : FMsg) : Bool := s.redMsgOf pos m && s.fab.reds.any fun r => hit r && r.isFor m
  let s := { s with fab := { s.fab with
    reds := s.fab.reds.map live, landing := s.fab.landing.filter fun p => !old p.msg, parked := s.fab.parked.filter fun p => !old p.1 } }
  (s.fab.reds.filter fun r => !r.complete && (s.grpRank r.group.toNat pos).isSome).foldl (fun s r => s.takeEarly r) s.settleKept

/-- What every device does on a confirmed notice (R421, R437, R527, R528). BOUND_EXCEEDED here is for a relief that is activated
already and holds no copy of the failed device (DESIGN CHOICE, log entry 40). -/
def State.confirmed (s : State) (pos ident : NodeId) : State :=
  if s.fab.absent.contains pos then s
  else
    let faults := if s.fab.faults.length < 32 then s.fab.faults ++ [pos] else s.fab.faults
    let s := { s with fab := { s.fab with faults := faults, absent := s.fab.absent ++ [pos] } }
    let s := s.setFld Fld.BKN_STATUS_FAULTS faults.length
    let s := ((s.restartReds pos).gatherLost pos).raise Ev.BKN_PEER_LOST srcDev none pos.toNat
    let s := if s.posOf (BitVec.ofNat 17 (s.fld Fld.BKN_TIME_MASTER)) == pos then
        { s.setFld Fld.BKN_TIME_MASTER (s.fld Fld.BKN_TIME_BACKUP) with fab := { s.fab with firstMeasure := false } }
      else s
    let s := s.reliefFailed pos
    match s.coverOf ident with
    | some k => if s.bounded && s.rlf.act.isSome && (s.liveSlot k).isNone then s.raise Ev.BOUND_EXCEEDED srcDev else s
    | none => s

/-- Distinct reporters of a position within two bells (R421). -/
def State.confirms (s : State) (pos : NodeId) (bell : Nat) : Bool :=
  let l := s.fab.reports.filter fun r => r.1 == pos && r.2.2 ≤ bell + 2 && bell ≤ r.2.2 + 2
  s.fld Fld.BKN_CFG_CONFIRM + 1 ≤ ((l.map fun r => r.2.1).eraseDups).length

/-- A report is held; enough of them confirm the failure, once. -/
def State.report (s : State) (n : Notice) : State :=
  let pos := noticePos n
  let s := { s with fab := { s.fab with reports := (s.fab.reports ++ [(pos, noticeBy n, noticeBell n)]).eraseDups } }
  if s.confirms pos (noticeBell n) && !s.fab.absent.contains pos then
    (s.flood (s.noticeOf pos (noticeId n) 1) none).confirmed pos (noticeId n)
  else s

/-- Link-sets toward a direction go down in every plane (R419). -/
def State.downDir (s : State) (dir : Nat) : State :=
  { s with fab := { s.fab with downSets := (s.fab.downSets ++ (List.range 4).map fun d => 8 * d + dir).eraseDups } }

/-- NEIGHBOUR_SUSPECT (R419). -/
def execNeighbourSuspect (dir : Fin 6) (allLost : Bool) (s : State) : Host.Outcome State Fault Refusal :=
  let ports := (List.finRange 48).filter fun p => dirOf p == dir.val && (s.bport p).everUp
  let down := (List.range 4).all fun d => s.fab.downSets.contains (8 * d + dir.val)
  .next (
    if ports.isEmpty || down || !(allLost || 3 ≤ SMap.val s.fab.missed 0 dir.val) || !(List.range 4).any s.dieRuns then s
    else
      let pos := s.neighbour s.ownPos dir.val
      let ident := match ports.find? fun p => (s.bport p).peer != 0 with
        | some p => (s.bport p).peer
        | none => pos
      let s := s.downDir dir.val
      let n := s.noticeOf pos ident 0
      (s.flood n none).report n)

/-- A relief's note of when the first notice that names a covered identity came (R541). -/
def State.noteCover (s : State) (id : NodeId) : State :=
  if (s.coverOf id).isSome && !(s.rlf.firstNotice.any fun p => p.1 == id) then
    { s with rlf := { s.rlf with firstNotice := s.rlf.firstNotice ++ [(id, s.now)] } }
  else s

/-- FAILURE_NOTICE (R420 to R422): the first copy is forwarded and acted on. -/
def execFailureNotice (p : PortId) (w1 w2 w3 : Word) (s : State) : Host.Outcome State Fault Refusal :=
  let n : Notice := ⟨w1, w2, w3⟩
  .next (
    if !s.portHears p || s.fab.notices.contains n then s
    else
      let s := (s.flood n (some p)).noteCover (noticeId n)
      let s := if bit w3 0 then s.confirmed (noticePos n) (noticeId n) else if bit w3 18 then s else s.report n
      if bit w3 18 then s.remap (noticeId n) (BitVec.ofNat 17 (bits w3 1 17)) else s)

end Sys2Proof.Machine
end

