-- ==== Sys2Proof/Machine/Tap.lean ====
section
/-! DEFINITION. The test access port and the sideband's register reads (R651, R654, R680). One command is one scan of the instruction's
data register; `tdo` holds the bits it shifted out, first bit first. -/

namespace Sys2Proof.Machine

/-- Bits of a number, least significant first. -/
def bitList (n w : Nat) : List Bool := (List.range w).map fun k => n.testBit k

/-- `w` bits of which nothing is stated, `w` at most 64. -/
def State.freeBits (s : State) (w : Nat) : List Bool × State :=
  let p := s.takeFree
  (bitList p.1.toNat w, p.2)

/-- The instruction is loaded, its data register shifts out `out`; only EXTEST drives the contacts. -/
def State.tap (s : State) (ir : BitVec 8) (out : List Bool) : State := { s with dbg := { s.dbg with ir := ir, tdo := out, driving := ir == 0 } }

/-! ### The boundary register -/

/-- What the boundary register captures: RST_N, PWRGD_IN and ALERT_N, then STRAP_CODE, MGMT_SCL and MGMT_SDA, of which the block knows
nothing (cells in the order of R674's contacts: PRESUMED, log entry 67). -/
def State.capture (s : State) : List Bool × State :=
  let r := s.freeBits 3
  ([s.pins.rstN, s.pins.pwrgdIn, s.alertN] ++ r.1, r.2)

/-- ALERT_N at its contact. -/
def State.alertPin (s : State) : Bool := if s.dbg.driving then s.dbg.boundary.getD 2 true else s.alertN

/-- EXTEST. -/
def execExtest (drive : List Bool) (s : State) : Host.Outcome State Fault Refusal :=
  let r := s.capture
  let t := r.2.tap 0x00 r.1
  .next { t with dbg := { t.dbg with boundary := drive } }

/-- SAMPLE/PRELOAD. -/
def execSamplePreload (load : Option (List Bool)) (s : State) : Host.Outcome State Fault Refusal :=
  let r := s.capture
  let t := r.2.tap 0x01 r.1
  .next (match load with
    | none => t
    | some l => { t with dbg := { t.dbg with boundary := l } })

/-- IDCODE. -/
def execIdcode (s : State) : Host.Outcome State Fault Refusal := .next (s.tap 0x02 (bitList 0x07A0158D 32))

/-- BYPASS: the one-bit register captures 0. -/
def execBypass (s : State) : Host.Outcome State Fault Refusal :=
  let t := s.tap 0xFF [s.dbg.bypass]
  .next { t with dbg := { t.dbg with bypass := false } }

/-- TRST_N: the TAP alone; IDCODE is the instruction it comes up with (PRESUMED from IEEE 1149.1, log entry 67). -/
def execTrst (s : State) : Host.Outcome State Fault Refusal :=
  .next { s with dbg := { s.dbg with
    ir := 0x02, scansel := 0, accRes := 0, boundary := [], driving := false, tdo := [], bypass := false } }

/-! ### DBGACC -/

/-- Registers that the debug port reaches until unlock. -/
def openOffset (off : Nat) : Bool :=
  off == 0 || off == 8 || off == 0xC00000 || off == 0xC00008 || off == 0xC00010 || (0xC01000 ≤ off && off < 0xC010C0)

/-- The result that the next scan returns: status, and the data of a read; the other bits are not stated. -/
def State.accResult (s : State) (status : Nat) (data : Option Word) : State :=
  let p := s.takeFree
  let q := p.2.takeFree
  let d := data.getD p.1
  { q.2 with dbg := { q.2.dbg with accRes := BitVec.ofNat 90 (status + fieldN q.1.toNat 0 24 * 4 + d.toNat * 2 ^ 26) } }

/-- The access, by the debug port. -/
def State.access (s : State) (op : BitVec 2) (off : Nat) (v : Word) : State :=
  if off % 8 != 0 then s.accResult 3 none
  else if !s.dbg.unlocked && !openOffset off then s.accResult 2 none
  else match op.toNat with
    | 1 =>
      let r := s.regRead .debug off
      r.2.accResult 0 (some r.1)
    | 2 =>
      let o := s.regWrite .debug off v
      o.st.accResult (if o.denied then 2 else if o.range then 3 else if o.busy then 1 else 0) none
    | _ => s.accResult 0 none

/-- DBGACC. -/
def execDbgacc (op : BitVec 2) (off : BitVec 24) (v : Word) (s : State) : Host.Outcome State Fault Refusal :=
  .next ((s.tap 0x10 (bitList s.dbg.accRes.toNat 90)).access op off.toNat v)

/-! ### SCAN, STOP -/

/-- SCANSEL. -/
def execScansel (r : BitVec 6) (s : State) : Host.Outcome State Fault Refusal :=
  let f := s.freeBits 6
  let t := f.2.tap 0x11 f.1
  .next { t with dbg := { t.dbg with scansel := r } }

/-- SCAN (R651): the first bit shifted marks the region; what the chain holds is not stated. -/
def execScan (s : State) : Host.Outcome State Fault Refusal :=
  let r := s.dbg.scansel.toNat
  .next (if bit s.dbg.level 2 && s.stopDevice && r < 59 then
      (let f := s.freeBits 64
       let t := f.2.tap 0x12 f.1
       let k : Fin 59 := Fin.ofNat 59 r
       { t with dbg := { t.dbg with scanned := if t.dbg.scanned.contains k then t.dbg.scanned else k :: t.dbg.scanned } })
    else s.tap 0x12 (List.replicate 64 false))

/-- STOP: a 1 takes a device all-stop, as R646 states. -/
def execTapStop (b : Bool) (s : State) : Host.Outcome State Fault Refusal :=
  let f := s.freeBits 1
  let t := f.2.tap 0x13 f.1
  .next (if b then (t.debugCmd .debug fun t => t.stopNow none 4).st else t)

/-! ### The sideband -/

/-- I2C_READ (R680): a misaligned offset is refused with a NACK. -/
def execI2cRead (off : BitVec 24) (s : State) : Host.Outcome State Fault Refusal :=
  .next (if bit s.rst.asserted 0 then s
    else if off.toNat % 8 != 0 then { s with pins := { s.pins with i2c := none } }
    else
      let r := s.regRead .sideband off.toNat
      { r.2 with pins := { r.2.pins with i2c := some (bytesOf 8 r.1.toNat) } })

end Sys2Proof.Machine
end

