-- ==== Sys2Proof/Machine/Vector.lean ====
section
/-! DEFINITION. Vector instructions: dispatch and its checks (R184 to R190), issue at a station (R98 to R110), the end with flag
word and scale record (R89, R90, R111). -/

namespace Sys2Proof.Machine

/-! ### Dispatch -/

/-- This copy of the context passes an instruction that names scalar `fs` for the flag word: it takes the word if it has come, else
the scalar waits for it (R165, R184). -/
def State.noteFlag (s : State) (c : Cid) (fs : Nat) : State :=
  s.modCtx c fun x =>
    let x' := { x with flagOrd := x.flagOrd + 1 }
    match x.flagPeer.find? fun p => p.1 == x.flagOrd with
    | some p => { x'.setS fs p.2 with flagPeer := x.flagPeer.filter fun q => q.1 != x.flagOrd }
    | none => { x' with flagWait := x.flagWait ++ [(fs, x.flagOrd)] }

/-- Dispatch of a vector instruction; `fs` is the scalar for its flag word, if it names one. -/
def State.dispatchVec (s : State) (c : Cid) (w : NWords) (kind : SKind) (mask : StationSet) (fs : Option Nat)
    (checks : List (Option (BitVec 16))) (acc : Nat → StationSet → State → State) : State :=
  s.dispatchTo c w mask checks
    (fun t => match fs with
      | some r => t.noteFlag c r
      | none => t)
    (fun set => { cid := c, kind := kind, w := w, mask := set, flagNo := fs.map fun _ => (s.ctx c).flagOrd }) acc

def Handle.sameShape (a b : Handle) : Bool := a.rows == b.rows && a.colsN == b.colsN

/-- A handle that is read or written over the mask. -/
def State.shaped (s : State) (c : Cid) (mask : StationSet) (h : HandleId) (ok : Handle → Bool) : List (Option (BitVec 16)) :=
  [s.handleFault c h mask, need (ok (s.hnd h)) Ev.BNK_SHAPE]

/-- The checks of a scale-record handle (R89). -/
def State.recordChecks (s : State) (c : Cid) (mask : StationSet) (h : HandleId) : List (Option (BitVec 16)) :=
  let x := s.hnd h
  [s.handleFault c h 0, need (16 ≤ x.rowSize && subset mask x.set) Ev.BNK_SHAPE]

/-- The checks of an image handle (R694). -/
def State.imageChecks (s : State) (c : Cid) (mask : StationSet) (h : HandleId) (len : Nat) : List (Option (BitVec 16)) :=
  s.shaped c mask h fun x => len ≤ x.rows.toNat * x.rowSize

/-- Streams that belong to the device (R109). -/
def devStream (n : Nat) : Bool := 0xFF00 ≤ n

/-- The scalar named for the flag word. -/
def flagReg (fv : Bool) (fs : Nat) : Option Nat := if fv then some fs else none

/-- VOP with PROG = 0 (R185). Handles that the operation does not use are not looked at (log entry 23). -/
def execVop (c : Cid) (w : NWords) (s : State) : Host.Outcome State Fault Refusal :=
  .next (s.seqRun c (Enc.vop 256 w) (if w.xb 17 then [w.x 16 12] else []) fun s =>
    let mask := (s.ctx c).m (w.f 53 51)
    let op := w.f 49 42
    let hd := w.h 30
    let ha := w.h 18
    let d := s.hnd hd
    let ok (x : Handle) : Bool :=
      if op = 13 then (if w.xb 18 then x.rows == 1 && x.colsN == d.colsN else x.rows == d.rows && x.colsN == 1)
      else if op = 14 then d.rows == 1 && x.colsN == d.colsN
      else x.sameShape d
    let checks := [need (op < vopCount) Ev.NUM_MODE, s.handleFault c hd mask] ++ s.shaped c mask ha ok ++
      (if opTakesB op then s.shaped c mask (w.h 6) d.sameShape else []) ++
      (if opTakesC op then s.shaped c mask (w.xh 0) d.sameShape else []) ++
      [need (op != 14 || d.fmt == 10) Ev.NUM_MODE, need (!devStream (w.x 41 26)) Ev.RNG_STREAM]
    s.dispatchVec c w .vop mask (flagReg (w.xb 17) (w.x 16 12)) checks fun no set s =>
      let s := s.regReader no ha set
      let s := if opTakesB op then s.regReader no (w.h 6) set else s
      let s := if opTakesC op then s.regReader no (w.xh 0) set else s
      s.register { no := no, h := hd, set := set, rd := op == 14, wr := true })

/-- VOP with PROG = 1 (R186). -/
def execVopLoadProg (c : Cid) (w : NWords) (s : State) : Host.Outcome State Fault Refusal :=
  .next (s.seqRun c (Enc.vopLoad w) (if w.xb 17 then [w.x 16 12] else []) fun s =>
    let mask := (s.ctx c).m (w.f 53 51)
    s.dispatchVec c w .vopLoad mask (flagReg (w.xb 17) (w.x 16 12)) (s.imageChecks c mask (w.h 18) 1088)
      fun no set s => s.regReader no (w.h 18) set)

/-- The run of `l` consecutive stations that holds a station, when the mask is made of such runs (R187). -/
def runsOf (mask : StationSet) (l : Nat) : Option (List (List StationId)) :=
  let g := chunks l (stationsOf mask)
  let ok (r : List StationId) : Bool := match r with
    | [] => true
    | a :: _ => r.length == l && (r.getLastD a).val == a.val + l - 1
  if g.all ok then some g else none

/-- VRED (R187). -/
def execVred (c : Cid) (w : NWords) (s : State) : Host.Outcome State Fault Refusal :=
  .next (s.seqRun c (Enc.vred w) (if w.xb 17 then [w.x 16 12] else []) fun s =>
    let mask := (s.ctx c).m (w.f 53 51)
    let ha := w.h 20
    let hb := w.h 8
    let two := w.f 47 45 != 7
    let dot := w.f 50 48 == 2 || w.f 47 45 == 2
    let a := s.hnd ha
    let res (h : HandleId) : List (Option (BitVec 16)) :=
      let x := s.hnd h
      [s.handleFault c h mask, need (x.fmt == 10 || x.fmt == 0) Ev.NUM_MODE, need (x.colsN == 1 && x.rows == a.rows) Ev.BNK_SHAPE]
    let checks := [s.handleFault c ha mask] ++ res (w.h 32) ++ (if two then res (w.xh 0) else []) ++
      (if dot then s.shaped c mask hb a.sameShape else []) ++
      [need (!w.fb 44 || (runsOf mask (w.f 7 1 + 1)).isSome) Ev.RING_SPAN]
    s.dispatchVec c w .vred mask (flagReg (w.xb 17) (w.x 16 12)) checks fun no set s =>
      let s := s.regReader no ha set
      let s := if dot then s.regReader no hb set else s
      let s := s.regWriter no (w.h 32) set
      if two then s.regWriter no (w.xh 0) set else s)

/-- VLUT, FORM 0 (R188). -/
def execVlut (c : Cid) (w : NWords) (s : State) : Host.Outcome State Fault Refusal :=
  .next (s.seqRun c (Enc.vlut 0 w) [] fun s =>
    let mask := (s.ctx c).m (w.f 53 51)
    let d := s.hnd (w.h 34)
    s.dispatchVec c w .vlut mask none ([s.handleFault c (w.h 34) mask] ++ s.shaped c mask (w.h 22) d.sameShape)
      fun no set s => (s.regReader no (w.h 22) set).regWriter no (w.h 34) set)

/-- VLUT, FORM 1 (R106, R188). -/
def execVlutBack (c : Cid) (w : NWords) (s : State) : Host.Outcome State Fault Refusal :=
  .next (s.seqRun c (Enc.vlut 1 w) [] fun s =>
    let mask := (s.ctx c).m (w.f 53 51)
    let d := s.hnd (w.h 34)
    s.dispatchVec c w .vlutBack mask none
      ([s.handleFault c (w.h 34) mask] ++ s.shaped c mask (w.h 22) d.sameShape ++ s.shaped c mask (w.h 10) d.sameShape)
      fun no set s => ((s.regReader no (w.h 22) set).regReader no (w.h 10) set).regWriter no (w.h 34) set)

/-- VLUT, FORM 2 (R107, R188). -/
def execVlutLoad (c : Cid) (w : NWords) (s : State) : Host.Outcome State Fault Refusal :=
  .next (s.seqRun c (Enc.vlut 2 w) [] fun s =>
    let mask := (s.ctx c).m (w.f 53 51)
    s.dispatchVec c w .vlutLoad mask none (s.imageChecks c mask (w.h 22) 6272) fun no set s => s.regReader no (w.h 22) set)

/-- VCVT (R189, R96). -/
def execVcvt (c : Cid) (w : NWords) (s : State) : Host.Outcome State Fault Refusal :=
  .next (s.seqRun c (Enc.vcvt w) (if w.xb 33 then [w.x 32 28] else []) fun s =>
    let mask := (s.ctx c).m (w.f 53 51)
    let hd := w.h 28
    let ha := w.h 16
    let h2 := w.xh 0
    let d := s.hnd hd
    let a := s.hnd ha
    let split := w.fb 42
    let srv := w.fb 3
    let rm := w.f 46 44
    let checks := [s.handleFault c hd mask, need (d.fmt.toNat == w.f 50 47) Ev.NUM_MODE] ++ s.shaped c mask ha d.sameShape ++
      (if split then
        [need (w.f 50 47 == 1 && !srv && a.fmt == 0 && (s.hnd h2).fmt == 1) Ev.NUM_MODE] ++ s.shaped c mask h2 d.sameShape
       else []) ++
      (if srv then s.recordChecks c mask (w.h 4) else []) ++
      [need (!s.numSolori || rm < 2) Ev.NUM_MODE, need (!devStream (w.x 27 12)) Ev.RNG_STREAM]
    s.dispatchVec c w .vcvt mask (flagReg (w.xb 33) (w.x 32 28)) checks fun no set s =>
      let s := (s.regReader no ha set).regWriter no hd set
      let s := if split then s.regWriter no h2 set else s
      if srv then s.register { no := no, h := w.h 4, set := set, rd := true, wr := w.fb 40 } else s)

/-- The format VRNG needs (R190). -/
def rngFmt (dist : Nat) : BitVec 4 := if dist = 0 then 11 else 0

/-- VRNG (R190). -/
def execVrng (c : Cid) (w : NWords) (s : State) : Host.Outcome State Fault Refusal :=
  .next (s.seqRun c (Enc.vrng w) [] fun s =>
    let mask := (s.ctx c).m (w.f 53 51)
    let hd := w.h 37
    s.dispatchVec c w .vrng mask none
      [s.handleFault c hd mask, need ((s.hnd hd).fmt == rngFmt (w.f 50 49)) Ev.NUM_MODE,
        need (!devStream (w.f 36 21)) Ev.RNG_STREAM] fun no set s => s.regWriter no hd set)

/-! ### What an instruction does at a station -/

/-- The outcome at a station: the state, the flags, and a fault. -/
structure VRes where
  st : State
  fl : Flags := {}
  fault : Option (BitVec 16) := none

/-- NAN_IN of a result's conversion: a NaN result is no NaN operand (R111), but as the source of a conversion to INT32 it sets the
flag (R691). -/
def Flags.ofResult (f : Flags) (fmt : Nat) : Flags := { f with nanIn := f.nanIn && fmt == 11 }

/-- Values of results with what their conversion adds to the flags. -/
def State.storeRows (s : State) (h : Handle) (i : StationId) (sol : Bool) (rows : List (List R32)) : State × Flags :=
  let k : Conv := { sol := sol }
  let p := s.writeRows h i 0 (rows.map fun r => r.map fun x => val32 x.v) k
  (p.1, Flags.or (Flags.all (rows.flatMap fun r => r.map fun x => x.fl)) (p.2.ofResult h.fmt.toNat))

def elem (t : List (List Val)) (r n : Nat) : Val := (t.getD r []).getD n (.fin false 0 0)

/-- One rounding to FP40, flushed in the Exact-Solori mode. -/
def fin40 (sol : Bool) (a b : Val) : Val × Flags :=
  let v := a.add b
  let cv := FFmt.fp40.convert v .rne false 0
  let r := val40 cv.bits
  let y := if sol then r.ftz else r
  (y, Flags.ofCv (a.isNan || b.isNan) { cv with uf := cv.uf || (sol && !v.isZero && !v.isNan && y.isZero) })

/-- ACC (R99, R185): every row of HA is added into the FP40 row. -/
def accRows (sol : Bool) (d : List Val) (rows : List (List Val)) : List Val × Flags :=
  rows.foldl (fun acc row =>
    let z := (acc.1.zip row).map fun p => fin40 sol p.1 (val32 (inFtz sol (rne32 p.2)))
    (z.map fun q => q.1, Flags.all (acc.2 :: z.map fun q => q.2))) (d, {})

/-- VOP with PROG = 0 at a station. -/
def State.runVop (s : State) (i : StationId) (x : SInst) : VRes :=
  let w := x.w
  let op := w.f 49 42
  let sol := s.numSolori
  let d := s.hnd (w.h 30)
  let a := s.hnd (w.h 18)
  let rows := d.rows.toNat
  let ta := s.readIn a i a.rows.toNat
  let tb := if opTakesB op then ta.2.1.readIn (s.hnd (w.h 6)) i rows else ([], ta.2.1, false)
  let tc := if opTakesC op then tb.2.1.readIn (s.hnd (w.xh 0)) i rows else ([], tb.2.1, false)
  if ta.2.2 || tb.2.2 || tc.2.2 then ⟨tc.2.1, {}, some Ev.BNK_UE⟩
  else if op = 14 then
    let td := tc.2.1.readIn d i 1
    if td.2.2 then ⟨td.2.1, {}, some Ev.BNK_UE⟩
    else
      let p := accRows sol (td.1.headD []) ta.1
      ⟨(td.2.1.writeRows d i 0 [p.1] {}).1, p.2, none⟩
  else
    let key := s.rngKey x.cid x.step x.eval
    let out := (List.range rows).map fun r => (List.range d.colsN).map fun n =>
      let av := rne32 (if op = 13 then (if w.xb 18 then elem ta.1 0 n else elem ta.1 r 0) else elem ta.1 r n)
      if op = 15 then maskFn sol (w.x 57 42) (rngWord key (r * d.colsN + n) i.val (w.x 41 26) % 65536) av
      else vopFn sol op (signedN (w.x 25 19) 7) av (rne32 (elem tb.1 r n)) (rne32 (elem tc.1 r n))
    let p := tc.2.1.storeRows d i sol out
    ⟨p.1, p.2, none⟩

/-- A VOP load at a station (R186). -/
def State.runVopLoad (s : State) (i : StationId) (x : SInst) : VRes :=
  let img := s.imageRead (s.hnd (x.w.h 18)) i 1088
  let ok := drainImageOk img.data
  let z : Slot := if ok && !img.ue then ⟨some (s.lead x.cid), img.data⟩ else {}
  let t := img.st.modStn i fun y => { y with drains := SMap.put y.drains {} (x.w.f 44 42) z }
  ⟨t, {}, if img.ue then some Ev.BNK_UE else if ok then none else some Ev.NUM_MODE⟩

/-- A table load at a station (R107). -/
def State.runLutLoad (s : State) (i : StationId) (x : SInst) : VRes :=
  let img := s.imageRead (s.hnd (x.w.h 22)) i 6272
  let ok := lutHeaderOk (img.data.take 3136) && lutHeaderOk (img.data.drop 3136)
  let z : Slot := if ok && !img.ue then ⟨some (s.lead x.cid), img.data⟩ else {}
  let t := img.st.modStn i fun y => { y with tables := SMap.put y.tables {} (x.w.f 48 46) z }
  ⟨t, {}, if img.ue then some Ev.BNK_UE else if ok then none else some Ev.LUT_FORMAT⟩

/-- VLUT at a station (R105, R106). -/
def State.runLut (s : State) (i : StationId) (x : SInst) (back : Bool) : VRes :=
  let w := x.w
  let z := (s.stn i).tableSlot (w.f 48 46)
  if !slotMine z (s.lead x.cid) then ⟨s, {}, some Ev.LUT_FORMAT⟩
  else
    let d := s.hnd (w.h 34)
    let rows := d.rows.toNat
    let ta := s.readTensor (s.hnd (w.h 22)) i rows
    let tb := if back then ta.2.1.readTensor (s.hnd (w.h 10)) i rows else ([], ta.2.1, false)
    if ta.2.2 || tb.2.2 then ⟨tb.2.1, {}, some Ev.BNK_UE⟩
    else
      let tab := if back then z.img.drop 3136 else z.img.take 3136
      let out := (List.range rows).map fun r => (List.range d.colsN).map fun n =>
        let v := lutEval tab (rne32 (elem ta.1 r n))
        val32 (if back then mul32 (rne32 (elem tb.1 r n)) v else v)
      ⟨(tb.2.1.writeRows d i 0 out {}).1, {}, none⟩

/-! ### Reductions (R100, R187, R96) -/

/-- Adjacent pairs, level by level, each addition rounded to FP40. -/
def pairSum : Nat → List Val → Val × Flags
  | 0, l => (l.headD (.fin false 0 0), {})
  | n + 1, l =>
    match l with
    | [] => (.fin false 0 0, {})
    | [v] => (v, {})
    | l =>
      let z := (chunks 2 l).map fun p => match p with
        | [a, b] => fin40 false a b
        | _ => (p.headD (.fin false 0 0), {})
      let r := pairSum n (z.map fun q => q.1)
      (r.1, Flags.all (r.2 :: z.map fun q => q.2))

/-- A sum as the Exact-Solori mode rounds it (R95), with the flags of its operands' own sums. -/
def solSum (x y : R32) : R32 :=
  let r := fin32 true false ((val32 x.v).add (val32 y.v))
  ⟨r.v, Flags.or (Flags.or x.fl y.fl) r.fl⟩

/-- One level of pairs; a last single value goes up unrounded. -/
def solLevel : List R32 → List R32
  | x :: y :: t => solSum x y :: solLevel t
  | l => l

def solPairs : Nat → List R32 → R32
  | 0, l => l.headD ⟨0, {}⟩
  | n + 1, l => match l with
    | [] => ⟨0, {}⟩
    | [x] => x
    | l => solPairs n (solLevel l)

/-- The chunk-and-pair order of R95 over the elements of a row, with flags (R96, R111). -/
def chunkSum (vs : List Val) : R32 :=
  let cs := (chunks 32 vs).map fun l => fin32 true false (l.foldl Val.add (.fin false 0 0))
  solPairs cs.length cs

/-- MAX, MIN or AMAX of values. -/
def pickAll (mx : Bool) (l : List Val) : Val :=
  match l with
  | [] => .nan
  | v :: t => t.foldl (pickVal mx) v

/-- One row reduced at a station: the value and its flags. Lanes beyond the row add +0 and take no part in an extremum
(log entry 24). -/
def redRow (sol : Bool) (fn : Nat) (a b : List Val) : Val × Flags :=
  let nan := a.any Val.isNan || (fn == 2 && b.any Val.isNan)
  if 3 ≤ fn then (pickAll (fn != 4) (if fn = 5 then a.map Val.abs else a), { nanIn := nan })
  else
    let lanes := match fn with
      | 0 => a
      | 1 => a.map fun v => v.mul v
      | _ => (a.zip b).map fun p => p.1.mul p.2
    if sol then
      let r := chunkSum lanes
      let v := val32 r.v
      (v, { r.fl with nv := v.isNan && !nan, nanIn := nan })
    else
      let r := pairSum 8 (lanes ++ List.replicate (128 - lanes.length) (.fin false 0 0))
      (r.1, { r.2 with nv := r.1.isNan && !nan, nanIn := nan })

/-- Combination along the run (R100). A NaN that a station's own sum has made is no NaN operand (R111). -/
def redJoin (sol : Bool) (fn : Nat) (a b : Val) : Val × Flags :=
  if 3 ≤ fn then (pickVal (fn != 4) a b, {})
  else if sol then
    let r := fin32 true (a.isNan || b.isNan) (a.add b)
    (val32 r.v, { r.fl with nanIn := false })
  else
    let r := fin40 false a b
    (r.1, { r.2 with nanIn := false })

/-- The column of results of one function at a station. -/
def redCol (sol : Bool) (fn : Nat) (ta tb : List (List Val)) : List (Val × Flags) :=
  (ta.zip (List.range ta.length)).map fun p => redRow sol fn p.1 (tb.getD p.2 [])

/-- The run chain's words (R101): each quantity takes `ceil(5 * rows / 256)` lane words, 3 for 128 rows, over every inbye hop of the run
and back over every outbye hop, as a pass's words do (R76). -/
def State.chainWords (s : State) (run : List StationId) (words : Nat) : State :=
  let s := run.dropLast.foldl (fun s i => s.laneWords words (i, false)) s
  (run.drop 1).reverse.foldl (fun s i => s.laneWords words (i, true)) s

/-- VRED over a group of stations that share one result: a station, or a run. -/
def State.runVred (s : State) (grp : List StationId) (x : SInst) : VRes :=
  let w := x.w
  let sol := s.numSolori
  let f1 := w.f 50 48
  let f2 := w.f 47 45
  let a := s.hnd (w.h 20)
  let dot := f1 == 2 || f2 == 2
  let rows := a.rows.toNat
  let rd := grp.foldl (fun (acc : List (List (List Val) × List (List Val)) × State × Bool) i =>
    let p := acc.2.1.readIn a i rows
    let q := if dot then p.2.1.readIn (s.hnd (w.h 8)) i rows else ([], p.2.1, false)
    (acc.1 ++ [(p.1, q.1)], q.2.1, acc.2.2 || p.2.2 || q.2.2)) ([], s, false)
  if rd.2.2 then ⟨rd.2.1, {}, some Ev.BNK_UE⟩
  else
    let total (fn : Nat) : List (Val × Flags) :=
      match rd.1.map fun t => redCol sol fn t.1 t.2 with
      | [] => []
      | c :: t => t.foldl (fun acc col => (acc.zip col).map fun p =>
          let j := redJoin sol fn p.1.1 p.2.1
          (j.1, Flags.or (Flags.or p.1.2 p.2.2) j.2)) c
    let put (s : State) (h : HandleId) (col : List (Val × Flags)) : State × Flags :=
      grp.foldl (fun acc i =>
        let p := acc.1.writeRows (s.hnd h) i 0 (col.map fun q => [q.1]) {}
        (p.1, Flags.or acc.2 (p.2.ofResult (s.hnd h).fmt.toNat))) (s, Flags.all (col.map fun q => q.2))
    let s := if w.fb 44 then rd.2.1.chainWords grp (ceilDiv (5 * rows) 256 * (if f2 = 7 then 1 else 2)) else rd.2.1
    let p := put s (w.h 32) (total f1)
    if f2 = 7 then ⟨p.1, p.2, none⟩
    else
      let q := put p.1 (w.xh 0) (total f2)
      ⟨q.1, Flags.or p.2 q.2, none⟩

/-! ### Conversions (R189) -/

/-- What the low part of a split is the rounding of (R91). -/
def splitRest (v : Val) : Val :=
  match v with
  | .fin _ m e =>
    if magLt m e 1 (-126) then .fin false 0 0 else v.add (FFmt.bf16.decode (FFmt.bf16.convert v .rne false 0).bits).negate
  | .inf _ => .fin false 0 0
  | .nan => .nan

/-- The parts of a split, each an exact value and its BF16 (R91), saturated as SAT says (R86) and flushed in the Exact-Solori mode
(R96). -/
def splitPart (sol sat : Bool) (v : Val) : Val × Cv := (v, flushCv sol 1 v (FFmt.bf16.convert v .rne sat 0))

/-- The larger of two magnitudes `m * 2^e`. -/
def magMax (a b : Nat × Int) : Nat × Int := if magLt a.1 a.2 b.1 b.2 then b else a

/-- VCVT at a station. -/
def State.runVcvt (s : State) (i : StationId) (x : SInst) : VRes :=
  let w := x.w
  let sol := s.numSolori
  let d := s.hnd (w.h 28)
  let srv := w.fb 3
  let hr := w.h 4
  let rowB := !w.fb 41
  let t := s.readIn (s.hnd (w.h 16)) i d.rows.toNat rowB
  let rc := if srv then t.2.1.bunkRead i ((s.hnd hr).rowAt 0) 16 else ⟨[], t.2.1, false⟩
  if t.2.2 || rc.ue then ⟨rc.st, {}, some Ev.BNK_UE⟩
  else
    let e := if srv then signedN (leAt rc.data 0 1) 8 else signedN (w.x 40 34) 7
    let src := t.1
    let vs := src.map fun r => r.map fun v => v.scale e
    if w.fb 42 then
      let part (f : Val → Val) : List (List (Val × Cv)) := vs.map fun r => r.map fun v => splitPart sol (w.fb 43) (f v)
      let put (s : State) (h : Handle) (l : List (List (Val × Cv))) : State :=
        (l.zip (List.range l.length)).foldl (fun s p => s.rowWrite h i p.2 (p.1.map fun q => q.2.bits)) s
      let hi := part id
      let lo := part splitRest
      let fl (l : List (List (Val × Cv))) : Flags := Flags.all (l.flatMap fun r => r.map fun q => srcFlags q.1 q.2)
      ⟨put (put rc.st d hi) (s.hnd (w.xh 0)) lo, Flags.or (fl hi) (fl lo), none⟩
    else
      let key := s.rngKey x.cid x.step x.eval
      let k : Conv := { rm := rmOf (w.f 46 44), sat := w.fb 43, rowBlocks := rowB, sol := sol
                        rn := fun n => rngWord key n i.val (w.x 27 12) % 65536 }
      let p := rc.st.writeRows d i 0 vs k
      if !srv then ⟨p.1, p.2, none⟩
      else
        -- the local maximum before scaling, and the local count (R90)
        let mags := src.flatMap fun r => r.filterMap fun v => match v with
          | .fin _ m e => some (m, e)
          | _ => none
        let t := p.1.modStn i fun y =>
          let z := SMap.val y.scales {} hr.toNat
          let mm := mags.foldl magMax (z.m, z.e)
          { y with scales := SMap.put y.scales {} hr.toNat ⟨mm.1, mm.2, z.sat + p.2.ovr⟩ }
        ⟨t, p.2, none⟩

/-- VRNG at a station (R110). -/
def State.runVrng (s : State) (i : StationId) (x : SInst) : VRes :=
  let w := x.w
  let d := s.hnd (w.h 37)
  let key := s.rngKey x.cid x.step x.eval
  let t := (List.range d.rows.toNat).foldl (fun s r =>
    s.rowWrite d i r ((List.range d.colsN).map fun n =>
      rngElem key (w.f 50 49) (r * d.colsN + n) i.val (w.f 36 21) (w.f 20 5))) s
  ⟨t, {}, none⟩

/-! ### Issue and end -/

/-- An issued instruction of the station that has not finished and that `p` selects. -/
def State.runningAt (s : State) (i : StationId) (p : SInst → Bool) : Bool :=
  s.insts.any fun e => match e.2 with
    | some x => has x.issued i && !has x.done i && p x
    | none => false

/-- A table slot is in use by an issued VLUT, or by a DRAIN whose program evaluates it (R107). -/
def State.tableBusy (s : State) (i : StationId) (k : Nat) : Bool :=
  s.runningAt i fun x =>
    ((x.kind == .vlut || x.kind == .vlutBack) && x.w.f 48 46 == k) ||
      (x.kind == .drain && (drainSteps ((s.stn i).drainSlot (x.w.f 48 46)).img).any fun w => bits w 0 4 == 2 && bits w 4 3 == k)

/-- A drain-program slot is in use by an issued DRAIN (R186). -/
def State.progBusy (s : State) (i : StationId) (k : Nat) : Bool :=
  s.runningAt i fun x => x.kind == .drain && x.w.f 48 46 == k

/-- The registered accesses of the instruction allow it to issue at the station (R42, R221). -/
def State.accessReady (s : State) (no : Nat) (i : StationId) : Bool :=
  (s.accs.filter fun a => a.no == no && has a.set i).all fun a =>
    (!a.rd || s.complete a.h no i) && (!a.wr || s.writable a.h no i)

/-- The stations whose results appear with the issue at a station: the station, or its run once all of it has issued. -/
def redGroup (x : SInst) (i : StationId) : List StationId :=
  if x.w.fb 44 then
    match runsOf x.mask (x.w.f 7 1 + 1) with
    | some g => match g.find? fun r => r.contains i with
      | some r => if r.all fun j => j == i || has x.issued j then r else []
      | none => []
    | none => []
  else [i]

/-- The work of a vector instruction at a station. -/
def State.runVector (s : State) (i : StationId) (x : SInst) : VRes :=
  match x.kind with
  | .vop => s.runVop i x
  | .vopLoad => s.runVopLoad i x
  | .vred => let g := redGroup x i; if g.isEmpty then ⟨s, {}, none⟩ else s.runVred g x
  | .vlut => s.runLut i x false
  | .vlutBack => s.runLut i x true
  | .vlutLoad => s.runLutLoad i x
  | .vcvt => s.runVcvt i x
  | .vrng => s.runVrng i x
  | _ => ⟨s, {}, none⟩

def SKind.vector : SKind → Bool
  | .vop => true
  | .vopLoad => true
  | .vred => true
  | .vlut => true
  | .vlutBack => true
  | .vlutLoad => true
  | .vcvt => true
  | .vrng => true
  | _ => false

/-- VECTOR_ISSUE (R98): the instruction at the head of the station's queue, when its handles are ready. A VLUT whose slot is not its
context's faults as soon as it is at the head (R107). -/
def execVectorIssue (st : StationId) (s : State) : Host.Outcome State Fault Refusal :=
  match s.headInst st with
  | none => .next s
  | some (no, x) =>
    let busy := match x.kind with
      | .vopLoad => s.progBusy st (x.w.f 44 42)
      | .vlutLoad => s.tableBusy st (x.w.f 48 46)
      | _ => false
    if (x.kind == .vlut || x.kind == .vlutBack) && !slotMine ((s.stn st).tableSlot (x.w.f 48 46)) (s.lead x.cid) then
      .next (s.faultCtx x.cid Ev.LUT_FORMAT (srcStn st))
    else if !x.kind.vector || busy || !s.accessReady no st then .next s
    else
      let r := (if x.kind == .vopLoad || x.kind == .vlutLoad then s.secSlots no else s).runVector st x
      match r.fault with
      | some f => .next (r.st.faultCtx x.cid f (srcStn st))
      | none =>
        let t := (r.st.popInst st no).modInst no fun y => { y with flags := y.flags ||| r.fl.bits5, satCnt := y.satCnt + r.fl.cnt }
        .next (t.pcEvent 5 st.val 1)

/-- The end of a tensor: the scale record takes its next exponent at every station of its handle (R90). The maximum of an FP40 or INT32
tensor may be no FP32 value, and R90 names no rounding for AMAX: it is rounded to nearest even (DESIGN CHOICE, log entry 119). -/
def State.recordUpdate (s : State) (c : Cid) (h : HandleId) : State :=
  let x := s.hnd h
  let seam := stationsOf (s.seamSet c)
  let loc (i : StationId) : ScaleLoc := SMap.val (s.stn i).scales {} h.toNat
  let a := (seam.map fun i => ((loc i).m, (loc i).e)).foldl magMax (0, 0)
  let sat := (seam.map fun i => (loc i).sat).sum
  let old := s.bunkBits.read (slice ((stationsOf x.set).headD 0) + x.rowAt 0) 16
  let e := signedN (leAt old 0 1) 8
  let b1 := leAt old 1 1
  let hh : Int := if b1 % 8 = 0 then 1 else (b1 % 8 : Nat)
  let emax : Int := if fieldN b1 3 1 = 1 then 127 else 15
  let next : Int :=
    if fieldN b1 4 1 = 1 then e
    else if 0 < sat then e - hh - 1
    else if a.1 = 0 then e
    else min (emax - flog2 a.1 a.2 - hh) (e + 1)
  let e' := max (-64) (min 63 next)
  let new := bytesOf 4 (rne32 (.fin false a.1 a.2)) ++ bytesOf 4 (sat % 2 ^ 32) ++ bytesOf 4 ((leAt old 12 4 + 1) % 2 ^ 32)
  let s := (stationsOf x.set).foldl (fun s i =>
    (s.bunkWrite i (x.rowAt 0) [BitVec.ofInt 8 e']).bunkWrite i (x.rowAt 0 + 4) new) s
  seam.foldl (fun s i => s.modStn i fun y => { y with scales := SMap.del y.scales h.toNat }) s

/-- The flag word reaches the scalar in every copy of the context; a copy that has not come to the instruction takes it there. -/
def State.giveFlag (s : State) (c : Cid) (ord : Nat) (v : Word) : State :=
  (s.copies c).foldl (fun s d => s.modCtx d fun x =>
    match x.flagWait.find? fun p => p.2 == ord with
    | some p => { x.setS p.1 v with flagWait := x.flagWait.filter fun q => q.2 != ord }
    | none => { x with flagPeer := x.flagPeer ++ [(ord, v)] }) s

/-- Handles that the instruction has written whole, with the rows written at each station. -/
def SInst.wrote (s : State) (x : SInst) : List (HandleId × Nat) :=
  let w := x.w
  let full (h : HandleId) : HandleId × Nat := (h, (s.hnd h).rows.toNat)
  match x.kind with
  | .vop => [full (w.h 30)]
  | .vred => full (w.h 32) :: (if w.f 47 45 = 7 then [] else [full (w.xh 0)])
  | .vlut => [full (w.h 34)]
  | .vlutBack => [full (w.h 34)]
  | .vcvt => full (w.h 28) :: ((if w.fb 42 then [full (w.xh 0)] else []) ++ (if w.fb 3 && w.fb 40 then [(w.h 4, 1)] else []))
  | .vrng => [full (w.h 37)]
  | _ => []

/-- VECTOR_FINISH (R111): the instruction has finished at every station of its mask. -/
def execVectorFinish (no : Nat) (s : State) : Host.Outcome State Fault Refusal :=
  match s.inst no with
  | none => .next s
  | some x =>
    if !x.kind.vector || !subset x.mask x.issued then .next s
    else
      let s := if x.kind = .vcvt && x.w.fb 3 && x.w.fb 40 then s.recordUpdate x.cid (x.w.h 4) else s
      let s := (x.wrote s).foldl (fun s p => s.addFill p.1 p.2) s
      let s := (stationsOf x.mask).foldl (fun s i => s.traceDone i x) s
      let s := (s.endNo no).setInst no none
      .next (match x.flagNo with
        | some k => s.giveFlag x.cid k (flagWord x.flags x.satCnt)
        | none => s)

end Sys2Proof.Machine
end

