-- ==== Sys2Proof/Machine/Dispatch.lean ====
section
/-! DEFINITION. What each command does to everything but the queue: one arm for each constructor of `Instr`. -/

namespace Sys2Proof.Machine

def exec (i : Instr) (s : State) : Host.Outcome State Fault Refusal :=
  match i with
  | .nop c w => Sys2Proof.Machine.execNop c w s
  | .halt c w => Sys2Proof.Machine.execHalt c w s
  | .br c w => Sys2Proof.Machine.execBr c w s
  | .brc c w => Sys2Proof.Machine.execBrc c w s
  | .loop c w => Sys2Proof.Machine.execLoop c w s
  | .endloop c w => Sys2Proof.Machine.execEndloop c w s
  | .call c w => Sys2Proof.Machine.execCall c w s
  | .ret c w => Sys2Proof.Machine.execRet c w s
  | .sets c w => Sys2Proof.Machine.execSets c w s
  | .salu c w => Sys2Proof.Machine.execSalu c w s
  | .salui c w => Sys2Proof.Machine.execSalui c w s
  | .lds c w => Sys2Proof.Machine.execLds c w s
  | .ldsReturn c sd => Sys2Proof.Machine.execLdsReturn c sd s
  | .sts c w => Sys2Proof.Machine.execSts c w s
  | .segment c w => Sys2Proof.Machine.execSegment c w s
  | .commit c w => Sys2Proof.Machine.execCommit c w s
  | .bellwait c w => Sys2Proof.Machine.execBellwait c w s
  | .barrier c w => Sys2Proof.Machine.execBarrier c w s
  | .barrierPass c => Sys2Proof.Machine.execBarrierPass c s
  | .fence c w => Sys2Proof.Machine.execFence c w s
  | .fencePass c => Sys2Proof.Machine.execFencePass c s
  | .mma c w => Sys2Proof.Machine.execMma c w s
  | .accload c w => Sys2Proof.Machine.execAccload c w s
  | .drain c w => Sys2Proof.Machine.execDrain c w s
  | .ringinj c w => Sys2Proof.Machine.execRinginj c w s
  | .ringret c w => Sys2Proof.Machine.execRingret c w s
  | .arrayIssue st => Sys2Proof.Machine.execArrayIssue st s
  | .ringGroupIssue c tag => Sys2Proof.Machine.execRingGroupIssue c tag s
  | .bankExchangeEnd st bank => Sys2Proof.Machine.execBankExchangeEnd st bank s
  | .mmaResidueOutcome st bank clean row col => Sys2Proof.Machine.execMmaResidueOutcome st bank clean row col s
  | .residueFault st bank row col => Sys2Proof.Machine.execResidueFault st bank row col s
  | .replayPassIssue st bank => Sys2Proof.Machine.execReplayPassIssue st bank s
  | .passRetire c tag => Sys2Proof.Machine.execPassRetire c tag s
  | .ringretCaptureEnd st tag => Sys2Proof.Machine.execRingretCaptureEnd st tag s
  | .stationHoldStart st cause => Sys2Proof.Machine.execStationHoldStart st cause s
  | .stationHoldEnd hold => Sys2Proof.Machine.execStationHoldEnd hold s
  | .vop c w => Sys2Proof.Machine.execVop c w s
  | .vopLoadProg c w => Sys2Proof.Machine.execVopLoadProg c w s
  | .vred c w => Sys2Proof.Machine.execVred c w s
  | .vlut c w => Sys2Proof.Machine.execVlut c w s
  | .vlutBack c w => Sys2Proof.Machine.execVlutBack c w s
  | .vlutLoad c w => Sys2Proof.Machine.execVlutLoad c w s
  | .vcvt c w => Sys2Proof.Machine.execVcvt c w s
  | .vrng c w => Sys2Proof.Machine.execVrng c w s
  | .vectorIssue st => Sys2Proof.Machine.execVectorIssue st s
  | .vectorFinish no => Sys2Proof.Machine.execVectorFinish no s
  | .stream c w => Sys2Proof.Machine.execStream c w s
  | .streamp c w => Sys2Proof.Machine.execStreamp c w s
  | .waith c w => Sys2Proof.Machine.execWaith c w s
  | .waithRelease c => Sys2Proof.Machine.execWaithRelease c s
  | .saveact c w => Sys2Proof.Machine.execSaveact c w s
  | .loadact c w => Sys2Proof.Machine.execLoadact c w s
  | .halloc c w => Sys2Proof.Machine.execHalloc c w s
  | .hfree c w => Sys2Proof.Machine.execHfree c w s
  | .hpurge c w => Sys2Proof.Machine.execHpurge c w s
  | .handleHoldEnd h => Sys2Proof.Machine.execHandleHoldEnd h s
  | .millstep c w => Sys2Proof.Machine.execMillstep c w s
  | .coefset c w => Sys2Proof.Machine.execCoefset c w s
  | .coefswap c w => Sys2Proof.Machine.execCoefswap c w s
  | .vupdate c w => Sys2Proof.Machine.execVupdate c w s
  | .reduce c w => Sys2Proof.Machine.execReduce c w s
  | .gather c w => Sys2Proof.Machine.execGather c w s
  | .bcast c w => Sys2Proof.Machine.execBcast c w s
  | .send c w => Sys2Proof.Machine.execSend c w s
  | .recv c w => Sys2Proof.Machine.execRecv c w s
  | .secure c w => Sys2Proof.Machine.execSecure c w s
  | .markpos c w => Sys2Proof.Machine.execMarkpos c w s
  | .rngsave c w => Sys2Proof.Machine.execRngsave c w s
  | .evalbegin c w => Sys2Proof.Machine.execEvalbegin c w s
  | .evalend c w => Sys2Proof.Machine.execEvalend c w s
  | .tokenTransfer => Sys2Proof.Machine.execTokenTransfer s
  | .splitCharge c => Sys2Proof.Machine.execSplitCharge c s
  | .segmentComplete c => Sys2Proof.Machine.execSegmentComplete c s
  | .bell => Sys2Proof.Machine.execBell s
  | .slotPreread => Sys2Proof.Machine.execSlotPreread s
  | .cmdStop c => Sys2Proof.Machine.execCmdStop c s
  | .cmdResume c => Sys2Proof.Machine.execCmdResume c s
  | .cmdKill c => Sys2Proof.Machine.execCmdKill c s
  | .cmdPreempt c target => Sys2Proof.Machine.execCmdPreempt c target s
  | .contextPurgeDone c => Sys2Proof.Machine.execContextPurgeDone c s
  | .seqBellOriginWrite who v => Sys2Proof.Machine.execSeqBellOriginWrite who v s
  | .seqBellWrite who v => Sys2Proof.Machine.execSeqBellWrite who v s
  | .bnkHselWrite who v => Sys2Proof.Machine.execBnkHselWrite who v s
  | .bnkHent0Read who => Sys2Proof.Machine.execBnkHent0Read who s
  | .bankSleepReq st v => Sys2Proof.Machine.execBankSleepReq st v s
  | .bankWakeReq st v => Sys2Proof.Machine.execBankWakeReq st v s
  | .bankPowerDown st bank => Sys2Proof.Machine.execBankPowerDown st bank s
  | .pwrDefer st bank => Sys2Proof.Machine.execPwrDefer st bank s
  | .bankWakeDone st bank => Sys2Proof.Machine.execBankWakeDone st bank s
  | .bankAutoSleep st bank => Sys2Proof.Machine.execBankAutoSleep st bank s
  | .scrubRead st line => Sys2Proof.Machine.execScrubRead st line s
  | .bnkScrubSlow st => Sys2Proof.Machine.execBnkScrubSlow st s
  | .bnkPurgeDone h => Sys2Proof.Machine.execBnkPurgeDone h s
  | .streamCheckDone hub q => Sys2Proof.Machine.execStreamCheckDone hub q s
  | .engineGrant hub q => Sys2Proof.Machine.execEngineGrant hub q s
  | .streamRowWrite hub q => Sys2Proof.Machine.execStreamRowWrite hub q s
  | .loadactSectionCheck hub q => Sys2Proof.Machine.execLoadactSectionCheck hub q s
  | .streamFinish hub q => Sys2Proof.Machine.execStreamFinish hub q s
  | .shadowStart hub q => Sys2Proof.Machine.execShadowStart hub q s
  | .queueDrainDone hub q lines => Sys2Proof.Machine.execQueueDrainDone hub q lines s
  | .crossbarRound hub grants => Sys2Proof.Machine.execCrossbarRound hub grants s
  | .rgnAllocate who r v => Sys2Proof.Machine.execRgnAllocate who r v s
  | .rgnRelease who r v => Sys2Proof.Machine.execRgnRelease who r v s
  | .hbmPurgeDone r => Sys2Proof.Machine.execHbmPurgeDone r s
  | .patrolScrub ctrl offset => Sys2Proof.Machine.execPatrolScrub ctrl offset s
  | .samplePushWrite store weight bytes => Sys2Proof.Machine.execSamplePushWrite store weight bytes s
  | .memSmpLoad c v => Sys2Proof.Machine.execMemSmpLoad c v s
  | .millAccept m => Sys2Proof.Machine.execMillAccept m s
  | .millUpdateStart m => Sys2Proof.Machine.execMillUpdateStart m s
  | .millUpdateFinish m => Sys2Proof.Machine.execMillUpdateFinish m s
  | .kronRefreshDone m => Sys2Proof.Machine.execKronRefreshDone m s
  | .stockpilePurgeDone r => Sys2Proof.Machine.execStockpilePurgeDone r s
  | .vupdateIssue c => Sys2Proof.Machine.execVupdateIssue c s
  | .frameReceive p no cwA cwB frame => Sys2Proof.Machine.execFrameReceive p no cwA cwB frame s
  | .linkReplay p no => Sys2Proof.Machine.execLinkReplay p no s
  | .controlFlit p ctl => Sys2Proof.Machine.execControlFlit p ctl s
  | .linkDown p => Sys2Proof.Machine.execLinkDown p s
  | .laneSpare p lane => Sys2Proof.Machine.execLaneSpare p lane s
  | .linkRetrainDone p lanes => Sys2Proof.Machine.execLinkRetrainDone p lanes s
  | .bknRetrainCmd p => Sys2Proof.Machine.execBknRetrainCmd p s
  | .portPairing p info => Sys2Proof.Machine.execPortPairing p info s
  | .pairingRetry p => Sys2Proof.Machine.execPairingRetry p s
  | .remoteWrite msg => Sys2Proof.Machine.execRemoteWrite msg s
  | .samplePushMsg msg => Sys2Proof.Machine.execSamplePushMsg msg s
  | .managementMsg msg => Sys2Proof.Machine.execManagementMsg msg s
  | .fabricResetMsg p msg sigOk => Sys2Proof.Machine.execFabricResetMsg p msg sigOk s
  | .messageRoute p msg cls => Sys2Proof.Machine.execMessageRoute p msg cls s
  | .heartbeatReceive p msg => Sys2Proof.Machine.execHeartbeatReceive p msg s
  | .bknTimeLost => Sys2Proof.Machine.execBknTimeLost s
  | .neighbourSuspect dir allLost => Sys2Proof.Machine.execNeighbourSuspect dir allLost s
  | .failureNotice p w1 w2 w3 => Sys2Proof.Machine.execFailureNotice p w1 w2 w3 s
  | .bknRtDataWrite who v => Sys2Proof.Machine.execBknRtDataWrite who v s
  | .reduceReadHs no => Sys2Proof.Machine.execReduceReadHs no s
  | .partialReceive msg => Sys2Proof.Machine.execPartialReceive msg s
  | .reduceDecide no => Sys2Proof.Machine.execReduceDecide no s
  | .gatherBlockReceive msg => Sys2Proof.Machine.execGatherBlockReceive msg s
  | .handoverComplete no => Sys2Proof.Machine.execHandoverComplete no s
  | .sendMsgReceive a => Sys2Proof.Machine.execSendMsgReceive a s
  | .regRd f => Sys2Proof.Machine.execRegRd f s
  | .regWr f => Sys2Proof.Machine.execRegWr f s
  | .regWrite who off v => Sys2Proof.Machine.execRegWrite who off v s
  | .memWr f => Sys2Proof.Machine.execMemWr f s
  | .memRd f => Sys2Proof.Machine.execMemRd f s
  | .flush f => Sys2Proof.Machine.execFlush f s
  | .enum f => Sys2Proof.Machine.execEnum f s
  | .untally f => Sys2Proof.Machine.execUntally f s
  | .resetReq f => Sys2Proof.Machine.execResetReq f s
  | .push f => Sys2Proof.Machine.execPush f s
  | .imgWr f => Sys2Proof.Machine.execImgWr f s
  | .imgGo f u => Sys2Proof.Machine.execImgGo f u s
  | .flitForward fromDn chan f => Sys2Proof.Machine.execFlitForward fromDn chan f s
  | .dnPortTrainDone up => Sys2Proof.Machine.execDnPortTrainDone up s
  | .event => Sys2Proof.Machine.execEvent s
  | .llxEvtLost => Sys2Proof.Machine.execLlxEvtLost s
  | .canaryCycle => Sys2Proof.Machine.execCanaryCycle s
  | .surfaceCycle x => Sys2Proof.Machine.execSurfaceCycle x s
  | .securingCommitRecord => Sys2Proof.Machine.execSecuringCommitRecord s
  | .securingAck relief => Sys2Proof.Machine.execSecuringAck relief s
  | .securingAbandon => Sys2Proof.Machine.execSecuringAbandon s
  | .reliefPairReq who n v => Sys2Proof.Machine.execReliefPairReq who n v s
  | .declaration msg => Sys2Proof.Machine.execDeclaration msg s
  | .reliefPairRetry n => Sys2Proof.Machine.execReliefPairRetry n s
  | .rlfRoleWrite who v => Sys2Proof.Machine.execRlfRoleWrite who v s
  | .rlfActivated entry => Sys2Proof.Machine.execRlfActivated entry s
  | .rejoinReply sa => Sys2Proof.Machine.execRejoinReply sa s
  | .rejoinTimeout => Sys2Proof.Machine.execRejoinTimeout s
  | .assay idx u v => Sys2Proof.Machine.execAssay idx u v s
  | .catchupRequest msg => Sys2Proof.Machine.execCatchupRequest msg s
  | .catchupCopy => Sys2Proof.Machine.execCatchupCopy s
  | .catchupApply => Sys2Proof.Machine.execCatchupApply s
  | .release msg => Sys2Proof.Machine.execRelease msg s
  | .servedCopy entry dst => Sys2Proof.Machine.execServedCopy entry dst s
  | .sfcProfileWrite who v => Sys2Proof.Machine.execSfcProfileWrite who v s
  | .clkStepAt who v => Sys2Proof.Machine.execClkStepAt who v s
  | .stepPoint point => Sys2Proof.Machine.execStepPoint point s
  | .droopStretch r on => Sys2Proof.Machine.execDroopStretch r on s
  | .xingFallback r xing => Sys2Proof.Machine.execXingFallback r xing s
  | .fastLimiterTrigger => Sys2Proof.Machine.execFastLimiterTrigger s
  | .limiterStretchTimeout => Sys2Proof.Machine.execLimiterStretchTimeout s
  | .limiterStretchEnd => Sys2Proof.Machine.execLimiterStretchEnd s
  | .limiterCeilRise => Sys2Proof.Machine.execLimiterCeilRise s
  | .inputCap => Sys2Proof.Machine.execInputCap s
  | .inputCapRelease => Sys2Proof.Machine.execInputCapRelease s
  | .surgeSpent => Sys2Proof.Machine.execSurgeSpent s
  | .surgeRestored => Sys2Proof.Machine.execSurgeRestored s
  | .thermCeilRise => Sys2Proof.Machine.execThermCeilRise s
  | .thermTrip => Sys2Proof.Machine.execThermTrip s
  | .pwrInput ok => Sys2Proof.Machine.execPwrInput ok s
  | .auxLoss ok => Sys2Proof.Machine.execAuxLoss ok s
  | .pwrDomReq who v => Sys2Proof.Machine.execPwrDomReq who v s
  | .domainPowerOn d => Sys2Proof.Machine.execDomainPowerOn d s
  | .por => Sys2Proof.Machine.execPor s
  | .pin level => Sys2Proof.Machine.execPin level s
  | .wdt => Sys2Proof.Machine.execWdt s
  | .peer => Sys2Proof.Machine.execPeer s
  | .dbg => Sys2Proof.Machine.execDbg s
  | .resetRelease src => Sys2Proof.Machine.execResetRelease src s
  | .releaseStepDone strap trim copyA copyB => Sys2Proof.Machine.execReleaseStepDone strap trim copyA copyB s
  | .memoryZeroFillDone unit => Sys2Proof.Machine.execMemoryZeroFillDone unit s
  | .sysrefEdge => Sys2Proof.Machine.execSysrefEdge s
  | .rstSwreq who v => Sys2Proof.Machine.execRstSwreq who v s
  | .cfgStoreWrite head body => Sys2Proof.Machine.execCfgStoreWrite head body s
  | .lastGasp => Sys2Proof.Machine.execLastGasp s
  | .imageVerify slot0 slot1 => Sys2Proof.Machine.execImageVerify slot0 slot1 s
  | .secRollbackWrite who v => Sys2Proof.Machine.execSecRollbackWrite who v s
  | .spdmRequest response => Sys2Proof.Machine.execSpdmRequest response s
  | .kick who => Sys2Proof.Machine.execKick who s
  | .holdupCharged energy => Sys2Proof.Machine.execHoldupCharged energy s
  | .stop who v => Sys2Proof.Machine.execStop who v s
  | .allstopRelease who => Sys2Proof.Machine.execAllstopRelease who s
  | .dbgrst who => Sys2Proof.Machine.execDbgrst who s
  | .dbgUnlock who v => Sys2Proof.Machine.execDbgUnlock who v s
  | .dbgRdSelWrite who v => Sys2Proof.Machine.execDbgRdSelWrite who v s
  | .dbgTrMark v => Sys2Proof.Machine.execDbgTrMark v s
  | .dbgPcCtlWrite who v => Sys2Proof.Machine.execDbgPcCtlWrite who v s
  | .traceRecordWrite hub => Sys2Proof.Machine.execTraceRecordWrite hub s
  | .remoteTrace msg => Sys2Proof.Machine.execRemoteTrace msg s
  | .extest drive => Sys2Proof.Machine.execExtest drive s
  | .samplePreload load => Sys2Proof.Machine.execSamplePreload load s
  | .idcode => Sys2Proof.Machine.execIdcode s
  | .dbgacc op off v => Sys2Proof.Machine.execDbgacc op off v s
  | .scansel r => Sys2Proof.Machine.execScansel r s
  | .scan => Sys2Proof.Machine.execScan s
  | .tapStop bit => Sys2Proof.Machine.execTapStop bit s
  | .bypass => Sys2Proof.Machine.execBypass s
  | .trst => Sys2Proof.Machine.execTrst s
  | .i2cRead off => Sys2Proof.Machine.execI2cRead off s
  | .pwrgdInLow => Sys2Proof.Machine.execPwrgdInLow s
  | .linkTrainingDone p => Sys2Proof.Machine.execLinkTrainingDone p s
  | .frameSend p => Sys2Proof.Machine.execFrameSend p s
  | .collectiveMsgReceive msg => Sys2Proof.Machine.execCollectiveMsgReceive msg s
  | .llxInvalidRequest f => Sys2Proof.Machine.execLlxInvalidRequest f s
  | .reliefPairTimeout n => Sys2Proof.Machine.execReliefPairTimeout n s
  | .securingItemRead idx => Sys2Proof.Machine.execSecuringItemRead idx s
  | .reliefRestoreDone => Sys2Proof.Machine.execReliefRestoreDone s
  | .portEnWrite who p en => Sys2Proof.Machine.execPortEnWrite who p en s

end Sys2Proof.Machine
end

