-- ==== Sys2Proof/Machine/Step.lean ====
section
/-! DEFINITION. One step of the block: the command at the front of the queue, or one cycle of the reference clock when no
command waits. -/

namespace Sys2Proof.Machine

/-- DESIGN CHOICE (log entry 2): on an empty queue the block lets one cycle of the 100 MHz reference go by. -/
def step (s : State) : Host.Outcome State Fault Refusal :=
  match s.pending with
  | [] => .next s.refTick
  | c :: rest => exec c { s with pending := rest }

/-- The command that a word spells, put at the front of the queue; `s` where the word spells none. -/
def State.withFetchWord (s : State) (nbits w : Nat) : State :=
  match Sys2Proof.decodeTableWord nbits w with
  | some c => { s with pending := c :: s.pending }
  | none => s

end Sys2Proof.Machine
end

