-- ==== Sys2Proof/Safety.lean ====
section
/-! DEFINITION. The terms that claims about the block use: a sound state, a sequencer that issues, what a context looks like after an
instruction of its own. -/

namespace Sys2Proof.Machine

/-- A sound state: device memory is in its canonical form. -/
abbrev State.Sound (s : State) : Prop := Memory.wf s.mem = true

/-- The context's sequencer issues its next instruction now: it runs, nothing stops it, and its segment is open. -/
abbrev State.Issues (s : State) (c : Cid) : Prop :=
  s.canExec c = true ∧ (s.ctx c).inSeg = true ∧ (s.ctx c).evalEnded = false

/-- No load or flag word is awaited in these scalars (R161). -/
abbrev Ctx.Settled (x : Ctx) (l : List Nat) : Prop := ∀ r ∈ l, x.scalarBusy r = false

/-- The context with its program position at `a`; it is past its segment's start. -/
def Ctx.moved (x : Ctx) (a : Word) : Ctx := { x with atStart := false, prog := { x.prog with pc := a } }

/-- The program position that follows `n` words. -/
def Ctx.after (x : Ctx) (n : Nat) : Word := x.prog.pc + 8 * BitVec.ofNat 64 n

/-- The program position a signed count of words away (R167). -/
def Ctx.away (x : Ctx) (off : Nat) : Word := x.prog.pc + 8 * (BitVec.ofNat 32 off).signExtend 64

/-- The context with a scalar written. -/
def Ctx.wrote (x : Ctx) (r : Nat) (v : Word) : Ctx := { x with prog := { x.prog with sregs := SMap.put x.prog.sregs 0 r v } }

/-- Between `s` and `t` the event `code` was raised (R477): it is the first raise since `s`, or the second where the trace trigger took an
all-stop before it (R644), among the raises that the device shows last. -/
def State.Raised (s t : State) (code : BitVec 16) (src : Src) (detail : Nat := 0) : Prop :=
  ∃ f ∈ t.llx.recent, f.code = code ∧ (f.number = s.llx.evNo ∨ f.number = s.llx.evNo + 1) ∧ f.source = BitVec.ofNat 8 src.source ∧ f.unit = BitVec.ofNat 8 src.unit ∧
    f.detail = BitVec.ofNat 64 detail

/-- Between `s` and `t` the event `code` was raised by the device itself, among at most four raises. -/
def State.Told (s t : State) (code : BitVec 16) : Prop :=
  ∃ f ∈ t.llx.recent, f.code = code ∧ (f.number - s.llx.evNo).toNat < 4 ∧ f.source = 0 ∧ f.unit = 0

/-- A counter field counts `n`, wrapping at its width. -/
def State.Counted (s t : State) (F : Fld) (n : Nat) (i : Nat := 0) (j : Nat := 0) : Prop :=
  t.fld F i j = (s.fld F i j + n) % 2 ^ F.width

/-- What the dispatch of a station instruction leaves (R161): it takes the next dispatch number and stands at the end of the queue of
every station of `set`, with its words and its effective offset, and nothing but the queues, the instruction, the context's own state and
the registered accesses (with FILL of a handle that gets its first writer, and the state of one whose provisional fill is effective from
then on, R193) has changed. -/
def State.Queued (s : State) (c : Cid) (w : NWords) (kind : SKind) (set : StationSet) (off : Nat) (t : State) : Prop :=
  t.dispNo = s.dispNo + 1 ∧
  (∃ i, t.inst s.dispNo = some i ∧ i.cid = c ∧ i.kind = kind ∧ i.w = w ∧ i.mask = set ∧ i.off = off ∧ i.issued = 0 ∧ i.done = 0) ∧
  (∀ no, no ≠ s.dispNo → t.inst no = s.inst no) ∧
  (∀ i, t.stn i = { s.stn i with queue := if has set i then (s.stn i).queue ++ [s.dispNo] else (s.stn i).queue }) ∧
  (∀ d, d ≠ c → t.ctx d = s.ctx d) ∧
  (∀ h, t.hnd h = { s.hnd h with fill := (t.hnd h).fill, st := (t.hnd h).st } ∧
    ((t.hnd h).st = (s.hnd h).st ∨ (t.hnd h).st = .provisional ∧ ∃ a ∈ t.accs, a.h = h ∧ a.prov = true)) ∧
  t = { s with dispNo := t.dispNo, insts := t.insts, stations := t.stations, ctxs := t.ctxs, accs := t.accs, handles := t.handles }

end Sys2Proof.Machine
end

