-- ==== Sys2Proof/Certificates/Slice0/Obligations.lean ====
section
/-! DEFINITION. The statements about the block. -/

open Sys2Proof
open Sys2Proof.Machine

/-- R166, R167, R169: NOP goes to the next word; BR and CALL go OFF words from their own word, BRC when COND holds of s[SA] and
s[SB] or zero, and else to the next word; CALL first writes the address of the next word into s[SL]; RET goes to s[SL]. Nothing else
in the block changes.
R122, R159, R161, R138: what stops an instruction before it has an effect, at a sequencer that runs. The first instruction of a
segment is SEGMENT, a word not encoded as its table says faults with SEQ_OPCODE, an instruction after EVALEND that is neither COMMIT nor
BELLWAIT with EVAL_PLACE, and one that waits for a scalar changes nothing. -/
def Obligations.BranchesGoWhereTheySay : Prop :=
  (∀ (c : Cid) (w : NWords) (s : State), s.Issues c →
     exec (.nop c 0) s = .next (s.setCtx c ((s.ctx c).moved ((s.ctx c).after 1))) ∧
     (Enc.br w = true → exec (.br c w) s = .next (s.setCtx c ((s.ctx c).moved ((s.ctx c).away (w.f 31 0))))) ∧
     (Enc.brc w = true → (s.ctx c).Settled [w.f 50 46, w.f 45 41] →
       exec (.brc c w) s = .next (s.setCtx c ((s.ctx c).moved (
         let a := (s.ctx c).s (w.f 50 46)
         let b := if w.f 40 40 = 1 then 0 else (s.ctx c).s (w.f 45 41)
         if (match w.f 53 51 with
             | 0 => a = b
             | 1 => a ≠ b
             | 2 => a.toInt < b.toInt
             | 3 => b.toInt ≤ a.toInt
             | 4 => a.toNat < b.toNat
             | _ => b.toNat ≤ a.toNat : Bool)
         then (s.ctx c).away (w.f 31 0) else (s.ctx c).after 1)))) ∧
     (Enc.call w = true → (s.ctx c).Settled [w.f 53 49] →
       exec (.call c w) s = .next (s.setCtx c (((s.ctx c).wrote (w.f 53 49) ((s.ctx c).after 1)).moved ((s.ctx c).away (w.f 31 0))))) ∧
     (Enc.ret w = true → (s.ctx c).Settled [w.f 53 49] →
       exec (.ret c w) s = .next (s.setCtx c ((s.ctx c).moved ((s.ctx c).s (w.f 53 49)))))) ∧
  (∀ (c : Cid) (w : NWords) (s : State), s.canExec c = true →
     ((s.ctx c).inSeg = false → exec (.salu c w) s = .next (s.seqFault c 0x0205) ∧ exec (.sets c w) s = .next (s.seqFault c 0x0205) ∧
       exec (.br c w) s = .next (s.seqFault c 0x0205)) ∧
     ((s.ctx c).inSeg = true →
       (Enc.salu w = false → exec (.salu c w) s = .next (s.seqFault c 0x0209)) ∧
       (Enc.br w = false → exec (.br c w) s = .next (s.seqFault c 0x0209)) ∧
       (∀ v : Word, v ≠ 0 → exec (.nop c v) s = .next (s.seqFault c 0x0209)) ∧
       (Enc.salu w = true → (s.ctx c).evalEnded = true → exec (.salu c w) s = .next (s.seqFault c 0x020F)) ∧
       (Enc.salu w = true → (s.ctx c).evalEnded = false → (s.ctx c).scalarBusy (w.f 48 44) = true → exec (.salu c w) s = .next s)))

/-- R168: LOOP loads c[CN] with COUNT or the low half of s[SA] and its loop address with the next word, and skips SKIP words when the
count is zero; ENDLOOP decrements c[CN], never below zero, and goes to the loop address while the result is not zero. -/
def Obligations.LoopsCount : Prop :=
  ∀ (c : Cid) (w : NWords) (s : State), s.Issues c →
    (Enc.loop w = true → (s.ctx c).Settled [w.f 50 46] →
      let x := s.ctx c
      let n : BitVec 32 := if w.f 51 51 = 1 then BitVec.ofNat 32 (w.f 45 24) else (x.s (w.f 50 46)).extractLsb' 0 32
      ∃ y, exec (.loop c w) s = .next (s.setCtx c y) ∧
        y.prog.loops = SMap.put x.prog.loops 0 (w.f 53 52) n ∧
        y.prog.loopAddr = SMap.put x.prog.loopAddr 0 (w.f 53 52) (x.after 1) ∧
        y.prog.pc = (if n = 0 then x.after (w.f 23 0) else x.after 1) ∧
        y = { x with atStart := false
                     prog := { x.prog with pc := y.prog.pc, loops := y.prog.loops, loopAddr := y.prog.loopAddr } }) ∧
    (Enc.endloop w = true →
      let x := s.ctx c
      let n := SMap.val x.prog.loops 0 (w.f 53 52)
      ∃ y, exec (.endloop c w) s = .next (s.setCtx c y) ∧
        y.prog.loops = SMap.put x.prog.loops 0 (w.f 53 52) (BitVec.ofNat 32 (n.toNat - 1)) ∧
        y.prog.pc = (if 1 < n.toNat then SMap.val x.prog.loopAddr 0 (w.f 53 52) else x.after 1) ∧
        y = { x with atStart := false, prog := { x.prog with pc := y.prog.pc, loops := y.prog.loops } })

/-- R170: SETS writes VALUE, s[SA] or the sign-extended IMM into s[SD], or into the low 64 or the high 32 bits of m[MD]. X together with
REG, a NEXT that does not match X, and DST 3 fault with SEQ_OPCODE. -/
def Obligations.SetsWritesItsDestination : Prop :=
  (∀ (c : Cid) (w : NWords) (s : State), s.Issues c →
    (w.f 43 43 = 1 ∧ w.f 42 42 = 1) ∨ w.next.toNat ≠ w.f 43 43 ∨ w.f 53 52 = 3 → exec (.sets c w) s = .next (s.seqFault c 0x0209)) ∧
  ∀ (c : Cid) (w : NWords) (s : State), s.Issues c → Enc.sets w = true → (s.ctx c).Settled [w.f 51 47, w.f 41 37] →
    let x := s.ctx c
    let v : Word := if w.f 43 43 = 1 then w.ext else if w.f 42 42 = 1 then x.s (w.f 41 37) else (BitVec.ofNat 32 (w.f 31 0)).signExtend 64
    let m : StationSet := SMap.val x.prog.masks 0 (w.f 46 44)
    ∃ y, exec (.sets c w) s = .next (s.setCtx c y) ∧
      y.prog.pc = x.after w.len ∧
      (w.f 53 52 = 0 → y.prog.sregs = SMap.put x.prog.sregs 0 (w.f 51 47) v ∧ y.prog.masks = x.prog.masks) ∧
      (w.f 53 52 = 1 → y.prog.sregs = x.prog.sregs ∧
        y.prog.masks = SMap.put x.prog.masks 0 (w.f 46 44) (m.extractLsb' 64 32 ++ v)) ∧
      (w.f 53 52 = 2 → y.prog.sregs = x.prog.sregs ∧
        y.prog.masks = SMap.put x.prog.masks 0 (w.f 46 44) (v.extractLsb' 0 32 ++ m.extractLsb' 0 64)) ∧
      y = { x with atStart := false, prog := { x.prog with pc := y.prog.pc, sregs := y.prog.sregs, masks := y.prog.masks } }

/-- R171: what the scalar unit computes in SALU and SALUI; FN 13 to 15 are invalid. -/
def Obligations.ScalarUnitComputes : Prop :=
  ∀ (c : Cid) (w : NWords) (s : State), s.Issues c →
    (13 ≤ w.f 38 35 → exec (.salu c w) s = .next (s.seqFault c 0x0209) ∧ exec (.salui c w) s = .next (s.seqFault c 0x0209)) ∧
    let f (fn : Nat) (a b : Word) : Word :=
      match fn with
      | 0 => BitVec.ofNat 64 (a.toNat + b.toNat)
      | 1 => BitVec.ofInt 64 (a.toInt - b.toInt)
      | 2 => BitVec.ofNat 64 (a.toNat * b.toNat)
      | 3 => a &&& b
      | 4 => a ||| b
      | 5 => a ^^^ b
      | 6 => BitVec.ofNat 64 (a.toNat * 2 ^ (b.toNat % 64))
      | 7 => BitVec.ofNat 64 (a.toNat / 2 ^ (b.toNat % 64))
      | 8 => BitVec.ofInt 64 (a.toInt / 2 ^ (b.toNat % 64))
      | 9 => if a.toInt < b.toInt then a else b
      | 10 => if a.toInt < b.toInt then b else a
      | 11 => if a.toInt < b.toInt then 1 else 0
      | _ => if a.toNat < b.toNat then 1 else 0
    (Enc.salu w = true → (s.ctx c).Settled [w.f 53 49, w.f 48 44, w.f 43 39] →
      exec (.salu c w) s = .next (s.setCtx c (((s.ctx c).wrote (w.f 53 49)
        (f (w.f 38 35) ((s.ctx c).s (w.f 48 44)) ((s.ctx c).s (w.f 43 39)))).moved ((s.ctx c).after 1)))) ∧
    (Enc.salui w = true → (s.ctx c).Settled [w.f 53 49, w.f 48 44] →
      exec (.salui c w) s = .next (s.setCtx c (((s.ctx c).wrote (w.f 53 49)
        (f (w.f 38 35) ((s.ctx c).s (w.f 48 44)) ((BitVec.ofNat 32 (w.f 31 0)).signExtend 64))).moved ((s.ctx c).after 1))))

/-- R122, R174, R138: SEGMENT begins the segment at a sequencer that runs and has none open: with NEWSTEP the step increases by 1, the
budget is noted, and the position goes to the next word. Nothing else changes in a block that no relief has activated.
R498, R496: in Bounded mode SEGMENT with NEWSTEP does not begin when step + 1 would pass S_c + L: the segment is empty, and HOLDS
counts it.
R123, R124, R173: COMMIT, BELLWAIT and HALT end the segment's issue; BELLWAIT notes the empty segments to follow; a ring-group
member without its RINGINJ faults with SEQ_GROUP (R174), and HALT inside an evaluation with EVAL_PLACE.
R138: EVALBEGIN directly after a SEGMENT without NEWSTEP sets the evaluation flag, EVALEND clears it and lets only COMMIT or BELLWAIT
follow; elsewhere they fault with EVAL_PLACE. -/
def Obligations.SegmentsBeginAndEnd : Prop :=
  (∀ (c : Cid) (w : NWords) (s : State), s.canExec c = true → (s.ctx c).inSeg = false → Enc.segment w = true →
     (w.f 53 53 = 1 → (s.ctx c).prog.evalFlag = false ∧ s.stepHeld c = false ∧ s.copyHeld c = false) →
     let x := s.ctx c
     let y : Ctx := { x with
       prog := { x.prog with pc := x.after 1, step := x.prog.step + BitVec.ofNat 63 (w.f 53 53) }
       inSeg := true, atStart := true, newstep := w.f 53 53 == 1, budget := BitVec.ofNat 16 (w.f 15 0), overBudget := false
       segStart := s.seqCyc }
     ∃ t, exec (.segment c w) s = .next t ∧ t.ctx c = y ∧ t.mem = s.mem ∧ (s.rlf.act = none → t = s.setCtx c y)) ∧
  (∀ (c : Cid) (w : NWords) (s : State), s.canExec c = true → (s.ctx c).inSeg = false → Enc.segment w = true →
     w.f 53 53 = 1 → (s.ctx c).prog.evalFlag = false → s.joined c = false →
     s.fld Fld.SFC_PROFILE_RESILIENCE = 0 → s.lead s.securedCtx = c → s.fld Fld.RLF_CFG_JOINED = 0 → s.fld Fld.RLF_CFG_L ≠ 0 →
     s.securedStep + s.fld Fld.RLF_CFG_L < (s.ctx c).prog.step.toNat + 1 →
     ∃ t, exec (.segment c w) s = .next t ∧
       t.ctx c = { s.ctx c with emptySeg := true, st := .waiting, segLen := 0 } ∧
       (∀ d, d ≠ c → t.ctx d = s.ctx d) ∧ t.fld Fld.RLF_CNT_HOLDS = (s.fld Fld.RLF_CNT_HOLDS + 1) % 2 ^ Fld.RLF_CNT_HOLDS.width) ∧
  (∀ (c : Cid) (w : NWords) (s : State), s.canExec c = true → (s.ctx c).inSeg = true →
     let y (h : Bool) (n : Nat) : Ctx := { (s.ctx c).moved ((s.ctx c).after 1) with ended := true, halting := h, waitBells := n }
     ((s.ctx c).unbound = [] →
       (Enc.none w = true → exec (.commit c w) s = .next (s.setCtx c (y false 0))) ∧
       (Enc.bellwait w = true → exec (.bellwait c w) s = .next (s.setCtx c (y false (w.f 7 0)))) ∧
       (Enc.none w = true → (s.ctx c).prog.evalFlag = false → (s.ctx c).evalEnded = false →
         exec (.halt c w) s = .next (s.setCtx c (y true 0)))) ∧
     ((s.ctx c).unbound ≠ [] → (Enc.none w = true → exec (.commit c w) s = .next (s.seqFault c 0x020A)) ∧
       (Enc.bellwait w = true → exec (.bellwait c w) s = .next (s.seqFault c 0x020A))) ∧
     (Enc.none w = true → (s.ctx c).prog.evalFlag = true → exec (.halt c w) s = .next (s.seqFault c 0x020F))) ∧
  (∀ (c : Cid) (w : NWords) (s : State), s.Issues c → Enc.none w = true →
     let x := s.ctx c
     let y (f e : Bool) : Ctx := { x.moved (x.after 1) with prog := { x.prog with pc := x.after 1, evalFlag := f }, evalEnded := e }
     (x.atStart = true → x.newstep = false → x.prog.evalFlag = false → exec (.evalbegin c w) s = .next (s.setCtx c (y true false))) ∧
     ((x.atStart = false ∨ x.newstep = true ∨ x.prog.evalFlag = true) → exec (.evalbegin c w) s = .next (s.seqFault c 0x020F)) ∧
     (x.prog.evalFlag = true → exec (.evalend c w) s = .next (s.setCtx c (y false true))) ∧
     (x.prog.evalFlag = false → exec (.evalend c w) s = .next (s.seqFault c 0x020F)))

/-- R175: BARRIER is noted with the stations it covers and the number of the next instruction dispatched (in a context of its own), and
BARRIER_PASS takes the first barrier away once its conditions hold, and none whose stations still owe an earlier instruction.
R118, R119: in a joined context a BARRIER over both halves is first set by the token's holder; another sequencer, or one whose copy of
the epoch is not the token's, asks for the token and waits.
R176: FENCE stops the sequencer with its selected conditions, for what was dispatched before it, and passes at once with none;
FENCE_PASS lets it go on when they hold, and with STORE the context's stores leave it.
R119: the charge token goes to the sequencer that requests it when it has no holder or another one, its epoch increases by 1 and that
sequencer has a copy of it; a holder keeps it until then. -/
def Obligations.BarriersFencesAndTokenOrder : Prop :=
  (∀ (c : Cid) (w : NWords) (s : State),
     (s.Issues c → Enc.barrier w = true →
       let set := if w.f 50 50 = 1 then s.seamSet c else SMap.val (s.ctx c).prog.masks 0 (w.f 53 51)
       set ≠ 0 → subset set (s.seamSet c) = true →
       (s.joined c = false → (∀ b ∈ (s.ctx c).barriers, b.ord ≠ (s.ctx c).barOrd) →
         ∃ b : Barrier, b.set = set ∧ b.noOf c = some s.dispNo ∧ b.ord = (s.ctx c).barOrd ∧
           exec (.barrier c w) s = .next ({ s with dispNo := s.dispNo + 1 }.setCtx c
             { (s.ctx c).moved ((s.ctx c).after 1) with
               barriers := (s.ctx c).barriers ++ [b], barOrd := (s.ctx c).barOrd + 1 })) ∧
       (s.joined c = true → bothHalves set = true → s.token.last < (s.ctx c).prog.cross + 1 →
         s.token.holder ≠ some (decide (4 ≤ c.val)) ∨ s.epochCopy c ≠ some s.token.epoch →
         exec (.barrier c w) s = .next (s.reqToken c))) ∧
     (∀ b rest, (s.ctx (s.lead c)).barriers = b :: rest → s.barrierOk c [] b = true →
       exec (.barrierPass c) s = .next (s.setCtx (s.lead c) { s.ctx (s.lead c) with barriers := rest })) ∧
     (∃ t, exec (.barrierPass c) s = .next t ∧ ∀ b ∈ (s.ctx (s.lead c)).barriers, b ∉ (t.ctx (s.lead c)).barriers →
       ∀ no ∈ s.instNos c, ∀ x, s.inst no = some x → b.after x.cid no = true → x.mask &&& b.set &&& ~~~x.done = 0)) ∧
  (∀ (c : Cid) (w : NWords) (s : State),
     (s.Issues c → Enc.fence w = true →
       exec (.fence c w) s = .next (s.setCtx c { (s.ctx c).moved ((s.ctx c).after 1) with
         wait := if w.f 53 50 = 0 then .none else .fence (BitVec.ofNat 4 (w.f 53 50)) s.dispNo })) ∧
     (∀ sel no, (s.ctx c).wait = .fence sel no →
       (sel.getLsbD 0 = true → ∀ r ∈ s.streamsOf c, r.no < no → r.prov = true) → (sel.getLsbD 1 = true → s.collOpen c no = false) →
       (sel.getLsbD 2 = true → s.millOpen c no = false) →
       ∃ t, exec (.fencePass c) s = .next t ∧ (t.ctx c).wait = .none ∧
         (sel.getLsbD 3 = true → (t.ctx (s.lead c)).stores = []) ∧
         (sel.getLsbD 3 = false → t = s.setCtx c { s.ctx c with wait := .none })) ∧
     (∀ sel no, (s.ctx c).wait = .fence sel no → sel.getLsbD 0 = true →
       (∃ r ∈ s.streamsOf c, r.no < no ∧ r.prov = false) → exec (.fencePass c) s = .next s)) ∧
  (∀ s : State,
     (s.token.holder ≠ some false → s.token.reqWest = true → exec .tokenTransfer s = .next { s with
       token := { s.token with
         holder := some false, epoch := s.token.epoch + 1, reqWest := false, copyWest := some (s.token.epoch + 1), copyEast := none } }) ∧
     (s.token.holder ≠ some true → s.token.reqEast = true → s.token.holder = some false ∨ s.token.reqWest = false →
       exec .tokenTransfer s = .next { s with
         token := { s.token with
           holder := some true, epoch := s.token.epoch + 1, reqEast := false, copyWest := none, copyEast := some (s.token.epoch + 1) } }) ∧
     (s.token.reqWest = false → s.token.reqEast = false → exec .tokenTransfer s = .next s))

/-- R123, R122: a segment whose work has all finished, with every bank of the seam EMPTY, makes the context WAITING with its length, and
counts OVER_BUDGET when it took longer than its budget and has not been counted yet; a bank left LOADED or DONE faults with SEQ_BANKS.
R136, R137, R117: a command waits for the next bell at the instance that controls the context; KILL wins over any other command,
else the last one written stands; a write to the East instance of a joined context is ignored.
R230: a PURGING context becomes IDLE once none of its handles is used and none of its regions is being purged, and not before. -/
def Obligations.ContextsFinishAndTakeCommands : Prop :=
  (∀ (c : Cid) (s : State), s.lead c = c → (s.ctx c).st = .running → (s.ctx c).faulted = none → s.ctxStopped c = false →
     s.segQuiet c = true →
     let long := (s.ctx c).inSeg = true ∧ (s.ctx c).overBudget = false ∧ (s.ctx c).budget ≠ 0 ∧ 64 * (s.ctx c).budget.toNat < s.seqCyc - (s.ctx c).segStart
     ((∀ i ∈ stationsOf (s.seamSet c), (s.stn i).bank0.st = .empty ∧ (s.stn i).bank1.st = .empty) →
       ∃ t, exec (.segmentComplete c) s = .next t ∧ (t.ctx c).st = .waiting ∧ (t.ctx c).segLen = s.seqCyc - (s.ctx c).segStart ∧
         (¬ long → t = s.modBoth c fun x => { x with st := .waiting, segLen := s.seqCyc - (s.ctx c).segStart }) ∧
         (long → t.fld Fld.SEQ_CTX_CNT_OVER_BUDGET c.val = (s.fld Fld.SEQ_CTX_CNT_OVER_BUDGET c.val + 1) % 2 ^ 32)) ∧
     ((∃ i ∈ stationsOf (s.seamSet c), (s.stn i).bank0.st = .loaded ∨ (s.stn i).bank1.st = .done) →
       exec (.segmentComplete c) s = .next (s.seqFault c 0x0206))) ∧
  (∀ (c : Cid) (k : BitVec 2) (s : State),
     let y (code : BitVec 3) (k : BitVec 2) : Ctx := { s.ctx c with cmd := code, cmdTarget := k }
     (s.lead c = c → (s.ctx c).cmd ≠ 3 →
       exec (.cmdStop c) s = .next (s.setCtx c (y 1 0)) ∧ exec (.cmdResume c) s = .next (s.setCtx c (y 2 0)) ∧
       exec (.cmdKill c) s = .next (s.setCtx c (y 3 0)) ∧ exec (.cmdPreempt c k) s = .next (s.setCtx c (y 4 k))) ∧
     ((s.lead c ≠ c ∨ (s.ctx c).cmd = 3) →
       exec (.cmdStop c) s = .next s ∧ exec (.cmdResume c) s = .next s ∧ exec (.cmdPreempt c k) s = .next s)) ∧
  (∀ (c : Cid) (s : State), (s.ctx (s.lead c)).st = .purging →
     ((∀ p ∈ s.usedHandles, p.2.owner ≠ s.lead c) → (∀ r < 256, s.rgnState r = 2 → s.rgnOfCtx (s.lead c) r = false) →
       exec (.contextPurgeDone c) s = .next (s.modBoth c fun x => { x with st := .idle })) ∧
     ((∃ p ∈ s.usedHandles, p.2.owner = s.lead c) → exec (.contextPurgeDone c) s = .next s))

/-- R172, R161, R162: LDS from HBM notes the load with its address; from a handle it also becomes a registered reader of it at the lowest
station of its set; a context item is written at once. A misaligned HBM address faults with MEM_ALIGN, one that is not the context's
with MEM_RANGE.
R172: the data of an HBM load, the eight bytes at its address, least significant first, or the context's own last store to it, reach
the scalar, and the load is no longer awaited; memory keeps its bytes.
R161, R221: a load from a handle waits until the handle is complete for it at that station. -/
def Obligations.LoadsAreIssuedAndReturn : Prop :=
  (∀ (c : Cid) (w : NWords) (s : State), s.Issues c → Enc.lds w = true → (s.ctx c).Settled [w.f 53 49, w.f 48 44] →
     let x := s.ctx c
     let a := (x.s (w.f 48 44) + (BitVec.ofNat 24 (w.f 23 0)).signExtend 64).toNat
     let h := w.h 30
     (w.f 43 42 = 0 → ∀ b, a % 8 = 0 → s.ctxAddr c a 8 = some b →
       exec (.lds c w) s = .next (s.setCtx c { x.moved (x.after 1) with
         lds := x.lds ++ [⟨Fin.ofNat 32 (w.f 53 49), 0, b, 0, s.dispNo, x.ldsOrd⟩], ldsOrd := x.ldsOrd + 1 })) ∧
     (w.f 43 42 = 0 → a % 8 ≠ 0 → exec (.lds c w) s = .next (s.seqFault c 0x0601)) ∧
     (w.f 43 42 = 0 → a % 8 = 0 → s.ctxAddr c a 8 = none → exec (.lds c w) s = .next (s.seqFault c 0x0602)) ∧
     (w.f 43 42 = 1 → s.handleFault c h 0 = none → a + 8 ≤ (s.hnd h).rows.toNat * ((s.hnd h).stride.toNat * 32) →
       exec (.lds c w) s = .next (({ s with
         dispNo := s.dispNo + 1
         accs := s.accs ++ [{ no := s.dispNo, h := h, set := single (lowest (s.hnd h).set), rd := true, wr := false }] } : State).settleProv.setCtx c
           { x.moved (x.after 1) with
             lds := x.lds ++ [⟨Fin.ofNat 32 (w.f 53 49), 1, a, h, s.dispNo, x.ldsOrd⟩], ldsOrd := x.ldsOrd + 1 })) ∧
     (w.f 43 42 = 2 → s.joined c = false → x.ldsPeer = [] →
       exec (.lds c w) s = .next (s.setCtx c { (x.wrote (w.f 53 49) (match w.f 23 0 with
         | 0 => x.prog.step.setWidth 64
         | 1 => x.prog.evalCnt.setWidth 64
         | 2 => BitVec.ofNat 64 (s.fld Fld.SEQ_BELL_NUM_NUMBER)
         | 3 => s.time.ns
         | 4 => BitVec.ofNat 64 (s.seamFirst c)
         | 5 => BitVec.ofNat 64 (if s.layout = 0 then 96 else if s.layout = 1 then 48 else if s.layout = 2 then 24 else 12)
         | _ => s.variant.caps)).moved (x.after 1) with ldsOrd := x.ldsOrd + 1 }))) ∧
  (∀ (c : Cid) (sd : Fin 32) (s : State) (l : LdsOut), (s.ctx c).lds.find? (fun e => e.sd == sd) = some l → l.space = 0 →
     s.joined c = false → (s.ctx c).ldsPeer = [] → s.memErr = [] →
     let b (i : Nat) := s.memByte (l.addr + i)
     let v : Word := match ((s.ctx c).stores.filter fun p => p.1 == l.addr).getLast? with
       | some p => p.2
       | none => b 7 ++ b 6 ++ b 5 ++ b 4 ++ b 3 ++ b 2 ++ b 1 ++ b 0
     ∃ t, exec (.ldsReturn c sd) s = .next t ∧
       t.ctx c = { (s.ctx c).wrote sd.val v with lds := (s.ctx c).lds.filter fun e => e.ord != l.ord } ∧
       (∀ d, d ≠ c → t.ctx d = s.ctx d) ∧ (∀ a, t.memByte a = s.memByte a)) ∧
  (∀ (c : Cid) (sd : Fin 32) (s : State) (l : LdsOut), (s.ctx c).lds.find? (fun e => e.sd == sd) = some l → l.space = 1 →
     (∃ a ∈ s.accs, a.h = l.h ∧ a.wr = true ∧ a.no < l.no ∧ has a.set (lowest (s.hnd l.h).set) = true) →
     exec (.ldsReturn c sd) s = .next s)

/-- R172, R165: STS to HBM joins the context's stores that memory does not show yet; STS to a handle that is writable there writes its
eight bytes; in a joined context only the West sequencer stores. -/
def Obligations.StoresAreMade : Prop :=
  ∀ (c : Cid) (w : NWords) (s : State), s.Issues c → Enc.sts w = true → (s.ctx c).Settled [w.f 53 49, w.f 48 44] →
    let x := s.ctx c
    let a := (x.s (w.f 48 44) + (BitVec.ofNat 24 (w.f 23 0)).signExtend 64).toNat
    let h := w.h 30
    let i := lowest (s.hnd h).set
    (s.lead c ≠ c → exec (.sts c w) s = .next (s.setCtx c (x.moved (x.after 1)))) ∧
    (s.lead c = c → w.f 43 42 = 0 → ∀ b, a % 8 = 0 → s.ctxAddr c a 8 = some b →
      exec (.sts c w) s = .next (s.setCtx c { x.moved (x.after 1) with stores := x.stores ++ [(b, x.s (w.f 53 49))] })) ∧
    (s.lead c = c → w.f 43 42 = 0 → a % 8 ≠ 0 → exec (.sts c w) s = .next (s.seqFault c 0x0601)) ∧
    (s.lead c = c → w.f 43 42 = 1 → s.handleFault c h 0 = none →
      a + 8 ≤ (s.hnd h).rows.toNat * ((s.hnd h).stride.toNat * 32) → s.writable h s.dispNo i = true →
      s.bunkErr = [] → s.injectWord = none →
      ∃ t, exec (.sts c w) s = .next t ∧ t.ctx c = x.moved (x.after 1) ∧ t.mem = s.mem ∧
        t.bunk = SMap.putList s.bunk 0 (slice i + ((s.hnd h).rowAt 0 + a)) ((List.range 8).map fun k => (x.s (w.f 53 49)).extractLsb' (8 * k) 8))

/-- R161, R164, R178, R183, R181: MMA and RINGRET join the members that their RINGINJ will bind, and go into the queue of every station of
the mask that this copy of the context serves, as a reader and as a writer of their handle; nothing else in the block changes.
R118, R119: in a joined context an MMA over both halves is dispatched once, to all its stations, by the token's holder; a sequencer that
comes to it when it has been dispatched notes the member, counts it and goes on, another one asks for the token and waits.
R161, R162, R179, R180: ACCLOAD and DRAIN, in a context that is not joined, go into the queue of every station of their mask with
their effective row offset. A mask that leaves the seam faults with RING_SPAN, an empty one makes a no-op, an ACCLOAD source of another
format than its SRC reads faults with NUM_MODE, and a row range that ends beyond the handle's rows with BNK_SHAPE.
R161, R162, R181, R182: RINGINJ, at a context that is not joined, goes into its origin's queue with the members of its tag, which it
binds, and reads its source there. An origin outside the seam faults with RING_SPAN. -/
def Obligations.ArrayInstructionsAreDispatched : Prop :=
  (∀ (c : Cid) (w : NWords) (s : State), s.Issues c →
     let x := s.ctx c
     let mask : StationSet := SMap.val x.prog.masks 0 (w.f 53 51)
     let both := s.joined c = true ∧ bothHalves mask = true
     let free := s.ownHalf c mask ≠ 0 ∧ s.queuesFree (s.ownHalf c mask) = true
     subset mask (s.seamSet c) = true →
     (Enc.mma w = true → x.Settled [w.x 24 20] →
       let off := w.x 19 0 + (if w.x 25 25 = 1 then (x.s (w.x 24 20)).toNat % 2 ^ 20 else 0)
       let n := x.prog.cross + 1
       let noted (y : Ctx) : Ctx := { y with
         memOrd := x.memOrd + 1, unbound := x.unbound ++ [⟨x.memOrd, .mma, Fin.ofNat 16 (w.f 49 46), mask, w, off⟩] }
       off < 2 ^ 20 → s.handleFault c (w.h 22) mask = none →
       (¬ both → free →
         ∃ t, exec (.mma c w) s = .next t ∧ s.Queued c w .mma (s.ownHalf c mask) off t ∧ t.ctx c = noted (x.moved (x.after w.len)) ∧
           t.accs = s.accs ++ [{ no := s.dispNo, h := w.h 22, set := s.ownHalf c mask, rd := true, wr := false }]) ∧
       (¬ both → mask ≠ 0 → s.ownHalf c mask = 0 → exec (.mma c w) s = .next (s.setCtx c (noted (x.moved (x.after w.len))))) ∧
       (both → n ≤ s.token.last →
         exec (.mma c w) s = .next (s.setCtx c (noted { x.moved (x.after w.len) with
           prog := { x.prog with pc := x.after w.len, cross := n } }))) ∧
       (both → s.token.last < n → s.holdsToken c = false → exec (.mma c w) s = .next (s.reqToken c)) ∧
       (both → s.token.last < n → s.holdsToken c = true → s.queuesFree mask = true →
         ∃ t, exec (.mma c w) s = .next t ∧ t.token = { s.token with last := n } ∧ (∃ i, t.inst s.dispNo = some i ∧ i.mask = mask) ∧
           (∀ i ∈ stationsOf mask, s.dispNo ∈ (t.stn i).queue) ∧
           t.ctx c = noted { x.moved (x.after w.len) with prog := { x.prog with pc := x.after w.len, cross := n } })) ∧
     (¬ both → free → Enc.ringret w = true → x.Settled [w.f 10 6] →
       let off := w.f 30 11 + (if w.f 5 5 = 1 then (x.s (w.f 10 6)).toNat % 2 ^ 20 else 0)
       off < 2 ^ 20 → s.handleFault c (w.h 31) mask = none →
       ∃ t, exec (.ringret c w) s = .next t ∧ s.Queued c w .ringret (s.ownHalf c mask) off t ∧
         t.ctx c = { x.moved (x.after w.len) with
           memOrd := x.memOrd + 1, unbound := x.unbound ++ [⟨x.memOrd, .ringret, Fin.ofNat 16 (w.f 50 47), mask, w, off⟩] } ∧
         t.accs = s.accs ++ [{ no := s.dispNo, h := w.h 31, set := s.ownHalf c mask, rd := false, wr := true }])) ∧
  (∀ (c : Cid) (w : NWords) (s : State), s.Issues c → s.joined c = false →
     let x := s.ctx c
     let mask : StationSet := SMap.val x.prog.masks 0 (w.f 53 51)
     let y := s.hnd (w.h 34)
     let off := w.f 33 14 + (if w.f 8 8 = 1 then (x.s (w.f 13 9)).toNat % 2 ^ 20 else 0)
     let src := w.f 48 46
     x.Settled [w.f 13 9] →
     (Enc.accload w = true → subset mask (s.seamSet c) = false → exec (.accload c w) s = .next (s.seqFault c 0x0301)) ∧
     (Enc.accload w = true → mask = 0 → exec (.accload c w) s = .next (s.setCtx c (x.moved (x.after 1)))) ∧
     (subset mask (s.seamSet c) = true → mask ≠ 0 → off < 2 ^ 20 →
       (Enc.accload w = true → src = 0 → s.queuesFree mask = true →
         ∃ t, exec (.accload c w) s = .next t ∧ s.Queued c w .accload mask off t ∧ t.ctx c = x.moved (x.after 1) ∧ t.accs = s.accs) ∧
       (Enc.accload w = true → src ≠ 0 → s.handleFault c (w.h 34) mask = none →
         let fits := if src = 2 then y.fmt = 1 ∨ y.fmt = 2 else if src = 4 then y.fmt = 10 else y.fmt = 0
         (¬ fits → exec (.accload c w) s = .next (s.seqFault c 0x0304)) ∧
         (fits → y.cols ≠ 0 ∨ y.rows.toNat < off + (if src = 1 then 1 else 128) →
           exec (.accload c w) s = .next (s.seqFault c 0x0402)) ∧
         (fits → y.cols = 0 → off + (if src = 1 then 1 else 128) ≤ y.rows.toNat → s.queuesFree mask = true →
           ∃ t, exec (.accload c w) s = .next t ∧ s.Queued c w .accload mask off t ∧ t.ctx c = x.moved (x.after 1) ∧
             t.accs = s.accs ++ [{ no := s.dispNo, h := w.h 34, set := mask, rd := true, wr := false }])) ∧
       (Enc.drain w = true → s.handleFault c (w.h 34) mask = none → (w.f 49 49 = 1 → y.fmt ≠ 10) →
         (y.rows.toNat < off + 128 → exec (.drain c w) s = .next (s.seqFault c 0x0402)) ∧
         (off + 128 ≤ y.rows.toNat → (w.f 49 49 = 1 → y.mx = true → off % 32 = 0) → s.queuesFree mask = true →
           ∃ t, exec (.drain c w) s = .next t ∧ s.Queued c w .drain mask off t ∧ t.ctx c = x.moved (x.after 1) ∧
             t.accs = s.accs ++ [{ no := s.dispNo, h := w.h 34, set := mask, rd := false, wr := true }])))) ∧
  (∀ (c : Cid) (w : NWords) (s : State), s.Issues c → s.joined c = false → Enc.ringinj w = true → (s.ctx c).Settled [w.x 44 40] →
     let x := s.ctx c
     let o : StationId := Fin.ofNat 96 (w.f 53 47)
     let k := w.x 19 0 + 1
     let off := w.x 39 20 + (if w.x 45 45 = 1 then (x.s (w.x 44 40)).toNat % 2 ^ 20 else 0)
     let y := s.hnd (w.h 16)
     let mem := x.unbound.filter fun m => m.tag.val == w.f 46 43
     ((96 ≤ w.f 53 47 ∨ has (s.seamSet c) o = false) → exec (.ringinj c w) s = .next (s.seqFault c 0x0301)) ∧
     (w.f 53 47 < 96 → has (s.seamSet c) o = true → off < 2 ^ 20 → s.handleFault c (w.h 16) (single o) = none →
       (y.rows.toNat < off + k → exec (.ringinj c w) s = .next (s.seqFault c 0x0402)) ∧
       (off + k ≤ y.rows.toNat → (y.mx = true → off % 32 = 0) → (∀ m ∈ mem, s.memberFault k m = none) → s.queuesFree (single o) = true →
         ∃ t, exec (.ringinj c w) s = .next t ∧ s.Queued c w .ringinj (single o) off t ∧
           (∃ i, t.inst s.dispNo = some i ∧ i.members = mem) ∧
           t.ctx c = { x.moved (x.after 2) with unbound := x.unbound.filter fun m => !(m.tag.val == w.f 46 43) } ∧
           t.accs = s.accs ++ [{ no := s.dispNo, h := w.h 16, set := single o, rd := true, wr := false }])))

/-- R36, R37, R38, R42: at the head of its queue, an ACCLOAD whose bank is EMPTY and whose source is complete (ZERO needs none), and an
unturned DRAIN whose bank is DONE, whose destination is writable and whose program is fit, issue: the bank is EXCHANGING for it and it
has left the queue. An ACCLOAD that finds its bank LOADED faults with RING_BANK.
R55, R52, R181: a RINGINJ whose group is ready, passes its checks and lies in one half issues with all its members: its pass, of the
span and circuits it names, is on the lane under its tag. A group that fails a check faults, one that is not ready changes nothing.
R36, R37, R40, R45: when an exchange ends at a free station, a bank that only loaded is LOADED with the set its source gives, all
zero for ZERO, and one that only drained is EMPTY. -/
def Obligations.ExchangesAndGroupsRun : Prop :=
  (∀ (st : StationId) (s : State) (no : Nat) (x : SInst), s.headInst st = some (no, x) →
     let b := (s.stn st).bank x.bankIx
     (x.kind = .accload → b.st = .empty → x.w.f 48 46 = 0 ∨ s.complete (x.w.h 34) no st = true →
       ∃ t, exec (.arrayIssue st) s = .next t ∧ (t.stn st).bank x.bankIx = { b with st := .exchanging, exLoad := some no } ∧
         no ∉ (t.stn st).queue ∧ (∀ i, i ≠ st → t.stn i = s.stn i) ∧ t.mem = s.mem ∧ t.bunk = s.bunk) ∧
     (x.kind = .accload → b.st = .loaded → exec (.arrayIssue st) s = .next (s.faultCtx x.cid 0x0302 (srcStn st))) ∧
     (x.kind = .drain → b.st = .done → s.writable (x.w.h 34) no st = true → x.w.f 49 49 = 0 → s.drainFault st x = none →
       s.fusedBehind st x = none →
       ∃ t, exec (.arrayIssue st) s = .next t ∧
         (t.stn st).bank x.bankIx = { b with st := .exchanging, exDrain := some no, exLoad := none } ∧
         no ∉ (t.stn st).queue ∧ (∀ i, i ≠ st → t.stn i = s.stn i) ∧ t.mem = s.mem ∧ t.bunk = s.bunk)) ∧
  (∀ (c : Cid) (tag : Fin 16) (s : State) (no : Nat) (x : SInst), s.groupOf c tag = some (no, x) →
     (s.groupReady c tag no x = false → exec (.ringGroupIssue c tag) s = .next s) ∧
     (s.groupReady c tag no x = true →
       (∀ f, s.groupFault x = some f →
         exec (.ringGroupIssue c tag) s = .next (s.faultCtx x.cid f (srcStn (Fin.ofNat 96 (x.w.f 53 47))))) ∧
       (s.groupFault x = none → (∃ n, x.cross = some n) → s.holdsToken x.cid = false →
         exec (.ringGroupIssue c tag) s = .next (s.reqToken x.cid)) ∧
       (s.groupFault x = none → x.cross = none → s.bunkErr = [] → s.sideErr = [] →
         ∃ t, exec (.ringGroupIssue c tag) s = .next t ∧ t.pass no = some (x.newPass tag) ∧
           no ∉ (t.stn (Fin.ofNat 96 (x.w.f 53 47))).queue ∧ t.mem = s.mem ∧ t.bunk = s.bunk ∧
           (∀ m i n y, x.members = [m] → stationsOf m.set = [i] → m.kind = .mma → s.memberInst c m i = some n → s.inst n = some y →
             ((t.stn i).bank y.bankIx).st = .computing)))) ∧
  (∀ (st : StationId) (bank : Fin 2) (s : State),
     let b := (s.stn st).bank bank
     b.st = .exchanging → s.stnFree st = true →
     (∀ n y, b.exDrain = none → b.exLoad = some n → s.inst n = some y → (s.loadRows st (y.loadSrc n)).2.2 = false →
       ∃ t, exec (.bankExchangeEnd st bank) s = .next t ∧ ((t.stn st).bank bank).st = .loaded ∧
         ((t.stn st).bank bank).acc = (s.loadRows st (y.loadSrc n)).1 ∧ (y.w.f 48 46 = 0 → ((t.stn st).bank bank).acc = []) ∧
         ((t.stn st).bank bank).load = some (y.loadSrc n) ∧ t.mem = s.mem) ∧
     (∀ d, b.exDrain = some d → b.exLoad = none →
       ∃ t, exec (.bankExchangeEnd st bank) s = .next t ∧ ((t.stn st).bank bank).st = .empty ∧
         ((t.stn st).bank bank).acc = [] ∧ ((t.stn st).bank bank).drained = (if b.mma.isSome then some d else none) ∧ t.mem = s.mem))

/-- R66, R45, R61, R62: a clean outcome makes a computing bank DONE and ends its MMA's accesses at the station; a DRAIN that had written
its rows already is counted then. A mismatch, with the outcome or before it, counts a residue fault with its place and puts the bank in
REPLAY, and in the replay of the same MMA it stops the context with RING_RESIDUE_HARD. A clean outcome of the replay makes the bank DONE
with the replayed result, and counts a replay; REPLAY stands while the other bank still replays.
R61: a bank in REPLAY computes again, from the set it began with, once its pass is on its lane again. -/
def Obligations.ResidueDecidesAndReplays : Prop :=
  (∀ (st : StationId) (bank : Fin 2) (row col : Fin 128) (s : State) (m : Nat),
     let b := (s.stn st).bank bank
     b.mma = some m → b.restoring = false → s.stnFree st = true →
     (b.st = .computing → b.drained = none →
       ∃ t, exec (.mmaResidueOutcome st bank true row col) s = .next t ∧ ((t.stn st).bank bank).st = .done ∧
         ((t.stn st).bank bank).mma = none ∧ ((t.stn st).bank bank).acc = b.acc ∧ t.mem = s.mem ∧ t.bunk = s.bunk ∧
         ((s.inst m).isSome = true → ∀ a ∈ t.accs, a.no = m → has a.set st = false)) ∧
     (b.st = .replay → b.drained = none → b.later = none →
       ∃ t, exec (.mmaResidueOutcome st bank true row col) s = .next t ∧ (t.stn st).bank bank = { st := .done, acc := b.res } ∧
         (t.stn st).replay = (((s.stn st).bank (1 - bank)).st == .replay) ∧ s.Counted t Fld.RING_RESIDUE_REPLAYS 1 st.val ∧
         t.mem = s.mem ∧ t.bunk = s.bunk) ∧
     exec (.mmaResidueOutcome st bank false row col) s = exec (.residueFault st bank row col) s ∧
     (b.replayed = false →
       ∃ t, exec (.residueFault st bank row col) s = .next t ∧ ((t.stn st).bank bank).st = .replay ∧ (t.stn st).replay = true ∧
         s.Counted t Fld.RING_RESIDUE_FAULTS 1 st.val ∧
         t.fld Fld.RING_RESIDUE_LAST_ROW st.val = row.val ∧ t.fld Fld.RING_RESIDUE_LAST_COL st.val = col.val ∧
         t.mem = s.mem ∧ t.bunk = s.bunk ∧ (∀ i, i ≠ st → t.stn i = s.stn i)) ∧
     (b.replayed = true → ∀ x, s.inst m = some x → (s.ctx (s.lead x.cid)).faulted = none →
       ∃ t, exec (.residueFault st bank row col) s = .next t ∧ (t.ctx (s.lead x.cid)).faulted = some 0x0303)) ∧
  (∀ (st : StationId) (bank : Fin 2) (s : State) (m : Nat) (x : SInst) (p : Pass),
     let b := (s.stn st).bank bank
     b.restoring = true → s.stnFree st = true → b.mma = some m → s.inst m = some x →
     (s.passOfMma x st = none → exec (.replayPassIssue st bank) s = .next s) ∧
     (s.passOfMma x st = some p →
       (s.stnFree p.orig = false → exec (.replayPassIssue st bank) s = .next s) ∧
       (s.stnFree p.orig = true → s.bunkErr = [] → s.sideErr = [] →
         ∃ t res, exec (.replayPassIssue st bank) s = .next t ∧
           (t.stn st).bank bank = { b with acc := res, res := res, replayed := true } ∧
           (∀ i, i ≠ st → t.stn i = s.stn i) ∧ t.mem = s.mem ∧ t.bunk = s.bunk)))

/-- R44, R52: a pass that retires lets its tag and its source go when nothing of it is awaited, and stays until then.
R58: a pass whose last station is held does not retire.
R53, R183, R222: a capture that ends has written the pass's slices into the destination's rows; it is over at that station, and at
the last one FILL advances by K.
R58, R59: a hold stops a station, a throttle all four stations of its power domain, beside the holds of other causes, and its end leaves
those; the stations' banks, queues and slots stay as they are. A held station runs nothing: no issue, no end of an exchange, no outcome. -/
def Obligations.PassesRetireAndHoldsStop : Prop :=
  (∀ (c : Cid) (tag : Fin 16) (s : State) (no : Nat) (p : Pass), s.passOf c tag = some (no, p) → p.retired = false →
     (s.stnFree (s.passEnd p) = false → exec (.passRetire c tag) s = .next s) ∧
     (s.stnFree (s.passEnd p) = true →
       ∃ t, exec (.passRetire c tag) s = .next t ∧ t.mem = s.mem ∧ t.bunk = s.bunk ∧ t.ctxs = s.ctxs ∧
         (p.awaiting ≠ [] → t.pass no = some { p with retired := true } ∧ t.accs = s.accs) ∧
         (p.awaiting = [] → t.pass no = none ∧ ∀ a ∈ t.accs, a.no ≠ no))) ∧
  (∀ (st : StationId) (tag : Fin 16) (s : State) (p : Pass) (no : Nat) (x : SInst), s.captureOf st tag = some (p, no, x) →
     s.inst no = some x → s.stnFree st = true → s.bunkErr = [] → s.sideErr = [] → s.injectWord = none →
     ∃ t, exec (.ringretCaptureEnd st tag) s = .next t ∧ t.mem = s.mem ∧ t.ctxs = s.ctxs ∧
       (let r := s.readSlices (s.hnd p.hs) p.orig p.fmt.toNat p.soff p.k
        t.bunk = (r.2.1.writeSlices (s.hnd (x.w.h 31)) st x.off r.1).bunk) ∧
       (∀ a ∈ t.accs, a.no = no → has a.set st = false) ∧
       (subset x.mask (x.done ||| single st) = true →
         (t.hnd (x.w.h 31)).fill.toNat = min (2 ^ 21 - 1) ((s.hnd (x.w.h 31)).fill.toNat + p.k))) ∧
  (∀ (st : StationId) (cause : HoldCause) (s : State),
     let here (i : StationId) : Prop := if cause = .throttle then i.val / 4 = st.val / 4 else i = st
     (∃ t, exec (.stationHoldStart st cause) s = .next t ∧
       (∀ i, here i → t.stn i = { s.stn i with hold := if cause ∈ (s.stn i).hold then (s.stn i).hold else (s.stn i).hold ++ [cause] }) ∧
       (∀ i, ¬ here i → t.stn i = s.stn i) ∧ t = { s with stations := t.stations }) ∧
     (∃ t, exec (.stationHoldEnd ⟨st, cause⟩) s = .next t ∧
       (∀ i, here i → t.stn i = { s.stn i with hold := (s.stn i).hold.filter fun d => d ≠ cause }) ∧
       (∀ i, ¬ here i → t.stn i = s.stn i) ∧ t = { s with stations := t.stations }) ∧
     (cause ∈ (s.stn st).hold → ∀ (bank : Fin 2) (row col : Fin 128) (clean : Bool) (tag : Fin 16),
       exec (.arrayIssue st) s = .next s ∧ exec (.vectorIssue st) s = .next s ∧ exec (.bankExchangeEnd st bank) s = .next s ∧
         exec (.ringretCaptureEnd st tag) s = .next s ∧ exec (.residueFault st bank row col) s = .next s ∧
         exec (.mmaResidueOutcome st bank clean row col) s = .next s ∧ exec (.replayPassIssue st bank) s = .next s))

/-- R161, R162, R184 to R186, R188, R190: VOP in both its forms, VLUT in all three and VRNG, in a context that is not joined, go into the
queue of every station of their mask as readers of the handles they use and as writers of their result; a named flag scalar is then
awaited.
R187, R189, R89, R91, R96: VRED and VCVT, in a context that is not joined, likewise; VCVT reads its scale record, and writes it at
the tensor's last conversion. VCVT into a handle of another format than FMT faults with NUM_MODE. -/
def Obligations.VectorInstructionsAreDispatched : Prop :=
  (∀ (c : Cid) (w : NWords) (s : State), s.Issues c → s.joined c = false →
     let x := s.ctx c
     let mask : StationSet := SMap.val x.prog.masks 0 (w.f 53 51)
     subset mask (s.seamSet c) = true → mask ≠ 0 → s.queuesFree mask = true →
     let owned (h : HandleId) : Prop := s.handleFault c h mask = none
     let acc (h : HandleId) (r v : Bool) : Access := { no := s.dispNo, h := h, set := mask, rd := r, wr := v }
     let like (a d : HandleId) : Prop := owned a ∧ (s.hnd a).rows = (s.hnd d).rows ∧ (s.hnd a).colsN = (s.hnd d).colsN
     let flagged (named : Bool) (r : Nat) : Ctx :=
       if named then { x.moved (x.after w.len) with flagWait := x.flagWait ++ [(r, x.flagOrd)], flagOrd := x.flagOrd + 1 }
       else x.moved (x.after w.len)
     (x.flagPeer = [] → x.Settled [w.x 16 12] →
       (Enc.vop 256 w = true →
         let op := w.f 49 42
         let d := w.h 30
         op < 16 → owned d → owned (w.h 18) → w.x 41 26 < 0xFF00 →
         (if op = 13 then (if w.x 18 18 = 1 then (s.hnd (w.h 18)).rows = 1 ∧ (s.hnd (w.h 18)).colsN = (s.hnd d).colsN
                           else (s.hnd (w.h 18)).rows = (s.hnd d).rows ∧ (s.hnd (w.h 18)).colsN = 1)
          else if op = 14 then (s.hnd d).rows = 1 ∧ (s.hnd (w.h 18)).colsN = (s.hnd d).colsN ∧ (s.hnd d).fmt = 10
          else like (w.h 18) d) →
         (opTakesB op = true → like (w.h 6) d) → (opTakesC op = true → like (w.xh 0) d) →
         ∃ t, exec (.vop c w) s = .next t ∧ s.Queued c w .vop mask 0 t ∧ t.ctx c = flagged (w.xb 17) (w.x 16 12) ∧
           t.accs = s.accs ++ ([acc (w.h 18) true false] ++ (if opTakesB op then [acc (w.h 6) true false] else []) ++
             (if opTakesC op then [acc (w.xh 0) true false] else []) ++ [acc d (op == 14) true])) ∧
       (Enc.vopLoad w = true → owned (w.h 18) → 1088 ≤ (s.hnd (w.h 18)).rows.toNat * (s.hnd (w.h 18)).rowSize →
         ∃ t, exec (.vopLoadProg c w) s = .next t ∧ s.Queued c w .vopLoad mask 0 t ∧ t.ctx c = flagged (w.xb 17) (w.x 16 12) ∧
           t.accs = s.accs ++ [acc (w.h 18) true false])) ∧
     (Enc.vlut 0 w = true → owned (w.h 34) → like (w.h 22) (w.h 34) →
       ∃ t, exec (.vlut c w) s = .next t ∧ s.Queued c w .vlut mask 0 t ∧ t.ctx c = x.moved (x.after 1) ∧
         t.accs = s.accs ++ [acc (w.h 22) true false, acc (w.h 34) false true]) ∧
     (Enc.vlut 1 w = true → owned (w.h 34) → like (w.h 22) (w.h 34) → like (w.h 10) (w.h 34) →
       ∃ t, exec (.vlutBack c w) s = .next t ∧ s.Queued c w .vlutBack mask 0 t ∧ t.ctx c = x.moved (x.after 1) ∧
         t.accs = s.accs ++ [acc (w.h 22) true false, acc (w.h 10) true false, acc (w.h 34) false true]) ∧
     (Enc.vlut 2 w = true → owned (w.h 22) → 6272 ≤ (s.hnd (w.h 22)).rows.toNat * (s.hnd (w.h 22)).rowSize →
       ∃ t, exec (.vlutLoad c w) s = .next t ∧ s.Queued c w .vlutLoad mask 0 t ∧ t.ctx c = x.moved (x.after 1) ∧
         t.accs = s.accs ++ [acc (w.h 22) true false]) ∧
     (Enc.vrng w = true → owned (w.h 37) → (s.hnd (w.h 37)).fmt = (if w.f 50 49 = 0 then 11 else 0) → w.f 36 21 < 0xFF00 →
       ∃ t, exec (.vrng c w) s = .next t ∧ s.Queued c w .vrng mask 0 t ∧ t.ctx c = x.moved (x.after 1) ∧
         t.accs = s.accs ++ [acc (w.h 37) false true])) ∧
  (∀ (c : Cid) (w : NWords) (s : State), s.Issues c → s.joined c = false → (s.ctx c).flagPeer = [] →
     let x := s.ctx c
     let mask : StationSet := SMap.val x.prog.masks 0 (w.f 53 51)
     subset mask (s.seamSet c) = true → mask ≠ 0 → s.queuesFree mask = true →
     let owned (h : HandleId) : Prop := s.handleFault c h mask = none
     let acc (h : HandleId) (r v : Bool) : Access := { no := s.dispNo, h := h, set := mask, rd := r, wr := v }
     let like (a d : HandleId) : Prop := owned a ∧ (s.hnd a).rows = (s.hnd d).rows ∧ (s.hnd a).colsN = (s.hnd d).colsN
     let column (h a : HandleId) : Prop :=
       owned h ∧ ((s.hnd h).fmt = 10 ∨ (s.hnd h).fmt = 0) ∧ (s.hnd h).colsN = 1 ∧ (s.hnd h).rows = (s.hnd a).rows
     let flagged (named : Bool) (r : Nat) : Ctx :=
       if named then { x.moved (x.after 2) with flagWait := x.flagWait ++ [(r, x.flagOrd)], flagOrd := x.flagOrd + 1 }
       else x.moved (x.after 2)
     (Enc.vred w = true → x.Settled [w.x 16 12] → owned (w.h 20) → column (w.h 32) (w.h 20) →
       let two := w.f 47 45 ≠ 7
       let dot := w.f 50 48 = 2 ∨ w.f 47 45 = 2
       (two → column (w.xh 0) (w.h 20)) → (dot → like (w.h 8) (w.h 20)) →
       (w.f 44 44 = 1 → (runsOf mask (w.f 7 1 + 1)).isSome = true) →
       ∃ t, exec (.vred c w) s = .next t ∧ s.Queued c w .vred mask 0 t ∧ t.ctx c = flagged (w.xb 17) (w.x 16 12) ∧
         t.accs = s.accs ++ ([acc (w.h 20) true false] ++ (if dot then [acc (w.h 8) true false] else []) ++
           [acc (w.h 32) false true] ++ (if two then [acc (w.xh 0) false true] else []))) ∧
     (Enc.vcvt w = true → x.Settled [w.x 32 28] → owned (w.h 28) →
       ((s.hnd (w.h 28)).fmt.toNat ≠ w.f 50 47 → exec (.vcvt c w) s = .next (s.seqFault c 0x0304)) ∧
       ((s.hnd (w.h 28)).fmt.toNat = w.f 50 47 → like (w.h 16) (w.h 28) →
         (s.numSolori = true → w.f 46 44 < 2) → w.x 27 12 < 0xFF00 →
         (w.f 42 42 = 1 → w.f 3 3 = 0 ∧ w.f 50 47 = 1 ∧ (s.hnd (w.h 16)).fmt = 0 ∧ (s.hnd (w.xh 0)).fmt = 1 ∧ like (w.xh 0) (w.h 28)) →
         (w.f 3 3 = 1 → s.handleFault c (w.h 4) 0 = none ∧ 16 ≤ (s.hnd (w.h 4)).rowSize ∧ subset mask (s.hnd (w.h 4)).set = true) →
         ∃ t, exec (.vcvt c w) s = .next t ∧ s.Queued c w .vcvt mask 0 t ∧ t.ctx c = flagged (w.xb 33) (w.x 32 28) ∧
           t.accs = s.accs ++ ([acc (w.h 16) true false, acc (w.h 28) false true] ++
             (if w.f 42 42 = 1 then [acc (w.xh 0) false true] else []) ++
             (if w.f 3 3 = 1 then [acc (w.h 4) true (w.f 40 40 == 1)] else [])))))

/-- R162, R50: a vector instruction whose mask names a station outside the seam faults with RING_SPAN, one with an empty mask is a
no-op; R96: in the Exact-Solori mode VCVT takes the rounding modes 0 and 1 only.
R118, R119, R120: in a joined context an instruction over both halves is issued once, by the token's holder: a sequencer that comes to it
when it has been issued skips it and counts it, one that does not hold the token, or whose copy of the epoch is not the token's, asks for
the token and waits. -/
def Obligations.VectorMasksAndCrossHalfAreChecked : Prop :=
  (∀ (c : Cid) (w : NWords) (s : State), s.Issues c → (s.ctx c).Settled [w.x 16 12, w.x 32 28] →
     let mask : StationSet := SMap.val (s.ctx c).prog.masks 0 (w.f 53 51)
     let all : List (Bool × Instr) := [(Enc.vop 256 w, .vop c w), (Enc.vopLoad w, .vopLoadProg c w), (Enc.vred w, .vred c w),
       (Enc.vlut 0 w, .vlut c w), (Enc.vlut 1 w, .vlutBack c w), (Enc.vlut 2 w, .vlutLoad c w), (Enc.vcvt w, .vcvt c w),
       (Enc.vrng w, .vrng c w)]
     ∀ e ∈ all, e.1 = true →
       (subset mask (s.seamSet c) = false → exec e.2 s = .next (s.seqFault c 0x0301)) ∧
       (mask = 0 → exec e.2 s = .next (s.setCtx c ((s.ctx c).moved ((s.ctx c).after w.len))))) ∧
  (∀ (c : Cid) (w : NWords) (s : State), s.Issues c → s.joined c = true → Enc.vrng w = true →
     let x := s.ctx c
     let mask : StationSet := SMap.val x.prog.masks 0 (w.f 53 51)
     subset mask (s.seamSet c) = true → bothHalves mask = true → s.queuesFree mask = true →
     s.handleFault c (w.h 37) mask = none → (s.hnd (w.h 37)).fmt = (if w.f 50 49 = 0 then 11 else 0) → w.f 36 21 < 0xFF00 →
     let n := x.prog.cross + 1
     let y : Ctx := { x.moved (x.after 1) with prog := { x.prog with pc := x.after 1, cross := n } }
     (n ≤ s.token.last → exec (.vrng c w) s = .next (s.setCtx c y)) ∧
     (s.token.last < n → s.token.holder ≠ some (decide (4 ≤ c.val)) ∨ s.epochCopy c ≠ some s.token.epoch →
       exec (.vrng c w) s = .next { s with token := if c.val < 4 then { s.token with reqWest := true, copyWest := none }
                                                    else { s.token with reqEast := true, copyEast := none } }) ∧
     (s.token.last < n → s.token.holder = some (decide (4 ≤ c.val)) → s.epochCopy c = some s.token.epoch →
       ∃ t, exec (.vrng c w) s = .next t ∧ t.token = { s.token with last := n } ∧ t.ctx c = y ∧ t.dispNo = s.dispNo + 1 ∧
         ∃ i, t.inst s.dispNo = some i ∧ i.mask = mask))

/-- R98, R42: a vector instruction at the head of its queue whose handles are ready does its work at that station and has issued there;
one whose work faults stops its context; one whose handles are not ready, or whose slot is in use, changes nothing. R107, R186: a load
leaves its slot with the context; a VLUT at the head whose table slot is not its context's faults with LUT_FORMAT.
R111, R222, R184: an instruction that has issued at every station of its mask finishes: it and its accesses are gone, FILL of the
handle it wrote advances by the handle's rows, and the flag word reaches the scalar that waits for it. -/
def Obligations.VectorsIssueAndFinish : Prop :=
  (∀ (st : StationId) (s : State) (no : Nat) (x : SInst), s.headInst st = some (no, x) → x.kind.vector = true →
     let unfit := (x.kind = .vlut ∨ x.kind = .vlutBack) ∧ slotMine ((s.stn st).tableSlot (x.w.f 48 46)) (s.lead x.cid) = false
     (unfit → exec (.vectorIssue st) s = .next (s.faultCtx x.cid 0x0305 (srcStn st))) ∧
     (¬ unfit → s.accessReady no st = false → exec (.vectorIssue st) s = .next s) ∧
     (s.accessReady no st = true → x.kind ≠ .vopLoad → x.kind ≠ .vlutLoad →
       let r := s.runVector st x
       (∀ f, r.fault = some f → exec (.vectorIssue st) s = .next (r.st.faultCtx x.cid f (srcStn st))) ∧
       (r.fault = none → s.bunkErr = [] → s.sideErr = [] → s.injectWord = none →
         ∃ t, exec (.vectorIssue st) s = .next t ∧ t.bunk = r.st.bunk ∧ t.side = r.st.side ∧ t.mem = s.mem ∧ t.ctxs = s.ctxs ∧
           no ∉ (t.stn st).queue ∧
           ∃ y, t.inst no = some y ∧ has y.issued st = true ∧ y.flags = x.flags ||| r.fl.bits5 ∧ y.satCnt = x.satCnt + r.fl.cnt)) ∧
     (s.accessReady no st = true → x.kind = .vopLoad → s.progBusy st (x.w.f 44 42) = false → s.bunkErr = [] → s.rlf.securing = none →
       let img := (s.imageRead (s.hnd (x.w.h 18)) st 1088).data
       drainImageOk img = true →
         ∃ t, exec (.vectorIssue st) s = .next t ∧ (t.stn st).drainSlot (x.w.f 44 42) = ⟨some (s.lead x.cid), img⟩ ∧ t.bunk = s.bunk) ∧
     (s.accessReady no st = true → x.kind = .vlutLoad → s.tableBusy st (x.w.f 48 46) = true → exec (.vectorIssue st) s = .next s)) ∧
  (∀ (no : Nat) (s : State) (x : SInst), s.inst no = some x → x.kind.vector = true → subset x.mask x.issued = true →
     (∃ t, exec (.vectorFinish no) s = .next t ∧ t.inst no = none ∧ (∀ a ∈ t.accs, a.no ≠ no) ∧ (x.kind ≠ .vcvt → t.bunk = s.bunk) ∧
       (∀ h, (x.kind = .vop ∧ h = x.w.h 30) ∨ ((x.kind = .vlut ∨ x.kind = .vlutBack) ∧ h = x.w.h 34) ∨ (x.kind = .vrng ∧ h = x.w.h 37) →
         (t.hnd h).fill.toNat = min (2 ^ 21 - 1) ((s.hnd h).fill.toNat + (s.hnd h).rows.toNat)) ∧
       (∀ k r, x.flagNo = some k → s.joined x.cid = false → (s.ctx x.cid).flagWait.find? (fun p => p.2 == k) = some (r, k) →
         t.ctx x.cid = { (s.ctx x.cid).wrote r
             (BitVec.ofNat 64 (x.flags.toNat + 65536 * min x.satCnt (2 ^ 32 - 1))) with
           flagWait := (s.ctx x.cid).flagWait.filter fun q => q.2 != k })))

/-- R191 to R195, R254, R255, R291: STREAM, STREAMP, SAVEACT and LOADACT start their stream in an IDLE queue, in FETCH, or put it into the
shadow slot of a busy one, as a reader or a writer of the handle's stations. In a joined context one that the sampler drives is a
cross-half instruction (R118; the model's reading, log entry 136). A queue that is not the context's faults with HAUL_QUEUE, one
with a full shadow with HAUL_REARM_BUSY, STREAMP with DIR 1 with HAUL_DIR, SAVEACT inside an evaluation with EVAL_ILLEGAL; in a joined
context the half that does not hold the hub goes on.
R194: WAITH goes on at once when FILL has reached COUNT rows (or, with COUNT 0, when the handle is complete), else it waits, and
WAITH_RELEASE lets it go on then and not before. A handle that is or will be provisional faults with SEQ_WAIT.
R272, R256, R264: a stream in FETCH whose checks end is known to its queue with what they found, and runs when it needs no engine; a
check that fails faults the instruction before the stream has moved a byte. -/
def Obligations.StreamsAreDispatchedAndChecked : Prop :=
  (∀ (c : Cid) (w : NWords) (s : State), s.Issues c → (s.ctx c).Settled [w.f 47 43] →
     let x := s.ctx c
     let hub : HubId := Fin.ofNat 4 (w.f 53 52)
     let q : QueueId := Fin.ofNat 16 (w.f 51 48)
     let h := w.h 31
     let started (kind : StreamKind) (dir prov : Bool) (t : State) : Prop :=
       let r : Stream := { no := s.dispNo, cid := c, kind := kind, h := h, dir := dir, prov := prov, addr := (x.s (w.f 47 43)).toNat,
                           step := x.rngStep, eval := x.prog.evalFlag }
       t.que hub q = (if (s.que hub q).st = .idle then { s.que hub q with st := .fetch, run := some r }
                      else { s.que hub q with shadow := some r }) ∧
       t.dispNo = s.dispNo + 1 ∧ (t.ctx c).prog.pc = x.after 1 ∧
       t.accs = (if (s.hnd h).set = 0 then s.accs else
         s.accs ++ [{ no := s.dispNo, h := h, set := (s.hnd h).set, rd := dir, wr := !dir, prov := prov }]) ∧
       t = { s with dispNo := t.dispNo, accs := t.accs, handles := t.handles, ctxs := t.ctxs, queues := t.queues, regs := t.regs }
     let all : List (Bool × Instr × StreamKind × Bool × Bool) :=
       [(Enc.stream w, .stream c w, .block, w.fb 30, false), (Enc.stream w && !w.fb 30, .streamp c w, .block, false, true),
        (Enc.saveact w && !x.prog.evalFlag, .saveact c w, .saveact (BitVec.ofNat 2 (w.f 30 29)), true, false),
        (Enc.loadact w, .loadact c w, .loadact (w.fb 30), false, w.fb 29)]
     let shared (kind : StreamKind) : Prop := s.joined c = true ∧ kind = .block ∧ s.fld Fld.HAUL_Q_CFG_MODE hub.val q.val ≠ 1 ∧
       s.samplerBlock c (x.s (w.f 47 43)).toNat = true
     let n := x.prog.cross + 1
     (∀ e ∈ all, e.1 = true → shared e.2.2.1 →
       (n ≤ s.token.last →
         exec e.2.1 s = .next (s.setCtx c { x.moved (x.after 1) with prog := { x.prog with pc := x.after 1, cross := n } })) ∧
       (s.token.last < n → s.hubHere c hub = false → exec e.2.1 s = .next s) ∧
       (s.token.last < n → s.hubHere c hub = true → s.holdsToken c = false → exec e.2.1 s = .next (s.reqToken c))) ∧
     (∀ e ∈ all, e.1 = true → ¬ shared e.2.2.1 →
       (s.hubHere c hub = false → exec e.2.1 s = .next (s.setCtx c (x.moved (x.after 1)))) ∧
       (s.hubHere c hub = true → s.queueMine c hub q = false → exec e.2.1 s = .next (s.seqFault c 0x0501)) ∧
       (s.hubHere c hub = true → s.queueMine c hub q = true → s.handleFault c h 0 = none →
         ((s.que hub q).shadow ≠ none → exec e.2.1 s = .next (s.seqFault c 0x0505)) ∧
         ((s.que hub q).shadow = none → ∃ t, exec e.2.1 s = .next t ∧ started e.2.2.1 e.2.2.2.1 e.2.2.2.2 t))) ∧
     (s.hubHere c hub = true → (Enc.stream w = true → w.f 30 30 = 1 → ¬ shared .block → exec (.streamp c w) s = .next (s.seqFault c 0x0504)) ∧
       (Enc.saveact w = true → x.prog.evalFlag = true → exec (.saveact c w) s = .next (s.seqFault c 0x0210)))) ∧
  (∀ (c : Cid) (w : NWords) (s : State),
     let x := s.ctx c
     let h := w.h 42
     let n := w.f 41 21
     (s.Issues c → Enc.waith w = true → s.handleFault c h 0 = none →
       ((s.hnd h).st = .provisional ∨ h.toNat ∈ (s.ctx (s.lead c)).provH → exec (.waith c w) s = .next (s.seqFault c 0x020B)) ∧
       ((s.hnd h).st ≠ .provisional → h.toNat ∉ (s.ctx (s.lead c)).provH → n ≠ 0 →
         exec (.waith c w) s = .next (s.setCtx c { x.moved (x.after 1) with
           wait := if n ≤ (s.hnd h).fill.toNat then .none else .waith h n s.dispNo })) ∧
       ((s.hnd h).st ≠ .provisional → h.toNat ∉ (s.ctx (s.lead c)).provH → n = 0 →
         exec (.waith c w) s = .next (s.setCtx c { x.moved (x.after 1) with
           wait := if ∀ i ∈ stationsOf (s.hnd h).set, s.complete h s.dispNo i = true then .none else .waith h 0 s.dispNo }))) ∧
     (∀ g k no, x.wait = .waith g k no → k ≠ 0 →
       (k ≤ (s.hnd g).fill.toNat → exec (.waithRelease c) s = .next (s.setCtx c { x with wait := .none })) ∧
       ((s.hnd g).fill.toNat < k → exec (.waithRelease c) s = .next s))) ∧
  (∀ (hub : HubId) (q : QueueId) (s : State) (r : Stream), (s.que hub q).run = some r → (s.que hub q).st = .fetch →
     r.checked = false → s.streamRuns hub r = true →
     let k := s.checkStream hub q r
     k.wait = false →
     (∀ f, k.fault = some f → exec (.streamCheckDone hub q) s = .next (k.st.faultCtx r.cid f (srcHub hub))) ∧
     (k.fault = none →
       ∃ t, exec (.streamCheckDone hub q) s = .next t ∧ (t.que hub q).run = some k.r ∧ t.bunk = s.bunk ∧ (s.memErr = [] → t.mem = s.mem) ∧
         (∀ a ∈ t.accs, a.no = r.no → a.set &&& ~~~k.r.served = 0) ∧
         (r.prov = false → k.r.needTurn = false → k.r.needCoder = false → (t.que hub q).st = .running) ∧
         (k.r.needTurn = true → q.val ∉ (s.hub hub).turn → (t.que hub q).st = .waiting)))

/-- R257: engines are granted in the order of request: a stream that stands first in the list gets the engines it needs while fewer than
two of each are held, and then runs.
R261, R273, R222: the next generated row of a descriptor's fill is written at its stations with the bytes its source address holds, zeros
to the end of the stride, and its row index counts in FILL with its last station. R229, R308: a row in a region that is no longer
the context's faults with MEM_RANGE (the model's reading, log entry 128).
R287, R279: a section whose rows have all come in and whose CRC fails, or that does not end where the next begins, faults with
HAUL_RECORD and none of its rows counts; one that passes is counted as checked. -/
def Obligations.EnginesWriteRowsInOrder : Prop :=
  (∀ (hub : HubId) (q : QueueId) (s : State) (r : Stream) (rest : List Nat), (s.que hub q).run = some r →
     (s.que hub q).st = .waiting → s.streamRuns hub r = true → (s.hub hub).req = q.val :: rest →
     (r.needTurn = true → (s.hub hub).turn.length < 2) → (r.needCoder = true → (s.hub hub).coder.length < 2) →
     r.checked = true → r.prov = false →
     ∃ t, exec (.engineGrant hub q) s = .next t ∧ (t.que hub q).st = .running ∧ q.val ∉ (t.hub hub).req ∧
       (t.hub hub).turn = (if r.needTurn then (s.hub hub).turn ++ [q.val] else (s.hub hub).turn) ∧
       (t.hub hub).coder = (if r.needCoder then (s.hub hub).coder ++ [q.val] else (s.hub hub).coder) ∧
       t = { s with hubs := t.hubs, queues := t.queues }) ∧
  (∀ (hub : HubId) (q : QueueId) (s : State) (r : Stream) (a : Nat), (s.que hub q).run = some r → (s.que hub q).st = .running →
     s.streamRuns hub r = true → r.kind = .block → bits (blkW r.blk 0) 56 8 ≠ 2 → r.dir = false →
     let h := s.hnd r.h
     let d := descOf r.blk h.set
     let m := descMove d h r.idx false r.moved
     r.moved < d.total h.set → m.addr = some a → m.turn = none → m.oob = false → s.moveReady r m.stns = true →
     (s.ctxRange r.cid a h.rowSize = false → exec (.streamRowWrite hub q) s = .next (s.faultCtx r.cid 0x0602 (srcHub hub))) ∧
     (∀ l, s.ctxPlaces r.cid a h.rowSize = some l → s.memErr = [] → s.bunkErr = [] → s.injectWord = none →
       ∃ t, exec (.streamRowWrite hub q) s = .next t ∧ t.mem = s.mem ∧ t.ctxs = s.ctxs ∧
         t.bunk = m.stns.foldl (fun b i =>
           let x := l.flatMap fun p => (List.range p.2).map fun k => s.memByte (p.1 + k)
           SMap.putList b 0 (slice i + h.rowAt m.row) (x ++ List.replicate (h.strideB - x.length) 0)) s.bunk ∧
         (t.que hub q).run = some { r with moved := r.moved + 1, generated := r.generated + (if m.first then 1 else 0)
                                           counted := r.counted + (if m.last then 1 else 0) } ∧
         (t.hnd r.h).fill.toNat = (if m.last then min (2 ^ 21 - 1) (h.fill.toNat + 1) else h.fill.toNat))) ∧
  (∀ (hub : HubId) (q : QueueId) (s : State) (r : Stream) (tr : Bool), (s.que hub q).run = some r → (s.que hub q).st = .running →
     s.streamRuns hub r = true → r.kind = .loadact tr → r.sections < hdrNsec r.head →
     (r.sections + 1) * (hdrShape r.head).rows ≤ r.moved → s.memErr = [] → ∀ b, s.sectionBytes r r.sections = some b →
     let placed (used : Nat) : Prop := (hdrSection r.head r.sections).1 + pad256 used = hdrNext r.head r.sections
     (decodeSection (hdrShape r.head) b.data = none →
       exec (.loadactSectionCheck hub q) s = .next (b.st.faultCtx r.cid 0x0507 (srcHub hub))) ∧
     (∀ p, decodeSection (hdrShape r.head) b.data = some p →
       (crc32c (b.data.take p.2.2) ≠ (hdrSection r.head r.sections).2 ∨ ¬ placed p.2.2 →
         exec (.loadactSectionCheck hub q) s = .next (b.st.faultCtx r.cid 0x0507 (srcHub hub))) ∧
       (crc32c (b.data.take p.2.2) = (hdrSection r.head r.sections).2 → placed p.2.2 →
         ∃ t y, exec (.loadactSectionCheck hub q) s = .next t ∧ (t.que hub q).run = some y ∧ y.sections = r.sections + 1 ∧
           y.moved = r.moved ∧ r.counted ≤ y.counted ∧ t.mem = s.mem ∧ t.ctxs = s.ctxs)))

/-- R274, R289, R291: a block stream that has moved all it generates finishes: its accesses end, its engines are free, its queue is IDLE
and counts it; then the shadow stream takes the queue, and GEN and REARMS count it. A queue that was cancelled is IDLE once its lines are
dropped, and the hub counts them.
R258: a round gives a client with priority p that has work at most 2^p grants, and one without work none; each is a line that the hub
counts; no result depends on it: memories,
handles, contexts and streams stay as they are. -/
def Obligations.StreamsFinish : Prop :=
  (∀ (hub : HubId) (q : QueueId) (lines : Nat) (s : State) (r : Stream),
     ((s.que hub q).run = some r → (s.que hub q).st = .running → s.streamRuns hub r = true → r.kind = .block → s.streamDone r = true →
       ∃ t, exec (.streamFinish hub q) s = .next t ∧ t.que hub q = { s.que hub q with st := .idle, run := none, lines := 0 } ∧
         (∀ a ∈ t.accs, a.no ≠ r.no) ∧ q.val ∉ (t.hub hub).turn ∧ q.val ∉ (t.hub hub).coder ∧ t.mem = s.mem ∧ t.bunk = s.bunk ∧
         t.fld Fld.HAUL_Q_CNT_STREAMS hub.val q.val =
           (s.fld Fld.HAUL_Q_CNT_STREAMS hub.val q.val + 1) % 2 ^ Fld.HAUL_Q_CNT_STREAMS.width) ∧
     ((s.que hub q).run = none → (s.que hub q).st = .idle → (s.que hub q).shadow = some r → s.streamRuns hub r = true → r.checked = false →
       ∃ t, exec (.shadowStart hub q) s = .next t ∧ t.que hub q = { st := .fetch, run := some r, shadow := none } ∧
         t.fld Fld.HAUL_Q_STATUS_GEN hub.val q.val =
           (s.fld Fld.HAUL_Q_STATUS_GEN hub.val q.val + 1) % 2 ^ Fld.HAUL_Q_STATUS_GEN.width ∧
         t.fld Fld.HAUL_Q_CNT_REARMS hub.val q.val =
           (s.fld Fld.HAUL_Q_CNT_REARMS hub.val q.val + 1) % 2 ^ Fld.HAUL_Q_CNT_REARMS.width ∧
         t = { s with queues := t.queues, regs := t.regs }) ∧
     ((s.que hub q).st = .draining →
       ∃ t, exec (.queueDrainDone hub q lines) s = .next t ∧ t.que hub q = { s.que hub q with st := .idle, lines := 0 } ∧
         t.fld Fld.HAUL_HUB_DISCARD_LINES hub.val =
           (s.fld Fld.HAUL_HUB_DISCARD_LINES hub.val + lines) % 2 ^ Fld.HAUL_HUB_DISCARD_LINES.width ∧
         t = { s with queues := t.queues, regs := t.regs })) ∧
  (∀ (hub : HubId) (grants : List (Fin 20)) (s : State),
     (s.regionRuns (48 + hub.val) = false → exec (.crossbarRound hub grants) s = .next s) ∧
     (s.regionRuns (48 + hub.val) = true →
       ∃ t, exec (.crossbarRound hub grants) s = .next t ∧ t.mem = s.mem ∧ t.bunk = s.bunk ∧ t.side = s.side ∧ t.ctxs = s.ctxs ∧
         t.queues = s.queues ∧ t.handles = s.handles ∧ t.accs = s.accs ∧
         s.Counted t Fld.HAUL_HUB_LINES_LINES ((List.range 20).map fun k =>
           if s.clientWorks hub k = true then min (2 ^ s.roundPri hub k) (grants.filter fun g => g.val == k).length else 0).sum hub.val))

/-- R197, R162, R220: HALLOC at a context that is not joined makes its entry, with FILL zero, when the number is the context's and free,
the shape fits and no other region lies in its way; it waits while a region that is purge-pending does; it faults with BNK_SHAPE,
BNK_HANDLE and BNK_OVERLAP.
R198, R223, R126: HFREE of a handle that nothing holds queues its region for purge; one that is held waits with FREE_PENDING; HPURGE
zero-fills it at once or when its hold ends and keeps it allocated. Both make the segment past return.
R44, R223, R228: a pending free takes effect when the hold ends, not before; a region whose turn has come at all its stations is
zero-filled, and its handle is free, or, after an HPURGE, allocated with FILL zero. -/
def Obligations.HandlesAreAllocatedAndPurged : Prop :=
  (∀ (c : Cid) (w : NWords) (s : State), s.Issues c → s.joined c = false → Enc.halloc w = true →
     let x := s.ctx c
     let set : StationSet := SMap.val x.prog.masks 0 (w.f 41 39)
     let h := w.h 42
     let e : Handle := { set := set, bank := BitVec.ofNat 4 (w.f 32 29), off := BitVec.ofNat 11 (w.f 28 18), fmt := BitVec.ofNat 4 (w.f 36 33),
                         cls := BitVec.ofNat 2 (w.f 38 37), st := .allocated, seq := decide (4 ≤ c.val), ctx := BitVec.ofNat 2 (c.val % 4),
                         rows := BitVec.ofNat 20 (w.x 19 0), stride := BitVec.ofNat 12 (w.x 31 20), cols := BitVec.ofNat 7 (w.x 38 32),
                         fill := 0, tentative := true, gen := (s.hnd h).gen + 1 }
     set ≠ 0 → subset set (s.seamSet c) = true → e.fmt.toNat < 12 →
     (e.shapeOk = false → exec (.halloc c w) s = .next (s.seqFault c 0x0402)) ∧
     (e.shapeOk = true → (s.inRange c h = false ∨ (s.hnd h).st ≠ .free) → exec (.halloc c w) s = .next (s.seqFault c 0x0401)) ∧
     (e.shapeOk = true → s.inRange c h = true → (s.hnd h).st = .free →
       ((∃ p ∈ s.usedHandles, p.2.st ≠ .purgePending ∧ p.2.meets e = true) → exec (.halloc c w) s = .next (s.seqFault c 0x0403)) ∧
       ((∀ p ∈ s.usedHandles, p.2.meets e = true → p.2.st = .purgePending) → s.sleepers e = [] →
         ((∃ p ∈ s.usedHandles, p.2.meets e = true) → exec (.halloc c w) s = .next s) ∧
         ((∀ p ∈ s.usedHandles, p.2.meets e = false) →
           exec (.halloc c w) s = .next ((s.setHnd h e).setCtx c (x.moved (x.after 2))))))) ∧
  (∀ (c : Cid) (w : NWords) (s : State), s.Issues c → s.joined c = false → Enc.hfree w = true →
     let x := s.ctx c
     let h := w.h 42
     let y := s.hnd h
     let z : Ctx := { x.moved (x.after 1) with pastReturn := true }
     s.handleFault c h 0 = none →
     ((∀ a ∈ s.accs, a.h ≠ h) →
       exec (.hfree c w) s = .next ({ (s.setHnd h { y with st := .purgePending, freePending := false, tentative := false, zeroing := false,
                                                           purgeNo := none }).setCtx c z with
         purgeQ := (s.purgeQ.filter fun p => p.1 != h) ++ [(h, false)] }) ∧
       (y.purgeNo = none → exec (.hpurge c w) s = .next ({ (s.setHnd h { y with zeroing := true, purgeNo := none }).setCtx c z with
         dispNo := s.dispNo + 1, purgeQ := if (h, true) ∈ s.purgeQ then s.purgeQ else s.purgeQ ++ [(h, true)] }))) ∧
     ((∃ a ∈ s.accs, a.h = h) →
       exec (.hfree c w) s = .next ((s.setHnd h { y with freePending := true }).setCtx c z) ∧
       (y.purgeNo = none → exec (.hpurge c w) s = .next ({ (s.setHnd h { y with purgeNo := some s.dispNo }).setCtx c z with
         dispNo := s.dispNo + 1 })))) ∧
  (∀ (h : HandleId) (s : State),
     ((s.hnd h).freePending = true →
       ((∃ a ∈ s.accs, a.h = h) → exec (.handleHoldEnd h) s = .next s) ∧
       ((∀ a ∈ s.accs, a.h ≠ h) →
         ∃ t, exec (.handleHoldEnd h) s = .next t ∧ (t.hnd h).st = .purgePending ∧ (t.hnd h).freePending = false ∧ (h, false) ∈ t.purgeQ ∧
           (∀ g, g ≠ h → t.hnd g = s.hnd g) ∧ t = { s with handles := t.handles, purgeQ := t.purgeQ })) ∧
     (s.purgeFirst h = none → exec (.bnkPurgeDone h) s = .next s) ∧
     (∀ keep, s.purgeFirst h = some keep → (stationsOf (s.hnd h).set).all s.sliceRuns = true →
       ∃ t, exec (.bnkPurgeDone h) s = .next t ∧
         (keep = false → (t.hnd h).st = .free) ∧ (t.hnd h).fill = 0 ∧ (t.hnd h).zeroing = false ∧
         ((∀ a ∈ s.accs, a.prov = false) → (keep = true → (t.hnd h).st = (s.hnd h).st) ∧ ∀ g, g ≠ h → t.hnd g = s.hnd g) ∧
         (h, keep) ∉ t.purgeQ ∧ t.mem = s.mem ∧ t.ctxs = s.ctxs ∧
         (∀ i ∈ stationsOf (s.hnd h).set, ∀ k < 256 * (s.hnd h).lines, SMap.val t.bunk 0 (slice i + 256 * (s.hnd h).line0 + k) = 0) ∧
         (∀ b, (∀ i ∈ stationsOf (s.hnd h).set, b < slice i + 256 * (s.hnd h).line0 ∨
             slice i + 256 * (s.hnd h).line0 + 256 * (s.hnd h).lines ≤ b) → SMap.val t.bunk 0 b = SMap.val s.bunk 0 b)))

/-- R239: a write of BNK_HSEL selects a handle table entry and takes its snapshot into BNK_HENT0 to BNK_HENT3; a read of BNK_HENT0 takes
the snapshot again; nothing but those registers changes.
R233 to R235: a sleep request is taken by an AWAKE bank that no handle's region touches, which becomes DEFERRING; a wake request sends
an ASLEEP bank to WAKING and a DEFERRING one back to AWAKE. Other banks, and other stations, stay as they are.
R234 to R236: a DEFERRING bank powers down within 16 µs or, with its counter of writes in flight above zero, returns to AWAKE with
PWR_DEFER; a WAKING bank is AWAKE, all zero, after its 2.0 µs; with AUTO an AWAKE bank that has held no line for IDLE µs begins to power
down. A bank whose station does not run keeps its state. -/
def Obligations.HandleTableAndBanksAnswer : Prop :=
  (∀ (who : Requester) (v : Word) (s : State) (n : Nat), n < 4 →
     let h : HandleId := v.extractLsb' 0 12
     let g : HandleId := BitVec.ofNat 12 (s.fld Fld.BNK_HSEL_HANDLE)
     (∃ t, exec (.bnkHselWrite who v) s = .next t ∧ t.fld Fld.BNK_HSEL_HANDLE = h.toNat ∧
       t.fld Fld.BNK_HENT_WORD n = s.handleWord h n % 2 ^ 64 ∧ t = { s with regs := t.regs }) ∧
     (∃ t, exec (.bnkHent0Read who) s = .next t ∧ t.fld Fld.BNK_HSEL_HANDLE = s.fld Fld.BNK_HSEL_HANDLE ∧
       t.fld Fld.BNK_HENT_WORD n = s.handleWord g n % 2 ^ 64 ∧ t = { s with regs := t.regs })) ∧
  (∀ (st : StationId) (v : Word) (s : State) (b : Nat), b < 16 →
     let x := s.bankPwr st b
     let runs := s.sliceRuns st = true
     (∃ t n, exec (.bankSleepReq st v) s = .next t ∧
       t.bankPwr st b = (if runs ∧ v.getLsbD b = true ∧ v.getLsbD (16 + b) = false ∧ x.st = .awake ∧ s.bankHeld st b = false
         then { x with st := .deferring, since := s.now, inFlight := n } else x) ∧
       (∀ i, i ≠ st → t.stn i = s.stn i) ∧ t = { s with stations := t.stations, regs := t.regs, freeCtr := t.freeCtr }) ∧
     (∃ t, exec (.bankWakeReq st v) s = .next t ∧
       t.bankPwr st b = (if runs ∧ v.getLsbD (16 + b) = true ∧ x.st = .asleep then { x with st := .waking, since := s.now }
         else if runs ∧ v.getLsbD (16 + b) = true ∧ x.st = .deferring then { x with st := .awake, since := s.now, idleSince := s.now } else x) ∧
       (∀ i, i ≠ st → t.stn i = s.stn i) ∧ t = { s with stations := t.stations })) ∧
  (∀ (st : StationId) (bank : Fin 16) (s : State),
     let x := s.bankPwr st bank.val
     (s.sliceRuns st = false → exec (.bankPowerDown st bank) s = .next s ∧ exec (.pwrDefer st bank) s = .next s ∧
       exec (.bankWakeDone st bank) s = .next s ∧ exec (.bankAutoSleep st bank) s = .next s) ∧
     (s.sliceRuns st = true → x.st = .deferring → s.now ≤ x.since + 16000 →
       exec (.bankPowerDown st bank) s = .next (s.setBankPwr st bank.val { x with st := .asleep, since := s.now, inFlight := 0 })) ∧
     (x.inFlight = 0 → exec (.pwrDefer st bank) s = .next s) ∧
     (s.sliceRuns st = true → x.st = .deferring → x.since + 16000 ≤ s.now → x.inFlight ≠ 0 →
       ∃ t, exec (.pwrDefer st bank) s = .next t ∧ t.bankPwr st bank.val = { x with st := .awake, since := s.now, idleSince := s.now } ∧
         s.Counted t Fld.BNK_ST_PWR_DEFERS 1 st.val ∧ s.Raised t 0x0406 (srcStn st) ∧ t.mem = s.mem ∧ t.bunk = s.bunk) ∧
     (s.sliceRuns st = true → x.st = .waking → x.since + 2000 ≤ s.now →
       ∃ t, exec (.bankWakeDone st bank) s = .next t ∧ t.bankPwr st bank.val = { x with st := .awake, since := s.now, idleSince := s.now } ∧
         (∀ k < 2 ^ 19, SMap.val t.bunk 0 (slice st + 2 ^ 19 * bank.val + k) = 0) ∧ t.mem = s.mem ∧ t.ctxs = s.ctxs) ∧
     (s.fld Fld.BNK_PWR_CTL_AUTO = 1 → s.sliceRuns st = true → x.st = .awake → s.bankHeld st bank.val = false →
       x.idleSince + 1000 * s.fld Fld.BNK_PWR_CTL_IDLE ≤ s.now →
       ∃ t n, exec (.bankAutoSleep st bank) s = .next t ∧
         t.bankPwr st bank.val = { x with st := .deferring, since := s.now, inFlight := n } ∧
         (∀ i, i ≠ st → t.stn i = s.stn i) ∧ t = { s with stations := t.stations, regs := t.regs, freeCtr := t.freeCtr }))

/-- R225 to R227: the scrubber reads a line of its round once, corrects a word with one flipped bit and counts it, ends the round with its
last line, and raises BNK_SCRUB_SLOW once for a round that takes longer than the limit.
R310, R311, R224: a scrub read of a word without an error changes nothing; it corrects a word with one flipped bit and counts it; an
uncorrectable word inside a region raises MEM_UE and is left as found, and outside every region its 4 KiB block is zero-filled. -/
def Obligations.ScrubbersRead : Prop :=
  (∀ (st : StationId) (line : Fin 32768) (s : State),
     let x := s.stn st
     let last := ∀ l < 32768, (s.scrubNeed st).testBit l = true → (x.scrubSeen ||| 2 ^ line.val).testBit l = true
     (s.fld Fld.BNK_SCRUB_CTL_EN = 1 → s.sliceRuns st = true → s.scrubLine st line.val = true → x.scrubSeen.testBit line.val = false →
       (s.bunkErr = [] → s.sideErr = [] →
         ∃ t, exec (.scrubRead st line) s = .next t ∧ t.bunk = s.bunk ∧ t.mem = s.mem ∧
           (¬ last → (t.stn st).scrubDone = x.scrubDone + 1 ∧ (t.stn st).scrubSeen = x.scrubSeen ||| 2 ^ line.val) ∧
           (last → (t.stn st).scrubDone = 0 ∧ (t.stn st).scrubSeen = 0 ∧
             (t.stn st).scrubQuarter = (x.scrubQuarter + 1) % 4 ∧ s.Counted t Fld.BNK_ST_SCRUB_ROUNDS 1 st.val)) ∧
       (∀ w m p, s.bunkErr = [(w, m)] → s.sideErr = [] → w / 32 = slice st / 256 + line.val → eccOutcome m = .ce p →
         ∃ t, exec (.scrubRead st line) s = .next t ∧ t.bunkErr = [] ∧ s.Counted t Fld.BNK_ST_ECC_CE_SCRUB 1 st.val)) ∧
     (x.scrubSeen.testBit line.val = true → exec (.scrubRead st line) s = .next s) ∧
     (s.fld Fld.BNK_SCRUB_CTL_EN = 1 → s.fld Fld.BNK_SCRUB_CTL_LIMIT ≠ 0 → x.scrubSlow = false →
       x.scrubTime + 1000 * s.fld Fld.BNK_SCRUB_CTL_LIMIT < s.now →
       ∃ t, exec (.bnkScrubSlow st) s = .next t ∧ (t.stn st).scrubSlow = true ∧ s.Raised t 0x0405 (srcStn st) ∧ t.mem = s.mem ∧ t.bunk = s.bunk)) ∧
  (∀ (ctrl : Fin 14) (offset : Nat) (s : State),
     let a := ctrlAddr s.variant ctrl.val (offset / 8 * 8)
     s.fld Fld.MEM_SCRUB_CTL_EN = 1 → s.domOn (ctrlDom ctrl.val) = true → s.stopDevice = false → assigned s.variant a 8 = true →
     memCtrl s.variant a = ctrl.val → a % 8 = 0 →
     (s.memErr = [] → exec (.patrolScrub ctrl offset) s = .next s) ∧
     (∀ m p, s.memErr = [(a / 8, m)] → eccOutcome m = .ce p →
       ∃ t, exec (.patrolScrub ctrl offset) s = .next t ∧ t.memErr = [] ∧ s.Counted t Fld.MEM_HC_ECC_CE_SCRUB 1 ctrl.val ∧
         (∀ b, t.memByte b = s.memByte b) ∧ t.ctxs = s.ctxs) ∧
     (∀ m, s.memErr = [(a / 8, m)] → eccOutcome m = .ue →
       ((∃ r ∈ s.rgnUsed, s.rgnHolds r a 8 = true) →
         ∃ t, exec (.patrolScrub ctrl offset) s = .next t ∧ t.memErr = s.memErr ∧ t.mem = s.mem ∧ s.Raised t 0x0603 (srcHbm ctrl.val) ∧
           s.Counted t Fld.MEM_HC_ECC_UE 1 ctrl.val) ∧
       ((∀ r ∈ s.rgnUsed, s.rgnHolds r a 8 = false) →
         ∃ t, exec (.patrolScrub ctrl offset) s = .next t ∧ t.memErr = [] ∧ (∀ b, a / 4096 * 4096 ≤ b → b < a / 4096 * 4096 + 4096 → t.memByte b = 0) ∧
           s.Counted t Fld.MEM_HC_ECC_UE 1 ctrl.val)))

/-- R307, R306, R616: a privileged write of STATE = 1 to a FREE entry that obeys R306 allocates the region to the owner it names; one that
breaks R306 is discarded with CFG_RANGE; a privileged STATE = 2 makes an ALLOCATED region PURGE_PENDING, last in its purge queue. Other
requesters are refused and counted.
R308, R374: a hub, or a mill, purges its regions in the order in which they became PURGE_PENDING, each once no access already in flight
reaches it: the first one's bytes are then zero, it is FREE (an entry of the tailings is then placed anew, log entry 129), and no other
byte of memory has changed. -/
def Obligations.MemoryRegionsAreAllocatedAndPurged : Prop :=
  (∀ (who : Requester) (r : Fin 256) (v : Word) (s : State),
     let off := 0x702008 + 0x10 * r.val
     (s.privileged who = false →
       (∃ t, exec (.rgnAllocate who r v) s = .next t ∧ t.rgnState r.val = s.rgnState r.val ∧ s.Counted t Fld.DBG_STATUS_REFUSALS 1 ∧
         t = { s with regs := t.regs }) ∧
       (∃ t, exec (.rgnRelease who r v) s = .next t ∧ t.rgnState r.val = s.rgnState r.val ∧ s.Counted t Fld.DBG_STATUS_REFUSALS 1 ∧
         t = { s with regs := t.regs })) ∧
     (s.privileged who = true → s.tailEntry r.val = false → s.partEntry r.val = false →
       (s.rgnState r.val = 0 → bits v 2 2 ≠ 3 → s.rgnOk r.val = true → s.rgnFilling r.val = false →
         ∃ t, exec (.rgnAllocate who r v) s = .next t ∧ t.rgnState r.val = 1 ∧ t.rgnClass r.val = bits v 2 2 ∧
           t.rgnOwner r.val = 4 * bits v 4 1 + bits v 5 2 ∧ (∀ k, k ≠ r.val → t.rgnState k = s.rgnState k) ∧ t = { s with regs := t.regs }) ∧
       (s.rgnState r.val = 0 → bits v 2 2 ≠ 3 → s.rgnOk r.val = false →
         ∃ t, exec (.rgnAllocate who r v) s = .next t ∧ t.rgnState r.val = 0 ∧ s.Raised t 0x0102 srcDev off ∧ t.mem = s.mem) ∧
       (s.rgnState r.val = 1 → s.rgnBase r.val < 2 ^ 47 →
         ∃ t, exec (.rgnRelease who r v) s = .next t ∧ t.rgnState r.val = 2 ∧ t.hbmPurge = s.hbmPurge ++ [r.val] ∧
           t = { s with regs := t.regs, hbmPurge := t.hbmPurge }) ∧
       (s.rgnState r.val ≠ 1 → exec (.rgnRelease who r v) s = .next s))) ∧
  (∀ (r : Fin 256) (s : State), s.rlf.rolePending = none →
     let a := s.rgnBase r.val
     let n := s.rgnSize r.val
     let cleared (t : State) : Prop :=
       (s.rst.tail = 0 ∨ r.val < 252 → t.rgnState r.val = 0) ∧ (∀ b, t.memByte b = if a ≤ b ∧ b < a + n then 0 else s.memByte b) ∧ t.ctxs = s.ctxs ∧ t.bunk = s.bunk
     (s.rgnAccess r.val = true → exec (.hbmPurgeDone r) s = .next s ∧ exec (.stockpilePurgeDone r) s = .next s) ∧
     (let h := memHub a
      s.rgnAccess r.val = false →
       (s.hbmPurge.filter fun k => memHub (s.rgnBase k) == h).head? = some r.val → s.regionRuns (48 + h.val) = true →
       ∃ t, exec (.hbmPurgeDone r) s = .next t ∧ cleared t ∧ r.val ∉ t.hbmPurge) ∧
     ((s.hbmPurge.filter fun k => memHub (s.rgnBase k) == memHub a).head? ≠ some r.val → exec (.hbmPurgeDone r) s = .next s) ∧
     (∀ m, s.purgeMill r.val = some m → s.rgnAccess r.val = false → (s.mill m).purge.head? = some r.val →
       s.regionRuns (56 + m.val) = true → ∃ t, exec (.stockpilePurgeDone r) s = .next t ∧ cleared t ∧ r.val ∉ (t.mill m).purge ∧
         s.Counted t Fld.MILL_PURGE_DONE (s.fld Fld.MEM_RGN_A_SIZE r.val) m.val))

/-- R314, R308, R313: a push of a valid store that fits its slot is written at the write head, its weight into the weight array, and the
head goes on; one longer than SLOT, or to a store that is not VALID, is discarded and counted in DROPPED, one into a region that is being
purged in MEM_PURGE; one beyond G since the last publication, or behind one that is held, is held to the next bell and counted in HELD.
R324, R18: MEM_SMP_LOAD of an IDLE or STOPPED context takes the data position of a record that fits its sampler, committed copy and working
copy; a record that does not raises SMP_RECORD and loads nothing; at any other context the write is rejected with CFG_BUSY. -/
def Obligations.PushesAndPositionsAreTaken : Prop :=
  (∀ (k : Fin 16) (weight : BitVec 16) (bytes : List Byte) (s : State),
     let i := (s.store k.val).head % s.ssN k.val
     let a := s.ssBase k.val + i * s.ssSlot k.val
     (s.ssValid k.val = true → bytes.length ≤ s.ssSlot k.val → s.rgnPurging a (s.ssSlot k.val) = false → (s.storeRgn k.val).isSome = true →
       (s.store k.val).since < s.ssG k.val → (s.store k.val).held = [] → s.memErr = [] → s.injectWord = none →
       ∃ t, exec (.samplePushWrite k weight bytes) s = .next t ∧
         t.store k.val = { head := (s.store k.val).head + 1, since := (s.store k.val).since + 1 } ∧
         t.mem = (let m := SMap.putList s.mem 0 a bytes
           if s.ssWeighted k.val then SMap.putList m 0 (s.ssWbase k.val + 2 * i) [weight.extractLsb' 0 8, weight.extractLsb' 8 8] else m) ∧
         t.ctxs = s.ctxs) ∧
     (s.ssValid k.val = false ∨ s.ssSlot k.val < bytes.length →
       ∃ t, exec (.samplePushWrite k weight bytes) s = .next t ∧ s.Counted t Fld.MEM_SS_CNT_DROPPED 1 k.val ∧ t = { s with regs := t.regs }) ∧
     (s.ssValid k.val = true → bytes.length ≤ s.ssSlot k.val → s.rgnPurging a (s.ssSlot k.val) = true →
       ∃ t, exec (.samplePushWrite k weight bytes) s = .next t ∧ s.Counted t Fld.MEM_PURGE_DROPPED 1 ∧ t = { s with regs := t.regs }) ∧
     (s.ssValid k.val = true → bytes.length ≤ s.ssSlot k.val → s.rgnPurging a (s.ssSlot k.val) = false → (s.storeRgn k.val).isSome = true →
       s.ssG k.val ≤ (s.store k.val).since ∨ (s.store k.val).held ≠ [] →
       ∃ t, exec (.samplePushWrite k weight bytes) s = .next t ∧ s.Counted t Fld.MEM_SS_CNT_HELD 1 k.val ∧
         t.store k.val = { s.store k.val with held := (s.store k.val).held ++ [.whole weight bytes] } ∧
         t = { s with regs := t.regs, stores := t.stores })) ∧
  (∀ (c : Cid) (v : Word) (s : State), s.memErr = [] →
     let st := (s.ctx c).st
     let b := (List.range 64).map fun i => s.memByte (64 * bits v 6 42 + i)
     (st = .idle ∨ st = .stopped →
       (s.posFits c b = true → ∃ t, exec (.memSmpLoad c v) s = .next t ∧ t.mem = s.mem ∧ t.ctxs = s.ctxs ∧
         t.smp c = (if bit (b.getD 56 0) 4 then { s.smp c with eval := posOf b, evalW := posOf b }
                    else { s.smp c with train := posOf b, trainW := posOf b })) ∧
       (s.posFits c b = false → ∃ t, exec (.memSmpLoad c v) s = .next t ∧ s.Raised t 0x0605 srcDev ∧ t.samplers = s.samplers ∧ t.mem = s.mem)) ∧
     (st = .running ∨ st = .waiting → ∃ t, exec (.memSmpLoad c v) s = .next t ∧ s.Raised t 0x0101 srcDev (0x705008 + 0x40 * c.val) ∧
       t.samplers = s.samplers ∧ t.mem = s.mem))

/-- R199, R201, R362 to R364: COEFSET at a context that is not joined writes its field of the shadow entry of the table it names; COEFSWAP
asks for the swap at the next bell. A FIELD code that no entry has faults with SEQ_OPCODE, an entry outside the context's range with
MILL_ENTRY, a table the variant does not have with UNIT_ABSENT.
R200, R345, R32, R126: MILLSTEP at a context that is not joined gives the record of s[SA] to its mill's queue, registers its write-back
on HW, and takes the tag; it waits while 64 are queued. A tag that no REDUCE carried since faults with SEQ_TAG, a variant without mills
with UNIT_ABSENT, an evaluation with EVAL_ILLEGAL. The entries it may name are those in force at its dispatch (R381). A hand-over that is
complete already is received, and counted, with it (R387).
R344, R347: the oldest MILLSTEP that the mill has not checked is accepted with the snapshot and the areas its record gives, or faults
its context with what the check finds. -/
def Obligations.CoefficientsAndMillstepsAreQueued : Prop :=
  (∀ (c : Cid) (w : NWords) (s : State) (m : Nat), s.Issues c → s.joined c = false → (s.ctx c).prog.evalFlag = false → m = w.f 53 52 →
     let x := s.ctx c
     let z : Ctx := { x.moved (x.after 1) with pastReturn := true }
     let e := w.f 51 40
     let f := w.f 39 32
     let v := x.s (w.f 31 27)
     let shadow := if SMap.val s.coefSel false (8 * m + c.val) then 0 else 1
     let range := s.fld Fld.MILL_CTX_ENTRY_BASE c.val ≤ e ∧ e < s.fld Fld.MILL_CTX_ENTRY_BASE c.val + s.fld Fld.MILL_CTX_ENTRY_COUNT c.val
     (Enc.coefset w = true → x.Settled [w.f 31 27] → m < 2 → s.variant.hasMill m = true →
       (f < 0x14 → e ≠ 0xFFF → range → SMap.val s.coefSwap false (8 * m + c.val) = false →
         let y : Word := if f = 0 ∨ f = 0xF ∨ f = 0x13 then v else v &&& 0xFFFFFFFF
         exec (.coefset c w) s = .next (({ s with
           coef := SMap.put s.coef 0 (((m * 2 + shadow) * 4096 + e) * 256 + f) y } : State).setCtx c z)) ∧
       (f < 0x14 → e ≠ 0xFFF → ¬ range → exec (.coefset c w) s = .next (s.seqFault c 0x0702)) ∧
       (0x14 ≤ f → f ≠ 0xFF → exec (.coefset c w) s = .next (s.seqFault c 0x0209))) ∧
     (Enc.coefswap w = true → m < 2 → s.variant.hasMill m = true →
       exec (.coefswap c w) s = .next (({ s with coefSwap := SMap.put s.coefSwap false (8 * m + c.val) true } : State).setCtx c z)) ∧
     (Enc.coefset w = true → x.Settled [w.f 31 27] → m < 2 → s.variant.hasMill m = false →
       exec (.coefset c w) s = .next (s.seqFault c 0x0103))) ∧
  (∀ (c : Cid) (w : NWords) (s : State), s.Issues c → s.joined c = false → Enc.millstep w = true → (s.ctx c).Settled [w.f 53 49] →
     let x := s.ctx c
     let tag : BitVec 12 := BitVec.ofNat 12 (w.f 35 24)
     let a := (x.s (w.f 53 49)).toNat
     let m := s.millOf c a
     let hw := w.h 37
     (x.prog.evalFlag = true → exec (.millstep c w) s = .next (s.seqFault c 0x0210)) ∧
     (x.prog.evalFlag = false → s.variant = .base → exec (.millstep c w) s = .next (s.seqFault c 0x0103)) ∧
     (x.prog.evalFlag = false → s.variant ≠ .base → tag ∉ x.tags → exec (.millstep c w) s = .next (s.seqFault c 0x020C)) ∧
     (x.prog.evalFlag = false → s.variant ≠ .base → tag ∈ x.tags → (w.f 36 36 = 1 → s.handleFault c hw (s.hnd hw).set = none) →
       (64 ≤ (s.mill m).queue.length → exec (.millstep c w) s = .next s) ∧
       ((s.mill m).queue.length < 64 →
         ∃ t u, exec (.millstep c w) s = .next t ∧ (t.mill m).queue = (s.mill m).queue ++ [u] ∧ u.no = s.dispNo ∧ u.cid = c ∧
           u.recAddr = a ∧ u.hw = hw ∧ u.hwv = (w.f 36 36 == 1) ∧ u.rtag = tag ∧ u.step = x.prog.step ∧ u.accepted = false ∧
           u.running = false ∧ u.entries = s.entryRange c ∧ t.dispNo = s.dispNo + 1 ∧
           (∀ r, s.redOf c tag = some r → r.complete = true → s.Counted t Fld.MILL_CNT_FOLD_HANDOVERS 1 m.val) ∧
           ((∀ r ∈ s.fab.reds, r.complete = false) → t.regs = s.regs) ∧
           t.ctx c = { x.moved (x.after 1) with pastReturn := true, tags := x.tags.filter (· != tag) } ∧
           (w.f 36 36 = 1 → (s.hnd hw).set ≠ 0 →
             t.accs = s.accs ++ [{ no := s.dispNo, h := hw, set := (s.hnd hw).set, rd := false, wr := true, wb := true }]) ∧
           t = { s with dispNo := t.dispNo, accs := t.accs, handles := t.handles, ctxs := t.ctxs, mill0 := t.mill0, mill1 := t.mill1,
                        regs := t.regs }))) ∧
  (∀ (m : Fin 2) (s : State) (u : Update), (s.mill m).queue.find? (fun u => !u.accepted) = some u → s.regionRuns (56 + m.val) = true →
     let red := s.fab.reds.find? fun r => r.no == u.red
     let r := s.recCheck u.cid m.val u.recAddr (if u.hwv then some u.hw else none) red (busyAreas (s.mill m).queue) (rng := some u.entries)
     (∀ f, r.res = .error f → exec (.millAccept m) s = .next (r.st.faultCtx u.cid f (srcMill m))) ∧
     (∀ k, r.res = .ok k → ∃ t, exec (.millAccept m) s = .next t ∧
       { u with snap := k.snap, t := k.t, areas := k.areas, accepted := true } ∈ (t.mill m).queue ∧
       (s.memErr = [] → t.mem = s.mem) ∧ t.bunk = s.bunk ∧ t.ctxs = s.ctxs))

/-- R346, R352, R353, R361: the update whose reduction handed over first runs. A hand-over of no contributions leaves it with
NO_CONTRIB, a non-finite gradient that NF_SKIP skips with its own status, and a mask of ones alone with ALL_FROZEN, all without a write.
R348, R358, R371: an update that has run and whose write-back may go on leaves the mill's queue with its reduction; its record's words
are written, its accesses end, and it is counted by its status. The oldest background refresh ends with its outcomes.
R202, R203, R376 to R378: VUPDATE, on CZT1-B only, checks its record and joins the queues of HW's stations, holding HW for its write-back
and
reading HDST; it waits while one of those queues is full. The first one that finds everything ready runs, and leaves with its reduction and
its accesses. -/
def Obligations.UpdatesStartAndFinish : Prop :=
  (∀ (m : Fin 2) (s : State) (u : Update) (ho : HOver), s.millNext m = some (u, ho) → s.regionRuns (56 + m.val) = true →
     let n := u.t.rows * u.t.cols
     (ho.n = 0 → ∃ t v, exec (.millUpdateStart m) s = .next t ∧ v ∈ (t.mill m).queue ∧ v.no = u.no ∧ v.running = true ∧ v.status = 4 ∧
       t.mem = s.mem ∧ t.bunk = s.bunk) ∧
     (ho.n ≠ 0 → ho.nf = true → u.snap.nfSkip = true →
       ∃ t v, exec (.millUpdateStart m) s = .next t ∧ v ∈ (t.mill m).queue ∧ v.no = u.no ∧ v.running = true ∧ v.status = 3 ∧
         t.mem = s.mem ∧ t.bunk = s.bunk) ∧
     (ho.n ≠ 0 → ho.nf = false → s.memErr = [] →
       maskAll ((List.range (ceilDiv n 8)).map fun k => s.memByte (u.t.mask + k)) n = true →
       ∃ t v, exec (.millUpdateStart m) s = .next t ∧ v ∈ (t.mill m).queue ∧ v.no = u.no ∧ v.running = true ∧ v.status = 2 ∧ v.frozen = n ∧
         t.mem = s.mem ∧ t.bunk = s.bunk)) ∧
  (∀ (m : Fin 2) (s : State), s.regionRuns (56 + m.val) = true →
     (∀ u, (s.mill m).queue.find? (fun u => u.running && s.backReady u) = some u → u.wb = [] → s.isSecured u.cid = false → s.memErr = [] →
       s.injectWord = none → (s.mill m).frozenGiven = true →
       ∃ t, exec (.millUpdateFinish m) s = .next t ∧ (∀ v ∈ (t.mill m).queue, v.no ≠ u.no) ∧
         ((∀ r ∈ s.fab.reds, r.no = u.red → r.issued = true) → ∀ r ∈ t.fab.reds, r.no ≠ u.red) ∧
         (∀ a ∈ t.accs, a.no ≠ u.no) ∧ t.ctxs = s.ctxs ∧ t.bunk = s.bunk ∧
         t.mem = SMap.putList s.mem 0 ((s.placed u.cid u.recAddr 192).1 + 128) (u.words.flatMap fun x => bytesOf 8 x.toNat) ∧
         (u.status = 1 → s.Counted t Fld.MILL_CNT_UPD_DONE 1 m.val) ∧ (u.status = 2 → s.Counted t Fld.MILL_CNT_UPD_ALL_FROZEN 1 m.val) ∧
         (u.status = 3 → s.Raised t 0x0704 (srcMill m)) ∧ (u.status = 4 → s.Counted t Fld.MILL_CNT_UPD_NO_CONTRIB 1 m.val)) ∧
     (∀ r, (s.mill m).refresh.find? (fun r => !r.finished) = some r →
       ∃ t, exec (.kronRefreshDone m) s = .next t ∧
         { r with finished := true, outcomes := (s.refreshAll r).outs } ∈ (t.mill m).refresh ∧ (t.mill m).queue = (s.mill m).queue)) ∧
  (∀ (c : Cid) (w : NWords) (s : State),
     (s.Issues c → s.joined c = false → Enc.vupdate w = true → (s.ctx c).Settled [w.f 53 49] →
       let x := s.ctx c
       let tag : BitVec 12 := BitVec.ofNat 12 (w.f 35 24)
       let hw := w.h 37
       let r := s.recCheck c (2 + c.val) (x.s (w.f 53 49)).toNat (some hw) (s.redOf c tag) []
       x.prog.evalFlag = false →
       (s.variant ≠ .base → exec (.vupdate c w) s = .next (s.seqFault c 0x0103)) ∧
       (s.variant = .base → tag ∉ x.tags → exec (.vupdate c w) s = .next (s.seqFault c 0x020C)) ∧
       (s.variant = .base → tag ∈ x.tags → s.handleFault c hw (s.hnd hw).set = none →
         (∀ f, r.res = .error f → exec (.vupdate c w) s = .next (r.st.seqFault c f)) ∧
         (∀ k, r.res = .ok k → s.memErr = [] → s.queuesFree (s.hnd hw).set = false → exec (.vupdate c w) s = .next s) ∧
         (∀ k, r.res = .ok k → s.memErr = [] → s.queuesFree (s.hnd hw).set = true →
           ∃ t u, exec (.vupdate c w) s = .next t ∧ t.vus = s.vus ++ [u] ∧ u.no = s.dispNo ∧ u.cid = c ∧ u.hw = hw ∧ u.rtag = tag ∧
             u.accepted = true ∧ u.running = false ∧ u.snap = k.snap ∧ t.dispNo = s.dispNo + 1 ∧
             t.ctx c = { x.moved (x.after 1) with pastReturn := true, tags := x.tags.filter (· != tag) } ∧ t.mem = s.mem ∧
             (∀ i, has (s.hnd hw).set i = true → s.dispNo ∈ (t.stn i).queue) ∧
             ((s.hnd hw).set ≠ 0 →
               { no := s.dispNo, h := hw, set := (s.hnd hw).set, rd := false, wr := true, wb := true } ∈ t.accs) ∧
             (∀ d, s.redOf c tag = some d → (s.hnd d.hdst).set ≠ 0 →
               { no := s.dispNo, h := d.hdst, set := (s.hnd d.hdst).set, rd := true, wr := false } ∈ t.accs)))) ∧
     (∀ u d, s.vuNext c = some (u, d) → (s.vuOver d).2.2 = none →
       ∃ t, exec (.vupdateIssue c) s = .next t ∧ (∀ v ∈ t.vus, v.no ≠ u.no) ∧ (∀ a ∈ t.accs, a.no ≠ u.no) ∧
         ((∀ r ∈ s.fab.reds, r.no = d.no → r.issued = true) → ∀ r ∈ t.fab.reds, r.no ≠ d.no)) ∧
     (s.vuNext c = none → exec (.vupdateIssue c) s = .next s))

/-- R204, R205, R221, R426: REDUCE at a context that is not joined, with its checks passed, makes its reduction, of the next generation of
its
GROUP and RTAG, with its decision bell; it waits while an earlier one of its tag is unfinished or has not read its source (log entry 135).
EVAL_ILLEGAL in an evaluation, UNIT_ABSENT
for DEST 0 on CZT1-B. -/
def Obligations.ReducesAreDispatched : Prop :=
  ∀ (c : Cid) (w : NWords) (s : State), s.Issues c → s.joined c = false → Enc.reduce w = true →
    let x := s.ctx c
    let g := w.x 27 18
    let tag := w.f 29 18
    (x.prog.evalFlag = true → exec (.reduce c w) s = .next (s.seqFault c 0x0210)) ∧
    (x.prog.evalFlag = false → w.xb 28 = false → s.variant = .base → exec (.reduce c w) s = .next (s.seqFault c 0x0103)) ∧
    ((∀ f ∈ s.reduceChecks c w, f = none) →
      ((∃ r ∈ s.fab.reds, r.cid = c ∧ r.rtag.toNat = tag ∧ r.dispatched = true ∧ (r.complete = false ∨ r.issued = false)) → exec (.reduce c w) s = .next s) ∧
      ((∀ r ∈ s.fab.reds, r.dispatched = true ∧ (r.cid = c → r.rtag.toNat = tag → r.complete = true ∧ r.issued = true)) →
        (∀ p ∈ s.fab.landing, p.cid ≠ c) → s.fab.kept = [] →
        ∃ t r, exec (.reduce c w) s = .next t ∧ r ∈ t.fab.reds ∧ r.no = s.dispNo ∧ r.cid = c ∧ r.group.toNat = g ∧ r.rtag.toNat = tag ∧
          r.gen = SMap.val s.fab.redCnt 0 (redKey g tag) + 1 ∧ r.dbell = s.segBell c + w.f 17 10 ∧ r.count = w.x 17 0 ∧
          r.dest = w.xb 28 ∧ r.dispatched = true ∧ r.issued = false ∧ r.decided = false ∧ r.complete = false ∧
          t.dispNo = s.dispNo + 1 ∧ (∀ a ∈ s.accs, a ∈ t.accs) ∧
          ((s.hnd (w.h 42)).set ≠ 0 → { no := s.dispNo, h := w.h 42, set := (s.hnd (w.h 42)).set, rd := true, wr := false } ∈ t.accs) ∧
          t.ctx c = { x.moved (x.after 2) with pastReturn := true, tags := (x.tags ++ [BitVec.ofNat 12 tag]).eraseDups } ∧
          t.mem = s.mem ∧ t.bunk = s.bunk))

/-- R429 to R434: a dispatched REDUCE whose source and scale are complete reads them; a partial that comes before the decision is held,
and one that comes to its owner after it is added to the owner's contribution; the decision is made at the decision bell or at a full
count; a gather block is kept; the hand-over completes when every block is there. -/
def Obligations.ReductionsRun : Prop :=
  ∀ s : State,
    (∀ no r, s.fab.reds.find? (fun r => r.no == no && r.dispatched && !r.issued) = some r → r.firstRead = false → r.decided = false →
      r.complete = false → s.redRoom = true → s.diesRun = true → s.bunkErr = [] → s.sideErr = [] →
      (s.completeAt r.hs no r.set = false → exec (.reduceReadHs no) s = .next s) ∧
      (s.completeAt r.hs no r.set = true → s.completeAt r.hsr no (s.hnd r.hsr).set = true →
        let b := (s.bunkRead ((stationsOf r.set).headD 0) ((s.hnd r.hsr).rowAt 0) 16).data
        let fmt := if fieldN (leAt b 1 1) 3 1 = 1 then 1 else 2
        ((s.hnd r.hs).fmt.toNat ≠ fmt → exec (.reduceReadHs no) s = .next (s.faultCtx r.cid 0x0304 (srcIod (s.planeList.headD 0)))) ∧
        ((s.hnd r.hs).fmt.toNat = fmt → ∃ t, exec (.reduceReadHs no) s = .next t ∧
          { r with issued := true, firstRead := true, src := (s.readHs r).1, exp := signedN (leAt b 0 1) 8 } ∈ t.fab.reds ∧
          t.mem = s.mem ∧ t.bunk = s.bunk ∧ t.ctxs = s.ctxs))) ∧
    (∀ msg r me, s.delivered 2 msg = true → s.redFor msg = some r → s.rankPos (bits msg.w1 0 10) = some me →
      let b := bits msg.w1 22 20
      let n := bits msg.w2 0 19
      let p : Partial := ⟨0, b, if n = 0 then [] else f32s (128 * r.cols) msg.data, n, (bits msg.w2 19 7 : Int) - 64, bits msg.w2 28 18, bit msg.w2 26⟩
      let line := s.lineOf r.group.toNat me 0
      (bits msg.w4 32 32 < r.restarts → exec (.partialReceive msg) s = .next s) ∧
      (r.restarts < bits msg.w4 32 32 → exec (.partialReceive msg) s = .next (s.putRed { r with early := r.early ++ [msg] })) ∧
      (bits msg.w4 32 32 = r.restarts → dimOf me msg.src = 0 → r.decided = false →
        exec (.partialReceive msg) s = .next (s.putRed { r with
          held := r.held ++ [p], dbell := min r.dbell msg.w3.toNat, full := r.full || bits msg.w2 46 18 ≤ n })) ∧
      (bits msg.w4 32 32 = r.restarts → dimOf me msg.src = 0 → r.decided = true → r.held = [] → 1 < line.length →
        line.idxOf me = s.ownerOfBlock r me b 0 → line.idxOf me ≠ ringNext (s.blockPlus b) line.length (s.ownerOfBlock r me b 0) →
        ∃ t r', exec (.partialReceive msg) s = .next t ∧ r' ∈ t.fab.reds ∧ r'.no = r.no ∧
          SMap.val r'.shares none b = some (p.join { r.contrib b with dim := 0 }))) ∧
    (∀ no r, s.fab.reds.find? (fun r => r.no == no && !r.decided) = some r →
      (s.bellNow < r.dbell → r.full = false → exec (.reduceDecide no) s = .next s) ∧
      (r.issued = false → s.redRoom = false → exec (.reduceDecide no) s = .next s) ∧
      (r.dbell ≤ s.bellNow ∨ r.full = true → r.issued = true ∨ s.redRoom = true → s.diesRun = true →
        ∃ t r', exec (.reduceDecide no) s = .next t ∧ r' ∈ t.fab.reds ∧ r'.no = no ∧ r'.decided = true ∧
          r'.contributes = (r.dispatched && r.issued) ∧ r'.atBell = !r.full ∧
          (r.dispatched = true → s.fab.folds = [] → t.mem = s.mem ∧ t.bunk = s.bunk ∧ t.ctxs = s.ctxs))) ∧
    (∀ msg r me, s.delivered 3 msg = true → msg.w7 = 0 → s.redFor msg = some r → s.rankPos (bits msg.w1 0 10) = some me →
      bits msg.w4 32 32 = r.restarts → r.dispatched = true →
      ∃ t, exec (.gatherBlockReceive msg) s = .next t ∧
        { r with blocks := SMap.put r.blocks none (bits msg.w1 22 20) (some (blockOf msg r.cols)) } ∈ t.fab.reds ∧
        t.mem = s.mem ∧ t.bunk = s.bunk ∧ t.ctxs = s.ctxs) ∧
    (∀ no r, s.fab.reds.find? (fun r => r.no == no && r.dispatched && !r.complete) = some r →
      (r.allBlocks = false → exec (.handoverComplete no) s = .next s) ∧
      (r.allBlocks = true → s.diesRun = true →
        (r.dest = true → s.writableAt r.hdst no r.set = true ∧ (r.stats = true → s.writableAt r.hstat no r.set = true)) →
        ∃ t, exec (.handoverComplete no) s = .next t ∧
          { r with complete := true, held := [], shares := [], src := [] } ∈ t.fab.reds ∧
          (∀ a ∈ t.accs, a.no = no → r.issued = false ∧ a.wr = false) ∧ t.mem = s.mem ∧ t.ctxs = s.ctxs ∧
          (∀ m : Fin 2, (∃ u ∈ (s.mill m).queue, u.red = no) → s.Counted t Fld.MILL_CNT_FOLD_HANDOVERS 1 m.val ∧
            s.Counted t Fld.MILL_CNT_FOLD_LATE r.over.nlate m.val) ∧
          (r.dest = false → t.bunk = s.bunk ∧ ∀ h, (t.hnd h).fill = (s.hnd h).fill) ∧
          (r.dest = true → r.stats = false → (t.hnd r.hdst).fill.toNat = min (2 ^ 21 - 1) ((s.hnd r.hdst).fill.toNat + r.rows))))

/-- R206, R435: GATHER, BCAST, SEND and RECV, at a context that is not joined, go past return once their handles are ready, and wait until
then. A BCAST at the root and a SEND send the handle's bytes, RECV and a BCAST elsewhere become writers of theirs, and a GATHER of a
handle of one block puts the member's own rows at its rank.
R206, R435: a block of a GATHER or a BCAST that was dispatched is written at its place; one of a later instruction, and a SEND message
without a RECV, waits in a landing region with room, or without one where it is (log entry 38). A SEND message goes into the RECV of its
node and tag, which ends with its last byte; each of its rows counts once in FILL. -/
def Obligations.CollectivesRun : Prop :=
  (∀ (c : Cid) (w : NWords) (s : State), s.Issues c → s.joined c = false → s.bunkErr = [] → s.sideErr = [] → s.injectWord = none →
     s.fab.landing = [] → s.fab.kept = [] → s.landFault c = none →
     let x := s.ctx c
     let y : Ctx := { x.moved (x.after 1) with pastReturn := true }
     let h := s.hnd (w.h 42)
     let writer (a : HandleId) : Access := { no := s.dispNo, h := a, set := (s.hnd a).set, rd := false, wr := true }
     let node : NodeId := BitVec.ofNat 17 (w.f 41 25)
     let done (t : State) : Prop := t.ctx c = y ∧ (∀ d, d ≠ c → t.ctx d = s.ctx d) ∧ t.dispNo = s.dispNo + 1 ∧ t.mem = s.mem
     (∀ me, Enc.gather w = true → s.handleFault c (w.h 42) 0 = none → s.handleFault c (w.h 30) h.set = none →
       s.grpFault c (w.f 29 20) 0 = none → s.rankPos (w.f 29 20) = some me →
       let hd := s.hnd (w.h 30)
       let size := s.grpSize (w.f 29 20) * h.rows.toNat
       (hd.fmt ≠ h.fmt → exec (.gather c w) s = .next (s.seqFault c 0x0304)) ∧
       (hd.fmt = h.fmt → hd.rows.toNat < size → exec (.gather c w) s = .next (s.seqFault c 0x0402)) ∧
       (hd.fmt = h.fmt → hd.set = h.set → hd.colsN = h.colsN → size ≤ hd.rows.toNat → (h.mx = true → h.rows.toNat % 32 = 0) →
         (s.completeAt (w.h 42) s.dispNo h.set = false → exec (.gather c w) s = .next s) ∧
         (s.completeAt (w.h 42) s.dispNo h.set = true → s.writableAt (w.h 30) s.dispNo hd.set = true →
           ∃ t, exec (.gather c w) s = .next t ∧ done t ∧
             SMap.val t.fab.redCnt 0 (collKey 1 (w.f 29 20)) = SMap.val s.fab.redCnt 0 (collKey 1 (w.f 29 20)) + 1 ∧
             (h.nblocks = 1 → (∀ p ∈ s.grpMembers (w.f 29 20), s.memberGone (w.f 29 20) p = false) →
               let i := (stationsOf h.set).headD 0
               t.bunk = (s.rowsIn hd i ((s.grpMembers (w.f 29 20)).idxOf me * h.rows.toNat) (h.groupRows 0) 0
                 (s.rowsOut h i 0 (h.groupRows 0)).data).bunk)))) ∧
     (∀ me, Enc.bcast w = true → s.handleFault c (w.h 42) 0 = none →
       let root : NodeId := BitVec.ofNat 17 (w.f 31 15)
       (s.inTorus root = false → exec (.bcast c w) s = .next (s.seqFault c 0x0802)) ∧
       (s.inTorus root = true → s.grpFault c (w.f 41 32) 0 = none → (s.grpRank (w.f 41 32) root).isSome = true →
         s.rankPos (w.f 41 32) = some me →
         (me = root → s.completeAt (w.h 42) s.dispNo h.set = true →
           ∃ t, exec (.bcast c w) s = .next t ∧ done t ∧ t.bunk = s.bunk ∧ t.accs = s.accs) ∧
         (me ≠ root → s.writableAt (w.h 42) s.dispNo h.set = false → exec (.bcast c w) s = .next s) ∧
         (me ≠ root → s.writableAt (w.h 42) s.dispNo h.set = true → h.set ≠ 0 →
           ∃ t k, exec (.bcast c w) s = .next t ∧ done t ∧ t.bunk = s.bunk ∧ t.accs = s.accs ++ [writer (w.h 42)] ∧ k ∈ t.fab.colls ∧
             k.no = s.dispNo ∧ k.kind = .bcast ∧ k.hd = w.h 42 ∧ k.node = root))) ∧
     (Enc.send w = true → s.handleFault c (w.h 42) 0 = none →
       (s.inTorus node = false → exec (.send c w) s = .next (s.seqFault c 0x0802) ∧ exec (.recv c w) s = .next (s.seqFault c 0x0802)) ∧
       (s.inTorus node = true →
         (s.completeAt (w.h 42) s.dispNo h.set = false → exec (.send c w) s = .next s) ∧
         (s.completeAt (w.h 42) s.dispNo h.set = true →
           let d := (stationsOf h.set).flatMap fun i => (s.rowsOut h i 0 h.rows.toNat).data
           ∃ t, exec (.send c w) s = .next t ∧ done t ∧ t.bunk = s.bunk ∧ t.accs = s.accs ∧
             (s.accepts node = true → t.fab.sent = s.fab.sent ++ (List.range (ceilDiv d.length msgRoom)).map fun k =>
               let m := s.msg node 2 4 [BitVec.ofNat 64 (w.f 24 17), BitVec.ofNat 64 d.length, BitVec.ofNat 64 (k * msgRoom)]
                 ((d.drop (k * msgRoom)).take msgRoom)
               { m with plane := s.pickPlane m })) ∧
         (s.writableAt (w.h 42) s.dispNo h.set = false → exec (.recv c w) s = .next s) ∧
         (s.writableAt (w.h 42) s.dispNo h.set = true → h.set ≠ 0 →
           ∃ t k, exec (.recv c w) s = .next t ∧ done t ∧ t.bunk = s.bunk ∧ t.accs = s.accs ++ [writer (w.h 42)] ∧ k ∈ t.fab.colls ∧
             k.no = s.dispNo ∧ k.kind = .recv ∧ k.hd = w.h 42 ∧ k.node = node ∧ k.mtag.toNat = w.f 24 17 ∧ k.got = 0)))) ∧
  (∀ (p : PortId) (msg : FMsg) (cls : BitVec 2) (s : State), s.bunkErr = [] → s.sideErr = [] → s.injectWord = none →
     let g := bits msg.w1 0 10
     let b := bits msg.w1 22 20
     let own : Cid := Fin.ofNat 8 (4 * s.fld Fld.BKN_GRP_SEQ g + s.fld Fld.BKN_GRP_CTX g)
     let last (k : Nat) : Nat := SMap.val s.fab.redCnt 0 (collKey k g)
     (∀ me x, s.delivered 3 msg = true → s.fld Fld.BKN_GRP_VALID g = 1 → s.rankPos g = some me →
       (msg.w7 = 1 → msg.w4.toNat ≤ last 1 →
         s.fab.colls.find? (fun x => x.kind == .gather && x.group.toNat == g && x.ord == msg.w4.toNat) = some x →
         let hs := s.hnd x.hs
         let p := hs.blockAt b
         ∃ t, exec (.collectiveMsgReceive msg) s = .next t ∧ t.mem = s.mem ∧ t.ctxs = s.ctxs ∧
           t.bunk = (s.rowsIn (s.hnd x.hd) p.1 ((s.grpMembers g).idxOf (BitVec.ofNat 17 (bits msg.w2 0 17)) * hs.rows.toNat + 128 * p.2)
             (hs.groupRows p.2) 0 msg.data).bunk) ∧
       (msg.w7 = 2 → msg.w4.toNat ≤ last 2 →
         s.fab.colls.find? (fun x => x.kind == .bcast && x.group.toNat == g && x.ord == msg.w4.toNat) = some x →
         let h := s.hnd x.hd
         let p := h.blockAt b
         ∃ t, exec (.collectiveMsgReceive msg) s = .next t ∧ t.mem = s.mem ∧ t.ctxs = s.ctxs ∧
           t.bunk = (s.rowsIn h p.1 (128 * p.2) (h.groupRows p.2) 0 msg.data).bunk) ∧
       (msg.w7 = 1 ∨ msg.w7 = 2 → last msg.w7.toNat < msg.w4.toNat →
         (s.land own msg = none →
           ∃ t, exec (.collectiveMsgReceive msg) s = .next t ∧ t.fab.kept = s.fab.kept ++ [⟨msg, some own, none⟩] ∧
             t.fab.landing = s.fab.landing ∧ t.mem = s.mem ∧ t.bunk = s.bunk ∧ t.ctxs = s.ctxs) ∧
         (∀ u, s.land own msg = some u →
           ∃ t a, exec (.collectiveMsgReceive msg) s = .next t ∧ t.fab.landing = s.fab.landing ++ [⟨own, a, msg⟩] ∧ t.mem = u.mem ∧
             t.bunk = s.bunk ∧ t.ctxs = s.ctxs))) ∧
     (∀ x, s.delivered 4 msg = true → s.recvFor msg = some x →
       let rows := (s.hnd x.hd).sendFill (x.got + msg.data.length)
       ∃ t, exec (.sendMsgReceive ⟨p, msg, cls⟩) s = .next t ∧ t.mem = s.mem ∧ t.ctxs = s.ctxs ∧
         (t.hnd x.hd).fill.toNat = min (2 ^ 21 - 1) ((s.hnd x.hd).fill.toNat + (rows - x.counted)) ∧
         (msg.w2.toNat ≤ x.got + msg.data.length → (∀ y ∈ t.fab.colls, y.no ≠ x.no) ∧ (∀ a ∈ t.accs, a.no ≠ x.no)) ∧
         (x.got + msg.data.length < msg.w2.toNat → { x with got := x.got + msg.data.length, counted := max x.counted rows } ∈ t.fab.colls ∧
           t.accs = s.accs)) ∧
     (s.delivered 4 msg = true → s.recvFor msg = none → s.fab.kept = [] →
       ((∀ c, s.land c msg = none) →
         exec (.sendMsgReceive ⟨p, msg, cls⟩) s = .next { s with fab := { s.fab with kept := [⟨msg, none, some (p, cls)⟩] } }) ∧
       (∀ u, allCids.findSome? (fun c => s.land c msg) = some u →
         ∃ t c a, exec (.sendMsgReceive ⟨p, msg, cls⟩) s = .next t ∧ t.fab.landing = s.fab.landing ++ [⟨c, a, msg⟩] ∧ t.fab.kept = [] ∧
           t.mem = u.mem ∧ t.bunk = s.bunk ∧ t.ctxs = s.ctxs)))

/-- R394, R399 to R402, R418, R459: a port that runs takes a good frame of the number it expects into its receive buffer, asks for a bad one
again with a NAK, and passes over any other; on Lalux, flits of a reserved channel are counted in BADFLIT; a control flit returns credits
and acknowledges frames, and the eighth NAK in a row takes the link down; a NAK has the frames from the one it names sent again. A frame
time sends an alignment frame (every 4,096th), a frame of a waiting replay, or five flits, control first, then VL0; a control flit that is
due during a replay goes into the frame sent again (log entry 134); a replay buffer full for 10 µs takes the link down. With the answer to
a RESET_REQ gone out, LLX is asserted (R468, log entry 79). -/
def Obligations.LinksCarryFrames : Prop :=
  ∀ (p : LinkPort) (s : State), (s.port p).up = true → s.portOn p = true →
    let x := s.port p
    (∀ no a b flits sym,
      let n := ([a, b].filter (· == Fec.corrected)).length
      let odd := (flits.filter fun (f : Flit) => match f with | .dataFlit _ vl _ => decide (3 ≤ vl.toNat) | _ => false).length
      let y := x.symbols sym
      ∃ t, exec (.frameReceive p no a b ⟨flits, sym⟩) s = .next t ∧ t.mem = s.mem ∧ t.ctxs = s.ctxs ∧
        (∀ q, p = .berken q → s.Counted t Fld.BKN_P_CNT_CORRECTED n q.val) ∧
        (no = x.rxNo → a ≠ .uncorrectable → b ≠ .uncorrectable → p.isLlx = true →
          s.Counted t Fld.LLX_P_CNT_BADFLIT odd (if p = .llxDn then 1 else 0)) ∧
        t.port p = (if no ≠ x.rxNo then y
          else if a = .uncorrectable ∨ b = .uncorrectable then { y with nak := some x.rxNo, ctlDue := true }
          else { y with
            rxNo := x.rxNo + 1, nak := none, owed := if p.isLlx then flits.foldl (owe true) x.owed else x.owed
            rx := if p.isLlx then x.rx else flits.foldl (owe false) x.rx })) ∧
    (∀ ctl : Control, (p = .llxDn → s.llx.tally ≠ 0) →
      (ctl.nak = false → ∃ t, exec (.controlFlit p ctl) s = .next t ∧
        (t.port p).replay = x.replay.filter (fun f => decide (32768 ≤ (ctl.ack - f.1).toNat)) ∧
        (∀ k < ctl.credits.length, let i := if p.isLlx then 4 * k else k
          SMap.val (t.port p).credits 0 i = SMap.val x.credits 0 i + (ctl.credits.getD k 0).toNat) ∧
        (t.port p).st = x.st ∧ (t.port p).tx = x.tx ∧ t.regs = s.regs) ∧
      (ctl.nak = true → ctl.nakNo = x.nakNo → x.nakCnt = 7 →
        ∃ t, exec (.controlFlit p ctl) s = .next t ∧ (t.port p).st = .retraining)) ∧
    (∀ no, x.replay.any (fun f => f.1 == no) = true →
      ∃ t, exec (.linkReplay p no) s = .next t ∧ t.port p = { x with resend := x.replay.dropWhile fun f => f.1 != no } ∧ t.mem = s.mem ∧
        (∀ q, p = .berken q → s.Counted t Fld.BKN_P_CNT_RETRIES 1 q.val)) ∧
    (∀ r, s.llx.resetDue = some r → r ∉ (s.frameSend p).llx.upq → exec (.frameSend p) s =
      .next (({ s.frameSend p with llx := { (s.frameSend p).llx with resetDue := none } } : State).assertData 2)) ∧
    ((∀ r, s.llx.resetDue = some r → r ∈ (s.frameSend p).llx.upq) → ∀ t0, x.fullSince = some t0 → t0 + 10000 ≤ s.now →
      ∃ t, exec (.frameSend p) s = .next t ∧ (t.port p).st = .retraining) ∧
    ((∀ r, s.llx.resetDue = some r → r ∈ (s.frameSend p).llx.upq) → (∀ t0, x.fullSince = some t0 → s.now < t0 + 10000) →
      (x.frames % 4096 = 4095 ∨ x.resend = [] ∧ 192 ≤ x.replay.length →
        exec (.frameSend p) s = .next (s.setPort p { x with frames := x.frames + 1, sinceCtl := x.sinceCtl + 1, tags := [] })) ∧
      (∀ f rest, x.frames % 4096 ≠ 4095 → x.resend = f :: rest →
        ∃ t, exec (.frameSend p) s = .next t ∧ (t.port p).resend = rest ∧ (t.port p).frames = x.frames + 1 ∧ (t.port p).txNo = x.txNo ∧
          (t.port p).tx = x.tx ∧ t.mem = s.mem ∧ (x.wantsCtl = false → (t.port p).tags = f.2.map Flit.tag) ∧
          (x.wantsCtl = true → .idle ∈ f.2 → .control ∉ f.2 →
            (t.port p).tags = (f.2.set (f.2.idxOf .idle) .control).map Flit.tag ∧ (t.port p).owed = [])) ∧
      (x.resend = [] → x.frames % 4096 ≠ 4095 → x.replay.length < 192 →
        ∃ t flits, exec (.frameSend p) s = .next t ∧ flits.length = 5 ∧ (t.port p).txNo = x.txNo + 1 ∧
          (t.port p).replay = x.replay ++ [(x.txNo, flits)] ∧ (t.port p).tags = flits.map Flit.tag ∧ t.mem = s.mem ∧ t.ctxs = s.ctxs ∧
          (x.wantsCtl = true → flits.head? = some .control) ∧
          (∀ q i, p = .berken q → x.st = .paired → x.wantsCtl = false → x.ready (·.msg.vl == 0) = some i →
            ∃ hd cls, flits.head? = some (.dataFlit hd 0 cls))))

/-- R401 to R405, R453, R456: a link that goes down retrains and is counted, its traffic going over to a sibling that runs; a Berken port
whose lane is lost, or has more corrected symbols than SPARE_THR, runs on three lanes, and on fewer is down with none; it is paired again at
once within 1 s of the loss, taking over what its sibling holds; RETRAIN asks for all four lanes, of a port that is down too; EN holds a
port down or lets it train; a first training begins pairing with the port's first message (on Lalux, traffic; a Lalux port that is down for
a lane comes up on all eight); pairing makes its checks, sends the port's own signature, and is tried again after 1 s. -/
def Obligations.LinksTrainAndPair : Prop :=
  ∀ s : State,
    (∀ p, (s.port p).up = false → exec (.linkDown p) s = .next s) ∧
    (∀ p, (s.port p).up = true → ∃ t, exec (.linkDown p) s = .next t ∧ (t.port p).st = .retraining ∧ t.mem = s.mem ∧ t.ctxs = s.ctxs ∧
      (p = .llxUp → s.Raised t 0x0901 (srcLlx false)) ∧ (p = .llxDn → s.Raised t 0x0901 (srcLlx true)) ∧
      (∀ q, p = .berken q → s.Counted t Fld.BKN_P_CNT_RETRAINS 1 q.val ∧
        ((s.bport (sibling q)).st = .paired →
          (t.bport q).tx = [] ∧
            (t.bport (sibling q)).tx = (s.bport (sibling q)).tx ++ (s.bport q).pendingMsgs.filter fun m => !m.ofLink))) ∧
    (∀ (p : PortId) (lane : Fin 4) (lost : Bool),
      let x := s.bport p
      let left := x.lanes &&& ~~~(1#8 <<< lane.val)
      (x.up = true → x.lanes.getLsbD lane.val = true → lost = true ∨ s.laneWeak p lane.val = true →
        (x.spared = false → ∃ t, exec (.laneSpare p ⟨lane, lost⟩) s = .next t ∧ (t.bport p).st = .retraining ∧ (t.bport p).lanes = left) ∧
        (x.spared = true → ∃ t, exec (.laneSpare p ⟨lane, lost⟩) s = .next t ∧ (t.bport p).st = .down ∧ (t.bport p).lanes = 0 ∧
          s.Raised t 0x0804 (srcPort p))) ∧
      (x.up = false ∨ x.lanes.getLsbD lane.val = false ∨ (lost = false ∧ s.laneWeak p lane.val = false) →
        exec (.laneSpare p ⟨lane, lost⟩) s = .next s) ∧
      (x.up = true ∨ x.st = .retraining ∨ (x.st = .down ∧ s.fld Fld.BKN_P_CFG_EN p.val = 1 ∧ s.portOn (.berken p) = true) →
        ∃ t, exec (.bknRetrainCmd p) s = .next t ∧ (t.bport p).st = .retraining ∧ (t.bport p).lanes = 0xF ∧ (t.bport p).spared = false) ∧
      (x.up = false → x.st ≠ .retraining → (x.st = .down → s.fld Fld.BKN_P_CFG_EN p.val = 0 ∨ s.portOn (.berken p) = false) →
        exec (.bknRetrainCmd p) s = .next s)) ∧
    (∀ (p : PortId) (lanes : BitVec 8),
      let x := s.bport p
      let y := s.bport (sibling p)
      let l := lanes &&& x.lanes &&& 0xF
      let mine (z : Port) : List TxMsg := z.pendingMsgs.filter fun m => !m.ofLink
      let again := x.keepPair = true ∧ s.now ≤ x.downSince + 10 ^ 9
      x.st = .retraining → s.portOn (.berken p) = true →
      (laneCount l < 3 → ∃ t, exec (.linkRetrainDone (.berken p) lanes) s = .next t ∧
        t.bport p = { x with st := .down, lanes := 0, spared := false } ∧ s.Raised t 0x0804 (srcPort p)) ∧
      (3 ≤ laneCount l → ∃ t, exec (.linkRetrainDone (.berken p) lanes) s = .next t ∧
        (t.bport p).st = (if again then .paired else .pairing) ∧ (t.bport p).lanes = l ∧
        (t.bport p).txNo = 0 ∧ (t.bport p).rxNo = 0 ∧ (t.bport p).replay = [] ∧
        (again → (t.bport p).tx = mine x ++ (if y.st = .paired then [] else mine y)) ∧
        (¬ again → ∃ m, (t.bport p).tx = mine x ++ [m] ∧ m.msg.kind = 8 ∧ bits m.msg.w1 40 2 = 1) ∧
        (laneCount l = 3 → x.spared = false → s.Raised t 0x0803 (srcPort p)))) ∧
    (∀ (p : LinkPort) (lanes : BitVec 8), p.isLlx = true → (s.port p).st = .retraining ∨ ((s.port p).st = .down ∧ (s.port p).everUp = true) →
      s.portOn p = true → ∃ t, exec (.linkRetrainDone p lanes) s = .next t ∧ (t.port p).st = (if lanes = 0xFF then .paired else .down)) ∧
    (∀ p, (s.port p).st = .training → s.portOn p = true →
      ∃ t, exec (.linkTrainingDone p) s = .next t ∧ (t.port p).st = (if p.isLlx then .paired else .pairing) ∧
        (t.port p).lanes = (if p.isLlx then 0xFF else 0xF) ∧ (t.port p).txNo = 0 ∧ (t.port p).rxNo = 0 ∧ t.regs = s.regs) ∧
    (∀ (who : Requester) (p : PortId), s.variant.hasIod (p.val / 12) = true →
      (∃ t, exec (.portEnWrite who p false) s = .next t ∧ (t.bport p).st = .down ∧ t.fld Fld.BKN_P_CFG_EN p.val = 0) ∧
      (∃ t, exec (.portEnWrite who p true) s = .next t ∧ t.fld Fld.BKN_P_CFG_EN p.val = 1 ∧
        (t.bport p).st = (if (s.bport p).st = .down ∧ s.portOn (.berken p) = true then .training else (s.bport p).st))) ∧
    (∀ (p : PortId) (i : PairInfo),
      let x := s.bport p
      let place := i.certOk = true ∧ i.pos = s.neighbour s.ownPos (dirOf p) ∧ i.port.toNat = peerPort p
      x.st = .pairing → x.pairFail = none → s.fld Fld.BKN_LOCK_AUTH = 1 → s.portOn (.berken p) = true →
      (place → i.sigOk = true →
        ∃ t, exec (.portPairing p i) s = .next t ∧ (t.bport p).st = .paired ∧ (t.bport p).peer = i.ident ∧ (t.bport p).asym = i.asym ∧
          (∃ m ∈ (t.bport p).tx, m.msg.kind = 8 ∧ bits m.msg.w1 40 2 = 3) ∧ t.regs = s.regs) ∧
      (¬ place ∨ i.sigOk = false →
        ∃ t, exec (.portPairing p i) s = .next t ∧ (t.bport p).st = .pairing ∧ (t.bport p).pairFail = some s.now ∧
          s.Raised t 0x0805 (srcPort p) ∧ (¬ place → t.bport p = { x with pairFail := some s.now }))) ∧
    (∀ (p : PortId) (t0 : Nat), (s.bport p).st = .pairing → (s.bport p).pairFail = some t0 →
      (s.now < t0 + 10 ^ 9 → exec (.pairingRetry p) s = .next s) ∧
      (t0 + 10 ^ 9 ≤ s.now → ∃ t m, exec (.pairingRetry p) s = .next t ∧ (t.bport p).st = .pairing ∧ (t.bport p).pairFail = none ∧
        (t.bport p).tx = (s.bport p).tx ++ [m] ∧ m.msg.kind = 8 ∧ bits m.msg.w1 40 2 = 1 ∧ m.msg.data.take 32 = s.pubKey))

/-- R406, R407, R314, R504, R408, R445: a remote write and a sample push are performed through a window that permits them (for a push, one
over its store's region), and otherwise discarded, counted and reported once a bell; a write into a region being purged is dropped; a
management message does what its code
asks; a signed fabric reset near the bell asks for the reset; a route-table write takes eight entries.
R397 to R399, R411 to R415: a router whose die runs discards a message of a wrong KIND or lane with PROTO at the port it came in on, and one
without a way with UNREACH; one for the device itself leaves its buffer, but a SEND message (log entry 38); any other joins the queue of a
port of its next hop, in the class that the dateline and DETOUR give, and leaves its buffer flit by flit as it is sent. -/
def Obligations.FabricMessagesAreTakenAndRouted : Prop :=
  (∀ (msg : FMsg) (s : State),
     let n := msg.w2.toNat
     let a := bits msg.w1 0 48
     let k := bits msg.w1 0 4
     let denied (t : State) : Prop := s.Counted t Fld.BKN_STATUS_WIN_DENY 1 ∧ t.mem = s.mem ∧ t.ctxs = s.ctxs ∧
       (s.fab.winGiven = false → t.fab.winGiven = true ∧ s.Raised t 0x0806 (srcIod msg.plane.toNat))
     (s.delivered 5 msg = false → exec (.remoteWrite msg) s = .next s) ∧
     (s.delivered 5 msg = true →
       ((∀ w ∈ s.winsFor msg.dst, winPermits w msg.src msg.vl.toNat a n = false) → ∃ t, exec (.remoteWrite msg) s = .next t ∧ denied t) ∧
       (∀ pa, (∃ w ∈ s.winsFor msg.dst, winPermits w msg.src msg.vl.toNat a n = true) → s.msgAddr msg.dst a n = some pa →
         (s.rgnPurging pa n = true → ∃ t, exec (.remoteWrite msg) s = .next t ∧ s.Counted t Fld.MEM_PURGE_DROPPED 1 ∧ t = { s with regs := t.regs }) ∧
         (s.rgnPurging pa n = false → msg.w3 = 0 → s.memErr = [] → s.injectWord = none →
           ∃ t, exec (.remoteWrite msg) s = .next t ∧ t.mem = SMap.putList s.mem 0 pa (msg.data.take n) ∧ t.ctxs = s.ctxs ∧ t.bunk = s.bunk))) ∧
     (s.delivered 6 msg = true →
       let wins (w : Word × Word) : Bool := winPermits w msg.src 4 (s.pushArea k).1 (s.pushArea k).2
       let x := s.store k
       let bytes := msg.data.take n
       let weight : BitVec 16 := BitVec.ofNat 16 (bits msg.w1 4 16)
       let slot := s.ssBase k + x.head % s.ssN k * s.ssSlot k
       ((∀ w ∈ s.winsFor msg.dst, wins w = false) → ∃ t, exec (.samplePushMsg msg) s = .next t ∧ denied t) ∧
       ((∃ w ∈ s.winsFor msg.dst, wins w = true) → exec (.samplePushMsg msg) s =
         exec (.samplePushWrite (Fin.ofNat 16 k) weight bytes) s) ∧
       ((∃ w ∈ s.winsFor msg.dst, wins w = true) → s.ssValid k = true → bytes.length ≤ s.ssSlot k → s.rgnPurging slot (s.ssSlot k) = false →
         (s.storeRgn k).isSome = true → x.since < s.ssG k → x.held = [] → s.memErr = [] → s.injectWord = none →
         ∃ t, exec (.samplePushMsg msg) s = .next t ∧ t.store k = { head := x.head + 1, since := x.since + 1 } ∧
           t.mem = (let m := SMap.putList s.mem 0 slot bytes
             if s.ssWeighted k then SMap.putList m 0 (s.ssWbase k + 2 * (x.head % s.ssN k)) [weight.extractLsb' 0 8, weight.extractLsb' 8 8]
             else m) ∧ t.ctxs = s.ctxs)) ∧
     (s.delivered 7 msg = true →
       (bits msg.w1 0 8 = 1 → exec (.managementMsg msg) s = exec (.declaration msg) s) ∧
       (bits msg.w1 0 8 = 8 → exec (.managementMsg msg) s = exec (.catchupRequest msg) s) ∧
       (bits msg.w1 0 8 = 9 → exec (.managementMsg msg) s = exec (.release msg) s) ∧
       (∀ x, bits msg.w1 0 8 = 5 → s.rlf.act = some x → x.anchor = msg.src → exec (.managementMsg msg) s = exec (.rejoinReply msg.w2) s) ∧
       (∀ i : Fin 2, bits msg.w1 0 8 = 3 → s.reliefOf msg.src = some i.val → s.seqOf i.val = n → (s.pairing i.val).paired = true →
         exec (.managementMsg msg) s = exec (.securingAck i) s) ∧
       (bits msg.w1 0 8 = 4 → exec (.managementMsg msg) s = .next (s.sendMsg (s.msg msg.src 5 7
         [5, BitVec.ofNat 64 (s.ctx (s.lead s.securedCtx)).image.step.toNat, 0]))) ∧
       (9 < bits msg.w1 0 8 → exec (.managementMsg msg) s = .next s)) ∧
     (∀ (p : PortId) (ok : Bool), msg.kind = 9 → msg.vl = 5 → s.portHears p = true → s.accepts msg.dst = true →
       let near := s.bellNow ≤ msg.w1.toNat + 2 ∧ msg.w1.toNat ≤ s.bellNow + 2
       (ok = true → near → exec (.fabricResetMsg p msg ok) s = .next { s with fab := { s.fab with resetAsked := true } }) ∧
       (ok = false ∨ ¬ near → exec (.fabricResetMsg p msg ok) s = .next s)) ∧
     (∀ (who : Requester) (v : Word), ∃ t, exec (.bknRtDataWrite who v) s = .next t ∧
       let b := s.fld Fld.BKN_RT_ADDR_ADDR
       (∀ i < 8, SMap.val t.fab.routes 0x3F ((b + i) % 2 ^ 17) = BitVec.ofNat 6 (bits v (8 * i) 6)) ∧
       (∀ e, (∀ i < 8, e ≠ (b + i) % 2 ^ 17) → SMap.val t.fab.routes 0x3F e = SMap.val s.fab.routes 0x3F e) ∧
       s.Counted t Fld.BKN_RT_ADDR_ADDR 8 ∧ t = { s with fab := { s.fab with routes := t.fab.routes }, regs := t.regs })) ∧
  (∀ (p : PortId) (msg : FMsg) (cls : BitVec 2) (s : State),
     let die := p.val / 12
     let freed := s.leaveBuf p msg.vl cls msg.flits
     (s.dieRuns die = false → exec (.messageRoute p msg cls) s = .next s) ∧
     (s.dieRuns die = true →
       (FMsgOk msg = false → ∃ t, exec (.messageRoute p msg cls) s = .next t ∧ s.Counted t Fld.BKN_P_CNT_PROTO 1 p.val ∧
         t = { freed with regs := t.regs }) ∧
       (FMsgOk msg = true → s.accepts msg.dst = true →
         exec (.messageRoute p msg cls) s = .next (if msg.kind = 4 then s else freed)) ∧
       (FMsgOk msg = true → s.accepts msg.dst = false →
         (s.hop die (s.posOf msg.dst) msg.detour (ringDir msg) = none →
           ∃ t, exec (.messageRoute p msg cls) s = .next t ∧ s.Counted t Fld.BKN_STATUS_UNREACH 1 ∧ t.fab.ports = freed.fab.ports ∧
             t.mem = s.mem ∧ (s.fab.unreachGiven = false → s.Raised t 0x0807 (srcIod die))) ∧
         (∀ dir det, s.hop die (s.posOf msg.dst) msg.detour (ringDir msg) = some (dir, det) → msg.kind ≠ 9 →
           let d := dir / 2
           let wrap := if dir % 2 = 0 then coord s.ownPos d + 1 = s.torusSize d else coord s.ownPos d = 0
           ∃ (q : PortId) (k : BitVec 2), q.val / 12 = die ∧ dirOf q = dir ∧ k.getLsbD 1 = det ∧
             (k.getLsbD 0 = true ↔ wrap ∨ (cls.getLsbD 0 = true ∧ dirOf p / 2 = d)) ∧
             exec (.messageRoute p msg cls) s = .next (s.setBport q { s.bport q with
               tx := (s.bport q).tx ++ [{ msg := { msg with plane := BitVec.ofNat 2 die, detour := det }, cls := k, own := none
                                          buf := some (p, cls) }] })))))

/-- R416 to R422, R436, R437: a heartbeat is noted for its direction, with its bell, and its port, and the time parent's sets OFFSET,
LOCKED and a rate
within 50 ppm; 16 bells out of bounds raise BKN_TIME_LOST; a neighbour that misses three bells, or is not heard on any lane, has its
link-sets taken down and a notice flooded; the first copy of a failure notice goes on to the other ports, a confirmed one puts the
position into the fault list with BKN_PEER_LOST, and a relief's maps the identity. -/
def Obligations.NeighboursAreWatched : Prop :=
  ∀ s : State,
    (∀ (p : PortId) (msg : FMsg), msg.kind = 0 → msg.vl = 0 → s.portHears p = true →
      ∃ t, exec (.heartbeatReceive p msg) s = .next t ∧ (dirOf p, msg.w1.toNat) ∈ t.fab.hbSeen ∧ (∀ e ∈ s.fab.hbSeen, e ∈ t.fab.hbSeen) ∧
        t.bport p = { s.bport p with hbStamp := msg.w2, hbArrive := s.time.ns } ∧ t.mem = s.mem ∧ t.ctxs = s.ctxs ∧
        (s.parentDir ≠ some (dirOf p) → t.regs = s.regs ∧ t.time = s.time) ∧
        (s.parentDir = some (dirOf p) → msg.w3 ≠ 0 →
          let off : Int := 2 * (((s.now : Int) - msg.w2.toNat) - ((msg.w4.toNat : Int) - msg.w3.toNat)) - (s.bport p).asym
          t.fld Fld.BKN_TIME_LOCKED = (if -40 ≤ off ∧ off ≤ 40 then 1 else 0) ∧
          t.fld Fld.BKN_TIME_OFFSET = (max (-32768) (min 32767 off) % 65536).toNat ∧
          (s.fab.firstMeasure = true → -50000 ≤ t.time.corr ∧ t.time.corr ≤ 50000 ∧ t.time.ns = s.time.ns ∧
            (0 < off → t.time.corr ≤ 0) ∧ (off < 0 → 0 ≤ t.time.corr)))) ∧
    (16 ≤ s.fab.offBells → ∃ t, exec .bknTimeLost s = .next t ∧ t.fab.offBells = 0 ∧ s.Raised t 0x080B srcDev ∧ t.mem = s.mem) ∧
    (s.fab.offBells < 16 → exec .bknTimeLost s = .next s) ∧
    (∀ (dir : Fin 6) (lost : Bool),
      (lost = false → SMap.val s.fab.missed 0 dir.val < 3 → exec (.neighbourSuspect dir lost) s = .next s) ∧
      ((lost = true ∨ 3 ≤ SMap.val s.fab.missed 0 dir.val) → (∃ p, dirOf p = dir.val ∧ (s.bport p).everUp = true) →
        (∃ d < 4, s.fab.downSets.contains (8 * d + dir.val) = false) → (∃ d < 4, s.dieRuns d = true) →
        ∃ t ident, exec (.neighbourSuspect dir lost) s = .next t ∧ (∀ d < 4, 8 * d + dir.val ∈ t.fab.downSets) ∧
          s.noticeOf (s.neighbour s.ownPos dir.val) ident 0 ∈ t.fab.notices ∧
          (s.fab.reds = [] → s.fab.kept = [] → t.mem = s.mem ∧ t.ctxs = s.ctxs))) ∧
    (∀ (p : PortId) (w1 w2 w3 : Word), s.portHears p = true →
      let n : Notice := ⟨w1, w2, w3⟩
      (n ∈ s.fab.notices → exec (.failureNotice p w1 w2 w3) s = .next s) ∧
      (n ∉ s.fab.notices →
        ∃ t, exec (.failureNotice p w1 w2 w3) s = .next t ∧ n ∈ t.fab.notices ∧
          (s.fab.reds = [] → s.fab.kept = [] → t.mem = s.mem ∧ t.ctxs = s.ctxs) ∧
          (∀ q ∈ s.pairedPorts, q ≠ p → ∃ m ∈ (t.bport q).tx, m.msg.kind = 1 ∧ m.msg.w1 = w1 ∧ m.msg.w2 = w2 ∧ m.msg.w3 = w3) ∧
          (w3.getLsbD 0 = true → noticePos n ∉ s.fab.absent → noticePos n ∈ t.fab.absent ∧
            (s.fab.faults.length < 32 → noticePos n ∈ t.fab.faults) ∧
            (s.fab.reds = [] → s.fab.kept = [] → s.Raised t 0x0808 srcDev (noticePos n).toNat)) ∧
          (w3.getLsbD 18 = true → (s.remapSlot (noticeId n)).isSome = true → t.posOf (noticeId n) = BitVec.ofNat 17 (bits w3 1 17))))

/-- R460, R461, R466 to R473, R480: a request that reaches a tallied device on a port that is up, with a good CHECK, has its effect and, if
it is not posted, its response on UP. A push beyond G since the last publication is held (R314); the weight of one that is weighted needs a
window as its bytes do (R470). An untallied device lets its DN port go once what it had to pass on has left (log entry 76). -/
def Obligations.HostRequestsAreAnswered : Prop :=
  ∀ (f : LFlit) (s : State), s.llxUp .llxUp = true → s.takes f = true → f.dst ≠ 63 → s.llx.tally ≠ 0 →
    let resp (status : BitVec 8) (data : List Byte) : LFlit := f.reply s.llx.tally 0xC f.addr status data
    let a := f.addr.toNat
    let n := f.len.toNat
    let m := bits f.aux 0 17
    let counts (t : State) (F : Fld) : Prop := s.Counted t F 1 ∧ t.mem = s.mem ∧ t.llx.upq = s.llx.upq
    (f.checkOk = false → (f.typ = 3 → ∃ t, exec (.memWr f) s = .next t ∧ counts t Fld.LLX_P_CNT_BADFLIT ∧ t = { s with regs := t.regs }) ∧
      (f.typ = 5 → ∃ t, exec (.flush f) s = .next t ∧ s.Counted t Fld.LLX_P_CNT_BADFLIT 1 ∧ t.llx.upq = s.llx.upq ++ [resp 5 []])) ∧
    (f.checkOk = true →
      (f.typ = 0 ∨ 12 ≤ f.typ.toNat → exec (.llxInvalidRequest f) s = .next (s.sendUp (resp 2 []))) ∧
      (f.typ = 7 → (s.anyBusy = true → exec (.untally f) s = .next (s.sendUp (resp 3 []))) ∧
        (s.anyBusy = false → exec (.untally f) s = .next (({ s with
          llx := if s.llx.dn.st ≠ .paired ∨ s.llx.dnq = [] ∧ s.llx.dnFlight = [] then
            { s.llx with tally := 0, dn := {}, dnq := [], dnFlight := [] } else { s.llx with tally := 0 } } : State).sendUp (resp 0 [])))) ∧
      (f.typ = 8 →
        exec (.resetReq f) s = .next (({ s with llx := { s.llx with resetDue := some (resp 0 []) } } : State).sendUp (resp 0 []))) ∧
      (f.typ = 11 →
        let img := s.bufImage
        (s.imageOk img = true → exec (.imgGo f ()) s = .next (({ s with
          rst := { s.rst with running := some img, verified := true } } : State).sendUp (resp 0 []))) ∧
        (s.imageOk img = false → ∃ t, exec (.imgGo f ()) s = .next t ∧ t.llx.img = [] ∧ s.Raised t 0x0C02 srcSurface ∧
          t.llx.upq = s.llx.upq ++ [resp 5 []] ∧ t.rst = s.rst)) ∧
      (f.typ = 10 →
        ∃ t, exec (.imgWr f) s = .next t ∧ t.llx.img = SMap.putList s.llx.img 0 a (f.data.take (8 * 2 ^ 20 - a)) ∧ t.llx.upq = s.llx.upq ∧
          (8 * 2 ^ 20 < a + n → s.Counted t Fld.LLX_WR_CNT_DENIED 1) ∧ (a + n ≤ 8 * 2 ^ 20 → t.regs = s.regs)) ∧
      (s.rst.recovery = true →
        (f.typ = 3 → ∃ t, exec (.memWr f) s = .next t ∧ counts t Fld.LLX_WR_CNT_DENIED) ∧
        (f.typ = 9 → ∃ t, exec (.push f) s = .next t ∧ counts t Fld.LLX_WR_CNT_DENIED) ∧
        (f.typ = 4 → exec (.memRd f) s = .next (s.sendUp (resp 4 []))) ∧ (f.typ = 5 → exec (.flush f) s = .next (s.sendUp (resp 4 [])))) ∧
      (s.rst.recovery = false →
        (f.typ = 1 → a < 2 ^ 24 → a % 8 = 0 → a ≠ 0x500010 →
          exec (.regRd f) s = .next (s.sendUp (resp 0 (bytesOf 8 (s.regWord .host a).toNat)))) ∧
        (f.typ = 1 → 2 ^ 24 ≤ a ∨ a % 8 ≠ 0 → ∃ t p, exec (.regRd f) s = .next t ∧ p.length = 8 ∧ t.llx.upq = s.llx.upq ++ [resp 2 p] ∧
          t.regs = s.regs) ∧
        (f.typ = 2 → a < 2 ^ 24 → a % 8 = 0 → f.len = 8 →
          let o := s.regWrite .host a (BitVec.ofNat 64 (leAt f.payload 0 8))
          o.st.portOn .llxUp = true → exec (.regWr f) s = .next (o.st.sendUp (resp o.status []))) ∧
        (f.typ = 2 → 2 ^ 24 ≤ a ∨ a % 8 ≠ 0 ∨ f.len ≠ 8 → exec (.regWr f) s = .next (s.sendUp (resp 2 []))) ∧
        (f.typ = 5 → exec (.flush f) s = .next (s.sendUp (resp 0 []))) ∧
        (f.typ = 3 →
          (s.postedOk Fld.LLX_HWIN_B_WR a n = false → ∃ t, exec (.memWr f) s = .next t ∧ counts t Fld.LLX_WR_CNT_DENIED ∧
            (s.llx.wrDenyGiven = false → t.llx.wrDenyGiven = true ∧ s.Raised t 0x0902 (srcLlx false) a)) ∧
          (s.postedOk Fld.LLX_HWIN_B_WR a n = true → s.rgnPurging a n = true →
            ∃ t, exec (.memWr f) s = .next t ∧ counts t Fld.MEM_PURGE_DROPPED) ∧
          (s.postedOk Fld.LLX_HWIN_B_WR a n = true → s.rgnPurging a n = false → s.memErr = [] → s.injectWord = none →
            ∃ t, exec (.memWr f) s = .next t ∧ t.mem = SMap.putList s.mem 0 a f.data ∧ t.llx = s.llx ∧ t.ctxs = s.ctxs ∧ t.bunk = s.bunk)) ∧
        (f.typ = 4 → 0 < m → m ≤ 65536 → assigned s.variant a m = true →
          (s.hostMay Fld.LLX_HWIN_B_RD a m = false → exec (.memRd f) s = .next (s.sendUp (resp 1 []))) ∧
          (s.hostMay Fld.LLX_HWIN_B_RD a m = true → s.rgnPurging a m = false → s.memErr = [] →
            let bs := (List.range m).map fun k => s.memByte (a + k)
            ∃ t, exec (.memRd f) s = .next t ∧ t.mem = s.mem ∧ t.ctxs = s.ctxs ∧
              t.llx.upq = s.llx.upq ++ ((List.range ((m + 223) / 224)).map fun k =>
                f.reply s.llx.tally 0xD (BitVec.ofNat 48 (a + 224 * k)) 0 ((bs.drop (224 * k)).take 224)) ++ [resp 0 []])) ∧
        (f.typ = 9 → (∀ p ∈ s.llx.pushes, p.tag ≠ f.tag) → bits f.addr 24 24 = 0 →
          let k := bits f.addr 0 4
          let total := bits f.aux 0 32
          let slot := (s.store k).head
          let b := s.ssBase k + slot % s.ssN k * s.ssSlot k
          let len := min 224 total
          (s.pushFate k total = .drop → ∃ t, exec (.push f) s = .next t ∧ counts t Fld.LLX_WR_CNT_PUSH_BAD ∧ t.stores = s.stores) ∧
          (s.pushFate k total = .hold → n = len → ∃ t, exec (.push f) s = .next t ∧ s.Counted t Fld.MEM_SS_CNT_HELD 1 k ∧ t.mem = s.mem ∧
            t.llx.upq = s.llx.upq ∧ (t.store k).head = slot ∧ (t.store k).held.length = (s.store k).held.length + 1) ∧
          (s.pushFate k total = .take → n = len → s.postedOk Fld.LLX_HWIN_B_PUSH b len = true →
            (total ≤ 224 → s.ssWeighted k = true → s.postedOk Fld.LLX_HWIN_B_PUSH (s.ssWbase k + 2 * (slot % s.ssN k)) 2 = true) → s.memErr = [] → s.injectWord = none →
            ∃ t, exec (.push f) s = .next t ∧ t.store k = { head := slot + 1, since := (s.store k).since + 1 } ∧ t.llx.upq = s.llx.upq ∧
              (224 < total → t.mem = SMap.putList s.mem 0 b f.data ∧
                { tag := f.tag, store := k, slot := slot, total := total, weight := BitVec.ofNat 16 (bits f.aux 32 16), next := 224 } ∈ t.llx.pushes) ∧
              (total ≤ 224 → (∀ p ∈ t.llx.pushes, p.tag ≠ f.tag) ∧
                t.mem = (let d := SMap.putList s.mem 0 b f.data
                  if s.ssWeighted k then SMap.putList d 0 (s.ssWbase k + 2 * (slot % s.ssN k)) (bytesOf 2 (bits f.aux 32 16)) else d))))))

/-- R459, R464, R466, R476, R477: an untallied device takes the tally of an ENUM for it, answers with its identity and trains its DN port,
which then is up or down; a flit that is not for the device goes on along the chain, one on a reserved channel is discarded (its frame has
counted it); the oldest
event frame goes to the host, and lost raises are told in one frame. -/
def Obligations.ChainAndEventsAreServed : Prop :=
  ∀ s : State,
    (∀ f : LFlit, s.llxUp .llxUp = true → s.llx.tally = 0 → f.typ = 6 → f.dst = 62 → f.checkOk = true →
      let v := bits f.aux 0 6
      (1 ≤ v → v ≤ 32 →
        ∃ t, exec (.enum f) s = .next t ∧ t.llx.tally.toNat = v ∧ t.llx.dn = { s.llx.dn with st := .training } ∧
          t.llx.upq = s.llx.upq ++ [f.reply (BitVec.ofNat 6 v) 0xC f.addr 0 s.enumData] ∧
          t = { s with llx := { s.llx with tally := t.llx.tally, dn := t.llx.dn, upq := t.llx.upq } }) ∧
      (v = 0 ∨ 32 < v → ∃ t p, exec (.enum f) s = .next t ∧ p.length = 32 ∧ t.llx.tally = 0 ∧
        t.llx.upq = s.llx.upq ++ [f.reply 0 0xC f.addr 2 p])) ∧
    (s.llx.tally ≠ 0 → s.llx.dn.st = .training → s.portOn .llxDn = true →
      (∃ t, exec (.dnPortTrainDone true) s = .next t ∧ t.llx.dn.st = .paired ∧ t.llx.dn.lanes = 0xFF ∧ t.regs = s.regs) ∧
      exec (.dnPortTrainDone false) s = .next { s with llx := { s.llx with dn := { s.llx.dn with st := .down } } }) ∧
    (s.llx.tally = 0 ∨ s.llx.dn.st ≠ .training → ∀ b, exec (.dnPortTrainDone b) s = .next s) ∧
    (∀ (chan : BitVec 3) (f : LFlit),
      (s.llxUp .llxDn = true → chan.toNat < 3 → exec (.flitForward true chan f) s = .next (s.sendUp f)) ∧
      (s.llxUp .llxUp = true → chan.toNat < 3 →
        (s.takes f = true → exec (.flitForward false chan f) s = .next s) ∧
        (s.takes f = false → s.llx.tally = 0 → exec (.flitForward false chan f) s = .next s) ∧
        (s.takes f = false → s.llx.tally ≠ 0 → f.typ ≠ 6 ∨ s.llx.dn.st ≠ .down →
          exec (.flitForward false chan f) s = .next { s with llx := { s.llx with dnq := s.llx.dnq ++ [f] } })) ∧
      (3 ≤ chan.toNat → ∀ b, exec (.flitForward b chan f) s = .next s)) ∧
    (∀ e rest, s.llx.events = e :: rest →
      (s.llx.tally ≠ 0 → s.llxUp .llxUp = true →
        ∃ t f, exec .event s = .next t ∧ t.llx.events = rest ∧ t.llx.upq = s.llx.upq ++ [f] ∧ f.typ = 0xE ∧ f.dst = 0 ∧
          f.src = s.llx.tally ∧ f.payload = e.payload ∧ f.checkOk = true ∧ s.Counted t Fld.LLX_EVT_CNT_SENT 1) ∧
      (s.llx.tally = 0 → exec .event s = .next s)) ∧
    (s.llx.evLost ≠ 0 → s.llx.events.length < 256 →
      ∃ t, exec .llxEvtLost s = .next t ∧ s.Raised t 0x0903 (srcLlx false) s.llx.evLost ∧ (s.fld Fld.DBG_TRIG_EN = 0 → t.llx.evLost = 0) ∧
        t.mem = s.mem) ∧
    (s.llx.evLost = 0 ∨ 256 ≤ s.llx.events.length → exec .llxEvtLost s = .next s)

/-- R208, R490, R496, R497, R506: a SECURE that is not due, or that finds a securing in flight, is counted and otherwise only passed; one
that is due checks its plan, and faults with what the check finds or begins the securing. An evaluation faults with EVAL_ILLEGAL, another
context or Drop mode with RLF_MODE. -/
def Obligations.SecuresBeginOrPass : Prop :=
  ∀ (c : Cid) (w : NWords) (s : State), s.Issues c → s.joined c = false → Enc.atSa w = true → (s.ctx c).Settled [w.f 53 49] →
    let x := s.ctx c
    let z : Ctx := { x.moved (x.after 1) with pastReturn := true }
    (x.prog.evalFlag = true → exec (.secure c w) s = .next (s.seqFault c 0x0210)) ∧
    (x.prog.evalFlag = false → s.isSecured c = false → exec (.secure c w) s = .next (s.seqFault c 0x0A01)) ∧
    (x.prog.evalFlag = false → s.isSecured c = true →
      (s.secureDue c = false → exec (.secure c w) s = .next ((s.bump Fld.RLF_CNT_NOT_DUE).setCtx c z)) ∧
      (s.secureDue c = true → s.rlf.securing.isSome = true →
        exec (.secure c w) s = .next ((s.bump Fld.RLF_CNT_BUSY_SKIP).setCtx c z)) ∧
      (s.secureDue c = true → s.rlf.securing = none →
        let r := s.planCheck c (x.s (w.f 53 49)).toNat
        (∀ f, r.res = .error f → exec (.secure c w) s = .next (r.st.seqFault c f)) ∧
        (∀ p, r.res = .ok p → ∃ t y, exec (.secure c w) s = .next t ∧ t.rlf.securing = some y ∧ y.cid = c ∧ y.no = r.st.dispNo ∧
          y.items = p.items ∧ y.anchor = p.anchor ∧ y.targets = r.st.pairedReliefs ∧ y.committed = false ∧ y.copyTo = none ∧ y.acks = [] ∧
          y.sentAt = none ∧ t.dispNo = r.st.dispNo + 1 ∧ t.bunk = r.st.bunk ∧ t.mem = r.st.mem)))

/-- R507, R510 to R512: an item of the securing that is still to be read is read, its digest kept; once its segment has committed and all
items are read the control block and then the record go to every target; with the last paired relief's acknowledgement the securing
commits; 8 bells without one, or the loss of a target, abandon it, and SEQ stays. -/
def Obligations.SecuringsRun : Prop :=
  ∀ (s : State) (z : Securing), s.rlf.securing = some z → s.rlf.copy = none → z.copyTo = none →
    (∀ idx it, idx ∈ z.unread → z.items[idx]? = some it → it.kind = 2 → s.memErr = [] →
      s.declared z.cid (it.w1.toNat, it.w2.toNat) = true →
      let a := (s.ctxAddr z.cid it.w1.toNat it.w2.toNat).getD it.w1.toNat
      let bs := (List.range it.w2.toNat).map fun k => s.memByte (a + k)
      ∃ t, exec (.securingItemRead idx) s = .next t ∧
        t.rlf.securing = some { z with unread := z.unread.filter (· != idx), digests := SMap.put z.digests (0, 0) idx (crcD1 bs, crcD2 bs) } ∧
        t.mem = s.mem ∧ t.bunk = s.bunk ∧ t.ctxs = s.ctxs ∧ t.handles = s.handles) ∧
    (∀ idx, idx ∉ z.unread → exec (.securingItemRead idx) s = .next s) ∧
    (z.committed = true → z.unread = [] → z.sentAt = none →
      ∃ t, exec .securingCommitRecord s = .next t ∧ t.rlf.securing = some { z with sentAt := some s.bellNow } ∧ t.mem = s.mem ∧
        t.bunk = s.bunk ∧ t.ctxs = s.ctxs) ∧
    (z.committed = false ∨ z.unread ≠ [] ∨ z.sentAt.isSome = true → exec .securingCommitRecord s = .next s) ∧
    (∀ n : Fin 2, (s.pairing n.val).paired = true → z.sentAt.isSome = true → n.val ∈ z.targets →
      let acks := (z.acks ++ [n.val]).eraseDups
      (s.pairedReliefs.all acks.contains = false →
        exec (.securingAck n) s = .next { s with rlf := { s.rlf with securing := some { z with acks := acks } } }) ∧
      (s.pairedReliefs.all acks.contains = true → ∃ t, exec (.securingAck n) s = .next t ∧ t.rlf.securing = none ∧
        t.fld Fld.RLF_CTX_SECURED_STEP = z.step.toNat ∧ t.fld Fld.RLF_CTX_SECURED_VALID = 1 ∧ s.Counted t Fld.RLF_CNT_SECURED 1 ∧
        t.rlf.seq0 = (if 0 ∈ z.targets then s.rlf.seq0 + 1 else s.rlf.seq0) ∧
        t.rlf.seq1 = (if 1 ∈ z.targets then s.rlf.seq1 + 1 else s.rlf.seq1) ∧ t.rlf.pairChanged = false ∧
        (∀ a, a ∈ t.accs ↔ a ∈ s.accs ∧ a.no ≠ z.no) ∧ t.mem = s.mem)) ∧
    (∀ n : Fin 2, (s.pairing n.val).paired = false ∨ z.sentAt = none ∨ n.val ∉ z.targets → exec (.securingAck n) s = .next s) ∧
    ((∃ b, z.sentAt = some b ∧ b + 8 ≤ s.bellNow) ∨ (∃ n ∈ z.targets, (s.pairing n).paired = false) →
      ∃ t, exec .securingAbandon s = .next t ∧ t.rlf = { s.rlf with securing := none } ∧ s.Counted t Fld.RLF_CNT_ABANDONED 1 ∧
        t = { s with rlf := t.rlf, regs := t.regs, accs := t.accs }) ∧
    (z.sentAt = none → z.targets ≠ [] → (∀ n ∈ z.targets, (s.pairing n).paired = true) → exec .securingAbandon s = .next s)

/-- R139, R208, R323: MARKPOS stores the committed data position, inside an evaluation the evaluation position, and RNGSAVE the seed, the
step, the evaluation count and flag, at s[SA]; outside the context's regions they fault with MEM_RANGE, RNGSAVE in an evaluation with
EVAL_ILLEGAL. -/
def Obligations.RecordsAreStored : Prop :=
  ∀ (c : Cid) (w : NWords) (s : State), s.Issues c → s.joined c = false → Enc.atSa w = true → (s.ctx c).Settled [w.f 53 49] →
    let x := s.ctx c
    let a := (x.s (w.f 53 49)).toNat
    let z : Ctx := { x.moved (x.after 1) with pastReturn := true }
    let e := x.prog.evalFlag
    let p := if e then (s.smp c).eval else (s.smp c).train
    let f := s.posFlags c e
    let pos := bytesOf 8 p.pub.toNat ++ bytesOf 8 p.tail.toNat ++ bytesOf 8 p.ebase.toNat ++ bytesOf 4 p.ew.toNat ++
      bytesOf 4 p.epoch.toNat ++ bytesOf 8 p.pseed.toNat ++ bytesOf 8 p.draws.toNat ++ bytesOf 8 p.tries.toNat ++ bytesOf 4 f
    let rng := bytesOf 8 (s.fld Fld.SEQ_CTX_SEED_SEED c.val % 2 ^ 64) ++ bytesOf 8 x.prog.step.toNat ++ bytesOf 8 x.prog.evalCnt.toNat ++
      bytesOf 8 0
    (s.ctxAddr c a 64 = none → exec (.markpos c w) s = .next (s.seqFault c 0x0602)) ∧
    (e = true → exec (.rngsave c w) s = .next (s.seqFault c 0x0210)) ∧
    (e = false → s.ctxAddr c a 32 = none → exec (.rngsave c w) s = .next (s.seqFault c 0x0602)) ∧
    (s.memErr = [] → s.injectWord = none →
      (∀ b, s.ctxAddr c a 64 = some b →
        ∃ t, exec (.markpos c w) s = .next t ∧ t.mem = SMap.putList s.mem 0 b (pos ++ bytesOf 4 (crc32c pos).toNat) ∧ t.ctx c = z ∧
          t = { s with mem := t.mem, memErr := t.memErr, ctxs := t.ctxs, dbg := t.dbg, regs := t.regs }) ∧
      (e = false → ∀ b, s.ctxAddr c a 32 = some b →
        ∃ t, exec (.rngsave c w) s = .next t ∧ t.mem = SMap.putList s.mem 0 b rng ∧ t.ctx c = z ∧
          t = { s with mem := t.mem, memErr := t.memErr, ctxs := t.ctxs, dbg := t.dbg, regs := t.regs }))

/-- R491 to R493: a surface cycle adds its counts to the window of at most 1,024 cycles, gives every input its level and forms the risk, or
takes the override's; a change raises CANARY_RISK with the old and the new level. -/
def Obligations.CanaryFormsRisk : Prop :=
  ∀ s : State,
    let u : State := { s with rlf := { s.rlf with window := (s.rlf.cur :: s.rlf.window).take 1024, cur := List.replicate 8 0 } }
    let v (i : Nat) : Nat := u.canaryInputs.getD i 0
    let base (i : Nat) : Nat := s.fld Fld.RLF_CAN_IN_BASE i
    let thr (i k : Nat) : Nat := if s.fld Fld.RLF_CAN_IN_LIN i = 1 then base i + (k - 1) * s.fld Fld.RLF_CAN_IN_STEP i
      else base i * 2 ^ ((k - 1) * s.fld Fld.RLF_CAN_IN_STEP i)
    let lvl (i : Nat) : Nat := if base i = 0 then 0 else ((List.range 7).filter fun k => thr i (k + 1) ≤ v i).length
    let sum := ((List.range 10).map fun i => s.fld Fld.RLF_CAN_IN_W i * lvl i).sum
    let top := (List.range 10).foldl (fun a i => max a (lvl i)) 0
    let risk := if s.fld Fld.DBG_PT_RISK_EN = 1 then s.fld Fld.DBG_PT_RISK_LEVEL % 8
      else min 7 (max ((sum + 8) / 16) (max (top - 2) (s.fld Fld.RLF_CANARY_FLOOR)))
    let old := s.fld Fld.RLF_CANARY_RISK
    ∃ t, exec .canaryCycle s = .next t ∧ t.rlf = u.rlf ∧ t.fld Fld.RLF_CANARY_RISK = risk ∧
      (∀ i, i < 10 → t.fld Fld.RLF_CANARY_LEVELS / 8 ^ i % 8 = lvl i) ∧ t.mem = s.mem ∧ t.ctxs = s.ctxs ∧
      (s.fld Fld.DBG_PT_RISK_LEVEL < 8 → (risk = old → t.llx = s.llx) ∧ (risk ≠ old → s.Raised t 0x0A07 srcSurface (old + risk * 16)))

/-- R499, R502, R504, R525: RLF_RELIEFn starts a pairing or ends one, a declaration is granted an entry or refused with a reason at the
relief, an unanswered or refused one is tried again or given up in time; a write of ROLE and COVER makes a free device a relief and is
rejected on a busy one; Release frees a kept entry. -/
def Obligations.ReliefsPair : Prop :=
  ∀ s : State,
    (∀ (who : Requester) (n : Fin 2) (v : Word),
      (s.privileged who = false → ∃ t, exec (.reliefPairReq who n v) s = .next t ∧ s.Counted t Fld.DBG_STATUS_REFUSALS 1 ∧
        t = { s with regs := t.regs }) ∧
      (s.privileged who = true → ¬ ((s.pairing n.val).paired = true ∧ s.fld Fld.RLF_RELIEF_IDENT n.val = bits v 0 17 ∧ bit v 17 = true) →
        ∃ t, exec (.reliefPairReq who n v) s = .next t ∧ t.fld Fld.RLF_RELIEF_IDENT n.val = bits v 0 17 ∧
          t.fld Fld.RLF_RELIEF_VALID n.val = bits v 17 1 ∧ t.pairing (1 - n.val) = s.pairing (1 - n.val) ∧
          t.pairing n.val = (if bit v 17 then { asked := some s.now } else {}) ∧
          t.rlf.pairChanged = (s.rlf.pairChanged || (s.pairing n.val).paired) ∧ t.mem = s.mem ∧ t.ctxs = s.ctxs ∧
          (bit v 17 = false → t.fab = s.fab))) ∧
    (∀ msg : FMsg,
      (s.managed 1 msg = false → exec (.declaration msg) s = .next s) ∧
      (s.managed 1 msg = true →
        let why := s.refuseReason msg
        (s.fld Fld.RLF_CFG_ROLE ≠ 1 → why = 1) ∧
        (s.fld Fld.RLF_CFG_ROLE = 1 → bits msg.w1 8 4 ≠ s.variant.code → why = 2) ∧
        (why ≠ 0 → ∃ t, exec (.declaration msg) s = .next t ∧ t.fld Fld.RLF_PAIR_LAST_REASON = why % 16 ∧
          t.fld Fld.RLF_PAIR_LAST_PEER = msg.src.toNat ∧ s.Told t 0x0A03 ∧ t.rlf = s.rlf ∧ t.mem = s.mem) ∧
        (why = 0 → ∀ k, s.coverFor msg.src = some k → ∃ t, exec (.declaration msg) s = .next t ∧ (t.cover k).ident = msg.src ∧
          (t.cover k).valid = true ∧ (t.cover k).feedOvr = bit msg.w1 14 ∧ (t.cover k).feed.toNat = bits msg.w1 12 2 ∧
          (∀ j, j ≠ k → t.cover j = s.cover j) ∧ t.mem = s.mem ∧ t.ctxs = s.ctxs ∧ t.rlf.pair0 = s.rlf.pair0))) ∧
    (∀ n : Fin 2,
      let p := s.pairing n.val
      (∀ b, p.refused = some b → s.fld Fld.RLF_RELIEF_VALID n.val = 1 → p.paired = false → b + 10 ^ 9 ≤ s.now →
        ∃ t, exec (.reliefPairRetry n) s = .next t ∧ t.pairing n.val = { p with asked := some s.now, refused := none } ∧
          t.pairing (1 - n.val) = s.pairing (1 - n.val) ∧ t.mem = s.mem) ∧
      (p.refused = none ∨ s.fld Fld.RLF_RELIEF_VALID n.val ≠ 1 ∨ p.paired = true ∨ (∃ b, p.refused = some b ∧ s.now < b + 10 ^ 9) →
        exec (.reliefPairRetry n) s = .next s) ∧
      (∀ b, p.asked = some b → p.paired = false → b + 10 ^ 7 ≤ s.now →
        ∃ t, exec (.reliefPairTimeout n) s = .next t ∧ t.pairing n.val = { asked := none, refused := some s.now } ∧
          t.fld Fld.RLF_PAIR_LAST_REASON = 8 ∧ s.Raised t 0x0A03 srcDev ∧ t.mem = s.mem) ∧
      (p.asked = none ∨ p.paired = true ∨ (∃ b, p.asked = some b ∧ s.now < b + 10 ^ 7) → exec (.reliefPairTimeout n) s = .next s)) ∧
    (∀ (who : Requester) (v : Word),
      let new := bits v 0 1 ≠ s.fld Fld.RLF_CFG_ROLE ∨ bits v 2 3 ≠ s.fld Fld.RLF_CFG_COVER
      (bits v 9 8 = 0 → ∃ t, exec (.rlfRoleWrite who v) s = .next t ∧ s.Raised t 0x0102 srcDev 0xB00000 ∧ t.rlf = s.rlf ∧
        t.fld Fld.RLF_CFG_ROLE = s.fld Fld.RLF_CFG_ROLE ∧ t.fld Fld.RLF_CFG_L = s.fld Fld.RLF_CFG_L) ∧
      (bits v 9 8 ≠ 0 → s.privileged who = true → s.fld Fld.RLF_CFG_ROLE < 2 → s.fld Fld.RLF_CFG_COVER < 8 → new →
        (s.roleFree = false → s.anyBusy = false → ∃ t, exec (.rlfRoleWrite who v) s = .next t ∧ s.Raised t 0x0101 srcDev 0xB00000 ∧
          t.rlf = s.rlf ∧ t.fld Fld.RLF_CFG_ROLE = s.fld Fld.RLF_CFG_ROLE ∧ t.fld Fld.RLF_CFG_COVER = s.fld Fld.RLF_CFG_COVER) ∧
        (s.roleFree = true → s.fld Fld.RLF_CFG_ROLE = 0 → ∃ t, exec (.rlfRoleWrite who v) s = .next t ∧
          t.fld Fld.RLF_CFG_ROLE = bits v 0 1 ∧ t.fld Fld.RLF_CFG_COVER = bits v 2 3 ∧ t.fld Fld.RLF_CFG_L = bits v 9 8 ∧
          t.mem = s.mem ∧ t.ctxs = s.ctxs))) ∧
    (∀ msg : FMsg,
      let k := (List.range (s.fld Fld.RLF_CFG_COVER + 1)).find? fun k => (s.cover k).kept && (s.cover k).ident == msg.src
      (s.managed 9 msg = true → ∀ j, k = some j → ∃ t, exec (.release msg) s = .next t ∧ t.cover j = {} ∧
        (∀ i, i ≠ j → t.cover i = s.cover i) ∧ t = { s with rlf := { s.rlf with covers := t.rlf.covers } }) ∧
      (s.managed 9 msg = false ∨ k = none → exec (.release msg) s = .next s))

/-- R515, R517, R520, R521, R524: a relief with a confirmed notice of a covered identity takes its live slot and the identity, or raises
BOUND_EXCEEDED; once it is restored and its anchor has answered, the context is READY at the step before the anchor's; a late answer raises
RLF_SLOW; the assay goes through the tensors in order, against the twin's log entry of a replicated one (for which it waits) and else the
digest table's, and a mismatch is counted, raised, and stops the context of a tensor without a twin. -/
def Obligations.ReliefsActivate : Prop :=
  ∀ s : State,
    (∀ e : Fin 8,
      let c := s.cover e.val
      let ready : Prop := s.fld Fld.RLF_CFG_ROLE = 1 ∧ s.rlf.act = none ∧ c.valid = true ∧ e.val ≤ s.fld Fld.RLF_CFG_COVER ∧
        s.confirmedFail c.ident = true
      (ready → s.fld Fld.SFC_PROFILE_RESILIENCE = 0 → s.liveSlot e.val = none → ∃ t, exec (.rlfActivated e) s = .next t ∧
        s.Raised t 0x0A02 srcDev ∧ t.rlf = s.rlf ∧ t.mem = s.mem ∧ t.ctxs = s.ctxs) ∧
      (ready → s.fld Fld.SFC_PROFILE_RESILIENCE = 0 → ∀ b, s.liveSlot e.val = some b → ∃ t x, exec (.rlfActivated e) s = .next t ∧
        t.rlf.act = some x ∧ x.entry = e ∧ x.ident = c.ident ∧ x.slot = b ∧ x.restored = false ∧ x.rejoined = false ∧ x.drop = false ∧
        x.assay = tensorItems x.items ∧ x.copyAsked = (c.twin.isSome && x.items.any (·.repl)) ∧ (t.cover e.val).active = true ∧
        (∀ k, k ≠ e.val → k ≤ s.fld Fld.RLF_CFG_COVER → (s.cover k).valid = true → (t.cover k).kept = true) ∧
        c.ident ∈ t.fab.assumed ∧ ((s.remapSlot c.ident).isSome = true → t.posOf c.ident = s.ownPos) ∧
        s.Counted t Fld.RLF_ACT_TIME_COUNT 1 ∧ t.mem = s.mem ∧ t.ctxs = s.ctxs ∧ t.bunk = s.bunk) ∧
      (ready → s.fld Fld.SFC_PROFILE_RESILIENCE = 1 → ∃ t x, exec (.rlfActivated e) s = .next t ∧ t.rlf.act = some x ∧ x.entry = e ∧
        x.drop = true ∧ x.copyAsked = c.twin.isSome ∧ t.mem = s.mem ∧ t.ctxs = s.ctxs) ∧
      (¬ ready → exec (.rlfActivated e) s = .next s)) ∧
    (s.rlf.act = none → exec .reliefRestoreDone s = .next s ∧ (∀ sa, exec (.rejoinReply sa) s = .next s) ∧ exec .rejoinTimeout s = .next s ∧
      ∀ i, exec (.assay i () ()) s = .next s) ∧
    (∀ x, s.rlf.act = some x → x.drop = false → x.ready = false →
      (x.restored = false → x.rejoined = false → ∃ t, exec .reliefRestoreDone s = .next t ∧ t.rlf.act = some { x with restored := true } ∧
        (t.ctx x.cid).image = (s.slotData x.entry.val x.slot).image ∧ (t.ctx x.cid).st = (s.ctx x.cid).st ∧
        t.fld Fld.RLF_ACT_TIME_BUNKER = min 0xFFFF ((s.now - x.noticeAt) / 1000)) ∧
      (x.rejoined = false → ∀ sa : Word,
        (x.restored = false → ∃ t, exec (.rejoinReply sa) s = .next t ∧ t.rlf.act = some { x with rejoined := true, sa := sa.toNat } ∧
          t.ctxs = s.ctxs ∧ t.mem = s.mem) ∧
        (x.restored = true → ∃ t, exec (.rejoinReply sa) s = .next t ∧
          t.rlf.act = some { x with rejoined := true, sa := sa.toNat, ready := true } ∧ (t.ctx x.cid).st = .ready ∧
          (t.ctx x.cid).prog.step = BitVec.ofNat 63 (sa.toNat - 1) ∧ (t.ctx x.cid).image.step = BitVec.ofNat 63 (sa.toNat - 1) ∧
          s.Told t 0x0A04 ∧ t.mem = s.mem ∧
          (∀ it, x.items = [it] → it.kind = 5 →
            let k := redKey it.aux.toNat (bits it.w1 0 12)
            SMap.val t.fab.redCnt 0 k = (((SMap.val s.fab.redCnt 0 k : Nat) : Int) + ((sa.toNat : Int) - 1 - x.step.toNat) * bits it.w1 12 12).toNat))) ∧
      (x.rejoined = false → x.slow = false → x.queriedAt + 100000 ≤ s.now → ∃ t, exec .rejoinTimeout s = .next t ∧
        t.rlf.act = some { x with slow := true } ∧ s.Raised t 0x0A05 srcDev ∧ t.ctxs = s.ctxs ∧ t.mem = s.mem) ∧
      (x.rejoined = true ∨ x.slow = true ∨ s.now < x.queriedAt + 100000 → exec .rejoinTimeout s = .next s) ∧
      (∀ idx it, x.items[idx]? = some it → it.kind = 1 → x.assay.head? = some idx → x.restored = true →
        it.repl = false ∨ (s.cover x.entry.val).twin = none ∨ (SMap.val x.replies none idx).isSome = true →
        let want := if it.repl = true then (match SMap.val x.replies none idx with | some (true, d) => some d | _ => s.tableDigest x idx)
          else s.tableDigest x idx
        let got := s.assayDigest x it.w1.toNat
        (want = some got → ∃ t, exec (.assay idx () ()) s = .next t ∧ t.rlf.act = some { x with assay := x.assay.drop 1 } ∧
          t = { s with rlf := t.rlf, regs := t.regs }) ∧
        (want ≠ some got → ∃ t, exec (.assay idx () ()) s = .next t ∧ s.Counted t Fld.RLF_CNT_ASSAY_FAIL 1 ∧ t.mem = s.mem ∧
          t.rlf.act = some { x with assay := x.assay.drop 1, failed := x.failed ++ [idx] } ∧
          (it.repl = true → s.Told t 0x0A06 ∧ t.ctxs = s.ctxs) ∧
          (it.repl = false → (s.ctx x.cid).faulted = none → (s.ctx (s.lead x.cid)).faulted = none →
            s.Told t 0x0A06 ∧ (t.ctx (s.lead x.cid)).faulted = some 0x0A06))) ∧
      (∀ idx it, x.items[idx]? = some it → it.repl = true → (s.cover x.entry.val).twin.isSome = true → SMap.val x.replies none idx = none →
        exec (.assay idx () ()) s = .next s) ∧
      (∀ idx, x.assay.head? ≠ some idx ∨ x.restored = false → exec (.assay idx () ()) s = .next s))

/-- R522 to R524, R526: a twin keeps a request for its copy and begins the copy once its secured context has begun the segment after the
step asked for; the relief applies the copy that has come; a kept entry's live slot is streamed to its replacement. -/
def Obligations.CopiesAreTakenAndServed : Prop :=
  ∀ s : State,
    (∀ msg : FMsg, (s.managed 8 msg = false → exec (.catchupRequest msg) s = .next s) ∧
      (s.managed 8 msg = true → ∃ t, exec (.catchupRequest msg) s = .next t ∧
        t.rlf.copyReq = some (msg.src, if bit msg.w1 8 then (s.ctx (s.lead s.securedCtx)).prog.step else BitVec.ofNat 63 msg.w2.toNat) ∧
        t = { s with rlf := { s.rlf with copyReq := t.rlf.copyReq, copyBases := t.rlf.copyBases } })) ∧
    (s.copyDue = none → exec .catchupCopy s = .next s) ∧
    (∀ id, s.copyDue = some id →
      let r := s.planCheck (s.lead s.securedCtx) (s.fld Fld.RLF_CTX_PLAN_ADDR * 64)
      (∀ f, r.res = .error f → ∃ t, exec .catchupCopy s = .next t ∧ t.rlf.copyReq = none ∧ t.rlf.copy = none ∧ t.ctxs = r.st.ctxs) ∧
      (∀ p, r.res = .ok p → ∃ t z, exec .catchupCopy s = .next t ∧ t.rlf.copy = some z ∧ z.copyTo = some id ∧ z.items = p.items ∧
        z.committed = true ∧ z.no = r.st.dispNo ∧ z.step = (r.st.ctx (s.lead s.securedCtx)).image.step ∧
        (∀ n ∈ z.unread, ∃ it, p.items[n]? = some it ∧ it.repl = true ∧ it.kind ≠ 5) ∧ t.rlf.securing = r.st.rlf.securing ∧
        t.mem = r.st.mem)) ∧
    (s.rlf.act = none → exec .catchupApply s = .next s) ∧
    (∀ x, s.rlf.act = some x →
      (x.copyStep = none → exec .catchupApply s = .next s) ∧
      (∀ k, x.copyStep = some k → x.drop = false →
        (x.restored = false ∨ s.updatesOpen x.cid k.toNat = true → exec .catchupApply s = .next s) ∧
        (x.restored = true → s.updatesOpen x.cid k.toNat = false → ∃ t y, exec .catchupApply s = .next t ∧ t.rlf.act = some y ∧
          y.copyAsked = false ∧ y.copyStep = none ∧ y.ready = x.ready ∧
          (∀ n ∈ y.failed, n ∈ x.failed ∧ ∀ it, x.items[n]? = some it → it.repl = false) ∧
          ((∀ it ∈ x.items, it.repl = false) → t.mem = s.mem ∧ t.bunk = s.bunk))) ∧
      (∀ k, x.copyStep = some k → x.drop = true → ∃ t y, exec .catchupApply s = .next t ∧ t.rlf.act = some y ∧ y.restored = true ∧
        y.ready = false ∧ y.copyStep = none ∧ (t.ctx y.cid).st = .stopped ∧ (t.ctx y.cid).stopEvent = 0x0A04)) ∧
    (∀ (e : Fin 8) (dst : NodeId),
      (s.liveSlot e.val = none ∨ s.rlf.act = none ∨ (s.cover e.val).kept = false → exec (.servedCopy e dst) s = .next s) ∧
      (∀ b, s.liveSlot e.val = some b → s.rlf.act.isSome = true → (s.cover e.val).kept = true → s.accepts dst = true → s.memErr = [] →
        ∃ t l m n, exec (.servedCopy e dst) s = .next t ∧ t.fab.sent = s.fab.sent ++ (m :: l ++ [n]) ∧
          m.data = List.replicate 1024 0 ∧ n.data = s.commitRec e.val b ∧ m.vl = 3 ∧ n.vl = 3 ∧ m.w1 = n.w1 ∧ t.rlf = s.rlf ∧ t.mem = s.mem))

/-- R12, R18, R548 to R550, R553 to R556, R560, R562: a step request needs 20 µs; at a step point everything due acts and the effective
step is the least of its terms, a change being reported with all crossings in fallback; the clock mode sets its ceiling and a request;
droop monitors and crossings count what they do. -/
def Obligations.StepsAreTaken : Prop :=
  ∀ s : State,
    (∀ (who : Requester) (v : Word),
      (s.now + 20000 ≤ bits v 0 60 * 10000 → ∃ t, exec (.clkStepAt who v) s = .next t ∧
        t.pwr = { s.pwr with plan := some ⟨bits v 0 60, BitVec.ofNat 3 (min (bits v 61 3) s.variant.maxStep.toNat), false⟩ } ∧ t.fld Fld.CLK_STEP_AT_POINT = bits v 0 60 ∧
        t.fld Fld.CLK_STEP_AT_STEP = bits v 61 3 ∧ t = { s with pwr := t.pwr, regs := t.regs }) ∧
      (bits v 0 60 * 10000 < s.now + 20000 → ∃ t, exec (.clkStepAt who v) s = .next t ∧ s.Raised t 0x0102 srcDev 0x200008 ∧ t.pwr = s.pwr)) ∧
    (∀ k : Nat,
      let u := s.advanceTo (k * 10000)
      let act (x : Ceil) : Nat := (((x.wait.filter fun p => p.1 ≤ k * 10000).getLast?.map (·.2)).getD x.act).toNat
      let req := match u.pwr.plan with
        | some x => if x.point ≤ k then x.step.toNat else u.pwr.req.toNat
        | none => u.pwr.req.toNat
      let eff := min req (min (act u.pwr.mode) (min (act u.pwr.therm) (min (act u.pwr.limit) (min (act u.pwr.surge)
        (min (act u.pwr.trim) s.variant.maxStep.toNat)))))
      ∃ t, exec (.stepPoint k) s = .next t ∧ t.pwr.step.toNat = eff ∧ t.pwr.req.toNat = req ∧ t.mem = s.mem ∧ t.ctxs = s.ctxs ∧
        (eff = u.pwr.step.toNat → t = { u with pwr := t.pwr }) ∧
        (eff ≠ u.pwr.step.toNat → t.time.allFallback = true ∧ u.Counted t Fld.CLK_XING_CNT_FALLBACKS 1 ∧
          ∃ f ∈ t.llx.recent, f.code = 0x0B01 ∧ f.detail.toNat = u.pwr.step.toNat + 16 * eff)) ∧
    (∀ (who : Requester) (v : Word),
      let c := bits v 0 2
      let one (t : State) (F : Fld) (x : Nat) : Prop := t.fld F = if s.anyBusy then s.fld F else x
      (c = 3 → ∃ t, exec (.sfcProfileWrite who v) s = .next t ∧ s.Told t 0x0102 ∧ t.pwr = s.pwr ∧
        t.fld Fld.SFC_PROFILE_CLOCK = s.fld Fld.SFC_PROFILE_CLOCK) ∧
      (c = 2 → s.variant ≠ .full → ∃ t, exec (.sfcProfileWrite who v) s = .next t ∧ s.Told t 0x0103 ∧ t.pwr = s.pwr ∧
        t.fld Fld.SFC_PROFILE_CLOCK = s.fld Fld.SFC_PROFILE_CLOCK) ∧
      (c < 2 ∨ c = 2 ∧ s.variant = .full → ∃ t, exec (.sfcProfileWrite who v) s = .next t ∧ t.fld Fld.SFC_PROFILE_CLOCK = c ∧
        one t Fld.SFC_PROFILE_NUMERICS (bits v 2 1) ∧ one t Fld.SFC_PROFILE_RESILIENCE (bits v 3 1) ∧ one t Fld.SFC_PROFILE_SEAM (bits v 4 2) ∧
        (c = s.fld Fld.SFC_PROFILE_CLOCK → t.pwr = s.pwr) ∧
        (c ≠ s.fld Fld.SFC_PROFILE_CLOCK →
          let top : Nat := if c = 0 then 3 else if c = 1 then 5 else 7
          t.pwr.mode.val.toNat = top ∧ t.pwr.plan = some ⟨ceilDiv (s.now + 20000) 10000, BitVec.ofNat 3 top, true⟩ ∧ t.pwr.req = s.pwr.req) ∧
        (s.anyBusy = true → bits v 2 1 ≠ s.fld Fld.SFC_PROFILE_NUMERICS → s.Raised t 0x0101 srcDev 0x10) ∧ t.mem = s.mem ∧
        t.ctxs = s.ctxs)) ∧
    (∀ r : Fin 60,
      (∃ t, exec (.droopStretch r false) s = .next t ∧ r ∉ t.time.droop ∧ (∀ q, q ≠ r → (q ∈ t.time.droop ↔ q ∈ s.time.droop)) ∧
        t = { s with time := { s.time with droop := t.time.droop } }) ∧
      (s.variant = .full → s.pwr.trim.val ≠ 3 → r ∉ s.time.droop → s.regionRuns r.val = true →
        ∃ t, exec (.droopStretch r true) s = .next t ∧ t.time.droop = r :: s.time.droop ∧ s.Counted t Fld.CLK_R_STAT_DROOPS 1 r.val ∧
          t.rlf.cur = s.rlf.cur.modify 5 (· + 1) ∧ t.mem = s.mem) ∧
      (s.variant ≠ .full ∨ s.pwr.trim.val = 3 ∨ r ∈ s.time.droop ∨ s.regionRuns r.val = false → exec (.droopStretch r true) s = .next s) ∧
      (∀ x : Fin 64,
        (r.val ≠ 59 → s.regionRuns r.val = true → s.time.allFallback = false → 64 * r.val + x.val ∉ s.time.fallback →
          fieldN (s.fld Fld.DBG_PT_XING_REGIONS) r.val 1 ≠ 1 →
          ∃ t, exec (.xingFallback r x) s = .next t ∧ t.time = { s.time with fallback := (64 * r.val + x.val) :: s.time.fallback } ∧
            s.Counted t Fld.CLK_XING_CNT_FALLBACKS 1 ∧ t = { s with time := t.time, regs := t.regs }) ∧
        (r.val = 59 ∨ s.regionRuns r.val = false ∨ s.time.allFallback = true ∨ 64 * r.val + x.val ∈ s.time.fallback ∨
            fieldN (s.fld Fld.DBG_PT_XING_REGIONS) r.val 1 = 1 → exec (.xingFallback r x) s = .next s)))

/-- R553, R565 to R568: a trigger of the fast limiter is raised and counted; CZT1-F stretches and lowers the limiter ceiling only after
1 ms, the other variants lower it at once; 10 ms raise it by one step; the input cap triggers too; the surge credit's end and return
set the surge ceiling. -/
def Obligations.LimitersAct : Prop :=
  ∀ s : State,
    let low : Nat := s.pwr.step.toNat - 1
    let trig (u t : State) : Prop := s.Counted t Fld.PWR_LIMIT_CNT_TRIGGERS 1 ∧ s.Raised t 0x0B02 srcSurface ∧ t.mem = s.mem ∧ t.ctxs = s.ctxs ∧
      t.pwr.step = s.pwr.step ∧
      (s.variant = .full → t.pwr.stretching = true ∧ t.pwr.limit = u.pwr.limit ∧ (u.pwr.stretching = false → t.pwr.stretchSince = s.now)) ∧
      (s.variant ≠ .full → t.pwr.limit.val.toNat = low ∧ t.pwr.limitSince = s.now ∧ t.rlf.cur = s.rlf.cur.modify 5 (· + 1) ∧
        (low < s.pwr.limit.val.toNat → s.Counted t Fld.PWR_LIMIT_CNT_LIMIT_STEPS 1))
    (s.variant = .full → s.pwr.stretching = true → exec .fastLimiterTrigger s = .next s) ∧
    (s.variant ≠ .full ∨ s.pwr.stretching = false → ∃ t, exec .fastLimiterTrigger s = .next t ∧ trig s t ∧ t.pwr.cap = s.pwr.cap) ∧
    (s.pwr.stretching = true → s.pwr.stretchSince + 1000000 ≤ s.now →
      ∃ t, exec .limiterStretchTimeout s = .next t ∧ t.pwr.stretchSince = s.now ∧ t.pwr.stretching = true ∧ t.pwr.limit.val.toNat = low ∧
        t.pwr.limitSince = s.now ∧ t = { s with pwr := t.pwr, regs := t.regs }) ∧
    (s.pwr.stretching = false ∨ s.now < s.pwr.stretchSince + 1000000 → exec .limiterStretchTimeout s = .next s) ∧
    exec .limiterStretchEnd s = .next { s with pwr := { s.pwr with stretching := false } } ∧
    (s.pwr.limit.val = 7 ∨ s.now < s.pwr.limitSince + 10000000 → exec .limiterCeilRise s = .next s) ∧
    (s.pwr.limit.val ≠ 7 → s.pwr.limitSince + 10000000 ≤ s.now →
      ∃ t, exec .limiterCeilRise s = .next t ∧ t.pwr.limitSince = s.now ∧ t = { s with pwr := { s.pwr with limit := t.pwr.limit, limitSince := s.now } } ∧
        t.pwr.limit.val.toNat = (if s.stepBut.toNat ≤ s.pwr.limit.val.toNat + 1 then 7 else s.pwr.limit.val.toNat + 1) ∧
        ∃ p ∈ t.pwr.limit.wait, p.1 = s.now + 20000 ∧ p.2 = t.pwr.limit.val) ∧
    (∃ t, exec .inputCap s = .next t ∧ t.pwr.cap = true ∧ s.Counted t Fld.PWR_LIMIT_CNT_CAPS 1 ∧ trig s t) ∧
    exec .inputCapRelease s = .next { s with pwr := { s.pwr with cap := false } } ∧
    (s.variant = .full → s.pwr.spent = false → s.pwr.credit = 0 → ∃ t, exec .surgeSpent s = .next t ∧ t.pwr.spent = true ∧
      t.pwr.surge.val = 5 ∧ s.Counted t Fld.CLK_SURGE_SPENT_CNT 1 ∧ s.Raised t 0x0B03 srcSurface ∧ t.mem = s.mem) ∧
    (s.variant ≠ .full ∨ s.pwr.spent = true ∨ s.pwr.credit ≠ 0 → exec .surgeSpent s = .next s) ∧
    (s.pwr.spent = true → 150000000000 ≤ s.pwr.credit → ∃ t, exec .surgeRestored s = .next t ∧ t.pwr.spent = false ∧ t.pwr.surge.val = 7 ∧
      t = { s with pwr := t.pwr }) ∧
    (s.pwr.spent = false ∨ s.pwr.credit < 150000000000 → exec .surgeRestored s = .next s)

/-- R564, R568, R571: a surface cycle shows the hottest reading and the last ten powers, lowers the thermal ceiling at 100 °C, and the
envelope loop asks for one step less or more; 100 readings below 95 °C raise the ceiling by one step. -/
def Obligations.SurfaceCyclesWatch : Prop :=
  ∀ s : State,
    (∀ x : Sensors,
      let l := (List.range 72).map fun k =>
        if (if k < 60 then domFitted s.variant (regionDom k) else s.variant.hasStack (k - 60)) then x.temps.getD k 0 else 0
      let hot := l.foldl max 0
      let powers := (x.power :: s.pwr.powers).take 10
      let env := s.envelope
      ∃ t, exec (.surfaceCycle x) s = .next t ∧ t.pwr.temps = l ∧ t.pwr.powers = powers ∧ t.pwr.hist = (hot :: s.pwr.hist).take 1025 ∧
        t.fld Fld.PWR_TEMP_MAX = hot % 2 ^ Fld.PWR_TEMP_MAX.width ∧ t.fld Fld.PWR_INPUT_VOLT = x.volt % 2 ^ Fld.PWR_INPUT_VOLT.width ∧
        t.fld Fld.PWR_INPUT_CURRENT = x.current % 2 ^ Fld.PWR_INPUT_CURRENT.width ∧ t.mem = s.mem ∧ t.ctxs = s.ctxs ∧ t.bunk = s.bunk ∧
        (hot < 1600 → t.pwr.therm = s.pwr.therm ∧ t.llx = s.llx) ∧
        (1600 ≤ hot → s.pwr.hist.headD 0 < 1600 →
          (s.pwr.step.toNat - 1 < s.pwr.therm.val.toNat → t.pwr.therm.val.toNat = s.pwr.step.toNat - 1 ∧
            s.Counted t Fld.PWR_LIMIT_CNT_THERM_STEPS 1 ∧ s.Raised t 0x0B04 srcSurface ∧ t.pwr.coolRun = 0) ∧
          (s.pwr.therm.val.toNat ≤ s.pwr.step.toNat - 1 → t.pwr.therm = s.pwr.therm ∧ t.llx = s.llx)) ∧
        (1600 ≤ hot → 1600 ≤ s.pwr.hist.headD 0 → 0 < s.pwr.therm.val.toNat →
          t.pwr.therm.val.toNat = s.pwr.therm.val.toNat - 1 ∧ s.Counted t Fld.PWR_LIMIT_CNT_THERM_STEPS 1 ∧ s.Raised t 0x0B04 srcSurface) ∧
        (s.rst.running = none ∨ s.rst.step ≠ 11 → t.pwr.plan = s.pwr.plan) ∧
        (s.rst.running.isSome = true → s.rst.step = 11 → env * powers.length < powers.sum → 0 < s.pwr.req.toNat →
          t.pwr.plan = some ⟨ceilDiv (s.now + 20000) 10000, s.pwr.req - 1, false⟩)) ∧
    (s.pwr.therm.val = 7 ∨ s.pwr.coolRun < 100 → exec .thermCeilRise s = .next s) ∧
    (s.pwr.therm.val ≠ 7 → 100 ≤ s.pwr.coolRun → ∃ t, exec .thermCeilRise s = .next t ∧
      t.pwr.therm.val.toNat = s.pwr.therm.val.toNat + 1 ∧ t.pwr.coolRun = 0 ∧ t = { s with pwr := t.pwr })

/-- R569, R570, R574, R575, R592: a thermal trip and the loss of an input drop the data plane's power: memory and bunkers lose their
contents, their reset is asserted, domains 0 to 48 are held. PWR_DOM_REQ turns a unit's domain off and on again where nothing uses it. -/
def Obligations.SuppliesAndDomains : Prop :=
  ∀ s : State,
    let dropped (k : Fin 9) (t : State) : Prop := t.mem = [] ∧ t.bunk = [] ∧ t.pwr.dataOn = false ∧ bit t.rst.asserted k.val = true ∧
      (∀ d, d < 49 → bit t.rst.held d = true) ∧ t.rst.step = min s.rst.step 3 ∧ t.ctxs = [] ∧ t.rst.memDue = memFitted s.variant ∧
      t.fld Fld.RST_CAUSE_LAST = k.val ∧ t.rst.auxLoss = (if k = 4 then s.rst.auxLoss else t.rst.auxLoss)
    (∃ t, exec .thermTrip s = .next t ∧ dropped 4 t ∧ s.Counted t Fld.PWR_LIMIT_CNT_TRIPS 1 ∧
      ∃ f ∈ t.llx.recent, f.code = 0x0B05 ∧ f.number = s.llx.evNo) ∧
    exec (.pwrInput true) s = .next { s with pwr := { s.pwr with inOk := true } } ∧
    (∃ t, exec (.pwrInput false) s = .next t ∧ dropped 5 t ∧ t.rst.auxLoss = false ∧ t.pwr.inOk = false ∧
      ∃ f ∈ t.llx.recent, f.code = 0x0B06 ∧ f.number = s.llx.evNo) ∧
    exec (.auxLoss true) s = .next { s with pwr := { s.pwr with auxOk := true } } ∧
    (∃ t, exec (.auxLoss false) s = .next t ∧ dropped 5 t ∧ t.rst.auxLoss = true ∧ t.pwr.auxOk = false) ∧
    (∃ t, exec .pwrgdInLow s = .next t ∧ dropped 5 t ∧ t.rst.auxLoss = false ∧ t.pins.pwrgdIn = false) ∧
    (∀ e, exec (.holdupCharged e) s = .next { s with pwr := { s.pwr with energy := e, charged := s.pwr.charged || decide (5400 ≤ e) } }) ∧
    (∀ (who : Requester) (v : Word),
      let d := bits v 0 6
      let kept := (24 ≤ d ∧ d < 36) ∨ 44 ≤ d
      (s.privileged who = false → ∃ t, exec (.pwrDomReq who v) s = .next t ∧ s.Counted t Fld.DBG_STATUS_REFUSALS 1 ∧
        t = { s with regs := t.regs }) ∧
      (s.privileged who = true →
        (49 < d → ∃ t, exec (.pwrDomReq who v) s = .next t ∧ s.Raised t 0x0102 srcDev 0x200130 ∧ t.pwr = s.pwr) ∧
        (d ≤ 49 → s.domState d = 3 → ∃ t, exec (.pwrDomReq who v) s = .next t ∧ s.Raised t 0x0103 srcDev 0x200130 ∧ t.pwr = s.pwr) ∧
        (d ≤ 49 → s.domState d ≠ 3 → kept ∨ (bit v 6 = true ∧ s.domBusy d = true) →
          ∃ t, exec (.pwrDomReq who v) s = .next t ∧ s.Raised t 0x0101 srcDev 0x200130 ∧ t.pwr = s.pwr) ∧
        (d ≤ 49 → s.domState d ≠ 3 → ¬ kept → bit v 6 = true → s.domBusy d = false →
          ∃ t, exec (.pwrDomReq who v) s = .next t ∧ (∃ x ∈ t.pwr.off, x.val = d) ∧ (∀ x ∈ t.pwr.turningOn, x.val ≠ d) ∧
            t = { s with regs := t.regs, pwr := { s.pwr with off := t.pwr.off, turningOn := t.pwr.turningOn, waking := t.pwr.waking } }) ∧
        (d ≤ 49 → s.domState d ≠ 3 → ¬ kept → bit v 6 = false → (∃ x ∈ s.pwr.off, x.val = d) →
          ∃ t, exec (.pwrDomReq who v) s = .next t ∧ (∃ x ∈ t.pwr.turningOn, x.val = d) ∧ t.pwr.off = s.pwr.off ∧
            t = { s with regs := t.regs, pwr := { s.pwr with turningOn := t.pwr.turningOn } }))) ∧
    (∀ d : Fin 50,
      (d ∉ s.pwr.turningOn → exec (.domainPowerOn d) s = .next s) ∧
      (d ∈ s.pwr.turningOn → ∃ t, exec (.domainPowerOn d) s = .next t ∧ d ∉ t.pwr.turningOn ∧ d ∈ t.pwr.waking ∧
        bit t.rst.held d.val = true ∧ (∀ k, k ≠ d.val → bit t.rst.held k = bit s.rst.held k) ∧
        (d.val < 24 → ∀ i : StationId, i.val / 4 = d.val → t.stn i = {})))

/-- R586, R592, R594, R597, R598, R618, R659: each source's reset reaches what the table says, takes its bit of RST_CAUSE and stands
asserted:
POR and the others of full reach leave the state after reset, memory and the purge of the regions aside; those of data reach hold domains
0 to 48. A released source ends when its condition has; RST_SWREQ resets one domain or asks for a context's reset. -/
def Obligations.SourcesReset : Prop :=
  ∀ s : State,
    let fresh (t : State) : Prop := t.rst.held = State.reset.rst.held ∧ t.rst.step = State.reset.rst.step ∧
      t = { State.reset with
        pending := s.pending, variant := s.variant, freeCtr := s.freeCtr, pins := t.pins, pwr := t.pwr, rst := t.rst, regs := t.regs
        mem := t.mem, memErr := t.memErr, hbmPurge := t.hbmPurge, mill0 := t.mill0, mill1 := t.mill1 }
    let caused (k : Fin 9) (t : State) : Prop := bit t.rst.asserted k.val = true ∧ t.fld Fld.RST_CAUSE_LAST = k.val ∧
      bit (BitVec.ofNat 9 (t.fld Fld.RST_CAUSE_SOURCES)) k.val = true
    let data (k : Fin 9) (t : State) : Prop := caused k t ∧ (∀ d, d < 49 → bit t.rst.held d = true) ∧ t.rst.step = min s.rst.step 3 ∧
      t.ctxs = [] ∧ t.handles = [] ∧ t.insts = [] ∧ t.fab.reds = [] ∧ t.rlf.act = none ∧ t.llx.tally = 0 ∧ t.mem = s.mem ∧ t.pwr = s.pwr ∧
      t.dbg.stop = none
    (∃ t, exec .por s = .next t ∧ fresh t ∧ t.mem = [] ∧ t.regs = [(0x100000 * 64, 1)] ∧ t.rst.porCount = s.rst.porCount + 1 ∧
      t.rst.rollback = s.rst.rollback ∧ t.rst.copyA = s.rst.copyA ∧ t.rst.copyB = s.rst.copyB ∧ t.rst.gasps = s.rst.gasps) ∧
    (∃ t, exec (.pin false) s = .next t ∧ fresh t ∧ caused 1 t ∧ t.pins = { s.pins with rstN := false } ∧ t.mem = s.mem ∧
      t.rst.porCount = s.rst.porCount ∧ ∀ r, r < 252 → s.rgnState r ≠ 0 → t.rgnState r = 2) ∧
    exec (.pin true) s = .next { s with pins := { s.pins with rstN := true } } ∧
    (s.rst.lastKick + s.fld Fld.RST_WDT_TIMEOUT * 1000000 ≤ s.now → ∃ t, exec .wdt s = .next t ∧ fresh t ∧ caused 3 t ∧ t.mem = s.mem ∧
      s.Counted t Fld.RST_WDT_EXPIRIES 1) ∧
    (s.now < s.rst.lastKick + s.fld Fld.RST_WDT_TIMEOUT * 1000000 → exec .wdt s = .next s) ∧
    (s.fab.resetAsked = true → ∃ t, exec .peer s = .next t ∧ data 6 t) ∧ (s.fab.resetAsked = false → exec .peer s = .next s) ∧
    (s.dbg.unlocked = true → (∃ t, exec .dbg s = .next t ∧ data 8 t) ∧ ∃ t, exec (.dbgrst .debug) s = .next t ∧ data 8 t) ∧
    (s.dbg.unlocked = false → exec .dbg s = .next s) ∧
    (∀ who, who ≠ .debug ∨ s.dbg.unlocked = false → ∃ t, exec (.dbgrst who) s = .next t ∧ s.Counted t Fld.DBG_STATUS_REFUSALS 1 ∧
      t = { s with regs := t.regs }) ∧
    (∀ k : Fin 9,
      let off := s.rst.asserted &&& ~~~(1#9 <<< k.val)
      let over_ : Prop := if k = 1 then s.pins.rstN = true else if k = 4 then ∀ x ∈ s.pwr.temps, x < 1440
        else if k = 5 then s.pwr.inOk = true ∧ s.pwr.auxOk = true else True
      (bit s.rst.asserted k.val = false ∨ ¬ over_ → exec (.resetRelease k) s = .next s) ∧
      (bit s.rst.asserted k.val = true → over_ → k ≠ 7 → k ≠ 5 →
        exec (.resetRelease k) s = .next { s with rst := { s.rst with asserted := off } }) ∧
      (bit s.rst.asserted 5 = true → over_ → k = 5 → exec (.resetRelease k) s = .next { s with
        rst := { s.rst with asserted := off }, pins := { s.pins with pwrgdIn := true } }) ∧
      (bit s.rst.asserted 7 = true → k = 7 → exec (.resetRelease k) s = .next { s with
        rst := { s.rst with swPulse := 0, asserted := if s.rst.swHeld = 0 then off else s.rst.asserted } })) ∧
    (∀ (who : Requester) (v : Word),
      let d := bits v 0 6
      let kept := (24 ≤ d ∧ d < 36) ∨ 44 ≤ d
      (s.privileged who = false → ∃ t, exec (.rstSwreq who v) s = .next t ∧ s.Counted t Fld.DBG_STATUS_REFUSALS 1 ∧
        t = { s with regs := t.regs }) ∧
      (s.privileged who = true → bit v 6 = true → ∃ t, exec (.rstSwreq who v) s = .next t ∧
        (t.ctx (s.lead (Fin.ofNat 8 (4 * bits v 7 1 + bits v 8 2)))).resetReq = true ∧ t.rst = s.rst ∧ t.fld Fld.RST_CAUSE_LAST = 7 ∧
        t = { s with regs := t.regs, ctxs := t.ctxs }) ∧
      (s.privileged who = true → bit v 6 = false →
        (49 ≤ d → ∃ t, exec (.rstSwreq who v) s = .next t ∧ s.Raised t 0x0102 srcDev 0x100018 ∧ t.rst = s.rst) ∧
        (d < 49 → s.domState d = 3 → ∃ t, exec (.rstSwreq who v) s = .next t ∧ s.Raised t 0x0103 srcDev 0x100018 ∧ t.rst = s.rst) ∧
        (d < 49 → s.domState d ≠ 3 → bit s.rst.swHeld d = true → bit v 11 = false → ∃ t, exec (.rstSwreq who v) s = .next t ∧
          t.rst.swHeld = s.rst.swHeld &&& ~~~(1#50 <<< d) ∧ t.rst.held = s.rst.held) ∧
        (d < 49 → s.domState d ≠ 3 → bit s.rst.swHeld d = false →
          (kept ∨ s.domBusy d = true → bit v 10 = false → ∃ t, exec (.rstSwreq who v) s = .next t ∧ s.Raised t 0x0101 srcDev 0x100018 ∧
            t.rst = s.rst) ∧
          (¬ kept → s.domBusy d = false → ∃ t, exec (.rstSwreq who v) s = .next t ∧ caused 7 t ∧ bit t.rst.held d = true ∧
            (∀ e, e ≠ d → bit t.rst.held e = bit s.rst.held e) ∧
            (if bit v 11 then bit t.rst.swHeld d = true else bit t.rst.swPulse d = true)) ∧
          (kept ∨ s.domBusy d = true → bit v 10 = true → s.domUsers d ≠ [] → ∃ t, exec (.rstSwreq who v) s = .next t ∧
            t.rst = { s.rst with forced := s.rst.forced ++ [(Fin.ofNat 50 d, bit v 11)] } ∧
            ∀ c ∈ s.domUsers d, (t.ctx (s.lead c)).resetReq = true))))

/-- R558, R594 to R597, R601, R604, R606, R682: a step of the release order does its work, lets its domains go and waits its gap; nothing
is released while a source of full reach stands, and step 4 waits for the sources of data reach and the supplies; the eleventh raises
RST_DONE. A zero-fill that ends and an edge of SYSREF are noted. -/
def Obligations.ReleaseOrder : Prop :=
  ∀ s : State,
    (∀ st tr a b, s.rst.asserted &&& 0b000001011 ≠ 0 → exec (.releaseStepDone st tr a b) s = .next s) ∧
    (s.rst.asserted &&& 0b000001011 = 0 → ∀ (st : List (BitVec 4)) (tr a b : List Byte),
      let step (t : State) (k : Nat) : Prop := exec (.releaseStepDone st tr a b) s = .next t ∧ t.rst.step = k
      (s.rst.step = 0 → s.time.counting = false → ∃ t, step t 1 ∧ t.time = s.time ∧ t.rst.recovery = bit t.rst.strap 0 ∧
        t.rst.ambig = decide ((st.filter (· == t.rst.strap)).length < 12) ∧
        (∀ x : BitVec 4, (st.filter (· == x)).length ≤ (st.filter (· == t.rst.strap)).length) ∧
        t.fld Fld.DBG_NONCE_NONCE = (Config.free s.freeCtr).toNat ∧ t.freeCtr = s.freeCtr + 1) ∧
      (s.rst.step = 1 → s.time.counting = false → cfgOk s.rst.copyA = false → cfgOk s.rst.copyB = false → cfgOk a = false →
        cfgOk b = false → ∃ t, step t 2 ∧ t.fld Fld.SEC_CFG_SEL = 2 ∧ t.fld Fld.SEC_CFG_SEQ = 0 ∧ t.rst.tail = 0 ∧ t.fld Fld.SEC_CFG_VALID_A = 0 ∧
          t.fld Fld.SEC_CFG_VALID_B = 0 ∧ (∃ f ∈ t.llx.recent, f.code = 0x0C03) ∧
          (trimOk tr = true → t.fld Fld.SEC_CFG_TRIM_OK = 1 ∧ t.pwr = s.pwr) ∧
          (trimOk tr = false → t.pwr.trim.val = 3 ∧ t.pwr.trim.act = 3 ∧ ∃ f ∈ t.llx.recent, f.code = 0x0C04)) ∧
      (s.fld Fld.SEC_CFG_SEL = 2 →
        (s.rst.step = 2 → ∃ t, step t 3 ∧ t.time.counting = true ∧ t.time.ns = s.time.ns + 1280) ∧
        (s.rst.step = 3 → s.rst.asserted &&& 0b101110100 ≠ 0 ∨ s.pins.pwrgdIn = false ∨ s.pwr.inOk = false →
          exec (.releaseStepDone st tr a b) s = .next s) ∧
        (s.rst.step = 3 → s.rst.asserted &&& 0b101110100 = 0 → s.pins.pwrgdIn = true → s.pwr.inOk = true → s.time.counting = true →
          ∃ t, step t 4 ∧ t.pwr.dataOn = true ∧ t.pwr.step = 0 ∧ t.pwr.req = 0 ∧ t.time.ns = s.time.ns + 40960 ∧ t.rst.held = s.rst.held) ∧
        (∀ k, 5 ≤ k → k ≤ 9 → s.rst.step + 1 = k → s.rst.asserted &&& 0b101110100 = 0 → s.time.counting = true →
          ∃ t, step t k ∧
            (∀ d, d < 50 → bit t.rst.held d = (bit s.rst.held d && !(domStep d == k && !bit (s.rst.swHeld ||| s.rst.swPulse) d))) ∧
            t.time.ns = s.time.ns + BitVec.ofNat 64 (if (s.free k).isEmpty then 0 else
              10 * (match k with | 5 => 256 | 6 => 2048 | 7 => 64 * (s.free 7).length | 8 => 1024 | _ => 512))) ∧
        (s.rst.step = 10 → s.rst.asserted &&& 0b101110100 = 0 → s.time.counting = true →
          ∃ t, step t 11 ∧ t.time.ns = s.time.ns + 2560 ∧ (∃ f ∈ t.llx.recent, f.code = 0x0C01) ∧
            ∃ p, t.pwr.plan = some ⟨p, s.pwr.mode.val, true⟩) ∧
        (s.rst.step = 11 → (∀ k, k < 12 → s.free k = []) → exec (.releaseStepDone st tr a b) s = .next s))) ∧
    (∀ u : Fin 14,
      (bit s.rst.memInit u.val = false ∨ s.domOn (ctrlDom u.val) = false → exec (.memoryZeroFillDone u) s = .next s) ∧
      (bit s.rst.memInit u.val = true → s.domOn (ctrlDom u.val) = true → ∃ t, exec (.memoryZeroFillDone u) s = .next t ∧
        t.rst = { s.rst with memInit := s.rst.memInit &&& ~~~(1#14 <<< u.val) } ∧ t.ctxs = s.ctxs)) ∧
    (s.rst.step = 2 → s.rst.asserted &&& 0b000001011 = 0 → exec .sysrefEdge s = .next { s with rst := { s.rst with sysrefSeen := true } }) ∧
    (s.rst.step ≠ 2 ∨ s.rst.asserted &&& 0b000001011 ≠ 0 → exec .sysrefEdge s = .next s)

/-- R607 to R609, R611, R614, R615, R618: the store's other copy is written with the next SEQ on enough energy; the last-gasp record
takes the older slot; the boot ROM runs the valid image of the higher VERSION (magic, rollback count, key
and signature hold) or goes into recovery; a request in the mailbox is replaced by its response; a kick is counted. -/
def Obligations.StoresAndBoot : Prop :=
  ∀ s : State,
    (∀ head body : List Byte,
      let c := head.take 4 ++ bytesOf 4 (s.fld Fld.SEC_CFG_SEQ + 1) ++ head.drop 8 ++ body
      (s.rst.running = none → exec (.cfgStoreWrite head body) s = .next s) ∧
      (s.rst.running.isSome = true → s.pwr.energy < 800 → ∃ t, exec (.cfgStoreWrite head body) s = .next t ∧ s.Raised t 0x0104 srcSurface ∧
        t.rst = s.rst) ∧
      (s.rst.running.isSome = true → 800 ≤ s.pwr.energy → exec (.cfgStoreWrite head body) s = .next { s with
        rst := if s.fld Fld.SEC_CFG_SEL = 0 then { s.rst with copyB := c } else { s.rst with copyA := c } })) ∧
    (let none_ := bit s.rst.asserted 4 = false ∧ bit s.rst.asserted 5 = false
     (none_ ∨ (s.pwr.auxOk = false ∧ s.pwr.energy < 1500) → exec .lastGasp s = .next s) ∧
     (¬ none_ → s.pwr.auxOk = true ∨ 1500 ≤ s.pwr.energy → ∃ t r, exec .lastGasp s = .next t ∧ t.rst.gasps = r :: s.rst.gasps.take 1 ∧
       r.length = 256 ∧ leAt r 0 1 = 7 ∧
       leAt r 1 1 = (if bit s.rst.asserted 4 ∧ ¬ (bit s.rst.asserted 5 ∧ s.fld Fld.RST_CAUSE_LAST = 5) then 3
         else if s.rst.auxLoss then 2 else 1) ∧ leAt r 4 4 = s.rst.porCount.toNat ∧
       leAt r 8 8 = s.now ∧ leAt r 252 4 = (crc32c (r.take 252)).toNat ∧ t = { s with rst := { s.rst with gasps := t.rst.gasps } })) ∧
    (∀ x y : List Byte,
      let ok (i : List Byte) : Bool := imgOk s.rst.rollback i
      (∀ i, ok i = true → leAt i 0 4 = 0x5A544657 ∧ s.rst.rollback.toNat ≤ imgRollback i ∧ leAt i 12 1 < 4 ∧
        Config.keyRevoked (leAt i 12 1) = false ∧ (sha512 (sliceB i 64 32)).take 32 = (List.range 32).map (Config.keyDigest (leAt i 12 1)) ∧
        Config.ed25519 (sliceB i 64 32) (sha512 (sliceB i 0 96 ++ storeBody i)) (sliceB i 96 64) = true) ∧
      (s.rst.step < 2 ∨ s.rst.running.isSome = true → exec (.imageVerify x y) s = .next s) ∧
      (2 ≤ s.rst.step → s.rst.running = none →
        (ok x = false → ok y = false → ∃ t, exec (.imageVerify x y) s = .next t ∧ t.rst = { s.rst with recovery := true } ∧
          s.Raised t 0x0C02 srcSurface) ∧
        (ok x = true ∨ ok y = true → bit s.rst.strap 0 = true →
          exec (.imageVerify x y) s = .next { s with rst := { s.rst with recovery := true } }) ∧
        (ok x = true → ok y = false ∨ imgVersion y ≤ imgVersion x → bit s.rst.strap 0 = false →
          exec (.imageVerify x y) s = .next { s with rst := { s.rst with running := some x, imageSlot := false, verified := true } }) ∧
        (ok y = true → ok x = false ∨ imgVersion x < imgVersion y → bit s.rst.strap 0 = false →
          exec (.imageVerify x y) s = .next { s with rst := { s.rst with running := some y, imageSlot := true, verified := true } }))) ∧
    (∀ r : List Byte, r.length < 4096 →
      let code := if s.fld Fld.SEC_MBOX_CTL_LEN = 1 then 0 else s.fld Fld.SEC_MBOX_WORD 0 / 256 % 256
      ∃ t, exec (.spdmRequest r) s = .next t ∧ t.fld Fld.SEC_MBOX_CTL_DONE = 1 ∧ t.fld Fld.SEC_MBOX_CTL_BUSY = 0 ∧
        (code ∈ spdmCodes → t.fld Fld.SEC_MBOX_CTL_LEN = r.length ∧ ∀ k, k < 512 → t.fld Fld.SEC_MBOX_WORD k = leAt r (8 * k) 8) ∧
        (code ∉ spdmCodes → t.fld Fld.SEC_MBOX_CTL_LEN = 4 ∧
          t.fld Fld.SEC_MBOX_WORD 0 = s.fld Fld.SEC_MBOX_WORD 0 % 256 + 0x7F * 2 ^ 8 + 7 * 2 ^ 16 + code * 2 ^ 24) ∧
        t = { s with regs := t.regs }) ∧
    (∀ who, ∃ t, exec (.kick who) s = .next t ∧ t.rst = { s.rst with lastKick := s.now } ∧ s.Counted t Fld.RST_WDT_SURF_CYCLES 1 ∧
      t = { s with rst := t.rst, regs := t.regs })

/-- R612: a privileged write of SEC_ROLLBACK raises the count to the value written when the running image's ROLLBACK is at least that value;
any other write is discarded, the count never falls by a write, and no reset, the power-up reset included, changes it. -/
def Obligations.RollbackCountOnlyRises : Prop :=
  ∀ s : State,
    (∀ (who : Requester) (v : Word),
      let n := bits v 0 6
      (s.privileged who = true → ∀ i, s.rst.running = some i → s.rst.rollback.toNat < n → n ≤ imgRollback i →
        exec (.secRollbackWrite who v) s = .next { s with rst := { s.rst with rollback := BitVec.ofNat 6 n } }) ∧
      (s.privileged who = true → (∀ i, s.rst.running = some i → n ≤ s.rst.rollback.toNat ∨ imgRollback i < n) →
        exec (.secRollbackWrite who v) s = .next s) ∧
      (s.privileged who = false → ∃ t, exec (.secRollbackWrite who v) s = .next t ∧ s.Counted t Fld.DBG_STATUS_REFUSALS 1 ∧
        t = { s with regs := t.regs }) ∧
      (∃ t, exec (.regWrite who 0xD00010 v) s = .next t ∧ s.rst.rollback.toNat ≤ t.rst.rollback.toNat)) ∧
    (∃ t, exec .por s = .next t ∧ t.rst.rollback = s.rst.rollback) ∧ (∃ t, exec (.pin false) s = .next t ∧ t.rst.rollback = s.rst.rollback) ∧
    (∃ t, exec .wdt s = .next t ∧ t.rst.rollback = s.rst.rollback)

/-- R549, R582, R638, R641, R646, R648 to R650, R652, R653: STOP, RELEASE and the unlock act for whom they may, an all-stop restarts with
all
crossings in fallback, a read of a word shows it with its status, the counters' enable waits for the bell, a marker becomes a record. -/
def Obligations.DebugActs : Prop :=
  ∀ s : State,
    (∀ (who : Requester) (v : Word),
      let scope := if bit v 2 then some (s.lead (Fin.ofNat 8 (4 * bits v 3 1 + bits v 4 2))) else none
      (s.dbg.unlocked = false ∨ s.privileged who = false → ∃ t, exec (.stop who v) s = .next t ∧ t.dbg = s.dbg ∧
        s.Counted t Fld.DBG_STATUS_REFUSALS 1 ∧ t = { s with regs := t.regs }) ∧
      (s.dbg.unlocked = true → s.privileged who = true → s.dbg.stop = none → ∃ t, exec (.stop who v) s = .next t ∧
        t.dbg.stop = some ⟨scope, 1⟩ ∧ t.fld Fld.DBG_STOP_STAT_CAUSE = 1 ∧ t.fld Fld.DBG_STOP_STAT_SCOPE = bits v 2 1 ∧
        s.Counted t Fld.DBG_STOP_STAT_STOPS 1 ∧ s.Raised t 0x0D03 srcDev ∧ t.ctxs = s.ctxs ∧ t.mem = s.mem) ∧
      (s.dbg.unlocked = true → s.privileged who = true → s.dbg.stop.isSome = true → ∃ t, exec (.stop who v) s = .next t ∧
        t = { s with regs := t.regs }) ∧
      (s.dbg.unlocked = false ∨ s.privileged who = false → ∃ t, exec (.allstopRelease who) s = .next t ∧
        s.Counted t Fld.DBG_STATUS_REFUSALS 1 ∧ t = { s with regs := t.regs }) ∧
      (s.dbg.unlocked = true → s.privileged who = true →
        (s.dbg.scanned ≠ [] ∨ s.dbg.stop = none → exec (.allstopRelease who) s = .next s) ∧
        (s.dbg.scanned = [] → s.dbg.stop.isSome = true → ∃ t, exec (.allstopRelease who) s = .next t ∧ t.dbg = { s.dbg with stop := none } ∧
          t.time = { s.time with allFallback := true } ∧ s.Counted t Fld.CLK_XING_CNT_FALLBACKS 1 ∧
          t = { s with dbg := t.dbg, time := t.time, regs := t.regs })) ∧
      (s.privileged who = true → ∃ t, exec (.dbgPcCtlWrite who v) s = .next t ∧ t.dbg = { s.dbg with pcPend := some (bit v 0) } ∧
        t.fld Fld.DBG_PC_CTL_FREEZE = bits v 1 1 ∧ t = { s with dbg := t.dbg, regs := t.regs }) ∧
      (s.privileged who = false → (∃ t, exec (.dbgPcCtlWrite who v) s = .next t ∧ s.Counted t Fld.DBG_STATUS_REFUSALS 1 ∧
        t = { s with regs := t.regs }) ∧ ∃ t, exec (.dbgRdSelWrite who v) s = .next t ∧ s.Counted t Fld.DBG_STATUS_REFUSALS 1 ∧
        t = { s with regs := t.regs }) ∧
      (s.privileged who = true →
        let a := bits v 4 48
        let gives (n x : Nat) : Prop := ∃ t, exec (.dbgRdSelWrite who v) s = .next t ∧ t.fld Fld.DBG_RD_SEL_STATUS = n ∧
          t.fld Fld.DBG_RD_DATA_DATA = x ∧ t.fld Fld.DBG_RD_SEL_SPACE = bits v 0 3 ∧ t.fld Fld.DBG_RD_SEL_ADDR = a ∧ t.mem = s.mem ∧
          t.bunk = s.bunk ∧ t.ctxs = s.ctxs
        let open_ : Prop := s.dbg.unlocked = true ∧ bit s.dbg.level 0 = true
        (¬ open_ → gives 3 0) ∧
        (open_ → bits v 0 3 = 4 → s.memErr = [] →
          (assigned s.variant (a / 8 % 2 ^ 45 * 8) 8 = true → s.rgnPurging (a / 8 % 2 ^ 45 * 8) 8 = false →
            gives 0 (ofBytes ((List.range 8).map fun k => s.memByte (a / 8 % 2 ^ 45 * 8 + k)))) ∧
          (assigned s.variant (a / 8 % 2 ^ 45 * 8) 8 = false ∨ s.rgnPurging (a / 8 % 2 ^ 45 * 8) 8 = true → gives 2 0)) ∧
        (open_ → bits v 0 3 = 3 →
          let c : Cid := Fin.ofNat 8 (a % 8)
          let k := a / 8 % 128
          (56 ≤ k → gives 2 0) ∧ (k < 56 → s.ctxStopped c = false → gives 1 0) ∧
          (k < 32 → s.ctxStopped c = true → gives 0 ((s.ctx c).s k).toNat) ∧
          (32 ≤ k → k < 36 → s.ctxStopped c = true → gives 0 ((s.ctx c).loopC (k - 32)).toNat)) ∧
        (open_ → bits v 0 3 = 1 → a % 128 < 96 →
          let i : StationId := Fin.ofNat 96 (a % 128)
          (s.stnStopped i = false → gives 1 0) ∧
          (s.stnStopped i = true → gives 0 (SMap.val ((s.stn i).bank (Fin.ofNat 2 (a / 128 % 2))).acc 0 (128 * (a / 256 % 128) + a / 2 ^ 15 % 128)).toNat)) ∧
        (open_ → 6 ≤ bits v 0 3 → gives 2 0))) ∧
    (let tok := (List.range 192).map fun k => SMap.val s.dbg.token 0 k
      let good : Prop := leAt tok 0 4 = 0x5A544454 ∧ s.rst.porCount.toNat ≤ leAt tok 4 4 ∧ leAt tok 8 1 < 8 ∧ leAt tok 12 1 < 4 ∧
        leAt tok 16 8 = s.fld Fld.DBG_NONCE_NONCE ∧ sliceB tok 24 32 = (sha512 s.pubKey).take 32 ∧ tokenZeros tok = true ∧
        Config.keyRevoked (leAt tok 12 1) = false ∧ (sha512 (sliceB tok 64 32)).take 32 = (List.range 32).map (Config.keyDigest (leAt tok 12 1)) ∧
        Config.ed25519 (sliceB tok 64 32) (sha512 (sliceB tok 0 96)) (sliceB tok 96 64) = true
      let waits : Prop := ∃ r, s.dbg.refusedAt = some r ∧ s.now < r + 10 ^ 9
      ∀ (who : Requester) (v : Word), (v.getLsbD 0 = false ∨ waits → exec (.dbgUnlock who v) s = .next s) ∧
      (v.getLsbD 0 = true → ¬ waits → ∃ t, exec (.dbgUnlock who v) s = .next t ∧ t.freeCtr = s.freeCtr + 1 ∧
        t.fld Fld.DBG_NONCE_NONCE = (Config.free s.freeCtr).toNat ∧ t.mem = s.mem ∧ t.ctxs = s.ctxs ∧
        (good → t.dbg.unlocked = true ∧ t.dbg.level = s.dbg.level ||| BitVec.ofNat 3 (leAt tok 8 1) ∧ s.Raised t 0x0D01 srcDev) ∧
        (¬ good → t.dbg.unlocked = s.dbg.unlocked ∧ t.dbg.level = s.dbg.level ∧ t.dbg.refusedAt = some s.now ∧
          s.Counted t Fld.DBG_STATUS_REFUSALS 1 ∧ s.Raised t 0x0D02 srcDev))) ∧
    (∀ v : Word,
      (s.fld Fld.DBG_TR_CFG_EN ≠ 1 → s.fld Fld.DBG_TRIG_EN ≠ 1 → exec (.dbgTrMark v) s = .next s) ∧
      (s.fld Fld.DBG_TR_CFG_EN = 1 → s.fld Fld.DBG_TRIG_EN ≠ 1 → s.tracePass srcSurface none 0xA = true → (s.hub 0).trPost = none →
        (s.hub 0).trBuf.length < 512 → ∃ t r, exec (.dbgTrMark v) s = .next t ∧ (t.hub 0).trBuf = (s.hub 0).trBuf ++ [r] ∧
          (t.hub 0).trNo = (s.hub 0).trNo + 1 ∧ r.length = 32 ∧ leAt r 0 8 = s.now ∧ leAt r 8 1 = 8 ∧ leAt r 11 1 = 0xA ∧
          leAt r 12 4 = (s.hub 0).trNo.toNat ∧ leAt r 16 8 = v.toNat ∧ t = { s with hubs := t.hubs }))

/-- R121, R639, R642, R645, R649: a hub's records go into its ring, which wraps or fills, or hub 0 sends them on; accepted remote records go
into the ring after their block record; a split charge gives the token up and stops the joined context. -/
def Obligations.TraceAndSplits : Prop :=
  ∀ s : State, s.Sound → s.memErr = [] → s.injectWord = none → s.rst.tail.toNat ≤ 16 →
    let len := s.rst.tail.toNat * 2 ^ 21
    let base (h : Nat) : Nat := s.rgnBase (252 + h)
    let next (h : Nat) : Nat := s.fld Fld.DBG_TR_PTR_NEXT h
    (∀ h : HubId,
      let x := s.hub h
      (s.domOn (44 + h.val) = false ∨ x.trBuf = [] ∧ x.trDropped = 0 → ∃ t, exec (.traceRecordWrite h) s = .next t ∧ t.hub h = x ∧
        t = { s with hubs := t.hubs }) ∧
      (s.domOn (44 + h.val) = true → x.trDropped = 0 → ∀ r, x.trBuf = [r] → r.length = 32 → (h = 0 → s.fld Fld.DBG_TR_CFG_REMOTE ≠ 1) →
        ∃ t, exec (.traceRecordWrite h) s = .next t ∧ (t.hub h).trBuf = [] ∧ (t.hub h).trNo = x.trNo ∧ t.ctxs = s.ctxs ∧
          (len = 0 ∨ s.fld Fld.DBG_TR_PTR_FULL h.val = 1 → s.Counted t Fld.DBG_TR_PTR_LOST 1 h.val ∧ t.mem = s.mem) ∧
          (len ≠ 0 → s.fld Fld.DBG_TR_PTR_FULL h.val ≠ 1 →
            t.mem = SMap.putList s.mem 0 (base h.val + 32 * next h.val) r ∧
            (next h.val + 1 < len → t.fld Fld.DBG_TR_PTR_NEXT h.val = next h.val + 1) ∧
            (len ≤ next h.val + 1 → t.fld Fld.DBG_TR_PTR_NEXT h.val = 0 ∧
              (s.fld Fld.DBG_TR_CFG_STOPFULL = 1 → t.fld Fld.DBG_TR_PTR_FULL h.val = 1) ∧
              (s.fld Fld.DBG_TR_CFG_STOPFULL ≠ 1 → t.fld Fld.DBG_TR_PTR_WRAPPED h.val = 1)))) ∧
      (h = 0 → s.domOn 44 = true → x.trDropped = 0 → x.trBuf ≠ [] → s.fld Fld.DBG_TR_CFG_REMOTE = 1 →
        s.accepts (BitVec.ofNat 17 (s.fld Fld.DBG_TR_CFG_DEST)) = true → ∃ t m, exec (.traceRecordWrite h) s = .next t ∧
          t.fab.sent = s.fab.sent ++ [m] ∧ m.kind = 10 ∧ m.vl = 6 ∧ m.data = x.trBuf.flatten ∧ (t.hub h).trBuf = [] ∧ t.mem = s.mem)) ∧
    (∀ msg : FMsg,
      let mask := BitVec.ofNat 17 (s.fld Fld.DBG_TR_CFG_AMASK)
      let ours : Prop := s.fld Fld.DBG_TR_CFG_ACCEPT = 1 ∧ msg.src &&& mask = BitVec.ofNat 17 (s.fld Fld.DBG_TR_CFG_ASRC) &&& mask
      (s.delivered 10 msg = false → exec (.remoteTrace msg) s = .next s) ∧
      (s.delivered 10 msg = true → ¬ ours → ∃ t, exec (.remoteTrace msg) s = .next t ∧ s.Counted t Fld.DBG_TR_PTR_LOST 1 0 ∧
        t = { s with regs := t.regs }) ∧
      (s.delivered 10 msg = true → ours → ∀ n, msg.data.length = 32 * n → s.fld Fld.DBG_TR_PTR_FULL 0 ≠ 1 → next 0 + 1 + n < len →
        ∃ t, exec (.remoteTrace msg) s = .next t ∧ t.fld Fld.DBG_TR_PTR_NEXT 0 = next 0 + 1 + n ∧ (t.hub 0).trNo = (s.hub 0).trNo + 1 ∧
          (∀ k, k < 32 * n → t.memByte (base 0 + 32 * (next 0 + 1) + k) = msg.data.getD k 0) ∧
          t.memByte (base 0 + 32 * next 0 + 11) = 0xC ∧
          (∀ a, a < base 0 + 32 * next 0 ∨ base 0 + 32 * (next 0 + 1 + n) ≤ a → t.memByte a = s.memByte a))) ∧
    (∀ c : Fin 4,
      let w : Cid := ⟨c.val, by omega⟩
      (s.joined w = false ∨ (s.ctx w).owner = false ∨ s.busyCtx w = false → exec (.splitCharge c) s = .next s) ∧
      (s.joined w = true → (s.ctx w).owner = true → s.busyCtx w = true → ∃ t, exec (.splitCharge c) s = .next t ∧
        s.Counted t Fld.SEQ_CHARGE_SPLITS 1 ∧ t.token.holder = none ∧ t.token.epoch = s.token.epoch + 1 ∧ s.Told t 0x020E ∧
        (t.ctx w).st = .stopped ∧ (t.ctx w).stopEvent = 0x020E ∧ (t.ctx w).prog = (s.ctx w).image ∧
        (t.ctx (east w)).st = .stopped ∧ (s.dbg.stop = none → t.dbg.stop = none ∧ t.time.allFallback = true) ∧
        (s.dbg.stop.isSome = true → t.dbg.stop = s.dbg.stop) ∧ t.mem = s.mem))

/-- R651, R654, R680: each instruction of the test port shifts out its register and does its work; DBGACC reads and writes registers for the
debug port, before the unlock only the open ones; SCAN needs its level and a device all-stop; the sideband reads registers. -/
def Obligations.TestPortActs : Prop :=
  ∀ s : State,
    (∀ l, ∃ t b, exec (.extest l) s = .next t ∧ b.length = 3 ∧ t.dbg.tdo = [s.pins.rstN, s.pins.pwrgdIn, s.alertN] ++ b ∧ t.dbg.ir = 0 ∧
      t.dbg.driving = true ∧ t.dbg.boundary = l ∧ t = { s with dbg := t.dbg, freeCtr := t.freeCtr }) ∧
    (∀ l, ∃ t b, exec (.samplePreload l) s = .next t ∧ b.length = 3 ∧ t.dbg.tdo = [s.pins.rstN, s.pins.pwrgdIn, s.alertN] ++ b ∧ t.dbg.ir = 1 ∧
      t.dbg.driving = false ∧ t.dbg.boundary = l.getD s.dbg.boundary ∧ t = { s with dbg := t.dbg, freeCtr := t.freeCtr }) ∧
    exec .idcode s = .next { s with dbg := { s.dbg with
      ir := 2, driving := false, tdo := (List.range 32).map fun k => (0x07A0158D : Nat).testBit k } } ∧
    exec .bypass s = .next { s with dbg := { s.dbg with ir := 0xFF, driving := false, tdo := [s.dbg.bypass], bypass := false } } ∧
    (∃ t, exec .trst s = .next t ∧ t = { s with dbg := t.dbg } ∧ t.dbg.stop = s.dbg.stop ∧ t.dbg.unlocked = s.dbg.unlocked ∧
      t.dbg.scanned = s.dbg.scanned ∧ t.dbg.driving = false ∧ t.dbg.scansel = 0) ∧
    (∀ (op : BitVec 2) (off : BitVec 24) (v : Word),
      let a := off.toNat
      let free_ : Prop := a ∈ [0, 8, 0xC00000, 0xC00008, 0xC00010] ∨ (0xC01000 ≤ a ∧ a < 0xC010C0)
      let gives (u : State) (n : Nat) : Prop := ∃ t, exec (.dbgacc op off v) s = .next t ∧
        t.dbg.tdo = (List.range 90).map (s.dbg.accRes.toNat.testBit ·) ∧ t.dbg.ir = 0x10 ∧ t.dbg.accRes.toNat % 4 = n ∧
        t.regs = u.regs ∧ t.mem = u.mem ∧ t.ctxs = u.ctxs
      (a % 8 ≠ 0 → gives s 3) ∧
      (a % 8 = 0 → s.dbg.unlocked = false → ¬ free_ → gives s 2) ∧
      (a % 8 = 0 → s.dbg.unlocked = true ∨ free_ → op = 1 → a ≠ 0x500010 → ∃ t, exec (.dbgacc op off v) s = .next t ∧
        t.dbg.accRes.toNat % 4 = 0 ∧ t.dbg.accRes.toNat / 2 ^ 26 = (s.regWord .debug a).toNat ∧ t.regs = s.regs ∧ t.mem = s.mem) ∧
      (a % 8 = 0 → s.dbg.unlocked = true ∨ free_ → op = 2 →
        let u : State := { s with dbg := { s.dbg with ir := 0x10, driving := false, tdo := (List.range 90).map (s.dbg.accRes.toNat.testBit ·) } }
        let o := u.regWrite .debug a v
        gives o.st (if o.denied then 2 else if o.range then 3 else if o.busy then 1 else 0))) ∧
    (∀ r, ∃ t, exec (.scansel r) s = .next t ∧ t.dbg.scansel = r ∧ t.dbg.ir = 0x11 ∧ t.dbg.tdo.length = 6 ∧
      t = { s with dbg := t.dbg, freeCtr := t.freeCtr }) ∧
    (let ok : Prop := bit s.dbg.level 2 = true ∧ s.stopDevice = true ∧ s.dbg.scansel.toNat < 59
     (ok → ∃ t, exec .scan s = .next t ∧ Fin.ofNat 59 s.dbg.scansel.toNat ∈ t.dbg.scanned ∧ (∀ r ∈ s.dbg.scanned, r ∈ t.dbg.scanned) ∧
       t = { s with dbg := t.dbg, freeCtr := t.freeCtr }) ∧
     (¬ ok → ∃ t, exec .scan s = .next t ∧ t.dbg.tdo = List.replicate 64 false ∧ t.dbg.scanned = s.dbg.scanned ∧ t = { s with dbg := t.dbg })) ∧
    (∀ b : Bool, (b = false → ∃ t, exec (.tapStop b) s = .next t ∧ t.dbg.stop = s.dbg.stop ∧ t = { s with dbg := t.dbg, freeCtr := t.freeCtr }) ∧
      (b = true → s.dbg.unlocked = true → s.dbg.stop = none → ∃ t, exec (.tapStop b) s = .next t ∧ t.dbg.stop = some ⟨none, 4⟩ ∧
        s.Raised t 0x0D03 srcDev) ∧
      (b = true → s.dbg.unlocked = false → ∃ t, exec (.tapStop b) s = .next t ∧ t.dbg.stop = s.dbg.stop ∧
        s.Counted t Fld.DBG_STATUS_REFUSALS 1)) ∧
    (∀ off : BitVec 24,
      (bit s.rst.asserted 0 = true → exec (.i2cRead off) s = .next s) ∧
      (bit s.rst.asserted 0 = false → off.toNat % 8 ≠ 0 → exec (.i2cRead off) s = .next { s with pins := { s.pins with i2c := none } }) ∧
      (bit s.rst.asserted 0 = false → off.toNat % 8 = 0 → off.toNat ≠ 0x500010 → exec (.i2cRead off) s = .next { s with
        pins := { s.pins with i2c := some (bytesOf 8 (s.regWord .sideband off.toNat).toNat) } }))

/-- R10, R15, R18, R117, R154, R155: a register write does what the register's own command does; elsewhere its fields take the bits of their
access codes: an RWP field only from a privileged requester, counted otherwise, an RWS field only while it may, an RWL field until its lock,
a W1C field clears what is written 1, an RO field keeps its value, an RWB field waits for the bell in its shadow. -/
def Obligations.RegistersAreWritten : Prop :=
  ∀ (who : Requester) (v : Word) (s : State),
    (∀ off, regAt off.toNat = none → exec (.regWrite who off v) s = .next s) ∧
    exec (.regWrite who 0x10 v) s = exec (.sfcProfileWrite who v) s ∧ exec (.regWrite who 0x100018 v) s = exec (.rstSwreq who v) s ∧
    exec (.regWrite who 0x200008 v) s = exec (.clkStepAt who v) s ∧ exec (.regWrite who 0x200130 v) s = exec (.pwrDomReq who v) s ∧
    exec (.regWrite who 0x308000 v) s = exec (.seqBellWrite who v) s ∧ exec (.regWrite who 0x308008 v) s = exec (.seqBellOriginWrite who v) s ∧
    exec (.regWrite who 0xB00000 v) s = exec (.rlfRoleWrite who v) s ∧ exec (.regWrite who 0xB00028 v) s = exec (.reliefPairReq who 1 v) s ∧
    exec (.regWrite who 0xC00700 v) s = exec (.dbgRdSelWrite who v) s ∧ exec (.regWrite who 0xC00400 v) s = exec (.dbgPcCtlWrite who v) s ∧
    exec (.regWrite who 0xC00618 v) s = exec (.dbgTrMark v) s ∧ exec (.regWrite who 0xD00010 v) s = exec (.secRollbackWrite who v) s ∧
    exec (.regWrite who 0x0 v) s = .next s ∧
    (∃ t, exec (.regWrite who 0x100000 v) s = .next t ∧ t = { s with regs := t.regs } ∧
      t.fld Fld.RST_CAUSE_SOURCES = (BitVec.ofNat 9 (s.fld Fld.RST_CAUSE_SOURCES) &&& ~~~BitVec.ofNat 9 (bits v 0 9)).toNat ∧
      t.fld Fld.RST_CAUSE_LAST = s.fld Fld.RST_CAUSE_LAST) ∧
    (∃ t, exec (.regWrite who 0xB00018 v) s = .next t ∧ t = { s with regs := t.regs } ∧ t.fld Fld.RLF_INTERVAL_I0 = bits v 0 8 ∧
      t.fld Fld.RLF_INTERVAL_I3 = bits v 24 8 ∧ t.fld Fld.RLF_INTERVAL_I7 = bits v 56 8) ∧
    (∀ i : Fin 10, ∃ t, exec (.regWrite who (BitVec.ofNat 24 (0xB00100 + 8 * i.val)) v) s = .next t ∧ t = { s with regs := t.regs } ∧
      (s.privileged who = true → t.fld Fld.RLF_CAN_IN_BASE i.val = bits v 0 16 ∧ t.fld Fld.RLF_CAN_IN_W i.val = bits v 21 4) ∧
      (s.privileged who = false → t.fld Fld.RLF_CAN_IN_BASE i.val = s.fld Fld.RLF_CAN_IN_BASE i.val ∧
        t.fld Fld.RLF_CAN_IN_W i.val = s.fld Fld.RLF_CAN_IN_W i.val ∧ s.Counted t Fld.DBG_STATUS_REFUSALS 1)) ∧
    (∀ k : Fin 2, ∃ t, exec (.regWrite who (BitVec.ofNat 24 (0xB00030 + 8 * k.val)) v) s = .next t ∧
      (s.anyBusy = false → t.fld Fld.RLF_DECL_REGIONS k.val = v.toNat ∧ t = { s with regs := t.regs }) ∧
      (s.anyBusy = true → t.fld Fld.RLF_DECL_REGIONS k.val = s.fld Fld.RLF_DECL_REGIONS k.val ∧ s.Raised t 0x0101 srcDev (0xB00030 + 8 * k.val))) ∧
    (∀ e : Fin 64, ∃ t, exec (.regWrite who (BitVec.ofNat 24 (0x901000 + 16 * e.val)) v) s = .next t ∧ t = { s with regs := t.regs } ∧
      (s.fld Fld.BKN_LOCK_WIN ≠ 1 → t.fld Fld.BKN_WIN_A_BASE e.val = bits v 0 27) ∧
      (s.fld Fld.BKN_LOCK_WIN = 1 → t.regs = s.regs)) ∧
    (∀ k : Fin 24, ∃ t, exec (.regWrite who (BitVec.ofNat 24 (0xC01000 + 8 * k.val)) v) s = .next t ∧
      t = { s with dbg := { s.dbg with token := SMap.putList s.dbg.token 0 (8 * k.val) (bytesOf 8 v.toNat) } }) ∧
    (let n := bits v 0 7
     (1 ≤ n → n ≤ 100 → exec (.seqBellWrite who v) s = .next { s with
       shadow := SMap.put s.shadow none (0x308000 * 64) (some (BitVec.ofNat 64 n)) }) ∧
     (n = 0 ∨ 100 < n → ∃ t, exec (.seqBellWrite who v) s = .next t ∧ s.Raised t 0x0102 srcDev 0x308000 ∧ t.shadow = s.shadow)) ∧
    (s.anyBusy = true → ∃ t, exec (.seqBellOriginWrite who v) s = .next t ∧ s.Raised t 0x0101 srcDev 0x308008 ∧ t.time = s.time ∧
      t.fld Fld.SEQ_BELL_ORIGIN_ORIGIN = s.fld Fld.SEQ_BELL_ORIGIN_ORIGIN) ∧
    (s.anyBusy = false → ∃ t, exec (.seqBellOriginWrite who v) s = .next t ∧ t.fld Fld.SEQ_BELL_ORIGIN_ORIGIN = v.toNat ∧
      t = { s with regs := t.regs, time := { s.time with nextBell := t.time.nextBell, nextNum := t.time.nextNum } } ∧
      (s.now < v.toNat → t.time.nextBell = v.toNat ∧ t.time.nextNum = 0) ∧
      (v.toNat ≤ s.now → 0 < s.fld Fld.SEQ_BELL_PERIOD → s.now < t.time.nextBell ∧ t.time.nextBell ≤ s.now + s.fld Fld.SEQ_BELL_PERIOD * 10000 ∧
        t.time.nextBell = v.toNat + t.time.nextNum * (s.fld Fld.SEQ_BELL_PERIOD * 10000)))

/-- R27, R30, R113, R124 to R129, R136, R137, R141, R163, R549, R636, R648: what a bell does to a context when no other one is at work: a
waiting context commits and begins anew, a running one overruns or slips, a faulted one stops, a stopped one resumes or may not, an idle one
takes the work of its slot; the events are raised as told when no push that was held back comes first. A bell during a device all-stop is
only counted; none acts while domain 48 is held. Slots are read ahead. -/
def Obligations.BellActs : Prop :=
  ∀ s : State,
    (s.time.counting = false → exec .bell s = .next s ∧ exec .slotPreread s = .next s) ∧
    (s.time.counting = true →
      let u := s.advanceTo s.time.nextBell
      let k := s.time.nextNum
      let past : Time := { u.time with nextBell := s.time.nextBell + s.periodNs, nextNum := k + 1 }
      (s.held 48 = true → exec .bell s = .next { u with time := past } ∧ exec .slotPreread s = .next s) ∧
      (s.held 48 = false → s.stopDevice = true → exec .slotPreread s = .next s ∧ ∃ t, exec .bell s = .next t ∧ t.time = past ∧
        t.fld Fld.SEQ_BELL_NUM_NUMBER = k % 2 ^ 64 ∧ u.Counted t Fld.DBG_STOP_STAT_BELLS_SKIPPED 1 ∧ t.ctxs = s.ctxs ∧ t.mem = s.mem) ∧
      (s.held 48 = false → s.dbg.stop = none →
        (∃ t, exec .slotPreread s = .next t ∧ ∀ c : Cid, s.joined c = false → s.fld Fld.SEQ_CTX_CFG_SCAN_EN c.val = 1 → s.memErr = [] →
          assigned s.variant (s.slotAddr c) 32 = true → s.slotAddr c < stkBase → s.rgnPurging (s.slotAddr c) 32 = false →
          t.ctx c = { s.ctx c with preread := some ((List.range 32).map fun j => s.memByte (s.slotAddr c + j)) }) ∧
        (s.fld Fld.DBG_TRIG_EN ≠ 1 → s.rst.forced = [] → s.rlf.act = none →
          ((∀ p ∈ s.shadow, p.1 = 0x308000 * 64) → ∃ t, exec .bell s = .next t ∧ t.fld Fld.SEQ_BELL_NUM_NUMBER = k % 2 ^ 64 ∧ t.fld Fld.DBG_SNAP_BELL_BELL = k % 2 ^ 64 ∧
            t.time.nextNum = k + 1 ∧ t.time.fallback = [] ∧ t.time.allFallback = false ∧ t.shadow = [] ∧
            (∀ p, s.shadow = [(0x308000 * 64, some p)] → t.fld Fld.SEQ_BELL_PERIOD = p.toNat % 128 ∧
              t.time.nextBell = s.time.nextBell + p.toNat % 128 * 10000) ∧ (∀ b, s.dbg.pcPend = some b → t.dbg.pcOn = b ∧ t.dbg.pcPend = none)) ∧
          (s.shadow = [] → ∀ c : Cid, s.joined c = false → s.seamOk c = true → (s.ctx c).resetReq = false → (∀ d, d ≠ c → s.ctx d = {}) →
            let x := s.ctx c
            let raised (t : State) (e : BitVec 16) : Prop := (∀ k, (s.store k).held = []) → s.Raised t e (srcSeq c)
            ∃ t, exec .bell s = .next t ∧
              (x.faulted = none → x.st = .waiting → x.cmd = 0 → x.halting = false → x.owner = true → x.waitBells = 0 →
                (t.ctx c).st = .running ∧ (t.ctx c).inSeg = false ∧ (t.ctx c).prog = (t.ctx c).image ∧
                (t.ctx c).image = (if x.evalEnded then { x.prog with evalCnt := x.prog.evalCnt + 1 } else x.prog) ∧
                (t.ctx c).stores = [] ∧ t.fld Fld.SEQ_CTX_SEGSTAT_LAST c.val = x.segLen % 2 ^ Fld.SEQ_CTX_SEGSTAT_LAST.width) ∧
              (x.faulted = none → x.st = .waiting → x.cmd = 0 → x.halting = false → x.owner = true → 0 < x.waitBells →
                (t.ctx c).st = .waiting ∧ (t.ctx c).waitBells = x.waitBells - 1 ∧ (t.ctx c).emptySeg = true) ∧
              (x.faulted = none → x.st = .waiting → x.cmd = 0 → x.halting = true → x.preread = none →
                (t.ctx c).st = .idle ∧ (t.ctx c).owner = false) ∧
              (x.faulted = none → x.st = .running → x.cmd = 0 → s.fld Fld.SEQ_CTX_CFG_SLIP_EN c.val ≠ 1 ∨ x.slipped = true →
                (t.ctx c).st = .stopped ∧ (t.ctx c).stopEvent = 0x0201 ∧ (t.ctx c).prog = x.image ∧ (t.ctx c).inSeg = false ∧
                s.Counted t Fld.SEQ_CTX_CNT_OVERRUNS 1 c.val ∧ raised t 0x0201) ∧
              (x.faulted = none → x.st = .running → x.cmd = 0 → s.fld Fld.SEQ_CTX_CFG_SLIP_EN c.val = 1 → x.slipped = false →
                t.ctx c = { x with slipped := true, preread := none } ∧ s.Counted t Fld.SEQ_CTX_CNT_SLIPS 1 c.val ∧ raised t 0x0202) ∧
              (∀ f, x.faulted = some f → x.st = .running ∨ x.st = .waiting → x.cmd = 0 →
                (t.ctx c).st = .stopped ∧ (t.ctx c).stopEvent = f ∧ (t.ctx c).faulted = none ∧ (t.ctx c).prog = x.image) ∧
              (x.faulted = none → x.st = .stopped → x.cmd = 2 → x.waitBells = 0 → x.pastReturn = false → x.millUe = false →
                (t.ctx c).st = .running ∧ (t.ctx c).owner = true ∧ (t.ctx c).prog = x.prog ∧ (t.ctx c).cmd = 0) ∧
              (x.faulted = none → x.st = .stopped → x.cmd = 2 → x.pastReturn = true ∨ x.millUe = true →
                (t.ctx c).st = .stopped ∧ (t.ctx c).cmd = 0 ∧ raised t 0x0207) ∧
              (x.faulted = none → x.st = .running ∨ x.st = .waiting → x.cmd = 1 → x.halting = false → (t.ctx c).st = .stopped ∧ (t.ctx c).cmd = 0) ∧
              (x.faulted = none → x.st = .waiting → x.cmd = 3 → x.halting = false → (t.ctx c).st = .purging ∧ (t.ctx c).owner = false) ∧
              (x.faulted = none → x.st = .idle → x.cmd = 0 → s.fld Fld.SEQ_CTX_CFG_SCAN_EN c.val = 1 → s.fld Fld.RLF_CFG_ROLE ≠ 1 →
                ∀ h, x.preread = some h → leAt h 0 4 = s.fld Fld.SEQ_CTX_SUBSEQ_NEXT_SEQ c.val →
                leAt h 4 4 = (crc32c (sliceB h 0 4 ++ sliceB h 8 24)).toNat → s.entryFits c (leAt h 8 8) = true →
                (t.ctx c).st = .running ∧ (t.ctx c).owner = true ∧ (t.ctx c).prog.pc.toNat = leAt h 8 8 ∧
                (t.ctx c).prog.step.toNat = leAt h 24 8 % 2 ^ 63 ∧ t.fld Fld.SEQ_CTX_SEED_SEED c.val = leAt h 16 8 ∧
                s.Counted t Fld.SEQ_CTX_SUBSEQ_NEXT_SEQ 1 c.val ∧ s.Counted t Fld.SEQ_CTX_SUBSEQ_TAKEN 1 c.val)))))

/-- A step takes the command at the front of the queue and runs it with the queue's rest; on an empty queue one cycle of the 100 MHz
reference passes, if the timebase counts (the model's choice, log entry 2; R558). No command is spelt by bits. -/
def Obligations.StepTakesTheFront : Prop :=
  (∀ (c : Instr) (rest : List Instr) (s : State), s.pending = c :: rest → step s = exec c { s with pending := rest }) ∧
  (∀ s : State, s.pending = [] → s.time.counting = false → step s = .next s) ∧
  (∀ s : State, s.pending = [] → s.time.counting = true → ∃ t, step s = .next t ∧ t.pending = [] ∧ t.mem = s.mem ∧ t.ctxs = s.ctxs ∧
    t.time.ns.toNat * 2 ^ 32 + t.time.frac.toNat =
      (s.time.ns.toNat * 2 ^ 32 + s.time.frac.toNat + 10 * 2 ^ 32 * (1000000000 + s.time.corr).toNat / 1000000000) % 2 ^ 96) ∧
  ∀ n w s, decodeTableWord n w = none ∧ State.withFetchWord s n w = s

/-- Every command of the block completes in every state: none ends in a fault or a refusal (the model's reading of an event whose
conditions do not hold: it leaves the state as it is). -/
def Obligations.EveryCommandCompletes : Prop :=
  ∀ (c : Instr) (s : State), ∃ t, exec c s = .next t

/-- R494: what the canary's registers hold after reset, with the thresholds they give, and the risk of the worked example. -/
def Obligations.CanaryTableAtReset : Prop :=
  let s := State.reset
  let row (i : Nat) : Nat × Nat × Nat × Nat :=
    (s.fld Fld.RLF_CAN_IN_BASE i, s.fld Fld.RLF_CAN_IN_STEP i, s.fld Fld.RLF_CAN_IN_LIN i, s.fld Fld.RLF_CAN_IN_W i)
  let thr (i : Nat) : List Nat := (List.range 7).map fun k => s.canaryThr i (k + 1)
  (List.range 10).map row = [(4, 2, 0, 2), (16, 2, 0, 2), (16, 2, 0, 2), (1, 1, 0, 2), (8, 2, 0, 2), (64, 2, 0, 1), (80, 4, 1, 2), (2, 2, 1, 1),
    (400, 200, 1, 1), (1, 1, 0, 1)] ∧
  ((List.range 10).map fun i => s.fld Fld.RLF_CAN_IN_W i).sum = 16 ∧
  thr 0 = [4, 16, 64, 256, 1024, 4096, 16384] ∧ thr 1 = [16, 64, 256, 1024, 4096, 16384, 65536] ∧ thr 2 = thr 1 ∧
  thr 3 = [1, 2, 4, 8, 16, 32, 64] ∧ thr 4 = [8, 32, 128, 512, 2048, 8192, 32768] ∧ thr 5 = [64, 256, 1024, 4096, 16384, 65536, 262144] ∧
  thr 6 = [80, 84, 88, 92, 96, 100, 104] ∧ thr 7 = [2, 4, 6, 8, 10, 12, 14] ∧ thr 8 = [400, 600, 800, 1000, 1200, 1400, 1600] ∧
  thr 9 = thr 3 ∧
  s.canaryLevel 0 100 = 3 ∧ s.canaryLevel 6 86 = 2 ∧ (∀ i, i < 10 → s.canaryLevel i 0 = 0) ∧ s.fld Fld.RLF_CANARY_FLOOR = 0 ∧
  s.riskOf [3, 0, 0, 0, 0, 0, 2, 0, 0, 0] = 1

/-- R230, R512, R567, R592, R595, R597: after reset every context is IDLE and every handle FREE, every domain is held and no step of the
release order has completed, no region is in use, the securings' counts stand at 1, the surge credit is full, memory is in its form. That
unlisted
memory reads zero is the model's choice (log entry 1). -/
def Obligations.ResetLeaves : Prop :=
  let s := State.reset
  s.Sound ∧ s.pending = [] ∧ s.rst.held = BitVec.allOnes 50 ∧ s.rst.step = 0 ∧ s.rlf.seq0 = 1 ∧ s.rlf.seq1 = 1 ∧ s.pwr.credit = 600000000000 ∧
  s.pwr.step = 0 ∧ s.time.counting = false ∧ s.dbg.stop = none ∧ s.dbg.unlocked = false ∧ s.llx.tally = 0 ∧
  (∀ c : Cid, (s.ctx c).st = .idle ∧ (s.ctx c).owner = false) ∧ (∀ h, (s.hnd h).st = .free) ∧ (∀ r, r < 256 → s.rgnState r = 0) ∧
  (∀ a, s.memByte a = 0)

/-- Every step keeps device memory in its canonical form, from whatever state: addresses rise, and no byte that reads as an unlisted one
is listed. -/
def Obligations.StepsKeepMemoryInForm : Prop :=
  ∀ s t : State, s.Sound → step s = .next t → t.Sound
end

