-- ==== Sys2Proof/Laws/SMap.lean ====
section
/-! SUPPORT. Laws of the sparse tables: what reads back after a write, and that every operation keeps the canonical form. -/

namespace Sys2Proof.Machine

variable {α : Type}

/-! ### Reading after writing -/

@[simp] theorem SMap.val_nil (d : α) (k : Nat) : SMap.val ([] : SMap α) d k = d := rfl

theorem SMap.val_cons (j : Nat) (v d : α) (t : SMap α) (k : Nat) :
    SMap.val ((j, v) :: t) d k = if j = k then v else SMap.val t d k := rfl

theorem SMap.val_del (m : SMap α) (d : α) (k j : Nat) :
    SMap.val (SMap.del m k) d j = if j = k then d else SMap.val m d j := by
  induction m with
  | nil => simp [SMap.del]
  | cons p t ih =>
    obtain ⟨i, v⟩ := p
    simp only [SMap.del] at ih ⊢
    by_cases h : i = k
    · subst h
      simp only [List.filter, bne_self_eq_false]
      rw [ih]
      by_cases h2 : j = i
      · simp [h2]
      · simp [h2, SMap.val_cons, Ne.symm h2]
    · simp only [List.filter, SMap.val_cons]
      rw [show (i != k) = true by simpa using h]
      simp only [SMap.val_cons, ih]
      by_cases h2 : i = j
      · subst h2; simp [h]
      · simp [h2]

theorem SMap.val_ins (m : SMap α) (d : α) (k j : Nat) (v : α) :
    SMap.val (SMap.ins m k v) d j = if j = k then v else SMap.val m d j := by
  induction m with
  | nil => simp [SMap.ins, SMap.val_cons, eq_comm]
  | cons p t ih =>
    obtain ⟨i, w⟩ := p
    simp only [SMap.ins]
    split
    · simp [SMap.val_cons, eq_comm]
    · split
      · rename_i h
        subst h
        by_cases h2 : j = i
        · simp [SMap.val_cons, h2]
        · simp [SMap.val_cons, h2, Ne.symm h2]
      · rename_i h
        simp only [SMap.val_cons, ih]
        by_cases h2 : i = j
        · subst h2; simp [h]
        · simp [h2]

/-- What a table reads after a write. -/
theorem SMap.val_put [DecidableEq α] (m : SMap α) (d : α) (k j : Nat) (v : α) :
    SMap.val (SMap.put m d k v) d j = if j = k then v else SMap.val m d j := by
  unfold SMap.put
  split
  · rename_i h; subst h; exact SMap.val_del ..
  · rw [SMap.val_ins, SMap.val_del]; split <;> rfl

@[simp] theorem SMap.val_put_self [DecidableEq α] (m : SMap α) (d : α) (k : Nat) (v : α) :
    SMap.val (SMap.put m d k v) d k = v := by simp [SMap.val_put]

theorem SMap.val_put_ne [DecidableEq α] (m : SMap α) (d : α) {k j : Nat} (v : α) (h : j ≠ k) :
    SMap.val (SMap.put m d k v) d j = SMap.val m d j := by simp [SMap.val_put, h]

/-- The same where the reader takes another default. -/
theorem SMap.val_put_off [DecidableEq α] (m : SMap α) (d e : α) {k j : Nat} (v : α) (h : j ≠ k) :
    SMap.val (SMap.put m d k v) e j = SMap.val m e j := by
  unfold SMap.put
  split
  · simp [SMap.val_del, h]
  · simp [SMap.val_ins, SMap.val_del, h]

theorem SMap.val_clear (m : SMap α) (d : α) (lo n j : Nat) :
    SMap.val (SMap.clear m lo n) d j = if lo ≤ j ∧ j < lo + n then d else SMap.val m d j := by
  induction m with
  | nil => simp [SMap.clear]
  | cons p t ih =>
    obtain ⟨i, v⟩ := p
    simp only [SMap.clear] at ih ⊢
    have c : (decide (i < lo) || decide (lo + n ≤ i)) = !(decide (lo ≤ i ∧ i < lo + n)) := by
      rw [← Bool.decide_or, ← decide_not]; congr 1; simp only [eq_iff_iff]; omega
    by_cases h : lo ≤ i ∧ i < lo + n
    · simp only [List.filter_cons, c, h, and_self, decide_true, Bool.not_true, Bool.false_eq_true, if_false, ih, SMap.val_cons]
      by_cases e : i = j
      · subst e; simp [h]
      · simp [e]
    · simp only [List.filter_cons, c, h, decide_false, Bool.not_false, if_true, ih, SMap.val_cons]
      by_cases e : i = j
      · subst e; simp [h]
      · simp [e]

@[simp] theorem SMap.val_upd_self [DecidableEq α] (m : SMap α) (d : α) (k : Nat) (f : α → α) :
    SMap.val (SMap.upd m d k f) d k = f (SMap.val m d k) := by simp [SMap.upd]

theorem SMap.del_ins (m : SMap α) (k : Nat) (v : α) : SMap.del (SMap.ins m k v) k = SMap.del m k := by
  induction m with
  | nil => simp [SMap.ins, SMap.del]
  | cons p t ih =>
    obtain ⟨j, w⟩ := p
    unfold SMap.ins
    by_cases h : k < j
    · simp [h, SMap.del]
    · by_cases h2 : j = k
      · simp [h2, SMap.del]
      · simp only [h, h2, if_false]
        simpa [SMap.del, h2] using ih

/-- The last write to a key is the one that counts, as data. -/
@[simp] theorem SMap.put_put [DecidableEq α] (m : SMap α) (d : α) (k : Nat) (v w : α) :
    SMap.put (SMap.put m d k v) d k w = SMap.put m d k w := by
  have h : SMap.del (SMap.put m d k v) k = SMap.del m k := by
    unfold SMap.put
    split
    · simp [SMap.del]
    · rw [SMap.del_ins]; simp [SMap.del]
  have e (x : SMap α) : SMap.put x d k w = if w = d then SMap.del x k else SMap.ins (SMap.del x k) k w := rfl
  rw [e, e m, h]

/-- What a table reads after a run of writes. -/
theorem SMap.val_putList [DecidableEq α] (m : SMap α) (d : α) (k : Nat) (l : List α) (j : Nat) :
    SMap.val (SMap.putList m d k l) d j = if k ≤ j ∧ j < k + l.length then l.getD (j - k) d else SMap.val m d j := by
  induction l generalizing m k with
  | nil => simp [SMap.putList]
  | cons v t ih =>
    rw [SMap.putList, ih]
    by_cases h : k + 1 ≤ j ∧ j < k + 1 + t.length
    · have h1 : k ≤ j ∧ j < k + (v :: t).length := by simp; omega
      have h2 : j - k = (j - (k + 1)) + 1 := by omega
      simp only [h, h1, and_self, if_true]
      rw [h2]; rfl
    · by_cases hj : j = k
      · subst hj; simp
      · have h1 : ¬(k ≤ j ∧ j < k + (v :: t).length) := by simp; omega
        simp only [h, h1, if_false]
        exact SMap.val_put_ne _ _ _ hj

/-! ### The canonical form -/

/-- The first key is below all others, and the rest rises. -/
theorem SMap.rising_cons (j : Nat) (v : α) (t : SMap α) :
    SMap.rising ((j, v) :: t) = true ↔ (∀ p ∈ t, j < p.1) ∧ SMap.rising t = true := by
  induction t generalizing j v with
  | nil => simp [SMap.rising]
  | cons p t ih =>
    obtain ⟨i, w⟩ := p
    constructor
    · intro h
      simp only [SMap.rising, Bool.and_eq_true, decide_eq_true_eq] at h
      refine ⟨?_, ?_⟩
      · intro q hq
        have h3 : SMap.rising ((i, w) :: t) = true := by simpa [SMap.rising] using h.2
        have h4 := (ih i w).1 h3
        rcases List.mem_cons.1 hq with rfl | hq
        · exact h.1
        · exact lt_trans h.1 (h4.1 q hq)
      · simpa [SMap.rising] using h.2
    · rintro ⟨h1, h2⟩
      have h5 : j < i := h1 (i, w) (by simp)
      simp only [SMap.rising, Bool.and_eq_true, decide_eq_true_eq] at h2 ⊢
      exact ⟨h5, h2⟩

theorem SMap.rising_filter (m : SMap α) (f : Nat × α → Bool) (h : SMap.rising m = true) :
    SMap.rising (List.filter f m) = true := by
  induction m with
  | nil => rfl
  | cons p t ih =>
    obtain ⟨j, v⟩ := p
    have h' := (SMap.rising_cons j v t).1 h
    simp only [List.filter]
    split
    · refine (SMap.rising_cons _ _ _).2 ⟨fun q hq => h'.1 q (List.mem_filter.1 hq).1, ih h'.2⟩
    · exact ih h'.2

theorem SMap.mem_ins (m : SMap α) (k : Nat) (v : α) (q : Nat × α) (h : q ∈ SMap.ins m k v) : q = (k, v) ∨ q ∈ m := by
  induction m with
  | nil => simpa [SMap.ins] using h
  | cons p t ih =>
    obtain ⟨j, w⟩ := p
    simp only [SMap.ins] at h
    split at h
    · simpa using h
    · split at h
      · rcases List.mem_cons.1 h with h | h
        · exact .inl h
        · exact .inr (List.mem_cons_of_mem _ h)
      · rcases List.mem_cons.1 h with h | h
        · exact .inr (by simp [h])
        · rcases ih h with h | h
          · exact .inl h
          · exact .inr (List.mem_cons_of_mem _ h)

theorem SMap.rising_ins (m : SMap α) (k : Nat) (v : α) (h : SMap.rising m = true) : SMap.rising (SMap.ins m k v) = true := by
  induction m with
  | nil => rfl
  | cons p t ih =>
    obtain ⟨j, w⟩ := p
    have h' := (SMap.rising_cons j w t).1 h
    simp only [SMap.ins]
    split
    · rename_i hk
      refine (SMap.rising_cons _ _ _).2 ⟨?_, h⟩
      intro q hq
      rcases List.mem_cons.1 hq with rfl | hq
      · exact hk
      · exact lt_trans hk (h'.1 q hq)
    · split
      · rename_i hk
        subst hk
        exact (SMap.rising_cons _ _ _).2 h'
      · rename_i h1 h2
        refine (SMap.rising_cons _ _ _).2 ⟨?_, ih h'.2⟩
        intro q hq
        rcases SMap.mem_ins t k v q hq with rfl | hq
        · show j < k; omega
        · exact h'.1 q hq

/-- The canonical form, as two facts. -/
theorem SMap.wf_iff [DecidableEq α] (m : SMap α) (d : Nat → α) :
    SMap.wf m d = true ↔ SMap.rising m = true ∧ ∀ p ∈ m, p.2 ≠ d p.1 := by
  simp [SMap.wf]

@[simp] theorem SMap.wf_nil [DecidableEq α] (d : Nat → α) : SMap.wf ([] : SMap α) d = true := rfl

theorem SMap.wf_filter [DecidableEq α] (m : SMap α) (d : Nat → α) (f : Nat × α → Bool) (h : SMap.wf m d = true) :
    SMap.wf (List.filter f m) d = true := by
  rw [SMap.wf_iff] at *
  exact ⟨SMap.rising_filter m f h.1, fun p hp => h.2 p (List.mem_filter.1 hp).1⟩

/-- A write keeps the canonical form. -/
theorem SMap.wf_put [DecidableEq α] (m : SMap α) (d : Nat → α) (k : Nat) (v : α) (h : SMap.wf m d = true) :
    SMap.wf (SMap.put m (d k) k v) d = true := by
  unfold SMap.put
  split
  · exact SMap.wf_filter m d _ h
  · rename_i hv
    rw [SMap.wf_iff] at *
    refine ⟨SMap.rising_ins _ k v (SMap.rising_filter m _ h.1), fun p hp => ?_⟩
    rcases SMap.mem_ins _ k v p hp with rfl | hp
    · exact hv
    · exact h.2 p (List.mem_filter.1 hp).1

theorem SMap.wf_putList [DecidableEq α] (m : SMap α) (d : α) (k : Nat) (l : List α) (h : SMap.wf m (fun _ => d) = true) :
    SMap.wf (SMap.putList m d k l) (fun _ => d) = true := by
  induction l generalizing m k with
  | nil => exact h
  | cons v t ih => exact ih _ _ (SMap.wf_put m (fun _ => d) k v h)

theorem SMap.wf_clear [DecidableEq α] (m : SMap α) (d : Nat → α) (lo n : Nat) (h : SMap.wf m d = true) :
    SMap.wf (SMap.clear m lo n) d = true := SMap.wf_filter m d _ h

end Sys2Proof.Machine
end

