-- ==== Sys2Proof/Laws/State.lean ====
section
/-! SUPPORT. Laws of the updates of State: the fields that each leaves, what a unit reads as after a write of one, register fields. A
`mod` of a unit is its `set` by definition. -/

namespace Sys2Proof.Machine

variable (s : State)

/-! ### A `mod` is a `set` -/

theorem State.modCtx_eq (c : Cid) (f : Ctx → Ctx) : s.modCtx c f = s.setCtx c (f (s.ctx c)) := rfl
theorem State.modStn_eq (i : StationId) (f : Station → Station) : s.modStn i f = s.setStn i (f (s.stn i)) := rfl
theorem State.modHnd_eq (h : HandleId) (f : Handle → Handle) : s.modHnd h f = s.setHnd h (f (s.hnd h)) := rfl
theorem State.modHub_eq (h : HubId) (f : Hub → Hub) : s.modHub h f = s.setHub h (f (s.hub h)) := rfl
theorem State.modQue_eq (h : HubId) (q : QueueId) (f : Queue → Queue) : s.modQue h q f = s.setQue h q (f (s.que h q)) := rfl
theorem State.modMill_eq (m : Fin 2) (f : Mill → Mill) : s.modMill m f = s.setMill m (f (s.mill m)) := rfl
theorem State.modInst_eq (no : Nat) (f : SInst → SInst) :
    s.modInst no f = match s.inst no with | some x => s.setInst no (some (f x)) | none => s := rfl
theorem State.bump_eq (F : Fld) (n i j : Nat) : s.bump F n i j = s.setFld F (s.fld F i j + n) i j := rfl

/-! ### setCtx -/

@[simp] theorem State.setCtx_pending (c : Cid) (x : Ctx) : (s.setCtx c x).pending = s.pending := rfl
@[simp] theorem State.setCtx_variant (c : Cid) (x : Ctx) : (s.setCtx c x).variant = s.variant := rfl
@[simp] theorem State.setCtx_regs (c : Cid) (x : Ctx) : (s.setCtx c x).regs = s.regs := rfl
@[simp] theorem State.setCtx_shadow (c : Cid) (x : Ctx) : (s.setCtx c x).shadow = s.shadow := rfl
@[simp] theorem State.setCtx_time (c : Cid) (x : Ctx) : (s.setCtx c x).time = s.time := rfl
@[simp] theorem State.setCtx_token (c : Cid) (x : Ctx) : (s.setCtx c x).token = s.token := rfl
@[simp] theorem State.setCtx_stations (c : Cid) (x : Ctx) : (s.setCtx c x).stations = s.stations := rfl
@[simp] theorem State.setCtx_insts (c : Cid) (x : Ctx) : (s.setCtx c x).insts = s.insts := rfl
@[simp] theorem State.setCtx_passes (c : Cid) (x : Ctx) : (s.setCtx c x).passes = s.passes := rfl
@[simp] theorem State.setCtx_dispNo (c : Cid) (x : Ctx) : (s.setCtx c x).dispNo = s.dispNo := rfl
@[simp] theorem State.setCtx_accs (c : Cid) (x : Ctx) : (s.setCtx c x).accs = s.accs := rfl
@[simp] theorem State.setCtx_handles (c : Cid) (x : Ctx) : (s.setCtx c x).handles = s.handles := rfl
@[simp] theorem State.setCtx_purgeQ (c : Cid) (x : Ctx) : (s.setCtx c x).purgeQ = s.purgeQ := rfl
@[simp] theorem State.setCtx_mem (c : Cid) (x : Ctx) : (s.setCtx c x).mem = s.mem := rfl
@[simp] theorem State.setCtx_memErr (c : Cid) (x : Ctx) : (s.setCtx c x).memErr = s.memErr := rfl
@[simp] theorem State.setCtx_bunk (c : Cid) (x : Ctx) : (s.setCtx c x).bunk = s.bunk := rfl
@[simp] theorem State.setCtx_bunkErr (c : Cid) (x : Ctx) : (s.setCtx c x).bunkErr = s.bunkErr := rfl
@[simp] theorem State.setCtx_side (c : Cid) (x : Ctx) : (s.setCtx c x).side = s.side := rfl
@[simp] theorem State.setCtx_sideErr (c : Cid) (x : Ctx) : (s.setCtx c x).sideErr = s.sideErr := rfl
@[simp] theorem State.setCtx_hubs (c : Cid) (x : Ctx) : (s.setCtx c x).hubs = s.hubs := rfl
@[simp] theorem State.setCtx_queues (c : Cid) (x : Ctx) : (s.setCtx c x).queues = s.queues := rfl
@[simp] theorem State.setCtx_hbmPurge (c : Cid) (x : Ctx) : (s.setCtx c x).hbmPurge = s.hbmPurge := rfl
@[simp] theorem State.setCtx_stores (c : Cid) (x : Ctx) : (s.setCtx c x).stores = s.stores := rfl
@[simp] theorem State.setCtx_samplers (c : Cid) (x : Ctx) : (s.setCtx c x).samplers = s.samplers := rfl
@[simp] theorem State.setCtx_mill0 (c : Cid) (x : Ctx) : (s.setCtx c x).mill0 = s.mill0 := rfl
@[simp] theorem State.setCtx_mill1 (c : Cid) (x : Ctx) : (s.setCtx c x).mill1 = s.mill1 := rfl
@[simp] theorem State.setCtx_vus (c : Cid) (x : Ctx) : (s.setCtx c x).vus = s.vus := rfl
@[simp] theorem State.setCtx_vuFrozen (c : Cid) (x : Ctx) : (s.setCtx c x).vuFrozen = s.vuFrozen := rfl
@[simp] theorem State.setCtx_coef (c : Cid) (x : Ctx) : (s.setCtx c x).coef = s.coef := rfl
@[simp] theorem State.setCtx_coefSel (c : Cid) (x : Ctx) : (s.setCtx c x).coefSel = s.coefSel := rfl
@[simp] theorem State.setCtx_coefSwap (c : Cid) (x : Ctx) : (s.setCtx c x).coefSwap = s.coefSwap := rfl
@[simp] theorem State.setCtx_coefLate (c : Cid) (x : Ctx) : (s.setCtx c x).coefLate = s.coefLate := rfl
@[simp] theorem State.setCtx_fab (c : Cid) (x : Ctx) : (s.setCtx c x).fab = s.fab := rfl
@[simp] theorem State.setCtx_llx (c : Cid) (x : Ctx) : (s.setCtx c x).llx = s.llx := rfl
@[simp] theorem State.setCtx_rlf (c : Cid) (x : Ctx) : (s.setCtx c x).rlf = s.rlf := rfl
@[simp] theorem State.setCtx_pwr (c : Cid) (x : Ctx) : (s.setCtx c x).pwr = s.pwr := rfl
@[simp] theorem State.setCtx_rst (c : Cid) (x : Ctx) : (s.setCtx c x).rst = s.rst := rfl
@[simp] theorem State.setCtx_dbg (c : Cid) (x : Ctx) : (s.setCtx c x).dbg = s.dbg := rfl
@[simp] theorem State.setCtx_pins (c : Cid) (x : Ctx) : (s.setCtx c x).pins = s.pins := rfl
@[simp] theorem State.setCtx_freeCtr (c : Cid) (x : Ctx) : (s.setCtx c x).freeCtr = s.freeCtr := rfl

/-! ### setStn -/

@[simp] theorem State.setStn_pending (i : StationId) (x : Station) : (s.setStn i x).pending = s.pending := rfl
@[simp] theorem State.setStn_variant (i : StationId) (x : Station) : (s.setStn i x).variant = s.variant := rfl
@[simp] theorem State.setStn_regs (i : StationId) (x : Station) : (s.setStn i x).regs = s.regs := rfl
@[simp] theorem State.setStn_shadow (i : StationId) (x : Station) : (s.setStn i x).shadow = s.shadow := rfl
@[simp] theorem State.setStn_time (i : StationId) (x : Station) : (s.setStn i x).time = s.time := rfl
@[simp] theorem State.setStn_ctxs (i : StationId) (x : Station) : (s.setStn i x).ctxs = s.ctxs := rfl
@[simp] theorem State.setStn_token (i : StationId) (x : Station) : (s.setStn i x).token = s.token := rfl
@[simp] theorem State.setStn_insts (i : StationId) (x : Station) : (s.setStn i x).insts = s.insts := rfl
@[simp] theorem State.setStn_passes (i : StationId) (x : Station) : (s.setStn i x).passes = s.passes := rfl
@[simp] theorem State.setStn_dispNo (i : StationId) (x : Station) : (s.setStn i x).dispNo = s.dispNo := rfl
@[simp] theorem State.setStn_accs (i : StationId) (x : Station) : (s.setStn i x).accs = s.accs := rfl
@[simp] theorem State.setStn_handles (i : StationId) (x : Station) : (s.setStn i x).handles = s.handles := rfl
@[simp] theorem State.setStn_purgeQ (i : StationId) (x : Station) : (s.setStn i x).purgeQ = s.purgeQ := rfl
@[simp] theorem State.setStn_mem (i : StationId) (x : Station) : (s.setStn i x).mem = s.mem := rfl
@[simp] theorem State.setStn_memErr (i : StationId) (x : Station) : (s.setStn i x).memErr = s.memErr := rfl
@[simp] theorem State.setStn_bunk (i : StationId) (x : Station) : (s.setStn i x).bunk = s.bunk := rfl
@[simp] theorem State.setStn_bunkErr (i : StationId) (x : Station) : (s.setStn i x).bunkErr = s.bunkErr := rfl
@[simp] theorem State.setStn_side (i : StationId) (x : Station) : (s.setStn i x).side = s.side := rfl
@[simp] theorem State.setStn_sideErr (i : StationId) (x : Station) : (s.setStn i x).sideErr = s.sideErr := rfl
@[simp] theorem State.setStn_hubs (i : StationId) (x : Station) : (s.setStn i x).hubs = s.hubs := rfl
@[simp] theorem State.setStn_queues (i : StationId) (x : Station) : (s.setStn i x).queues = s.queues := rfl
@[simp] theorem State.setStn_hbmPurge (i : StationId) (x : Station) : (s.setStn i x).hbmPurge = s.hbmPurge := rfl
@[simp] theorem State.setStn_stores (i : StationId) (x : Station) : (s.setStn i x).stores = s.stores := rfl
@[simp] theorem State.setStn_samplers (i : StationId) (x : Station) : (s.setStn i x).samplers = s.samplers := rfl
@[simp] theorem State.setStn_mill0 (i : StationId) (x : Station) : (s.setStn i x).mill0 = s.mill0 := rfl
@[simp] theorem State.setStn_mill1 (i : StationId) (x : Station) : (s.setStn i x).mill1 = s.mill1 := rfl
@[simp] theorem State.setStn_vus (i : StationId) (x : Station) : (s.setStn i x).vus = s.vus := rfl
@[simp] theorem State.setStn_vuFrozen (i : StationId) (x : Station) : (s.setStn i x).vuFrozen = s.vuFrozen := rfl
@[simp] theorem State.setStn_coef (i : StationId) (x : Station) : (s.setStn i x).coef = s.coef := rfl
@[simp] theorem State.setStn_coefSel (i : StationId) (x : Station) : (s.setStn i x).coefSel = s.coefSel := rfl
@[simp] theorem State.setStn_coefSwap (i : StationId) (x : Station) : (s.setStn i x).coefSwap = s.coefSwap := rfl
@[simp] theorem State.setStn_coefLate (i : StationId) (x : Station) : (s.setStn i x).coefLate = s.coefLate := rfl
@[simp] theorem State.setStn_fab (i : StationId) (x : Station) : (s.setStn i x).fab = s.fab := rfl
@[simp] theorem State.setStn_llx (i : StationId) (x : Station) : (s.setStn i x).llx = s.llx := rfl
@[simp] theorem State.setStn_rlf (i : StationId) (x : Station) : (s.setStn i x).rlf = s.rlf := rfl
@[simp] theorem State.setStn_pwr (i : StationId) (x : Station) : (s.setStn i x).pwr = s.pwr := rfl
@[simp] theorem State.setStn_rst (i : StationId) (x : Station) : (s.setStn i x).rst = s.rst := rfl
@[simp] theorem State.setStn_dbg (i : StationId) (x : Station) : (s.setStn i x).dbg = s.dbg := rfl
@[simp] theorem State.setStn_pins (i : StationId) (x : Station) : (s.setStn i x).pins = s.pins := rfl
@[simp] theorem State.setStn_freeCtr (i : StationId) (x : Station) : (s.setStn i x).freeCtr = s.freeCtr := rfl

/-! ### setHnd -/

@[simp] theorem State.setHnd_pending (h : HandleId) (x : Handle) : (s.setHnd h x).pending = s.pending := rfl
@[simp] theorem State.setHnd_variant (h : HandleId) (x : Handle) : (s.setHnd h x).variant = s.variant := rfl
@[simp] theorem State.setHnd_regs (h : HandleId) (x : Handle) : (s.setHnd h x).regs = s.regs := rfl
@[simp] theorem State.setHnd_shadow (h : HandleId) (x : Handle) : (s.setHnd h x).shadow = s.shadow := rfl
@[simp] theorem State.setHnd_time (h : HandleId) (x : Handle) : (s.setHnd h x).time = s.time := rfl
@[simp] theorem State.setHnd_ctxs (h : HandleId) (x : Handle) : (s.setHnd h x).ctxs = s.ctxs := rfl
@[simp] theorem State.setHnd_token (h : HandleId) (x : Handle) : (s.setHnd h x).token = s.token := rfl
@[simp] theorem State.setHnd_stations (h : HandleId) (x : Handle) : (s.setHnd h x).stations = s.stations := rfl
@[simp] theorem State.setHnd_insts (h : HandleId) (x : Handle) : (s.setHnd h x).insts = s.insts := rfl
@[simp] theorem State.setHnd_passes (h : HandleId) (x : Handle) : (s.setHnd h x).passes = s.passes := rfl
@[simp] theorem State.setHnd_dispNo (h : HandleId) (x : Handle) : (s.setHnd h x).dispNo = s.dispNo := rfl
@[simp] theorem State.setHnd_accs (h : HandleId) (x : Handle) : (s.setHnd h x).accs = s.accs := rfl
@[simp] theorem State.setHnd_purgeQ (h : HandleId) (x : Handle) : (s.setHnd h x).purgeQ = s.purgeQ := rfl
@[simp] theorem State.setHnd_mem (h : HandleId) (x : Handle) : (s.setHnd h x).mem = s.mem := rfl
@[simp] theorem State.setHnd_memErr (h : HandleId) (x : Handle) : (s.setHnd h x).memErr = s.memErr := rfl
@[simp] theorem State.setHnd_bunk (h : HandleId) (x : Handle) : (s.setHnd h x).bunk = s.bunk := rfl
@[simp] theorem State.setHnd_bunkErr (h : HandleId) (x : Handle) : (s.setHnd h x).bunkErr = s.bunkErr := rfl
@[simp] theorem State.setHnd_side (h : HandleId) (x : Handle) : (s.setHnd h x).side = s.side := rfl
@[simp] theorem State.setHnd_sideErr (h : HandleId) (x : Handle) : (s.setHnd h x).sideErr = s.sideErr := rfl
@[simp] theorem State.setHnd_hubs (h : HandleId) (x : Handle) : (s.setHnd h x).hubs = s.hubs := rfl
@[simp] theorem State.setHnd_queues (h : HandleId) (x : Handle) : (s.setHnd h x).queues = s.queues := rfl
@[simp] theorem State.setHnd_hbmPurge (h : HandleId) (x : Handle) : (s.setHnd h x).hbmPurge = s.hbmPurge := rfl
@[simp] theorem State.setHnd_stores (h : HandleId) (x : Handle) : (s.setHnd h x).stores = s.stores := rfl
@[simp] theorem State.setHnd_samplers (h : HandleId) (x : Handle) : (s.setHnd h x).samplers = s.samplers := rfl
@[simp] theorem State.setHnd_mill0 (h : HandleId) (x : Handle) : (s.setHnd h x).mill0 = s.mill0 := rfl
@[simp] theorem State.setHnd_mill1 (h : HandleId) (x : Handle) : (s.setHnd h x).mill1 = s.mill1 := rfl
@[simp] theorem State.setHnd_vus (h : HandleId) (x : Handle) : (s.setHnd h x).vus = s.vus := rfl
@[simp] theorem State.setHnd_vuFrozen (h : HandleId) (x : Handle) : (s.setHnd h x).vuFrozen = s.vuFrozen := rfl
@[simp] theorem State.setHnd_coef (h : HandleId) (x : Handle) : (s.setHnd h x).coef = s.coef := rfl
@[simp] theorem State.setHnd_coefSel (h : HandleId) (x : Handle) : (s.setHnd h x).coefSel = s.coefSel := rfl
@[simp] theorem State.setHnd_coefSwap (h : HandleId) (x : Handle) : (s.setHnd h x).coefSwap = s.coefSwap := rfl
@[simp] theorem State.setHnd_coefLate (h : HandleId) (x : Handle) : (s.setHnd h x).coefLate = s.coefLate := rfl
@[simp] theorem State.setHnd_fab (h : HandleId) (x : Handle) : (s.setHnd h x).fab = s.fab := rfl
@[simp] theorem State.setHnd_llx (h : HandleId) (x : Handle) : (s.setHnd h x).llx = s.llx := rfl
@[simp] theorem State.setHnd_rlf (h : HandleId) (x : Handle) : (s.setHnd h x).rlf = s.rlf := rfl
@[simp] theorem State.setHnd_pwr (h : HandleId) (x : Handle) : (s.setHnd h x).pwr = s.pwr := rfl
@[simp] theorem State.setHnd_rst (h : HandleId) (x : Handle) : (s.setHnd h x).rst = s.rst := rfl
@[simp] theorem State.setHnd_dbg (h : HandleId) (x : Handle) : (s.setHnd h x).dbg = s.dbg := rfl
@[simp] theorem State.setHnd_pins (h : HandleId) (x : Handle) : (s.setHnd h x).pins = s.pins := rfl
@[simp] theorem State.setHnd_freeCtr (h : HandleId) (x : Handle) : (s.setHnd h x).freeCtr = s.freeCtr := rfl

/-! ### setInst -/

@[simp] theorem State.setInst_pending (no : Nat) (x : Option SInst) : (s.setInst no x).pending = s.pending := rfl
@[simp] theorem State.setInst_variant (no : Nat) (x : Option SInst) : (s.setInst no x).variant = s.variant := rfl
@[simp] theorem State.setInst_regs (no : Nat) (x : Option SInst) : (s.setInst no x).regs = s.regs := rfl
@[simp] theorem State.setInst_shadow (no : Nat) (x : Option SInst) : (s.setInst no x).shadow = s.shadow := rfl
@[simp] theorem State.setInst_time (no : Nat) (x : Option SInst) : (s.setInst no x).time = s.time := rfl
@[simp] theorem State.setInst_ctxs (no : Nat) (x : Option SInst) : (s.setInst no x).ctxs = s.ctxs := rfl
@[simp] theorem State.setInst_token (no : Nat) (x : Option SInst) : (s.setInst no x).token = s.token := rfl
@[simp] theorem State.setInst_stations (no : Nat) (x : Option SInst) : (s.setInst no x).stations = s.stations := rfl
@[simp] theorem State.setInst_passes (no : Nat) (x : Option SInst) : (s.setInst no x).passes = s.passes := rfl
@[simp] theorem State.setInst_dispNo (no : Nat) (x : Option SInst) : (s.setInst no x).dispNo = s.dispNo := rfl
@[simp] theorem State.setInst_accs (no : Nat) (x : Option SInst) : (s.setInst no x).accs = s.accs := rfl
@[simp] theorem State.setInst_handles (no : Nat) (x : Option SInst) : (s.setInst no x).handles = s.handles := rfl
@[simp] theorem State.setInst_purgeQ (no : Nat) (x : Option SInst) : (s.setInst no x).purgeQ = s.purgeQ := rfl
@[simp] theorem State.setInst_mem (no : Nat) (x : Option SInst) : (s.setInst no x).mem = s.mem := rfl
@[simp] theorem State.setInst_memErr (no : Nat) (x : Option SInst) : (s.setInst no x).memErr = s.memErr := rfl
@[simp] theorem State.setInst_bunk (no : Nat) (x : Option SInst) : (s.setInst no x).bunk = s.bunk := rfl
@[simp] theorem State.setInst_bunkErr (no : Nat) (x : Option SInst) : (s.setInst no x).bunkErr = s.bunkErr := rfl
@[simp] theorem State.setInst_side (no : Nat) (x : Option SInst) : (s.setInst no x).side = s.side := rfl
@[simp] theorem State.setInst_sideErr (no : Nat) (x : Option SInst) : (s.setInst no x).sideErr = s.sideErr := rfl
@[simp] theorem State.setInst_hubs (no : Nat) (x : Option SInst) : (s.setInst no x).hubs = s.hubs := rfl
@[simp] theorem State.setInst_queues (no : Nat) (x : Option SInst) : (s.setInst no x).queues = s.queues := rfl
@[simp] theorem State.setInst_hbmPurge (no : Nat) (x : Option SInst) : (s.setInst no x).hbmPurge = s.hbmPurge := rfl
@[simp] theorem State.setInst_stores (no : Nat) (x : Option SInst) : (s.setInst no x).stores = s.stores := rfl
@[simp] theorem State.setInst_samplers (no : Nat) (x : Option SInst) : (s.setInst no x).samplers = s.samplers := rfl
@[simp] theorem State.setInst_mill0 (no : Nat) (x : Option SInst) : (s.setInst no x).mill0 = s.mill0 := rfl
@[simp] theorem State.setInst_mill1 (no : Nat) (x : Option SInst) : (s.setInst no x).mill1 = s.mill1 := rfl
@[simp] theorem State.setInst_vus (no : Nat) (x : Option SInst) : (s.setInst no x).vus = s.vus := rfl
@[simp] theorem State.setInst_vuFrozen (no : Nat) (x : Option SInst) : (s.setInst no x).vuFrozen = s.vuFrozen := rfl
@[simp] theorem State.setInst_coef (no : Nat) (x : Option SInst) : (s.setInst no x).coef = s.coef := rfl
@[simp] theorem State.setInst_coefSel (no : Nat) (x : Option SInst) : (s.setInst no x).coefSel = s.coefSel := rfl
@[simp] theorem State.setInst_coefSwap (no : Nat) (x : Option SInst) : (s.setInst no x).coefSwap = s.coefSwap := rfl
@[simp] theorem State.setInst_coefLate (no : Nat) (x : Option SInst) : (s.setInst no x).coefLate = s.coefLate := rfl
@[simp] theorem State.setInst_fab (no : Nat) (x : Option SInst) : (s.setInst no x).fab = s.fab := rfl
@[simp] theorem State.setInst_llx (no : Nat) (x : Option SInst) : (s.setInst no x).llx = s.llx := rfl
@[simp] theorem State.setInst_rlf (no : Nat) (x : Option SInst) : (s.setInst no x).rlf = s.rlf := rfl
@[simp] theorem State.setInst_pwr (no : Nat) (x : Option SInst) : (s.setInst no x).pwr = s.pwr := rfl
@[simp] theorem State.setInst_rst (no : Nat) (x : Option SInst) : (s.setInst no x).rst = s.rst := rfl
@[simp] theorem State.setInst_dbg (no : Nat) (x : Option SInst) : (s.setInst no x).dbg = s.dbg := rfl
@[simp] theorem State.setInst_pins (no : Nat) (x : Option SInst) : (s.setInst no x).pins = s.pins := rfl
@[simp] theorem State.setInst_freeCtr (no : Nat) (x : Option SInst) : (s.setInst no x).freeCtr = s.freeCtr := rfl

/-! ### setPass -/

@[simp] theorem State.setPass_pending (no : Nat) (x : Option Pass) : (s.setPass no x).pending = s.pending := rfl
@[simp] theorem State.setPass_variant (no : Nat) (x : Option Pass) : (s.setPass no x).variant = s.variant := rfl
@[simp] theorem State.setPass_regs (no : Nat) (x : Option Pass) : (s.setPass no x).regs = s.regs := rfl
@[simp] theorem State.setPass_shadow (no : Nat) (x : Option Pass) : (s.setPass no x).shadow = s.shadow := rfl
@[simp] theorem State.setPass_time (no : Nat) (x : Option Pass) : (s.setPass no x).time = s.time := rfl
@[simp] theorem State.setPass_ctxs (no : Nat) (x : Option Pass) : (s.setPass no x).ctxs = s.ctxs := rfl
@[simp] theorem State.setPass_token (no : Nat) (x : Option Pass) : (s.setPass no x).token = s.token := rfl
@[simp] theorem State.setPass_stations (no : Nat) (x : Option Pass) : (s.setPass no x).stations = s.stations := rfl
@[simp] theorem State.setPass_insts (no : Nat) (x : Option Pass) : (s.setPass no x).insts = s.insts := rfl
@[simp] theorem State.setPass_dispNo (no : Nat) (x : Option Pass) : (s.setPass no x).dispNo = s.dispNo := rfl
@[simp] theorem State.setPass_accs (no : Nat) (x : Option Pass) : (s.setPass no x).accs = s.accs := rfl
@[simp] theorem State.setPass_handles (no : Nat) (x : Option Pass) : (s.setPass no x).handles = s.handles := rfl
@[simp] theorem State.setPass_purgeQ (no : Nat) (x : Option Pass) : (s.setPass no x).purgeQ = s.purgeQ := rfl
@[simp] theorem State.setPass_mem (no : Nat) (x : Option Pass) : (s.setPass no x).mem = s.mem := rfl
@[simp] theorem State.setPass_memErr (no : Nat) (x : Option Pass) : (s.setPass no x).memErr = s.memErr := rfl
@[simp] theorem State.setPass_bunk (no : Nat) (x : Option Pass) : (s.setPass no x).bunk = s.bunk := rfl
@[simp] theorem State.setPass_bunkErr (no : Nat) (x : Option Pass) : (s.setPass no x).bunkErr = s.bunkErr := rfl
@[simp] theorem State.setPass_side (no : Nat) (x : Option Pass) : (s.setPass no x).side = s.side := rfl
@[simp] theorem State.setPass_sideErr (no : Nat) (x : Option Pass) : (s.setPass no x).sideErr = s.sideErr := rfl
@[simp] theorem State.setPass_hubs (no : Nat) (x : Option Pass) : (s.setPass no x).hubs = s.hubs := rfl
@[simp] theorem State.setPass_queues (no : Nat) (x : Option Pass) : (s.setPass no x).queues = s.queues := rfl
@[simp] theorem State.setPass_hbmPurge (no : Nat) (x : Option Pass) : (s.setPass no x).hbmPurge = s.hbmPurge := rfl
@[simp] theorem State.setPass_stores (no : Nat) (x : Option Pass) : (s.setPass no x).stores = s.stores := rfl
@[simp] theorem State.setPass_samplers (no : Nat) (x : Option Pass) : (s.setPass no x).samplers = s.samplers := rfl
@[simp] theorem State.setPass_mill0 (no : Nat) (x : Option Pass) : (s.setPass no x).mill0 = s.mill0 := rfl
@[simp] theorem State.setPass_mill1 (no : Nat) (x : Option Pass) : (s.setPass no x).mill1 = s.mill1 := rfl
@[simp] theorem State.setPass_vus (no : Nat) (x : Option Pass) : (s.setPass no x).vus = s.vus := rfl
@[simp] theorem State.setPass_vuFrozen (no : Nat) (x : Option Pass) : (s.setPass no x).vuFrozen = s.vuFrozen := rfl
@[simp] theorem State.setPass_coef (no : Nat) (x : Option Pass) : (s.setPass no x).coef = s.coef := rfl
@[simp] theorem State.setPass_coefSel (no : Nat) (x : Option Pass) : (s.setPass no x).coefSel = s.coefSel := rfl
@[simp] theorem State.setPass_coefSwap (no : Nat) (x : Option Pass) : (s.setPass no x).coefSwap = s.coefSwap := rfl
@[simp] theorem State.setPass_coefLate (no : Nat) (x : Option Pass) : (s.setPass no x).coefLate = s.coefLate := rfl
@[simp] theorem State.setPass_fab (no : Nat) (x : Option Pass) : (s.setPass no x).fab = s.fab := rfl
@[simp] theorem State.setPass_llx (no : Nat) (x : Option Pass) : (s.setPass no x).llx = s.llx := rfl
@[simp] theorem State.setPass_rlf (no : Nat) (x : Option Pass) : (s.setPass no x).rlf = s.rlf := rfl
@[simp] theorem State.setPass_pwr (no : Nat) (x : Option Pass) : (s.setPass no x).pwr = s.pwr := rfl
@[simp] theorem State.setPass_rst (no : Nat) (x : Option Pass) : (s.setPass no x).rst = s.rst := rfl
@[simp] theorem State.setPass_dbg (no : Nat) (x : Option Pass) : (s.setPass no x).dbg = s.dbg := rfl
@[simp] theorem State.setPass_pins (no : Nat) (x : Option Pass) : (s.setPass no x).pins = s.pins := rfl
@[simp] theorem State.setPass_freeCtr (no : Nat) (x : Option Pass) : (s.setPass no x).freeCtr = s.freeCtr := rfl

/-! ### setHub -/

@[simp] theorem State.setHub_pending (h : HubId) (x : Hub) : (s.setHub h x).pending = s.pending := rfl
@[simp] theorem State.setHub_variant (h : HubId) (x : Hub) : (s.setHub h x).variant = s.variant := rfl
@[simp] theorem State.setHub_regs (h : HubId) (x : Hub) : (s.setHub h x).regs = s.regs := rfl
@[simp] theorem State.setHub_shadow (h : HubId) (x : Hub) : (s.setHub h x).shadow = s.shadow := rfl
@[simp] theorem State.setHub_time (h : HubId) (x : Hub) : (s.setHub h x).time = s.time := rfl
@[simp] theorem State.setHub_ctxs (h : HubId) (x : Hub) : (s.setHub h x).ctxs = s.ctxs := rfl
@[simp] theorem State.setHub_token (h : HubId) (x : Hub) : (s.setHub h x).token = s.token := rfl
@[simp] theorem State.setHub_stations (h : HubId) (x : Hub) : (s.setHub h x).stations = s.stations := rfl
@[simp] theorem State.setHub_insts (h : HubId) (x : Hub) : (s.setHub h x).insts = s.insts := rfl
@[simp] theorem State.setHub_passes (h : HubId) (x : Hub) : (s.setHub h x).passes = s.passes := rfl
@[simp] theorem State.setHub_dispNo (h : HubId) (x : Hub) : (s.setHub h x).dispNo = s.dispNo := rfl
@[simp] theorem State.setHub_accs (h : HubId) (x : Hub) : (s.setHub h x).accs = s.accs := rfl
@[simp] theorem State.setHub_handles (h : HubId) (x : Hub) : (s.setHub h x).handles = s.handles := rfl
@[simp] theorem State.setHub_purgeQ (h : HubId) (x : Hub) : (s.setHub h x).purgeQ = s.purgeQ := rfl
@[simp] theorem State.setHub_mem (h : HubId) (x : Hub) : (s.setHub h x).mem = s.mem := rfl
@[simp] theorem State.setHub_memErr (h : HubId) (x : Hub) : (s.setHub h x).memErr = s.memErr := rfl
@[simp] theorem State.setHub_bunk (h : HubId) (x : Hub) : (s.setHub h x).bunk = s.bunk := rfl
@[simp] theorem State.setHub_bunkErr (h : HubId) (x : Hub) : (s.setHub h x).bunkErr = s.bunkErr := rfl
@[simp] theorem State.setHub_side (h : HubId) (x : Hub) : (s.setHub h x).side = s.side := rfl
@[simp] theorem State.setHub_sideErr (h : HubId) (x : Hub) : (s.setHub h x).sideErr = s.sideErr := rfl
@[simp] theorem State.setHub_queues (h : HubId) (x : Hub) : (s.setHub h x).queues = s.queues := rfl
@[simp] theorem State.setHub_hbmPurge (h : HubId) (x : Hub) : (s.setHub h x).hbmPurge = s.hbmPurge := rfl
@[simp] theorem State.setHub_stores (h : HubId) (x : Hub) : (s.setHub h x).stores = s.stores := rfl
@[simp] theorem State.setHub_samplers (h : HubId) (x : Hub) : (s.setHub h x).samplers = s.samplers := rfl
@[simp] theorem State.setHub_mill0 (h : HubId) (x : Hub) : (s.setHub h x).mill0 = s.mill0 := rfl
@[simp] theorem State.setHub_mill1 (h : HubId) (x : Hub) : (s.setHub h x).mill1 = s.mill1 := rfl
@[simp] theorem State.setHub_vus (h : HubId) (x : Hub) : (s.setHub h x).vus = s.vus := rfl
@[simp] theorem State.setHub_vuFrozen (h : HubId) (x : Hub) : (s.setHub h x).vuFrozen = s.vuFrozen := rfl
@[simp] theorem State.setHub_coef (h : HubId) (x : Hub) : (s.setHub h x).coef = s.coef := rfl
@[simp] theorem State.setHub_coefSel (h : HubId) (x : Hub) : (s.setHub h x).coefSel = s.coefSel := rfl
@[simp] theorem State.setHub_coefSwap (h : HubId) (x : Hub) : (s.setHub h x).coefSwap = s.coefSwap := rfl
@[simp] theorem State.setHub_coefLate (h : HubId) (x : Hub) : (s.setHub h x).coefLate = s.coefLate := rfl
@[simp] theorem State.setHub_fab (h : HubId) (x : Hub) : (s.setHub h x).fab = s.fab := rfl
@[simp] theorem State.setHub_llx (h : HubId) (x : Hub) : (s.setHub h x).llx = s.llx := rfl
@[simp] theorem State.setHub_rlf (h : HubId) (x : Hub) : (s.setHub h x).rlf = s.rlf := rfl
@[simp] theorem State.setHub_pwr (h : HubId) (x : Hub) : (s.setHub h x).pwr = s.pwr := rfl
@[simp] theorem State.setHub_rst (h : HubId) (x : Hub) : (s.setHub h x).rst = s.rst := rfl
@[simp] theorem State.setHub_dbg (h : HubId) (x : Hub) : (s.setHub h x).dbg = s.dbg := rfl
@[simp] theorem State.setHub_pins (h : HubId) (x : Hub) : (s.setHub h x).pins = s.pins := rfl
@[simp] theorem State.setHub_freeCtr (h : HubId) (x : Hub) : (s.setHub h x).freeCtr = s.freeCtr := rfl

/-! ### setQue -/

@[simp] theorem State.setQue_pending (h : HubId) (q : QueueId) (x : Queue) : (s.setQue h q x).pending = s.pending := rfl
@[simp] theorem State.setQue_variant (h : HubId) (q : QueueId) (x : Queue) : (s.setQue h q x).variant = s.variant := rfl
@[simp] theorem State.setQue_regs (h : HubId) (q : QueueId) (x : Queue) : (s.setQue h q x).regs = s.regs := rfl
@[simp] theorem State.setQue_shadow (h : HubId) (q : QueueId) (x : Queue) : (s.setQue h q x).shadow = s.shadow := rfl
@[simp] theorem State.setQue_time (h : HubId) (q : QueueId) (x : Queue) : (s.setQue h q x).time = s.time := rfl
@[simp] theorem State.setQue_ctxs (h : HubId) (q : QueueId) (x : Queue) : (s.setQue h q x).ctxs = s.ctxs := rfl
@[simp] theorem State.setQue_token (h : HubId) (q : QueueId) (x : Queue) : (s.setQue h q x).token = s.token := rfl
@[simp] theorem State.setQue_stations (h : HubId) (q : QueueId) (x : Queue) : (s.setQue h q x).stations = s.stations := rfl
@[simp] theorem State.setQue_insts (h : HubId) (q : QueueId) (x : Queue) : (s.setQue h q x).insts = s.insts := rfl
@[simp] theorem State.setQue_passes (h : HubId) (q : QueueId) (x : Queue) : (s.setQue h q x).passes = s.passes := rfl
@[simp] theorem State.setQue_dispNo (h : HubId) (q : QueueId) (x : Queue) : (s.setQue h q x).dispNo = s.dispNo := rfl
@[simp] theorem State.setQue_accs (h : HubId) (q : QueueId) (x : Queue) : (s.setQue h q x).accs = s.accs := rfl
@[simp] theorem State.setQue_handles (h : HubId) (q : QueueId) (x : Queue) : (s.setQue h q x).handles = s.handles := rfl
@[simp] theorem State.setQue_purgeQ (h : HubId) (q : QueueId) (x : Queue) : (s.setQue h q x).purgeQ = s.purgeQ := rfl
@[simp] theorem State.setQue_mem (h : HubId) (q : QueueId) (x : Queue) : (s.setQue h q x).mem = s.mem := rfl
@[simp] theorem State.setQue_memErr (h : HubId) (q : QueueId) (x : Queue) : (s.setQue h q x).memErr = s.memErr := rfl
@[simp] theorem State.setQue_bunk (h : HubId) (q : QueueId) (x : Queue) : (s.setQue h q x).bunk = s.bunk := rfl
@[simp] theorem State.setQue_bunkErr (h : HubId) (q : QueueId) (x : Queue) : (s.setQue h q x).bunkErr = s.bunkErr := rfl
@[simp] theorem State.setQue_side (h : HubId) (q : QueueId) (x : Queue) : (s.setQue h q x).side = s.side := rfl
@[simp] theorem State.setQue_sideErr (h : HubId) (q : QueueId) (x : Queue) : (s.setQue h q x).sideErr = s.sideErr := rfl
@[simp] theorem State.setQue_hubs (h : HubId) (q : QueueId) (x : Queue) : (s.setQue h q x).hubs = s.hubs := rfl
@[simp] theorem State.setQue_hbmPurge (h : HubId) (q : QueueId) (x : Queue) : (s.setQue h q x).hbmPurge = s.hbmPurge := rfl
@[simp] theorem State.setQue_stores (h : HubId) (q : QueueId) (x : Queue) : (s.setQue h q x).stores = s.stores := rfl
@[simp] theorem State.setQue_samplers (h : HubId) (q : QueueId) (x : Queue) : (s.setQue h q x).samplers = s.samplers := rfl
@[simp] theorem State.setQue_mill0 (h : HubId) (q : QueueId) (x : Queue) : (s.setQue h q x).mill0 = s.mill0 := rfl
@[simp] theorem State.setQue_mill1 (h : HubId) (q : QueueId) (x : Queue) : (s.setQue h q x).mill1 = s.mill1 := rfl
@[simp] theorem State.setQue_vus (h : HubId) (q : QueueId) (x : Queue) : (s.setQue h q x).vus = s.vus := rfl
@[simp] theorem State.setQue_vuFrozen (h : HubId) (q : QueueId) (x : Queue) : (s.setQue h q x).vuFrozen = s.vuFrozen := rfl
@[simp] theorem State.setQue_coef (h : HubId) (q : QueueId) (x : Queue) : (s.setQue h q x).coef = s.coef := rfl
@[simp] theorem State.setQue_coefSel (h : HubId) (q : QueueId) (x : Queue) : (s.setQue h q x).coefSel = s.coefSel := rfl
@[simp] theorem State.setQue_coefSwap (h : HubId) (q : QueueId) (x : Queue) : (s.setQue h q x).coefSwap = s.coefSwap := rfl
@[simp] theorem State.setQue_coefLate (h : HubId) (q : QueueId) (x : Queue) : (s.setQue h q x).coefLate = s.coefLate := rfl
@[simp] theorem State.setQue_fab (h : HubId) (q : QueueId) (x : Queue) : (s.setQue h q x).fab = s.fab := rfl
@[simp] theorem State.setQue_llx (h : HubId) (q : QueueId) (x : Queue) : (s.setQue h q x).llx = s.llx := rfl
@[simp] theorem State.setQue_rlf (h : HubId) (q : QueueId) (x : Queue) : (s.setQue h q x).rlf = s.rlf := rfl
@[simp] theorem State.setQue_pwr (h : HubId) (q : QueueId) (x : Queue) : (s.setQue h q x).pwr = s.pwr := rfl
@[simp] theorem State.setQue_rst (h : HubId) (q : QueueId) (x : Queue) : (s.setQue h q x).rst = s.rst := rfl
@[simp] theorem State.setQue_dbg (h : HubId) (q : QueueId) (x : Queue) : (s.setQue h q x).dbg = s.dbg := rfl
@[simp] theorem State.setQue_pins (h : HubId) (q : QueueId) (x : Queue) : (s.setQue h q x).pins = s.pins := rfl
@[simp] theorem State.setQue_freeCtr (h : HubId) (q : QueueId) (x : Queue) : (s.setQue h q x).freeCtr = s.freeCtr := rfl

/-! ### setStore -/

@[simp] theorem State.setStore_pending (i : Nat) (x : Store) : (s.setStore i x).pending = s.pending := rfl
@[simp] theorem State.setStore_variant (i : Nat) (x : Store) : (s.setStore i x).variant = s.variant := rfl
@[simp] theorem State.setStore_regs (i : Nat) (x : Store) : (s.setStore i x).regs = s.regs := rfl
@[simp] theorem State.setStore_shadow (i : Nat) (x : Store) : (s.setStore i x).shadow = s.shadow := rfl
@[simp] theorem State.setStore_time (i : Nat) (x : Store) : (s.setStore i x).time = s.time := rfl
@[simp] theorem State.setStore_ctxs (i : Nat) (x : Store) : (s.setStore i x).ctxs = s.ctxs := rfl
@[simp] theorem State.setStore_token (i : Nat) (x : Store) : (s.setStore i x).token = s.token := rfl
@[simp] theorem State.setStore_stations (i : Nat) (x : Store) : (s.setStore i x).stations = s.stations := rfl
@[simp] theorem State.setStore_insts (i : Nat) (x : Store) : (s.setStore i x).insts = s.insts := rfl
@[simp] theorem State.setStore_passes (i : Nat) (x : Store) : (s.setStore i x).passes = s.passes := rfl
@[simp] theorem State.setStore_dispNo (i : Nat) (x : Store) : (s.setStore i x).dispNo = s.dispNo := rfl
@[simp] theorem State.setStore_accs (i : Nat) (x : Store) : (s.setStore i x).accs = s.accs := rfl
@[simp] theorem State.setStore_handles (i : Nat) (x : Store) : (s.setStore i x).handles = s.handles := rfl
@[simp] theorem State.setStore_purgeQ (i : Nat) (x : Store) : (s.setStore i x).purgeQ = s.purgeQ := rfl
@[simp] theorem State.setStore_mem (i : Nat) (x : Store) : (s.setStore i x).mem = s.mem := rfl
@[simp] theorem State.setStore_memErr (i : Nat) (x : Store) : (s.setStore i x).memErr = s.memErr := rfl
@[simp] theorem State.setStore_bunk (i : Nat) (x : Store) : (s.setStore i x).bunk = s.bunk := rfl
@[simp] theorem State.setStore_bunkErr (i : Nat) (x : Store) : (s.setStore i x).bunkErr = s.bunkErr := rfl
@[simp] theorem State.setStore_side (i : Nat) (x : Store) : (s.setStore i x).side = s.side := rfl
@[simp] theorem State.setStore_sideErr (i : Nat) (x : Store) : (s.setStore i x).sideErr = s.sideErr := rfl
@[simp] theorem State.setStore_hubs (i : Nat) (x : Store) : (s.setStore i x).hubs = s.hubs := rfl
@[simp] theorem State.setStore_queues (i : Nat) (x : Store) : (s.setStore i x).queues = s.queues := rfl
@[simp] theorem State.setStore_hbmPurge (i : Nat) (x : Store) : (s.setStore i x).hbmPurge = s.hbmPurge := rfl
@[simp] theorem State.setStore_samplers (i : Nat) (x : Store) : (s.setStore i x).samplers = s.samplers := rfl
@[simp] theorem State.setStore_mill0 (i : Nat) (x : Store) : (s.setStore i x).mill0 = s.mill0 := rfl
@[simp] theorem State.setStore_mill1 (i : Nat) (x : Store) : (s.setStore i x).mill1 = s.mill1 := rfl
@[simp] theorem State.setStore_vus (i : Nat) (x : Store) : (s.setStore i x).vus = s.vus := rfl
@[simp] theorem State.setStore_vuFrozen (i : Nat) (x : Store) : (s.setStore i x).vuFrozen = s.vuFrozen := rfl
@[simp] theorem State.setStore_coef (i : Nat) (x : Store) : (s.setStore i x).coef = s.coef := rfl
@[simp] theorem State.setStore_coefSel (i : Nat) (x : Store) : (s.setStore i x).coefSel = s.coefSel := rfl
@[simp] theorem State.setStore_coefSwap (i : Nat) (x : Store) : (s.setStore i x).coefSwap = s.coefSwap := rfl
@[simp] theorem State.setStore_coefLate (i : Nat) (x : Store) : (s.setStore i x).coefLate = s.coefLate := rfl
@[simp] theorem State.setStore_fab (i : Nat) (x : Store) : (s.setStore i x).fab = s.fab := rfl
@[simp] theorem State.setStore_llx (i : Nat) (x : Store) : (s.setStore i x).llx = s.llx := rfl
@[simp] theorem State.setStore_rlf (i : Nat) (x : Store) : (s.setStore i x).rlf = s.rlf := rfl
@[simp] theorem State.setStore_pwr (i : Nat) (x : Store) : (s.setStore i x).pwr = s.pwr := rfl
@[simp] theorem State.setStore_rst (i : Nat) (x : Store) : (s.setStore i x).rst = s.rst := rfl
@[simp] theorem State.setStore_dbg (i : Nat) (x : Store) : (s.setStore i x).dbg = s.dbg := rfl
@[simp] theorem State.setStore_pins (i : Nat) (x : Store) : (s.setStore i x).pins = s.pins := rfl
@[simp] theorem State.setStore_freeCtr (i : Nat) (x : Store) : (s.setStore i x).freeCtr = s.freeCtr := rfl

/-! ### setSmp -/

@[simp] theorem State.setSmp_pending (c : Cid) (x : Sampler) : (s.setSmp c x).pending = s.pending := rfl
@[simp] theorem State.setSmp_variant (c : Cid) (x : Sampler) : (s.setSmp c x).variant = s.variant := rfl
@[simp] theorem State.setSmp_regs (c : Cid) (x : Sampler) : (s.setSmp c x).regs = s.regs := rfl
@[simp] theorem State.setSmp_shadow (c : Cid) (x : Sampler) : (s.setSmp c x).shadow = s.shadow := rfl
@[simp] theorem State.setSmp_time (c : Cid) (x : Sampler) : (s.setSmp c x).time = s.time := rfl
@[simp] theorem State.setSmp_ctxs (c : Cid) (x : Sampler) : (s.setSmp c x).ctxs = s.ctxs := rfl
@[simp] theorem State.setSmp_token (c : Cid) (x : Sampler) : (s.setSmp c x).token = s.token := rfl
@[simp] theorem State.setSmp_stations (c : Cid) (x : Sampler) : (s.setSmp c x).stations = s.stations := rfl
@[simp] theorem State.setSmp_insts (c : Cid) (x : Sampler) : (s.setSmp c x).insts = s.insts := rfl
@[simp] theorem State.setSmp_passes (c : Cid) (x : Sampler) : (s.setSmp c x).passes = s.passes := rfl
@[simp] theorem State.setSmp_dispNo (c : Cid) (x : Sampler) : (s.setSmp c x).dispNo = s.dispNo := rfl
@[simp] theorem State.setSmp_accs (c : Cid) (x : Sampler) : (s.setSmp c x).accs = s.accs := rfl
@[simp] theorem State.setSmp_handles (c : Cid) (x : Sampler) : (s.setSmp c x).handles = s.handles := rfl
@[simp] theorem State.setSmp_purgeQ (c : Cid) (x : Sampler) : (s.setSmp c x).purgeQ = s.purgeQ := rfl
@[simp] theorem State.setSmp_mem (c : Cid) (x : Sampler) : (s.setSmp c x).mem = s.mem := rfl
@[simp] theorem State.setSmp_memErr (c : Cid) (x : Sampler) : (s.setSmp c x).memErr = s.memErr := rfl
@[simp] theorem State.setSmp_bunk (c : Cid) (x : Sampler) : (s.setSmp c x).bunk = s.bunk := rfl
@[simp] theorem State.setSmp_bunkErr (c : Cid) (x : Sampler) : (s.setSmp c x).bunkErr = s.bunkErr := rfl
@[simp] theorem State.setSmp_side (c : Cid) (x : Sampler) : (s.setSmp c x).side = s.side := rfl
@[simp] theorem State.setSmp_sideErr (c : Cid) (x : Sampler) : (s.setSmp c x).sideErr = s.sideErr := rfl
@[simp] theorem State.setSmp_hubs (c : Cid) (x : Sampler) : (s.setSmp c x).hubs = s.hubs := rfl
@[simp] theorem State.setSmp_queues (c : Cid) (x : Sampler) : (s.setSmp c x).queues = s.queues := rfl
@[simp] theorem State.setSmp_hbmPurge (c : Cid) (x : Sampler) : (s.setSmp c x).hbmPurge = s.hbmPurge := rfl
@[simp] theorem State.setSmp_stores (c : Cid) (x : Sampler) : (s.setSmp c x).stores = s.stores := rfl
@[simp] theorem State.setSmp_mill0 (c : Cid) (x : Sampler) : (s.setSmp c x).mill0 = s.mill0 := rfl
@[simp] theorem State.setSmp_mill1 (c : Cid) (x : Sampler) : (s.setSmp c x).mill1 = s.mill1 := rfl
@[simp] theorem State.setSmp_vus (c : Cid) (x : Sampler) : (s.setSmp c x).vus = s.vus := rfl
@[simp] theorem State.setSmp_vuFrozen (c : Cid) (x : Sampler) : (s.setSmp c x).vuFrozen = s.vuFrozen := rfl
@[simp] theorem State.setSmp_coef (c : Cid) (x : Sampler) : (s.setSmp c x).coef = s.coef := rfl
@[simp] theorem State.setSmp_coefSel (c : Cid) (x : Sampler) : (s.setSmp c x).coefSel = s.coefSel := rfl
@[simp] theorem State.setSmp_coefSwap (c : Cid) (x : Sampler) : (s.setSmp c x).coefSwap = s.coefSwap := rfl
@[simp] theorem State.setSmp_coefLate (c : Cid) (x : Sampler) : (s.setSmp c x).coefLate = s.coefLate := rfl
@[simp] theorem State.setSmp_fab (c : Cid) (x : Sampler) : (s.setSmp c x).fab = s.fab := rfl
@[simp] theorem State.setSmp_llx (c : Cid) (x : Sampler) : (s.setSmp c x).llx = s.llx := rfl
@[simp] theorem State.setSmp_rlf (c : Cid) (x : Sampler) : (s.setSmp c x).rlf = s.rlf := rfl
@[simp] theorem State.setSmp_pwr (c : Cid) (x : Sampler) : (s.setSmp c x).pwr = s.pwr := rfl
@[simp] theorem State.setSmp_rst (c : Cid) (x : Sampler) : (s.setSmp c x).rst = s.rst := rfl
@[simp] theorem State.setSmp_dbg (c : Cid) (x : Sampler) : (s.setSmp c x).dbg = s.dbg := rfl
@[simp] theorem State.setSmp_pins (c : Cid) (x : Sampler) : (s.setSmp c x).pins = s.pins := rfl
@[simp] theorem State.setSmp_freeCtr (c : Cid) (x : Sampler) : (s.setSmp c x).freeCtr = s.freeCtr := rfl

/-! ### setBport -/

@[simp] theorem State.setBport_pending (p : PortId) (x : Port) : (s.setBport p x).pending = s.pending := rfl
@[simp] theorem State.setBport_variant (p : PortId) (x : Port) : (s.setBport p x).variant = s.variant := rfl
@[simp] theorem State.setBport_regs (p : PortId) (x : Port) : (s.setBport p x).regs = s.regs := rfl
@[simp] theorem State.setBport_shadow (p : PortId) (x : Port) : (s.setBport p x).shadow = s.shadow := rfl
@[simp] theorem State.setBport_time (p : PortId) (x : Port) : (s.setBport p x).time = s.time := rfl
@[simp] theorem State.setBport_ctxs (p : PortId) (x : Port) : (s.setBport p x).ctxs = s.ctxs := rfl
@[simp] theorem State.setBport_token (p : PortId) (x : Port) : (s.setBport p x).token = s.token := rfl
@[simp] theorem State.setBport_stations (p : PortId) (x : Port) : (s.setBport p x).stations = s.stations := rfl
@[simp] theorem State.setBport_insts (p : PortId) (x : Port) : (s.setBport p x).insts = s.insts := rfl
@[simp] theorem State.setBport_passes (p : PortId) (x : Port) : (s.setBport p x).passes = s.passes := rfl
@[simp] theorem State.setBport_dispNo (p : PortId) (x : Port) : (s.setBport p x).dispNo = s.dispNo := rfl
@[simp] theorem State.setBport_accs (p : PortId) (x : Port) : (s.setBport p x).accs = s.accs := rfl
@[simp] theorem State.setBport_handles (p : PortId) (x : Port) : (s.setBport p x).handles = s.handles := rfl
@[simp] theorem State.setBport_purgeQ (p : PortId) (x : Port) : (s.setBport p x).purgeQ = s.purgeQ := rfl
@[simp] theorem State.setBport_mem (p : PortId) (x : Port) : (s.setBport p x).mem = s.mem := rfl
@[simp] theorem State.setBport_memErr (p : PortId) (x : Port) : (s.setBport p x).memErr = s.memErr := rfl
@[simp] theorem State.setBport_bunk (p : PortId) (x : Port) : (s.setBport p x).bunk = s.bunk := rfl
@[simp] theorem State.setBport_bunkErr (p : PortId) (x : Port) : (s.setBport p x).bunkErr = s.bunkErr := rfl
@[simp] theorem State.setBport_side (p : PortId) (x : Port) : (s.setBport p x).side = s.side := rfl
@[simp] theorem State.setBport_sideErr (p : PortId) (x : Port) : (s.setBport p x).sideErr = s.sideErr := rfl
@[simp] theorem State.setBport_hubs (p : PortId) (x : Port) : (s.setBport p x).hubs = s.hubs := rfl
@[simp] theorem State.setBport_queues (p : PortId) (x : Port) : (s.setBport p x).queues = s.queues := rfl
@[simp] theorem State.setBport_hbmPurge (p : PortId) (x : Port) : (s.setBport p x).hbmPurge = s.hbmPurge := rfl
@[simp] theorem State.setBport_stores (p : PortId) (x : Port) : (s.setBport p x).stores = s.stores := rfl
@[simp] theorem State.setBport_samplers (p : PortId) (x : Port) : (s.setBport p x).samplers = s.samplers := rfl
@[simp] theorem State.setBport_mill0 (p : PortId) (x : Port) : (s.setBport p x).mill0 = s.mill0 := rfl
@[simp] theorem State.setBport_mill1 (p : PortId) (x : Port) : (s.setBport p x).mill1 = s.mill1 := rfl
@[simp] theorem State.setBport_vus (p : PortId) (x : Port) : (s.setBport p x).vus = s.vus := rfl
@[simp] theorem State.setBport_vuFrozen (p : PortId) (x : Port) : (s.setBport p x).vuFrozen = s.vuFrozen := rfl
@[simp] theorem State.setBport_coef (p : PortId) (x : Port) : (s.setBport p x).coef = s.coef := rfl
@[simp] theorem State.setBport_coefSel (p : PortId) (x : Port) : (s.setBport p x).coefSel = s.coefSel := rfl
@[simp] theorem State.setBport_coefSwap (p : PortId) (x : Port) : (s.setBport p x).coefSwap = s.coefSwap := rfl
@[simp] theorem State.setBport_coefLate (p : PortId) (x : Port) : (s.setBport p x).coefLate = s.coefLate := rfl
@[simp] theorem State.setBport_llx (p : PortId) (x : Port) : (s.setBport p x).llx = s.llx := rfl
@[simp] theorem State.setBport_rlf (p : PortId) (x : Port) : (s.setBport p x).rlf = s.rlf := rfl
@[simp] theorem State.setBport_pwr (p : PortId) (x : Port) : (s.setBport p x).pwr = s.pwr := rfl
@[simp] theorem State.setBport_rst (p : PortId) (x : Port) : (s.setBport p x).rst = s.rst := rfl
@[simp] theorem State.setBport_dbg (p : PortId) (x : Port) : (s.setBport p x).dbg = s.dbg := rfl
@[simp] theorem State.setBport_pins (p : PortId) (x : Port) : (s.setBport p x).pins = s.pins := rfl
@[simp] theorem State.setBport_freeCtr (p : PortId) (x : Port) : (s.setBport p x).freeCtr = s.freeCtr := rfl

/-! ### setFld -/

@[simp] theorem State.setFld_pending (F : Fld) (v i j : Nat) : (s.setFld F v i j).pending = s.pending := rfl
@[simp] theorem State.setFld_variant (F : Fld) (v i j : Nat) : (s.setFld F v i j).variant = s.variant := rfl
@[simp] theorem State.setFld_shadow (F : Fld) (v i j : Nat) : (s.setFld F v i j).shadow = s.shadow := rfl
@[simp] theorem State.setFld_time (F : Fld) (v i j : Nat) : (s.setFld F v i j).time = s.time := rfl
@[simp] theorem State.setFld_ctxs (F : Fld) (v i j : Nat) : (s.setFld F v i j).ctxs = s.ctxs := rfl
@[simp] theorem State.setFld_token (F : Fld) (v i j : Nat) : (s.setFld F v i j).token = s.token := rfl
@[simp] theorem State.setFld_stations (F : Fld) (v i j : Nat) : (s.setFld F v i j).stations = s.stations := rfl
@[simp] theorem State.setFld_insts (F : Fld) (v i j : Nat) : (s.setFld F v i j).insts = s.insts := rfl
@[simp] theorem State.setFld_passes (F : Fld) (v i j : Nat) : (s.setFld F v i j).passes = s.passes := rfl
@[simp] theorem State.setFld_dispNo (F : Fld) (v i j : Nat) : (s.setFld F v i j).dispNo = s.dispNo := rfl
@[simp] theorem State.setFld_accs (F : Fld) (v i j : Nat) : (s.setFld F v i j).accs = s.accs := rfl
@[simp] theorem State.setFld_handles (F : Fld) (v i j : Nat) : (s.setFld F v i j).handles = s.handles := rfl
@[simp] theorem State.setFld_purgeQ (F : Fld) (v i j : Nat) : (s.setFld F v i j).purgeQ = s.purgeQ := rfl
@[simp] theorem State.setFld_mem (F : Fld) (v i j : Nat) : (s.setFld F v i j).mem = s.mem := rfl
@[simp] theorem State.setFld_memErr (F : Fld) (v i j : Nat) : (s.setFld F v i j).memErr = s.memErr := rfl
@[simp] theorem State.setFld_bunk (F : Fld) (v i j : Nat) : (s.setFld F v i j).bunk = s.bunk := rfl
@[simp] theorem State.setFld_bunkErr (F : Fld) (v i j : Nat) : (s.setFld F v i j).bunkErr = s.bunkErr := rfl
@[simp] theorem State.setFld_side (F : Fld) (v i j : Nat) : (s.setFld F v i j).side = s.side := rfl
@[simp] theorem State.setFld_sideErr (F : Fld) (v i j : Nat) : (s.setFld F v i j).sideErr = s.sideErr := rfl
@[simp] theorem State.setFld_hubs (F : Fld) (v i j : Nat) : (s.setFld F v i j).hubs = s.hubs := rfl
@[simp] theorem State.setFld_queues (F : Fld) (v i j : Nat) : (s.setFld F v i j).queues = s.queues := rfl
@[simp] theorem State.setFld_hbmPurge (F : Fld) (v i j : Nat) : (s.setFld F v i j).hbmPurge = s.hbmPurge := rfl
@[simp] theorem State.setFld_stores (F : Fld) (v i j : Nat) : (s.setFld F v i j).stores = s.stores := rfl
@[simp] theorem State.setFld_samplers (F : Fld) (v i j : Nat) : (s.setFld F v i j).samplers = s.samplers := rfl
@[simp] theorem State.setFld_mill0 (F : Fld) (v i j : Nat) : (s.setFld F v i j).mill0 = s.mill0 := rfl
@[simp] theorem State.setFld_mill1 (F : Fld) (v i j : Nat) : (s.setFld F v i j).mill1 = s.mill1 := rfl
@[simp] theorem State.setFld_vus (F : Fld) (v i j : Nat) : (s.setFld F v i j).vus = s.vus := rfl
@[simp] theorem State.setFld_vuFrozen (F : Fld) (v i j : Nat) : (s.setFld F v i j).vuFrozen = s.vuFrozen := rfl
@[simp] theorem State.setFld_coef (F : Fld) (v i j : Nat) : (s.setFld F v i j).coef = s.coef := rfl
@[simp] theorem State.setFld_coefSel (F : Fld) (v i j : Nat) : (s.setFld F v i j).coefSel = s.coefSel := rfl
@[simp] theorem State.setFld_coefSwap (F : Fld) (v i j : Nat) : (s.setFld F v i j).coefSwap = s.coefSwap := rfl
@[simp] theorem State.setFld_coefLate (F : Fld) (v i j : Nat) : (s.setFld F v i j).coefLate = s.coefLate := rfl
@[simp] theorem State.setFld_fab (F : Fld) (v i j : Nat) : (s.setFld F v i j).fab = s.fab := rfl
@[simp] theorem State.setFld_llx (F : Fld) (v i j : Nat) : (s.setFld F v i j).llx = s.llx := rfl
@[simp] theorem State.setFld_rlf (F : Fld) (v i j : Nat) : (s.setFld F v i j).rlf = s.rlf := rfl
@[simp] theorem State.setFld_pwr (F : Fld) (v i j : Nat) : (s.setFld F v i j).pwr = s.pwr := rfl
@[simp] theorem State.setFld_rst (F : Fld) (v i j : Nat) : (s.setFld F v i j).rst = s.rst := rfl
@[simp] theorem State.setFld_dbg (F : Fld) (v i j : Nat) : (s.setFld F v i j).dbg = s.dbg := rfl
@[simp] theorem State.setFld_pins (F : Fld) (v i j : Nat) : (s.setFld F v i j).pins = s.pins := rfl
@[simp] theorem State.setFld_freeCtr (F : Fld) (v i j : Nat) : (s.setFld F v i j).freeCtr = s.freeCtr := rfl

/-! ### setMill -/

@[simp] theorem State.setMill_pending (m : Fin 2) (x : Mill) : (s.setMill m x).pending = s.pending := by unfold State.setMill; split <;> rfl
@[simp] theorem State.setMill_variant (m : Fin 2) (x : Mill) : (s.setMill m x).variant = s.variant := by unfold State.setMill; split <;> rfl
@[simp] theorem State.setMill_regs (m : Fin 2) (x : Mill) : (s.setMill m x).regs = s.regs := by unfold State.setMill; split <;> rfl
@[simp] theorem State.setMill_shadow (m : Fin 2) (x : Mill) : (s.setMill m x).shadow = s.shadow := by unfold State.setMill; split <;> rfl
@[simp] theorem State.setMill_time (m : Fin 2) (x : Mill) : (s.setMill m x).time = s.time := by unfold State.setMill; split <;> rfl
@[simp] theorem State.setMill_ctxs (m : Fin 2) (x : Mill) : (s.setMill m x).ctxs = s.ctxs := by unfold State.setMill; split <;> rfl
@[simp] theorem State.setMill_token (m : Fin 2) (x : Mill) : (s.setMill m x).token = s.token := by unfold State.setMill; split <;> rfl
@[simp] theorem State.setMill_stations (m : Fin 2) (x : Mill) : (s.setMill m x).stations = s.stations := by unfold State.setMill; split <;> rfl
@[simp] theorem State.setMill_insts (m : Fin 2) (x : Mill) : (s.setMill m x).insts = s.insts := by unfold State.setMill; split <;> rfl
@[simp] theorem State.setMill_passes (m : Fin 2) (x : Mill) : (s.setMill m x).passes = s.passes := by unfold State.setMill; split <;> rfl
@[simp] theorem State.setMill_dispNo (m : Fin 2) (x : Mill) : (s.setMill m x).dispNo = s.dispNo := by unfold State.setMill; split <;> rfl
@[simp] theorem State.setMill_accs (m : Fin 2) (x : Mill) : (s.setMill m x).accs = s.accs := by unfold State.setMill; split <;> rfl
@[simp] theorem State.setMill_handles (m : Fin 2) (x : Mill) : (s.setMill m x).handles = s.handles := by unfold State.setMill; split <;> rfl
@[simp] theorem State.setMill_purgeQ (m : Fin 2) (x : Mill) : (s.setMill m x).purgeQ = s.purgeQ := by unfold State.setMill; split <;> rfl
@[simp] theorem State.setMill_mem (m : Fin 2) (x : Mill) : (s.setMill m x).mem = s.mem := by unfold State.setMill; split <;> rfl
@[simp] theorem State.setMill_memErr (m : Fin 2) (x : Mill) : (s.setMill m x).memErr = s.memErr := by unfold State.setMill; split <;> rfl
@[simp] theorem State.setMill_bunk (m : Fin 2) (x : Mill) : (s.setMill m x).bunk = s.bunk := by unfold State.setMill; split <;> rfl
@[simp] theorem State.setMill_bunkErr (m : Fin 2) (x : Mill) : (s.setMill m x).bunkErr = s.bunkErr := by unfold State.setMill; split <;> rfl
@[simp] theorem State.setMill_side (m : Fin 2) (x : Mill) : (s.setMill m x).side = s.side := by unfold State.setMill; split <;> rfl
@[simp] theorem State.setMill_sideErr (m : Fin 2) (x : Mill) : (s.setMill m x).sideErr = s.sideErr := by unfold State.setMill; split <;> rfl
@[simp] theorem State.setMill_hubs (m : Fin 2) (x : Mill) : (s.setMill m x).hubs = s.hubs := by unfold State.setMill; split <;> rfl
@[simp] theorem State.setMill_queues (m : Fin 2) (x : Mill) : (s.setMill m x).queues = s.queues := by unfold State.setMill; split <;> rfl
@[simp] theorem State.setMill_hbmPurge (m : Fin 2) (x : Mill) : (s.setMill m x).hbmPurge = s.hbmPurge := by unfold State.setMill; split <;> rfl
@[simp] theorem State.setMill_stores (m : Fin 2) (x : Mill) : (s.setMill m x).stores = s.stores := by unfold State.setMill; split <;> rfl
@[simp] theorem State.setMill_samplers (m : Fin 2) (x : Mill) : (s.setMill m x).samplers = s.samplers := by unfold State.setMill; split <;> rfl
@[simp] theorem State.setMill_vus (m : Fin 2) (x : Mill) : (s.setMill m x).vus = s.vus := by unfold State.setMill; split <;> rfl
@[simp] theorem State.setMill_vuFrozen (m : Fin 2) (x : Mill) : (s.setMill m x).vuFrozen = s.vuFrozen := by unfold State.setMill; split <;> rfl
@[simp] theorem State.setMill_coef (m : Fin 2) (x : Mill) : (s.setMill m x).coef = s.coef := by unfold State.setMill; split <;> rfl
@[simp] theorem State.setMill_coefSel (m : Fin 2) (x : Mill) : (s.setMill m x).coefSel = s.coefSel := by unfold State.setMill; split <;> rfl
@[simp] theorem State.setMill_coefSwap (m : Fin 2) (x : Mill) : (s.setMill m x).coefSwap = s.coefSwap := by unfold State.setMill; split <;> rfl
@[simp] theorem State.setMill_coefLate (m : Fin 2) (x : Mill) : (s.setMill m x).coefLate = s.coefLate := by unfold State.setMill; split <;> rfl
@[simp] theorem State.setMill_fab (m : Fin 2) (x : Mill) : (s.setMill m x).fab = s.fab := by unfold State.setMill; split <;> rfl
@[simp] theorem State.setMill_llx (m : Fin 2) (x : Mill) : (s.setMill m x).llx = s.llx := by unfold State.setMill; split <;> rfl
@[simp] theorem State.setMill_rlf (m : Fin 2) (x : Mill) : (s.setMill m x).rlf = s.rlf := by unfold State.setMill; split <;> rfl
@[simp] theorem State.setMill_pwr (m : Fin 2) (x : Mill) : (s.setMill m x).pwr = s.pwr := by unfold State.setMill; split <;> rfl
@[simp] theorem State.setMill_rst (m : Fin 2) (x : Mill) : (s.setMill m x).rst = s.rst := by unfold State.setMill; split <;> rfl
@[simp] theorem State.setMill_dbg (m : Fin 2) (x : Mill) : (s.setMill m x).dbg = s.dbg := by unfold State.setMill; split <;> rfl
@[simp] theorem State.setMill_pins (m : Fin 2) (x : Mill) : (s.setMill m x).pins = s.pins := by unfold State.setMill; split <;> rfl
@[simp] theorem State.setMill_freeCtr (m : Fin 2) (x : Mill) : (s.setMill m x).freeCtr = s.freeCtr := by unfold State.setMill; split <;> rfl

/-! ### A unit read after a unit is written -/

theorem State.ctx_setCtx (c d : Cid) (x : Ctx) : (s.setCtx c x).ctx d = if d = c then x else s.ctx d := by
  rw [State.ctx, State.setCtx]; simp only [SMap.val_put, Fin.val_inj]; rfl

@[simp] theorem State.ctx_setCtx_self (c : Cid) (x : Ctx) : (s.setCtx c x).ctx c = x := by simp [State.ctx_setCtx]
theorem State.ctx_setCtx_ne (c d : Cid) (x : Ctx) (h : d ≠ c) : (s.setCtx c x).ctx d = s.ctx d := by simp [State.ctx_setCtx, h]

theorem State.stn_setStn (c d : StationId) (x : Station) : (s.setStn c x).stn d = if d = c then x else s.stn d := by
  rw [State.stn, State.setStn]; simp only [SMap.val_put, Fin.val_inj]; rfl

@[simp] theorem State.stn_setStn_self (c : StationId) (x : Station) : (s.setStn c x).stn c = x := by simp [State.stn_setStn]
theorem State.stn_setStn_ne (c d : StationId) (x : Station) (h : d ≠ c) : (s.setStn c x).stn d = s.stn d := by simp [State.stn_setStn, h]

theorem State.hnd_setHnd (c d : HandleId) (x : Handle) : (s.setHnd c x).hnd d = if d = c then x else s.hnd d := by
  rw [State.hnd, State.setHnd]; simp only [SMap.val_put, BitVec.toNat_inj]; rfl

@[simp] theorem State.hnd_setHnd_self (c : HandleId) (x : Handle) : (s.setHnd c x).hnd c = x := by simp [State.hnd_setHnd]
theorem State.hnd_setHnd_ne (c d : HandleId) (x : Handle) (h : d ≠ c) : (s.setHnd c x).hnd d = s.hnd d := by simp [State.hnd_setHnd, h]

theorem State.inst_setInst (c d : Nat) (x : Option SInst) : (s.setInst c x).inst d = if d = c then x else s.inst d := by
  rw [State.inst, State.setInst]; simp only [SMap.val_put]; rfl

@[simp] theorem State.inst_setInst_self (c : Nat) (x : Option SInst) : (s.setInst c x).inst c = x := by simp [State.inst_setInst]
theorem State.inst_setInst_ne (c d : Nat) (x : Option SInst) (h : d ≠ c) : (s.setInst c x).inst d = s.inst d := by simp [State.inst_setInst, h]

theorem State.pass_setPass (c d : Nat) (x : Option Pass) : (s.setPass c x).pass d = if d = c then x else s.pass d := by
  rw [State.pass, State.setPass]; simp only [SMap.val_put]; rfl

@[simp] theorem State.pass_setPass_self (c : Nat) (x : Option Pass) : (s.setPass c x).pass c = x := by simp [State.pass_setPass]
theorem State.pass_setPass_ne (c d : Nat) (x : Option Pass) (h : d ≠ c) : (s.setPass c x).pass d = s.pass d := by simp [State.pass_setPass, h]

theorem State.hub_setHub (c d : HubId) (x : Hub) : (s.setHub c x).hub d = if d = c then x else s.hub d := by
  rw [State.hub, State.setHub]; simp only [SMap.val_put, Fin.val_inj]; rfl

@[simp] theorem State.hub_setHub_self (c : HubId) (x : Hub) : (s.setHub c x).hub c = x := by simp [State.hub_setHub]
theorem State.hub_setHub_ne (c d : HubId) (x : Hub) (h : d ≠ c) : (s.setHub c x).hub d = s.hub d := by simp [State.hub_setHub, h]

theorem State.store_setStore (c d : Nat) (x : Store) : (s.setStore c x).store d = if d = c then x else s.store d := by
  rw [State.store, State.setStore]; simp only [SMap.val_put]; rfl

@[simp] theorem State.store_setStore_self (c : Nat) (x : Store) : (s.setStore c x).store c = x := by simp [State.store_setStore]
theorem State.store_setStore_ne (c d : Nat) (x : Store) (h : d ≠ c) : (s.setStore c x).store d = s.store d := by simp [State.store_setStore, h]

theorem State.smp_setSmp (c d : Cid) (x : Sampler) : (s.setSmp c x).smp d = if d = c then x else s.smp d := by
  rw [State.smp, State.setSmp]; simp only [SMap.val_put, Fin.val_inj]; rfl

@[simp] theorem State.smp_setSmp_self (c : Cid) (x : Sampler) : (s.setSmp c x).smp c = x := by simp [State.smp_setSmp]
theorem State.smp_setSmp_ne (c d : Cid) (x : Sampler) (h : d ≠ c) : (s.setSmp c x).smp d = s.smp d := by simp [State.smp_setSmp, h]

theorem State.bport_setBport (c d : PortId) (x : Port) : (s.setBport c x).bport d = if d = c then x else s.bport d := by
  rw [State.bport, State.setBport]; simp only [SMap.val_put, Fin.val_inj]; rfl

@[simp] theorem State.bport_setBport_self (c : PortId) (x : Port) : (s.setBport c x).bport c = x := by simp [State.bport_setBport]
theorem State.bport_setBport_ne (c d : PortId) (x : Port) (h : d ≠ c) : (s.setBport c x).bport d = s.bport d := by simp [State.bport_setBport, h]

@[simp] theorem State.que_setQue_self (h : HubId) (q : QueueId) (x : Queue) : (s.setQue h q x).que h q = x := by
  rw [State.que, State.setQue]; simp

theorem State.que_setQue_ne (h k : HubId) (q p : QueueId) (x : Queue) (n : (k, p) ≠ (h, q)) : (s.setQue h q x).que k p = s.que k p := by
  rw [State.que, State.setQue]
  refine SMap.val_put_ne _ _ _ fun e => n ?_
  simp only [qKey] at e
  have := q.isLt
  have := p.isLt
  exact Prod.ext (Fin.ext (by simp only; omega)) (Fin.ext (by simp only; omega))

@[simp] theorem State.mill_setMill_self (m : Fin 2) (x : Mill) : (s.setMill m x).mill m = x := by
  unfold State.mill State.setMill; split <;> simp

theorem State.mill_setMill_ne (m n : Fin 2) (x : Mill) (h : n ≠ m) : (s.setMill m x).mill n = s.mill n := by
  unfold State.mill State.setMill
  rcases (by omega : m = 0 ∨ m = 1) with rfl | rfl <;> rcases (by omega : n = 0 ∨ n = 1) with rfl | rfl <;> simp_all

/-! ### A unit of another kind is written -/

@[simp] theorem State.stn_setCtx (c : Cid) (x : Ctx) (d : StationId) : (s.setCtx c x).stn d = s.stn d := rfl
@[simp] theorem State.hnd_setCtx (c : Cid) (x : Ctx) (d : HandleId) : (s.setCtx c x).hnd d = s.hnd d := rfl
@[simp] theorem State.inst_setCtx (c : Cid) (x : Ctx) (d : Nat) : (s.setCtx c x).inst d = s.inst d := rfl
@[simp] theorem State.pass_setCtx (c : Cid) (x : Ctx) (d : Nat) : (s.setCtx c x).pass d = s.pass d := rfl
@[simp] theorem State.hub_setCtx (c : Cid) (x : Ctx) (d : HubId) : (s.setCtx c x).hub d = s.hub d := rfl
@[simp] theorem State.store_setCtx (c : Cid) (x : Ctx) (d : Nat) : (s.setCtx c x).store d = s.store d := rfl
@[simp] theorem State.smp_setCtx (c : Cid) (x : Ctx) (d : Cid) : (s.setCtx c x).smp d = s.smp d := rfl
@[simp] theorem State.bport_setCtx (c : Cid) (x : Ctx) (d : PortId) : (s.setCtx c x).bport d = s.bport d := rfl
@[simp] theorem State.fld_setCtx (c : Cid) (x : Ctx) (F : Fld) (i j : Nat) : (s.setCtx c x).fld F i j = s.fld F i j := rfl
@[simp] theorem State.ctx_setStn (i : StationId) (x : Station) (d : Cid) : (s.setStn i x).ctx d = s.ctx d := rfl
@[simp] theorem State.hnd_setStn (i : StationId) (x : Station) (d : HandleId) : (s.setStn i x).hnd d = s.hnd d := rfl
@[simp] theorem State.inst_setStn (i : StationId) (x : Station) (d : Nat) : (s.setStn i x).inst d = s.inst d := rfl
@[simp] theorem State.pass_setStn (i : StationId) (x : Station) (d : Nat) : (s.setStn i x).pass d = s.pass d := rfl
@[simp] theorem State.hub_setStn (i : StationId) (x : Station) (d : HubId) : (s.setStn i x).hub d = s.hub d := rfl
@[simp] theorem State.store_setStn (i : StationId) (x : Station) (d : Nat) : (s.setStn i x).store d = s.store d := rfl
@[simp] theorem State.smp_setStn (i : StationId) (x : Station) (d : Cid) : (s.setStn i x).smp d = s.smp d := rfl
@[simp] theorem State.bport_setStn (i : StationId) (x : Station) (d : PortId) : (s.setStn i x).bport d = s.bport d := rfl
@[simp] theorem State.fld_setStn (k : StationId) (x : Station) (F : Fld) (i j : Nat) : (s.setStn k x).fld F i j = s.fld F i j := rfl
@[simp] theorem State.ctx_setHnd (h : HandleId) (x : Handle) (d : Cid) : (s.setHnd h x).ctx d = s.ctx d := rfl
@[simp] theorem State.stn_setHnd (h : HandleId) (x : Handle) (d : StationId) : (s.setHnd h x).stn d = s.stn d := rfl
@[simp] theorem State.inst_setHnd (h : HandleId) (x : Handle) (d : Nat) : (s.setHnd h x).inst d = s.inst d := rfl
@[simp] theorem State.pass_setHnd (h : HandleId) (x : Handle) (d : Nat) : (s.setHnd h x).pass d = s.pass d := rfl
@[simp] theorem State.hub_setHnd (h : HandleId) (x : Handle) (d : HubId) : (s.setHnd h x).hub d = s.hub d := rfl
@[simp] theorem State.store_setHnd (h : HandleId) (x : Handle) (d : Nat) : (s.setHnd h x).store d = s.store d := rfl
@[simp] theorem State.smp_setHnd (h : HandleId) (x : Handle) (d : Cid) : (s.setHnd h x).smp d = s.smp d := rfl
@[simp] theorem State.bport_setHnd (h : HandleId) (x : Handle) (d : PortId) : (s.setHnd h x).bport d = s.bport d := rfl
@[simp] theorem State.fld_setHnd (h : HandleId) (x : Handle) (F : Fld) (i j : Nat) : (s.setHnd h x).fld F i j = s.fld F i j := rfl
@[simp] theorem State.ctx_setInst (no : Nat) (x : Option SInst) (d : Cid) : (s.setInst no x).ctx d = s.ctx d := rfl
@[simp] theorem State.stn_setInst (no : Nat) (x : Option SInst) (d : StationId) : (s.setInst no x).stn d = s.stn d := rfl
@[simp] theorem State.hnd_setInst (no : Nat) (x : Option SInst) (d : HandleId) : (s.setInst no x).hnd d = s.hnd d := rfl
@[simp] theorem State.pass_setInst (no : Nat) (x : Option SInst) (d : Nat) : (s.setInst no x).pass d = s.pass d := rfl
@[simp] theorem State.hub_setInst (no : Nat) (x : Option SInst) (d : HubId) : (s.setInst no x).hub d = s.hub d := rfl
@[simp] theorem State.store_setInst (no : Nat) (x : Option SInst) (d : Nat) : (s.setInst no x).store d = s.store d := rfl
@[simp] theorem State.smp_setInst (no : Nat) (x : Option SInst) (d : Cid) : (s.setInst no x).smp d = s.smp d := rfl
@[simp] theorem State.bport_setInst (no : Nat) (x : Option SInst) (d : PortId) : (s.setInst no x).bport d = s.bport d := rfl
@[simp] theorem State.fld_setInst (no : Nat) (x : Option SInst) (F : Fld) (i j : Nat) : (s.setInst no x).fld F i j = s.fld F i j := rfl
@[simp] theorem State.ctx_setPass (no : Nat) (x : Option Pass) (d : Cid) : (s.setPass no x).ctx d = s.ctx d := rfl
@[simp] theorem State.stn_setPass (no : Nat) (x : Option Pass) (d : StationId) : (s.setPass no x).stn d = s.stn d := rfl
@[simp] theorem State.hnd_setPass (no : Nat) (x : Option Pass) (d : HandleId) : (s.setPass no x).hnd d = s.hnd d := rfl
@[simp] theorem State.inst_setPass (no : Nat) (x : Option Pass) (d : Nat) : (s.setPass no x).inst d = s.inst d := rfl
@[simp] theorem State.hub_setPass (no : Nat) (x : Option Pass) (d : HubId) : (s.setPass no x).hub d = s.hub d := rfl
@[simp] theorem State.store_setPass (no : Nat) (x : Option Pass) (d : Nat) : (s.setPass no x).store d = s.store d := rfl
@[simp] theorem State.smp_setPass (no : Nat) (x : Option Pass) (d : Cid) : (s.setPass no x).smp d = s.smp d := rfl
@[simp] theorem State.bport_setPass (no : Nat) (x : Option Pass) (d : PortId) : (s.setPass no x).bport d = s.bport d := rfl
@[simp] theorem State.fld_setPass (no : Nat) (x : Option Pass) (F : Fld) (i j : Nat) : (s.setPass no x).fld F i j = s.fld F i j := rfl
@[simp] theorem State.ctx_setHub (h : HubId) (x : Hub) (d : Cid) : (s.setHub h x).ctx d = s.ctx d := rfl
@[simp] theorem State.stn_setHub (h : HubId) (x : Hub) (d : StationId) : (s.setHub h x).stn d = s.stn d := rfl
@[simp] theorem State.hnd_setHub (h : HubId) (x : Hub) (d : HandleId) : (s.setHub h x).hnd d = s.hnd d := rfl
@[simp] theorem State.inst_setHub (h : HubId) (x : Hub) (d : Nat) : (s.setHub h x).inst d = s.inst d := rfl
@[simp] theorem State.pass_setHub (h : HubId) (x : Hub) (d : Nat) : (s.setHub h x).pass d = s.pass d := rfl
@[simp] theorem State.store_setHub (h : HubId) (x : Hub) (d : Nat) : (s.setHub h x).store d = s.store d := rfl
@[simp] theorem State.smp_setHub (h : HubId) (x : Hub) (d : Cid) : (s.setHub h x).smp d = s.smp d := rfl
@[simp] theorem State.bport_setHub (h : HubId) (x : Hub) (d : PortId) : (s.setHub h x).bport d = s.bport d := rfl
@[simp] theorem State.fld_setHub (h : HubId) (x : Hub) (F : Fld) (i j : Nat) : (s.setHub h x).fld F i j = s.fld F i j := rfl
@[simp] theorem State.ctx_setQue (h : HubId) (q : QueueId) (x : Queue) (d : Cid) : (s.setQue h q x).ctx d = s.ctx d := rfl
@[simp] theorem State.stn_setQue (h : HubId) (q : QueueId) (x : Queue) (d : StationId) : (s.setQue h q x).stn d = s.stn d := rfl
@[simp] theorem State.hnd_setQue (h : HubId) (q : QueueId) (x : Queue) (d : HandleId) : (s.setQue h q x).hnd d = s.hnd d := rfl
@[simp] theorem State.inst_setQue (h : HubId) (q : QueueId) (x : Queue) (d : Nat) : (s.setQue h q x).inst d = s.inst d := rfl
@[simp] theorem State.pass_setQue (h : HubId) (q : QueueId) (x : Queue) (d : Nat) : (s.setQue h q x).pass d = s.pass d := rfl
@[simp] theorem State.hub_setQue (h : HubId) (q : QueueId) (x : Queue) (d : HubId) : (s.setQue h q x).hub d = s.hub d := rfl
@[simp] theorem State.store_setQue (h : HubId) (q : QueueId) (x : Queue) (d : Nat) : (s.setQue h q x).store d = s.store d := rfl
@[simp] theorem State.smp_setQue (h : HubId) (q : QueueId) (x : Queue) (d : Cid) : (s.setQue h q x).smp d = s.smp d := rfl
@[simp] theorem State.bport_setQue (h : HubId) (q : QueueId) (x : Queue) (d : PortId) : (s.setQue h q x).bport d = s.bport d := rfl
@[simp] theorem State.fld_setQue (h : HubId) (q : QueueId) (x : Queue) (F : Fld) (i j : Nat) : (s.setQue h q x).fld F i j = s.fld F i j := rfl
@[simp] theorem State.ctx_setStore (i : Nat) (x : Store) (d : Cid) : (s.setStore i x).ctx d = s.ctx d := rfl
@[simp] theorem State.stn_setStore (i : Nat) (x : Store) (d : StationId) : (s.setStore i x).stn d = s.stn d := rfl
@[simp] theorem State.hnd_setStore (i : Nat) (x : Store) (d : HandleId) : (s.setStore i x).hnd d = s.hnd d := rfl
@[simp] theorem State.inst_setStore (i : Nat) (x : Store) (d : Nat) : (s.setStore i x).inst d = s.inst d := rfl
@[simp] theorem State.pass_setStore (i : Nat) (x : Store) (d : Nat) : (s.setStore i x).pass d = s.pass d := rfl
@[simp] theorem State.hub_setStore (i : Nat) (x : Store) (d : HubId) : (s.setStore i x).hub d = s.hub d := rfl
@[simp] theorem State.smp_setStore (i : Nat) (x : Store) (d : Cid) : (s.setStore i x).smp d = s.smp d := rfl
@[simp] theorem State.bport_setStore (i : Nat) (x : Store) (d : PortId) : (s.setStore i x).bport d = s.bport d := rfl
@[simp] theorem State.fld_setStore (k : Nat) (x : Store) (F : Fld) (i j : Nat) : (s.setStore k x).fld F i j = s.fld F i j := rfl
@[simp] theorem State.ctx_setSmp (c : Cid) (x : Sampler) (d : Cid) : (s.setSmp c x).ctx d = s.ctx d := rfl
@[simp] theorem State.stn_setSmp (c : Cid) (x : Sampler) (d : StationId) : (s.setSmp c x).stn d = s.stn d := rfl
@[simp] theorem State.hnd_setSmp (c : Cid) (x : Sampler) (d : HandleId) : (s.setSmp c x).hnd d = s.hnd d := rfl
@[simp] theorem State.inst_setSmp (c : Cid) (x : Sampler) (d : Nat) : (s.setSmp c x).inst d = s.inst d := rfl
@[simp] theorem State.pass_setSmp (c : Cid) (x : Sampler) (d : Nat) : (s.setSmp c x).pass d = s.pass d := rfl
@[simp] theorem State.hub_setSmp (c : Cid) (x : Sampler) (d : HubId) : (s.setSmp c x).hub d = s.hub d := rfl
@[simp] theorem State.store_setSmp (c : Cid) (x : Sampler) (d : Nat) : (s.setSmp c x).store d = s.store d := rfl
@[simp] theorem State.bport_setSmp (c : Cid) (x : Sampler) (d : PortId) : (s.setSmp c x).bport d = s.bport d := rfl
@[simp] theorem State.fld_setSmp (c : Cid) (x : Sampler) (F : Fld) (i j : Nat) : (s.setSmp c x).fld F i j = s.fld F i j := rfl
@[simp] theorem State.ctx_setBport (p : PortId) (x : Port) (d : Cid) : (s.setBport p x).ctx d = s.ctx d := rfl
@[simp] theorem State.stn_setBport (p : PortId) (x : Port) (d : StationId) : (s.setBport p x).stn d = s.stn d := rfl
@[simp] theorem State.hnd_setBport (p : PortId) (x : Port) (d : HandleId) : (s.setBport p x).hnd d = s.hnd d := rfl
@[simp] theorem State.inst_setBport (p : PortId) (x : Port) (d : Nat) : (s.setBport p x).inst d = s.inst d := rfl
@[simp] theorem State.pass_setBport (p : PortId) (x : Port) (d : Nat) : (s.setBport p x).pass d = s.pass d := rfl
@[simp] theorem State.hub_setBport (p : PortId) (x : Port) (d : HubId) : (s.setBport p x).hub d = s.hub d := rfl
@[simp] theorem State.store_setBport (p : PortId) (x : Port) (d : Nat) : (s.setBport p x).store d = s.store d := rfl
@[simp] theorem State.smp_setBport (p : PortId) (x : Port) (d : Cid) : (s.setBport p x).smp d = s.smp d := rfl
@[simp] theorem State.fld_setBport (p : PortId) (x : Port) (F : Fld) (i j : Nat) : (s.setBport p x).fld F i j = s.fld F i j := rfl
@[simp] theorem State.ctx_setFld (F : Fld) (v i j : Nat) (d : Cid) : (s.setFld F v i j).ctx d = s.ctx d := rfl
@[simp] theorem State.stn_setFld (F : Fld) (v i j : Nat) (d : StationId) : (s.setFld F v i j).stn d = s.stn d := rfl
@[simp] theorem State.hnd_setFld (F : Fld) (v i j : Nat) (d : HandleId) : (s.setFld F v i j).hnd d = s.hnd d := rfl
@[simp] theorem State.inst_setFld (F : Fld) (v i j : Nat) (d : Nat) : (s.setFld F v i j).inst d = s.inst d := rfl
@[simp] theorem State.pass_setFld (F : Fld) (v i j : Nat) (d : Nat) : (s.setFld F v i j).pass d = s.pass d := rfl
@[simp] theorem State.hub_setFld (F : Fld) (v i j : Nat) (d : HubId) : (s.setFld F v i j).hub d = s.hub d := rfl
@[simp] theorem State.store_setFld (F : Fld) (v i j : Nat) (d : Nat) : (s.setFld F v i j).store d = s.store d := rfl
@[simp] theorem State.smp_setFld (F : Fld) (v i j : Nat) (d : Cid) : (s.setFld F v i j).smp d = s.smp d := rfl
@[simp] theorem State.bport_setFld (F : Fld) (v i j : Nat) (d : PortId) : (s.setFld F v i j).bport d = s.bport d := rfl

/-! ### Register fields -/

/-- A field holds what is written, cut to its width. -/
theorem State.fld_setFld_self (F : Fld) (v i j : Nat) (w : F.width ≤ 64) : (s.setFld F v i j).fld F i j = v % 2 ^ F.width := by
  simp only [State.fld, State.setFld, SMap.val_put_self, BitVec.toNat_ofNat]
  exact Nat.mod_eq_of_lt (Nat.lt_of_lt_of_le (Nat.mod_lt _ (Nat.two_pow_pos _)) (Nat.pow_le_pow_right (by omega) w))

/-- A write of one cell leaves every other one. -/
theorem State.fld_setFld_ne (F G : Fld) (v i j k l : Nat) (h : G.key k l ≠ F.key i j) : (s.setFld F v i j).fld G k l = s.fld G k l := by
  simp only [State.fld, State.setFld]; rw [SMap.val_put_off _ _ _ _ h]

theorem State.flag_setFld_self (F : Fld) (v i j : Nat) (w : F.width ≤ 64) :
    (s.setFld F v i j).flag F i j = (v % 2 ^ F.width == 1) := by
  rw [State.flag, State.fld_setFld_self s F v i j w]

theorem State.flag_setFld_ne (F G : Fld) (v i j k l : Nat) (h : G.key k l ≠ F.key i j) : (s.setFld F v i j).flag G k l = s.flag G k l := by
  rw [State.flag, State.flag, State.fld_setFld_ne s F G v i j k l h]

/-- A counter field counts, and no other field changes. -/
theorem State.fld_bump_self (F : Fld) (n i j : Nat) (w : F.width ≤ 64) : (s.bump F n i j).fld F i j = (s.fld F i j + n) % 2 ^ F.width :=
  s.fld_setFld_self F _ i j w

theorem State.fld_bump_ne (F G : Fld) (n i j k l : Nat) (h : G.key k l ≠ F.key i j) : (s.bump F n i j).fld G k l = s.fld G k l :=
  s.fld_setFld_ne F G _ i j k l h

end Sys2Proof.Machine
end

