-- ==== Sys2Proof/Laws/Ops.lean ====
section
/-! SUPPORT. What the shared operations can do: for each the fields it may change, as an equation that leaves every other field as it
was; what a raise shows; when the sequencer's own steps run their effect. -/

namespace Sys2Proof.Machine

/-- What holds of every step of a fold holds of the fold. -/
theorem foldl_rel {α β : Type} (P : β → β → Prop) (hr : ∀ s, P s s) (ht : ∀ s t u, P s t → P t u → P s u) (f : β → α → β) (l : List α)
    (h : ∀ t a, P t (f t a)) (s : β) : P s (l.foldl f s) := by
  induction l generalizing s with
  | nil => exact hr s
  | cons a l ih => exact ht _ _ _ (h s a) (ih _)

variable (s : State)

/-! ### Registers and counters -/

theorem State.setFld_frame (F : Fld) (v i j : Nat) : ∃ r, s.setFld F v i j = { s with regs := r } := ⟨_, rfl⟩
theorem State.bump_frame (F : Fld) (n i j : Nat) : ∃ r, s.bump F n i j = { s with regs := r } := ⟨_, rfl⟩
/-- A bump of a counter counts (R15). -/
theorem State.bump_counted (F : Fld) (n i j : Nat) (w : F.width ≤ 64) : s.Counted (s.bump F n i j) F n i j := s.fld_bump_self F n i j w

theorem State.ao_frame (k n : Nat) : ∃ d, s.ao k n = { s with dbg := { s.dbg with ao := d } } := ⟨_, rfl⟩
theorem State.cnt_frame (c : Cid) (k n : Nat) : ∃ d, s.cnt c k n = { s with dbg := { s.dbg with cnt := d } } := ⟨_, rfl⟩
theorem State.canary_frame (i n : Nat) : s.canary i n = { s with rlf := { s.rlf with cur := s.rlf.cur.modify i (· + n) } } := rfl

theorem State.foldl_regs {α : Type} (f : State → α → State) (l : List α) (h : ∀ t a, ∃ r, f t a = { t with regs := r }) :
    ∃ r, l.foldl f s = { s with regs := r } :=
  foldl_rel (fun s t => ∃ r, t = { s with regs := r }) (fun s => ⟨s.regs, rfl⟩)
    (fun _ _ _ ⟨_, a⟩ ⟨y, b⟩ => ⟨y, by rw [b, a]⟩) f l h s

theorem State.pcEvent_frame (ev unit n : Nat) : ∃ r, s.pcEvent ev unit n = { s with regs := r } := by
  unfold State.pcEvent
  split
  · exact ⟨s.regs, rfl⟩
  · exact s.foldl_regs _ _ fun t a => by split <;> exact ⟨_, rfl⟩

/-! ### Events and trace (R477, R639, R644) -/

theorem State.enqueue_frame (code : BitVec 16) (src : Src) (c : Option Cid) (d n : Nat) :
    ∃ l r, s.enqueue code src c d n = { s with llx := l, regs := r } := by
  unfold State.enqueue
  dsimp only
  split
  · exact ⟨_, _, rfl⟩
  · split
    · exact ⟨_, s.regs, rfl⟩
    · split
      · exact ⟨_, _, rfl⟩
      · exact ⟨_, s.regs, rfl⟩

/-- A raise is shown first among the last raises, with its number. -/
theorem State.enqueue_recent (code : BitVec 16) (src : Src) (c : Option Cid) (d n : Nat) :
    ∃ f, (s.enqueue code src c d n).llx.recent = (f :: s.llx.recent).take 8 ∧ f.code = code ∧ f.number = s.llx.evNo ∧
      f.source = BitVec.ofNat 8 src.source ∧ f.unit = BitVec.ofNat 8 src.unit ∧ f.detail = BitVec.ofNat 64 d ∧
      (s.enqueue code src c d n).llx.evNo = s.llx.evNo + 1 := by
  unfold State.enqueue
  dsimp only
  refine ⟨⟨code, BitVec.ofNat 8 src.source, BitVec.ofNat 8 src.unit, BitVec.ofNat 8 (ctxByte c), s.time.ns,
    BitVec.ofNat 64 (s.fld Fld.SEQ_BELL_NUM_NUMBER), s.llx.evNo, 0, BitVec.ofNat 64 d⟩, ?_, rfl, rfl, rfl, rfl, rfl, ?_⟩
  · split
    · rfl
    · split
      · rfl
      · split <;> rfl
  · split
    · rfl
    · split
      · rfl
      · split <;> rfl

theorem State.traceRec_frame (src : Src) (c : Option Cid) (typ : Nat) (p : List Byte) :
    ∃ h, s.traceRec src c typ p = { s with hubs := h } := by
  unfold State.traceRec
  dsimp only
  split
  · exact ⟨s.hubs, rfl⟩
  · split
    · exact ⟨s.hubs, rfl⟩
    · split <;> exact ⟨_, rfl⟩

theorem State.raise0_frame (code : BitVec 16) (src : Src) (c : Option Cid) (d : Nat) :
    ∃ l r h, s.raise0 code src c d = { s with llx := l, regs := r, hubs := h } := by
  obtain ⟨l, r, e⟩ := s.enqueue_frame code src c d 0
  obtain ⟨h, e2⟩ := (s.enqueue code src c d 0).traceRec_frame src c 6 (bytesOf 4 code.toNat ++ bytesOf 4 d)
  exact ⟨l, r, h, by rw [State.raise0, e2, e]⟩

theorem State.raise0_llx (code : BitVec 16) (src : Src) (c : Option Cid) (d : Nat) :
    (s.raise0 code src c d).llx = (s.enqueue code src c d 0).llx := by
  obtain ⟨h, e⟩ := (s.enqueue code src c d 0).traceRec_frame src c 6 (bytesOf 4 code.toNat ++ bytesOf 4 d)
  rw [State.raise0, e]

theorem State.takeStop_frame (c : Option Cid) (k : BitVec 3) :
    ∃ l r h x, s.takeStop c k = { s with llx := l, regs := r, hubs := h, dbg := { s.dbg with stop := x } } := by
  unfold State.takeStop
  split
  · exact ⟨s.llx, s.regs, s.hubs, s.dbg.stop, rfl⟩
  · dsimp only
    obtain ⟨l, r, h, e⟩ := (((({ s with dbg := { s.dbg with stop := some ⟨c, k⟩ } } : State).setFld Fld.DBG_STOP_STAT_SCOPE
      (if c.isSome then 1 else 0)).setFld Fld.DBG_STOP_STAT_CAUSE k.toNat).bump Fld.DBG_STOP_STAT_STOPS).raise0_frame evDbgAllstop srcDev c 0
    exact ⟨l, r, h, some ⟨c, k⟩, by rw [e]; rfl⟩

theorem State.trigger_frame (src : Src) (c : Option Cid) (typ : Nat) :
    ∃ l r h x, s.trigger src c typ = { s with llx := l, regs := r, hubs := h, dbg := { s.dbg with stop := x } } := by
  unfold State.trigger
  split
  · dsimp only
    split
    · obtain ⟨h, e⟩ := foldl_rel (fun a b : State => ∃ h, b = { a with hubs := h }) (fun a => ⟨a.hubs, rfl⟩)
        (fun _ _ _ ⟨_, x⟩ ⟨y, z⟩ => ⟨y, by rw [z, x]⟩)
        (fun (s : State) (h : HubId) => s.modHub h fun x => { x with trPost := some (s.fld Fld.DBG_TRIG_POST) }) (List.finRange 4)
        (fun t a => ⟨_, rfl⟩) (s.setFld Fld.DBG_TRIG_FIRED 1)
      exact ⟨s.llx, _, h, s.dbg.stop, by rw [e]; rfl⟩
    · split
      · obtain ⟨l, r, h, x, e⟩ := (s.setFld Fld.DBG_TRIG_FIRED 1).takeStop_frame none 2
        exact ⟨l, r, h, x, by rw [e]; rfl⟩
      · exact ⟨s.llx, _, s.hubs, s.dbg.stop, rfl⟩
    · split
      · cases c with
        | none => exact ⟨s.llx, _, s.hubs, s.dbg.stop, rfl⟩
        | some c =>
          obtain ⟨l, r, h, x, e⟩ := (s.setFld Fld.DBG_TRIG_FIRED 1).takeStop_frame (some c) 2
          exact ⟨l, r, h, x, by dsimp only; rw [e]; rfl⟩
      · exact ⟨s.llx, _, s.hubs, s.dbg.stop, rfl⟩
    · exact ⟨s.llx, _, s.hubs, s.dbg.stop, rfl⟩
  · exact ⟨s.llx, s.regs, s.hubs, s.dbg.stop, rfl⟩

theorem State.stopNow_frame (c : Option Cid) (k : BitVec 3) :
    ∃ l r h x, s.stopNow c k = { s with llx := l, regs := r, hubs := h, dbg := { s.dbg with stop := x } } := by
  unfold State.stopNow
  split
  · exact ⟨s.llx, s.regs, s.hubs, s.dbg.stop, rfl⟩
  · obtain ⟨l, r, h, x, e⟩ := s.takeStop_frame c k
    obtain ⟨l2, r2, h2, x2, e2⟩ := (s.takeStop c k).trigger_frame srcDev c 6
    exact ⟨l2, r2, h2, x2, by rw [e2, e]⟩

theorem State.trace_frame (src : Src) (c : Option Cid) (typ : Nat) (p : List Byte) :
    ∃ l r h x, s.trace src c typ p = { s with llx := l, regs := r, hubs := h, dbg := { s.dbg with stop := x } } := by
  obtain ⟨h, e⟩ := s.traceRec_frame src c typ p
  obtain ⟨l, r, h2, x, e2⟩ := (s.traceRec src c typ p).trigger_frame src c typ
  exact ⟨l, r, h2, x, by rw [State.trace, e2, e]⟩

/-- A raise changes the event queue, registers (counts, the trigger's, an all-stop's), trace buffers and the all-stop. -/
theorem State.raise_frame (code : BitVec 16) (src : Src) (c : Option Cid) (d : Nat) :
    ∃ l r h x, s.raise code src c d = { s with llx := l, regs := r, hubs := h, dbg := { s.dbg with stop := x } } := by
  obtain ⟨l, r, h, e⟩ := s.raise0_frame code src c d
  obtain ⟨l2, r2, h2, x, e2⟩ := (s.raise0 code src c d).trigger_frame src c 6
  exact ⟨l2, r2, h2, x, by rw [State.raise, e2, e]⟩

/-- After the trigger the raises shown last are as before, or one more stands before them. -/
theorem State.trigger_recent (src : Src) (c : Option Cid) (typ : Nat) :
    (s.trigger src c typ).llx.recent = s.llx.recent ∨ ∃ g, (s.trigger src c typ).llx.recent = (g :: s.llx.recent).take 8 := by
  have stop (u : State) (hu : u.llx = s.llx) (d : Option Cid) (k : BitVec 3) :
      (u.takeStop d k).llx.recent = s.llx.recent ∨ ∃ g, (u.takeStop d k).llx.recent = (g :: s.llx.recent).take 8 := by
    unfold State.takeStop
    split
    · exact .inl (by rw [hu])
    · dsimp only
      rw [State.raise0_llx]
      obtain ⟨g, e, -⟩ := (((({ u with dbg := { u.dbg with stop := some ⟨d, k⟩ } } : State).setFld Fld.DBG_STOP_STAT_SCOPE
        (if d.isSome then 1 else 0)).setFld Fld.DBG_STOP_STAT_CAUSE k.toNat).bump Fld.DBG_STOP_STAT_STOPS).enqueue_recent evDbgAllstop srcDev d 0 0
      exact .inr ⟨g, by rw [e]; exact congrArg (fun l => (g :: l).take 8) (congrArg Llx.recent hu)⟩
  unfold State.trigger
  split
  · dsimp only
    split
    · left
      obtain ⟨h, e⟩ := foldl_rel (fun a b : State => ∃ h, b = { a with hubs := h }) (fun a => ⟨a.hubs, rfl⟩)
        (fun _ _ _ ⟨_, x⟩ ⟨y, z⟩ => ⟨y, by rw [z, x]⟩)
        (fun (s : State) (h : HubId) => s.modHub h fun x => { x with trPost := some (s.fld Fld.DBG_TRIG_POST) }) (List.finRange 4)
        (fun t a => ⟨_, rfl⟩) (s.setFld Fld.DBG_TRIG_FIRED 1)
      rw [e]; rfl
    · split
      · exact stop (s.setFld Fld.DBG_TRIG_FIRED 1) rfl _ _
      · exact .inl rfl
    · split
      · cases c with
        | none => exact .inl rfl
        | some c => exact stop (s.setFld Fld.DBG_TRIG_FIRED 1) rfl _ _
      · exact .inl rfl
    · exact .inl rfl
  · exact .inl rfl

/-- A raise is seen: R477's frame is among the raises shown last. -/
theorem State.raise_raised (code : BitVec 16) (src : Src) (c : Option Cid) (d : Nat) : s.Raised (s.raise code src c d) code src d := by
  obtain ⟨f, e, hc, hn, hs, hu, hd, -⟩ := s.enqueue_recent code src c d 0
  have e0 : (s.raise0 code src c d).llx.recent = (f :: s.llx.recent).take 8 := by rw [State.raise0_llx, e]
  refine ⟨f, ?_, hc, .inl hn, hs, hu, hd⟩
  unfold State.raise
  rcases (s.raise0 code src c d).trigger_recent src c 6 with h | ⟨g, h⟩ <;> rw [h, e0]
  · simp
  · simp [List.take]

/-! ### Device memory (R310, R693) -/

theorem State.memLines_frame (a n : Nat) (rd : Bool) : ∃ d r, s.memLines a n rd = { s with dbg := d, regs := r } := by
  have one : ∃ d, (if a < stkBase then s.ao 4 (lineCount a n) else s.ao 5 (lineCount a n)) = { s with dbg := d } := by
    split <;> exact ⟨_, rfl⟩
  obtain ⟨d, e⟩ := one
  unfold State.memLines
  dsimp only
  rw [e]
  cases rd
  · exact ⟨d, s.regs, rfl⟩
  · obtain ⟨r, e2⟩ := ({ s with dbg := d } : State).pcEvent_frame 10 (memCtrl s.variant a) (lineCount a n)
    exact ⟨d, r, e2⟩

theorem State.memLines_write (a n : Nat) : ∃ d, s.memLines a n false = { s with dbg := d } := by
  unfold State.memLines
  dsimp only
  simp only [Bool.false_eq_true, if_false]
  split <;> exact ⟨_, rfl⟩

theorem State.memError_frame (scrub : Bool) (p : Nat × Ecc) :
    ∃ m e r d c, s.memError scrub p = { s with mem := m, memErr := e, regs := r, dbg := d, rlf := { s.rlf with cur := c } } := by
  obtain ⟨w, k⟩ := p
  cases k with
  | ok => exact ⟨s.mem, s.memErr, s.regs, s.dbg, s.rlf.cur, rfl⟩
  | ce pos =>
    cases scrub
    all_goals
      simp only [State.memError, State.bump, State.setFld, State.ao, State.canary, State.setMemBits, if_true, if_false, Bool.false_eq_true]
      exact ⟨_, _, _, _, _, rfl⟩
  | ue =>
    simp only [State.memError, State.bump, State.setFld, State.ao]
    exact ⟨s.mem, s.memErr, _, _, s.rlf.cur, rfl⟩

/-- A read of device memory corrects words, counts and records errors; it changes nothing else. -/
theorem State.memRead_frame (a n : Nat) :
    ∃ m e r d c, (s.memRead a n).st = { s with mem := m, memErr := e, regs := r, dbg := d, rlf := { s.rlf with cur := c } } := by
  obtain ⟨d0, r0, h0⟩ := s.memLines_frame a n true
  obtain ⟨m, e, r, d, c, h⟩ := foldl_rel
    (fun a b : State => ∃ m e r d c, b = { a with mem := m, memErr := e, regs := r, dbg := d, rlf := { a.rlf with cur := c } })
    (fun a => ⟨a.mem, a.memErr, a.regs, a.dbg, a.rlf.cur, rfl⟩)
    (fun _ _ _ ⟨_, _, _, _, _, x⟩ ⟨m, e, r, d, c, y⟩ => ⟨m, e, r, d, c, by rw [y, x]⟩)
    (fun (s : State) (p : Nat × Ecc) => s.memError false p) (s.memBits.found a n) (fun t p => t.memError_frame false p) (s.memLines a n true)
  exact ⟨m, e, r, d, c, by rw [State.memRead]; dsimp only; rw [h, h0]⟩

theorem State.inject_frame (k lo n : Nat) :
    ∃ r a b c, s.inject k lo n = { s with regs := r, memErr := a, bunkErr := b, sideErr := c } := by
  unfold State.inject
  split
  · exact ⟨s.regs, s.memErr, s.bunkErr, s.sideErr, rfl⟩
  · split
    · dsimp only
      split
      · exact ⟨_, _, s.bunkErr, s.sideErr, rfl⟩
      · exact ⟨_, s.memErr, _, s.sideErr, rfl⟩
      · exact ⟨_, s.memErr, s.bunkErr, _, rfl⟩
    · exact ⟨s.regs, s.memErr, s.bunkErr, s.sideErr, rfl⟩

theorem State.inject_none (k lo n : Nat) (h : s.injectWord = none) : s.inject k lo n = s := by simp [State.inject, h]

/-- Without stored errors and without an armed injection a write stores its bytes and counts its lines; nothing else changes. -/
theorem State.memWrite_clean (a : Nat) (bs : List Byte) (he : s.memErr = []) (hi : s.injectWord = none) :
    ∃ d, s.memWrite a bs = { s with mem := SMap.putList s.mem 0 a bs, dbg := d } := by
  unfold State.memWrite
  split
  · next h => exact ⟨s.dbg, by simp [List.isEmpty_iff.mp h, SMap.putList]⟩
  · have f : s.memBits.found a bs.length = [] := by simp [Bits72.found, State.memBits, he]
    dsimp only
    rw [f]
    simp only [List.filter_nil, List.foldl_nil, Bits72.write, f, List.isEmpty_nil, if_true]
    obtain ⟨d, e⟩ := s.memLines_write a bs.length
    refine ⟨d, ?_⟩
    rw [e]
    exact State.inject_none _ _ _ _ hi

theorem State.memZero_frame (a n : Nat) :
    s.memZero a n = { s with mem := SMap.clear s.mem a n, memErr := SMap.clear s.memErr (a / 8) (n / 8) } := rfl

/-- With no stored errors a byte reads as it is listed, or as zero. -/
theorem State.memByte_clean (a : Nat) (h : s.memErr = []) : s.memByte a = SMap.val s.mem 0 a := by
  simp [State.memByte, Bits72.byteAt, State.memBits, h]

/-! ### Bunkers (R225, R244) -/

theorem State.setFld_regs {t : State} (h : ∃ r, t = { s with regs := r }) (F : Fld) (v i j : Nat) :
    ∃ r, t.setFld F v i j = { s with regs := r } := by
  obtain ⟨r, rfl⟩ := h; exact ⟨_, rfl⟩

theorem State.bunkNote_frame (sb scrub : Bool) (w pos : Nat) (ue : Bool) : ∃ r, s.bunkNote sb scrub w pos ue = { s with regs := r } := by
  unfold State.bunkNote
  dsimp only
  split
  all_goals
    repeat' apply State.setFld_regs
    exact ⟨s.regs, rfl⟩

theorem State.bunkError_frame (sb scrub : Bool) (p : Nat × Ecc) :
    ∃ a b c d r g k, s.bunkError sb scrub p = { s with
      bunk := a, bunkErr := b, side := c, sideErr := d, regs := r, dbg := g, rlf := { s.rlf with cur := k } } := by
  let R (t : State) : Prop := ∃ a b c d r g k, t = { s with
    bunk := a, bunkErr := b, side := c, sideErr := d, regs := r, dbg := g, rlf := { s.rlf with cur := k } }
  have base : R s := ⟨s.bunk, s.bunkErr, s.side, s.sideErr, s.regs, s.dbg, s.rlf.cur, rfl⟩
  have fld (t : State) (F : Fld) (v i j : Nat) : R t → R (t.setFld F v i j) := by
    rintro ⟨a, b, c, d, r, g, k, rfl⟩; exact ⟨a, b, c, d, _, g, k, rfl⟩
  have note (t : State) (pos : Nat) (ue : Bool) : R t → R (t.bunkNote sb scrub p.1 pos ue) := by
    rintro ⟨a, b, c, d, r, g, k, rfl⟩
    obtain ⟨r2, e⟩ := State.bunkNote_frame { s with
      bunk := a, bunkErr := b, side := c, sideErr := d, regs := r, dbg := g, rlf := { s.rlf with cur := k } } sb scrub p.1 pos ue
    exact ⟨a, b, c, d, r2, g, k, e⟩
  have ao (t : State) (m n : Nat) : R t → R (t.ao m n) := by rintro ⟨a, b, c, d, r, g, k, rfl⟩; exact ⟨a, b, c, d, r, _, k, rfl⟩
  have can (t : State) (m n : Nat) : R t → R (t.canary m n) := by rintro ⟨a, b, c, d, r, g, k, rfl⟩; exact ⟨a, b, c, d, r, g, _, rfl⟩
  have bunk (t : State) (x : Bits72) : R t → R (t.setBunkBits x) := by rintro ⟨a, b, c, d, r, g, k, rfl⟩; exact ⟨_, _, c, d, r, g, k, rfl⟩
  have side (t : State) (x : Bits72) : R t → R (t.setSideBits x) := by rintro ⟨a, b, c, d, r, g, k, rfl⟩; exact ⟨a, b, _, _, r, g, k, rfl⟩
  show R (s.bunkError sb scrub p)
  unfold State.bunkError
  dsimp only
  split
  · exact base
  · refine can _ _ _ (ao _ _ _ (note _ _ _ ?_))
    cases sb
    · cases scrub
      · exact fld _ _ _ _ _ (bunk _ _ base)
      · exact fld _ _ _ _ _ (bunk _ _ base)
    · cases scrub
      · exact fld _ _ _ _ _ (fld _ _ _ _ _ (side _ _ base))
      · exact fld _ _ _ _ _ (fld _ _ _ _ _ (side _ _ base))
  · exact ao _ _ _ (note _ _ _ (fld _ _ _ _ _ base))

theorem State.bunkRead_frame (i : StationId) (x n : Nat) :
    ∃ a b c d r g k, (s.bunkRead i x n).st = { s with
      bunk := a, bunkErr := b, side := c, sideErr := d, regs := r, dbg := g, rlf := { s.rlf with cur := k } } :=
  foldl_rel
    (fun a b : State => ∃ p q t u r g k, b = { a with
      bunk := p, bunkErr := q, side := t, sideErr := u, regs := r, dbg := g, rlf := { a.rlf with cur := k } })
    (fun a => ⟨a.bunk, a.bunkErr, a.side, a.sideErr, a.regs, a.dbg, a.rlf.cur, rfl⟩)
    (fun _ _ _ ⟨_, _, _, _, _, _, _, x⟩ ⟨a, b, c, d, e, f, g, y⟩ => ⟨a, b, c, d, e, f, g, by rw [y, x]⟩)
    (fun (s : State) (p : Nat × Ecc) => s.bunkError false false p) _ (fun t p => t.bunkError_frame false false p) s

theorem State.bunkZero_frame (i : StationId) (x n : Nat) :
    ∃ a b c d, s.bunkZero i x n = { s with bunk := a, bunkErr := b, side := c, sideErr := d } := ⟨_, _, _, _, rfl⟩

/-! ### Contexts and the sequencer's own steps (R119, R122, R161) -/

theorem State.modBoth_one (c : Cid) (f : Ctx → Ctx) (h : s.joined c = false) : s.modBoth c f = s.setCtx c (f (s.ctx c)) := by
  simp [State.modBoth, h, State.modCtx]

theorem State.modBoth_frame (c : Cid) (f : Ctx → Ctx) : ∃ x, s.modBoth c f = { s with ctxs := x } := by
  unfold State.modBoth; split <;> exact ⟨_, rfl⟩

theorem State.nextPc_frame (c : Cid) (n : Nat) : ∃ x, s.nextPc c n = { s with ctxs := x } := ⟨_, rfl⟩
theorem State.goto_frame (c : Cid) (a : Word) : ∃ x, s.goto c a = { s with ctxs := x } := ⟨_, rfl⟩
theorem State.pastReturn_frame (c : Cid) : ∃ x, s.pastReturn c = { s with ctxs := x } := s.modBoth_frame c _
theorem State.stopCtx_frame (c : Cid) (code : BitVec 16) : ∃ x, s.stopCtx c code = { s with ctxs := x } := s.modBoth_frame c _

@[simp] theorem State.nextPc_ctx (c : Cid) (n : Nat) : (s.nextPc c n).ctx c = (s.ctx c).moved ((s.ctx c).after n) := by
  rw [State.nextPc, State.modCtx, State.ctx_setCtx_self, Ctx.moved, Ctx.after, Ctx.setPc]
  have : BitVec.ofNat 64 (8 * n) = 8 * BitVec.ofNat 64 n := by
    rw [show (8 : BitVec 64) = BitVec.ofNat 64 8 from rfl, BitVec.ofNat_mul]
  rw [this]

theorem State.nextPc_ctx_ne (c d : Cid) (n : Nat) (h : d ≠ c) : (s.nextPc c n).ctx d = s.ctx d := State.ctx_setCtx_ne _ _ _ _ h

@[simp] theorem State.goto_ctx (c : Cid) (a : Word) : (s.goto c a).ctx c = (s.ctx c).moved a := by
  rw [State.goto, State.modCtx, State.ctx_setCtx_self]; rfl

/-- An instruction that issues, is well encoded and waits for no scalar runs its effect. -/
theorem State.seqRun_issues (c : Cid) (enc : Bool) (l : List Nat) (body : State → State) (h : s.Issues c) (he : enc = true)
    (hs : (s.ctx c).Settled l) : s.seqRun c enc l body = body s := by
  obtain ⟨h1, h2, h3⟩ := h
  have : l.any (s.ctx c).scalarBusy = false := by rw [List.any_eq_false]; intro r hr; simp [hs r hr]
  simp [State.seqRun, h1, h2, h3, he, this]

/-- Where the sequencer does not execute, nothing happens. -/
theorem State.seqRun_off (c : Cid) (enc : Bool) (l : List Nat) (body : State → State) (h : s.canExec c = false) :
    s.seqRun c enc l body = s := by simp [State.seqRun, h]

/-- In a context that is not joined a cross-half instruction is like any other. -/
theorem State.crossRun_one (c : Cid) (x : Bool) (n : Nat) (body : State → State) (h : s.joined c = false) :
    s.crossRun c x n body = body s := by simp [State.crossRun, h]

theorem State.checked_ok (c : Cid) (l : List (Option (BitVec 16))) (body : State → State) (h : firstFault l = none) :
    s.checked c l body = body s := by simp [State.checked, h]

theorem State.checked_fault (c : Cid) (l : List (Option (BitVec 16))) (body : State → State) (f : BitVec 16) (h : firstFault l = some f) :
    s.checked c l body = s.seqFault c f := by simp [State.checked, h]

@[simp] theorem firstFault_nil : firstFault [] = none := rfl
@[simp] theorem firstFault_none (l : List (Option (BitVec 16))) : firstFault (none :: l) = firstFault l := rfl
@[simp] theorem firstFault_some (f : BitVec 16) (l : List (Option (BitVec 16))) : firstFault (some f :: l) = some f := rfl
@[simp] theorem need_true (f : BitVec 16) : need true f = none := rfl
@[simp] theorem need_false (f : BitVec 16) : need false f = some f := rfl

/-- A context that is faulted already takes no second fault. -/
theorem State.faultCtx_again (c : Cid) (code : BitVec 16) (src : Src) (d : Nat) (h : (s.ctx (s.lead c)).faulted.isSome = true) :
    s.faultCtx c code src d = s := by simp [State.faultCtx, h]

theorem State.faultCtx_first (c : Cid) (code : BitVec 16) (src : Src) (d : Nat) (h : (s.ctx (s.lead c)).faulted = none) :
    s.faultCtx c code src d = (((s.raise code src (some c) d).checkBudget c).abortCtx c).modBoth c fun x => { x with faulted := some code } := by
  simp [State.faultCtx, h]

/-! ### Handles (R221, R228) -/

theorem State.settleProv_frame : ∃ h, s.settleProv = { s with handles := h } :=
  foldl_rel (fun a b : State => ∃ h, b = { a with handles := h }) (fun a => ⟨a.handles, rfl⟩)
    (fun _ _ _ ⟨_, p⟩ ⟨h, q⟩ => ⟨h, by rw [q, p]⟩) _ _ (fun _ _ => ⟨_, rfl⟩) s

theorem State.register_frame (a : Access) : ∃ h x, s.register a = { s with handles := h, accs := x } := by
  unfold State.register
  dsimp only
  split
  · exact ⟨s.handles, s.accs, rfl⟩
  · split <;> rw [(State.settleProv_frame _).choose_spec] <;> exact ⟨_, _, rfl⟩

theorem State.endAccs_frame (p : Access → Bool) (set : StationSet) : ∃ h x, s.endAccs p set = { s with handles := h, accs := x } := by
  rw [State.endAccs]; rw [(State.settleProv_frame _).choose_spec]; exact ⟨_, _, rfl⟩
theorem State.endNo_frame (no : Nat) : ∃ h x, s.endNo no = { s with handles := h, accs := x } := by
  rw [State.endNo, (State.settleProv_frame _).choose_spec]; exact ⟨_, _, rfl⟩
theorem State.startPurge_frame (h : HandleId) (keep : Bool) : ∃ x q, s.startPurge h keep = { s with handles := x, purgeQ := q } := ⟨_, _, rfl⟩
theorem State.freeHandle_frame (h : HandleId) : ∃ x q, s.freeHandle h = { s with handles := x, purgeQ := q } := by
  unfold State.freeHandle
  split
  · exact ⟨_, s.purgeQ, rfl⟩
  · exact ⟨_, _, rfl⟩

/-! ### Time (R558, R559) -/

theorem State.countRegion_frame (u r : Nat) : ∃ g t, s.countRegion u r = { s with regs := g, time := t } := by
  unfold State.countRegion
  dsimp only
  obtain ⟨g, e⟩ : ∃ g, (if s.fallbacks r = 0 then ({ s with time := { s.time with
      cyc := SMap.upd s.time.cyc 0 r (· + u), strCyc := if s.stretched r then SMap.upd s.time.strCyc 0 r (· + u) else s.time.strCyc } } : State)
    else ({ s with time := { s.time with
      cyc := SMap.upd s.time.cyc 0 r (· + u), strCyc := if s.stretched r then SMap.upd s.time.strCyc 0 r (· + u) else s.time.strCyc } } : State).pcEvent
        17 r (s.fallbacks r * u / 5000)) = { s with
      regs := g, time := { s.time with
        cyc := SMap.upd s.time.cyc 0 r (· + u), strCyc := if s.stretched r then SMap.upd s.time.strCyc 0 r (· + u) else s.time.strCyc } } := by
    split
    · exact ⟨s.regs, rfl⟩
    · obtain ⟨g, e⟩ := ({ s with time := { s.time with
        cyc := SMap.upd s.time.cyc 0 r (· + u), strCyc := if s.stretched r then SMap.upd s.time.strCyc 0 r (· + u) else s.time.strCyc } } : State).pcEvent_frame
          17 r (s.fallbacks r * u / 5000)
      exact ⟨g, e⟩
  rw [e]
  split
  · rw [(State.pcEvent_frame _ _ _ _).choose_spec]; exact ⟨_, _, rfl⟩
  · split
    · rw [(State.pcEvent_frame _ _ _ _).choose_spec]; exact ⟨_, _, rfl⟩
    · exact ⟨_, _, rfl⟩

theorem State.holdUnits_frame (u : Nat) (i : StationId) (h : HoldCause) :
    ∃ g d x, s.holdUnits u i h = { s with regs := g, dbg := d, stations := x } := by
  cases h
  · exact ⟨_, _, _, rfl⟩
  · exact ⟨_, _, _, rfl⟩
  · exact ⟨s.regs, _, _, rfl⟩

theorem State.countStn_frame (u n k : Nat) : ∃ g d x, s.countStn u n k = { s with regs := g, dbg := d, stations := x } := by
  have use (i : StationId) (s : State) : ∃ d, s.countUse u i = { s with dbg := d } := by
    unfold State.countUse; split <;> exact ⟨_, rfl⟩
  have head (i : StationId) (s : State) : ∃ g d x, s.countHead u i = { s with regs := g, dbg := d, stations := x } := by
    unfold State.countHead
    split
    · split
      · exact ⟨s.regs, s.dbg, s.stations, rfl⟩
      · dsimp only
        split
        · rw [(State.pcEvent_frame _ _ _ _).choose_spec]; exact ⟨_, _, _, rfl⟩
        · exact ⟨s.regs, _, _, rfl⟩
    · exact ⟨s.regs, s.dbg, s.stations, rfl⟩
  have hold (i : StationId) (s : State) : ∃ g d x, s.countHold u n i = { s with regs := g, dbg := d, stations := x } := by
    unfold State.countHold
    split
    · split
      · exact ⟨s.regs, s.dbg, s.stations, rfl⟩
      · exact s.holdUnits_frame _ _ _
    · exact s.holdUnits_frame _ _ _
  obtain ⟨a, e1⟩ := use (Fin.ofNat 96 k) s
  obtain ⟨b, c, d, e2⟩ := head (Fin.ofNat 96 k) (s.countUse u (Fin.ofNat 96 k))
  obtain ⟨g, h, x, e3⟩ := hold (Fin.ofNat 96 k) ((s.countUse u (Fin.ofNat 96 k)).countHead u (Fin.ofNat 96 k))
  exact ⟨g, h, x, by rw [State.countStn, e3, e2, e1]⟩

/-- Time that passes counts cycles: registers, counters, stations' counts, the clocks and the surge credit change, nothing else. -/
theorem State.advance_frame (dns : Nat) :
    ∃ g d x t p, s.advance dns = { s with regs := g, dbg := d, stations := x, time := t, pwr := { s.pwr with credit := p } } := by
  have one (t : State) (r : Nat) : ∃ g d x y, advRegion dns t r = { t with regs := g, dbg := d, stations := x, time := y } := by
    unfold advRegion
    dsimp only
    split
    · exact ⟨t.regs, t.dbg, t.stations, t.time, rfl⟩
    · split
      · obtain ⟨g, y, e⟩ := t.countRegion_frame (t.regionUnits r dns) r
        exact ⟨g, t.dbg, t.stations, y, e⟩
      · obtain ⟨g, y, e⟩ := t.countRegion_frame (t.regionUnits r dns) r
        obtain ⟨a, b, c, e2⟩ := (t.countRegion (t.regionUnits r dns) r).countStn_frame (t.regionUnits r dns)
          (t.regionUnits r (t.capNs (r / 2) dns)) (2 * r)
        obtain ⟨a3, b3, c3, e3⟩ := ((t.countRegion (t.regionUnits r dns) r).countStn (t.regionUnits r dns)
          (t.regionUnits r (t.capNs (r / 2) dns)) (2 * r)).countStn_frame (t.regionUnits r dns)
          (t.regionUnits r (t.capNs (r / 2) dns)) (2 * r + 1)
        exact ⟨a3, b3, c3, y, by rw [e3, e2, e]⟩
  unfold State.advance
  split
  · exact ⟨s.regs, s.dbg, s.stations, s.time, s.pwr.credit, rfl⟩
  · obtain ⟨g, d, x, y, e⟩ := foldl_rel
      (fun a b : State => ∃ g d x y, b = { a with regs := g, dbg := d, stations := x, time := y })
      (fun a => ⟨a.regs, a.dbg, a.stations, a.time, rfl⟩)
      (fun _ _ _ ⟨_, _, _, _, p⟩ ⟨g, d, x, y, q⟩ => ⟨g, d, x, y, by rw [q, p]⟩) (advRegion dns) (List.range 60) one s
    rw [e]
    exact ⟨_, _, _, _, _, rfl⟩

end Sys2Proof.Machine
end

