-- ==== Sys2Proof/Laws/Memory.lean ====
section
/-! SUPPORT. Device memory: every operation of Machine/Ops.lean and Machine/Memory.lean leaves it as it was, or keeps its canonical form. -/

namespace Sys2Proof.Machine

set_option linter.all false

/-! ### Folds and choices -/

@[simp] theorem foldl_mem {α : Type} (f : State → α → State) (l : List α) (s : State)
    (h : ∀ t a, (f t a).mem = t.mem) : (l.foldl f s).mem = s.mem := by
  induction l generalizing s with
  | nil => rfl
  | cons a l ih => simp [List.foldl, ih, h]

@[simp] theorem State.ite_mem (c : Prop) [Decidable c] (a b : State) : (if c then a else b).mem = if c then a.mem else b.mem :=
  apply_ite ..

@[simp] theorem foldl_mem_mid {α β γ : Type} (f : β × State × γ → α → β × State × γ) (l : List α) (b : β × State × γ)
    (h : ∀ b a, (f b a).2.1.mem = b.2.1.mem) : (l.foldl f b).2.1.mem = b.2.1.mem := by
  induction l generalizing b with
  | nil => rfl
  | cons a l ih => simp [List.foldl, ih, h]

@[simp] theorem foldl_mem_snd {α β : Type} (f : β × State → α → β × State) (l : List α) (b : β × State)
    (h : ∀ b a, (f b a).2.mem = b.2.mem) : (l.foldl f b).2.mem = b.2.mem := by
  induction l generalizing b with
  | nil => rfl
  | cons a l ih => simp [List.foldl, ih, h]

@[simp] theorem foldl_mem_fst {α β : Type} (f : State × β → α → State × β) (l : List α) (b : State × β)
    (h : ∀ b a, (f b a).1.mem = b.1.mem) : (l.foldl f b).1.mem = b.1.mem := by
  induction l generalizing b with
  | nil => rfl
  | cons a l ih => simp [List.foldl, ih, h]

@[simp] theorem foldl_wf {α : Type} (f : State → α → State) (l : List α) (s : State)
    (h : ∀ t a, Memory.wf t.mem = true → Memory.wf (f t a).mem = true) (hs : Memory.wf s.mem = true) :
    Memory.wf (l.foldl f s).mem = true := by
  induction l generalizing s with
  | nil => exact hs
  | cons a l ih => exact ih _ (h _ _ hs)

@[simp] theorem foldl_wf_mid {α β γ : Type} (f : β × State × γ → α → β × State × γ) (l : List α) (b : β × State × γ)
    (h : ∀ b a, Memory.wf b.2.1.mem = true → Memory.wf (f b a).2.1.mem = true) (hb : Memory.wf b.2.1.mem = true) :
    Memory.wf (l.foldl f b).2.1.mem = true := by
  induction l generalizing b with
  | nil => exact hb
  | cons a l ih => exact ih _ (h _ _ hb)

@[simp] theorem foldl_wf_snd {α β : Type} (f : β × State → α → β × State) (l : List α) (b : β × State)
    (h : ∀ b a, Memory.wf b.2.mem = true → Memory.wf (f b a).2.mem = true) (hb : Memory.wf b.2.mem = true) :
    Memory.wf (l.foldl f b).2.mem = true := by
  induction l generalizing b with
  | nil => exact hb
  | cons a l ih => exact ih _ (h _ _ hb)

@[simp] theorem foldl_wf_fst {α β : Type} (f : State × β → α → State × β) (l : List α) (b : State × β)
    (h : ∀ b a, Memory.wf b.1.mem = true → Memory.wf (f b a).1.mem = true) (hb : Memory.wf b.1.mem = true) :
    Memory.wf (l.foldl f b).1.mem = true := by
  induction l generalizing b with
  | nil => exact hb
  | cons a l ih => exact ih _ (h _ _ hb)

theorem foldl_proj {α β γ : Type} (g : β → γ) (f : β → α → β) (l : List α) (b : β) (h : ∀ b a, g (f b a) = g b) :
    g (l.foldl f b) = g b := by
  induction l generalizing b with
  | nil => rfl
  | cons a l ih => simp [List.foldl, ih, h]

theorem foldl_inv {α β : Type} (P : β → Prop) (f : β → α → β) (l : List α) (b : β) (h : ∀ b a, P b → P (f b a)) (hb : P b) :
    P (l.foldl f b) := by
  induction l generalizing b with
  | nil => exact hb
  | cons a l ih => exact ih _ (h _ _ hb)

/-! A state named by a match on a pair: its memory is that of the pair's component. -/

theorem mem_of_fst {α : Type} {p : State × α} {s : State} {a : α} (h : p = (s, a)) : s.mem = p.1.mem := by rw [h]
theorem mem_of_snd {α : Type} {p : α × State} {a : α} {s : State} (h : p = (a, s)) : s.mem = p.2.mem := by rw [h]
theorem mem_of_mid {α β : Type} {p : α × State × β} {a : α} {s : State} {b : β} (h : p = (a, s, b)) : s.mem = p.2.1.mem := by rw [h]
theorem wf_of_fst {α : Type} {p : State × α} {s : State} {a : α} (h : p = (s, a)) (hp : Memory.wf p.1.mem = true) :
    Memory.wf s.mem = true := by rw [mem_of_fst h]; exact hp
theorem wf_of_snd {α : Type} {p : α × State} {a : α} {s : State} (h : p = (a, s)) (hp : Memory.wf p.2.mem = true) :
    Memory.wf s.mem = true := by rw [mem_of_snd h]; exact hp
theorem wf_of_mid {α β : Type} {p : α × State × β} {a : α} {s : State} {b : β} (h : p = (a, s, b))
    (hp : Memory.wf p.2.1.mem = true) : Memory.wf s.mem = true := by rw [mem_of_mid h]; exact hp

/-! ### The operations -/

@[simp] theorem State.modCtx_mem (s : State) (c : Cid) (f : Ctx → Ctx) : (State.modCtx s c f).mem = s.mem := by
  simp [State.modCtx, *]

@[simp] theorem State.modStn_mem (s : State) (i : StationId) (f : Station → Station) : (State.modStn s i f).mem = s.mem := by
  simp [State.modStn, *]

@[simp] theorem State.modHnd_mem (s : State) (h : HandleId) (f : Handle → Handle) : (State.modHnd s h f).mem = s.mem := by
  simp [State.modHnd, *]

@[simp] theorem State.modInst_mem (s : State) (no : Nat) (f : SInst → SInst) : (State.modInst s no f).mem = s.mem := by
  unfold State.modInst
  (repeat' split) <;> simp [*]

@[simp] theorem State.modHub_mem (s : State) (h : HubId) (f : Hub → Hub) : (State.modHub s h f).mem = s.mem := by
  simp [State.modHub, *]

@[simp] theorem State.modQue_mem (s : State) (h : HubId) (q : QueueId) (f : Queue → Queue) : (State.modQue s h q f).mem = s.mem := by
  simp [State.modQue, *]

@[simp] theorem State.modMill_mem (s : State) (m : Fin 2) (f : Mill → Mill) : (State.modMill s m f).mem = s.mem := by
  simp [State.modMill, *]

@[simp] theorem State.setPort_mem (s : State) (p : LinkPort) (x : Port) : (State.setPort s p x).mem = s.mem := by
  unfold State.setPort
  (repeat' split) <;> simp [*]

@[simp] theorem State.setBank_mem (s : State) (i : StationId) (b : Fin 2) (y : Bank) : (State.setBank s i b y).mem = s.mem := by
  simp [State.setBank, *]

@[simp] theorem State.bump_mem (s : State) (F : Fld) (n : Nat) (i : Nat) (j : Nat) : (State.bump s F n i j).mem = s.mem := by
  simp [State.bump, *]

@[simp] theorem State.resetRegs_mem (s : State) (lo hi : Nat) : (State.resetRegs s lo hi).mem = s.mem := by
  simp [State.resetRegs, *]

@[simp] theorem State.ao_mem (s : State) (k n : Nat) : (State.ao s k n).mem = s.mem := by
  simp [State.ao, *]

@[simp] theorem State.cnt_mem (s : State) (c : Cid) (k n : Nat) : (State.cnt s c k n).mem = s.mem := by
  simp [State.cnt, *]

@[simp] theorem State.pcEvent_mem (s : State) (ev unit n : Nat) : (s.pcEvent ev unit n).mem = s.mem := by
  unfold State.pcEvent
  split
  · rfl
  · apply foldl_mem; intro t a; split <;> simp

@[simp] theorem State.countUse_mem (u : Nat) (i : StationId) (s : State) : (State.countUse u i s).mem = s.mem := by
  unfold State.countUse
  (repeat' split) <;> simp [*]

@[simp] theorem State.countHead_mem (u : Nat) (i : StationId) (s : State) : (State.countHead u i s).mem = s.mem := by
  unfold State.countHead
  (repeat' split) <;> simp [*]

@[simp] theorem State.holdUnits_mem (u : Nat) (i : StationId) (s : State) (h : HoldCause) : (State.holdUnits u i s h).mem = s.mem := by
  cases h <;> simp [State.holdUnits]

@[simp] theorem State.countHold_mem (u g : Nat) (i : StationId) (s : State) : (State.countHold u g i s).mem = s.mem := by
  unfold State.countHold
  (repeat' split) <;> simp [*]

@[simp] theorem State.countStn_mem (u g : Nat) (s : State) (k : Nat) : (State.countStn u g s k).mem = s.mem := by
  simp [State.countStn, *]

@[simp] theorem State.countRegion_mem (u r : Nat) (s : State) : (State.countRegion u r s).mem = s.mem := by
  simp [State.countRegion, *]

@[simp] theorem advRegion_mem (dns : Nat) (s : State) (r : Nat) : (advRegion dns s r).mem = s.mem := by
  simp [advRegion, *]

@[simp] theorem State.advance_mem (s : State) (dns : Nat) : (State.advance s dns).mem = s.mem := by
  simp [State.advance, *]

@[simp] theorem State.advanceTo_mem (s : State) (t : Nat) : (State.advanceTo s t).mem = s.mem := by
  simp [State.advanceTo, *]

@[simp] theorem State.tick_mem (s : State) : (State.tick s).mem = s.mem := by
  simp [State.tick, *]

@[simp] theorem State.enqueue_mem (s : State) (code : BitVec 16) (src : Src) (c : Option Cid) (detail count : Nat) : (State.enqueue s code src c detail count).mem = s.mem := by
  simp [State.enqueue, *]

@[simp] theorem State.traceRec_mem (s : State) (src : Src) (c : Option Cid) (typ : Nat) (payload : List Byte) : (State.traceRec s src c typ payload).mem = s.mem := by
  simp [State.traceRec, *]

@[simp] theorem State.raise0_mem (s : State) (code : BitVec 16) (src : Src) (c : Option Cid) (detail : Nat) : (State.raise0 s code src c detail).mem = s.mem := by
  simp [State.raise0, *]

@[simp] theorem State.takeStop_mem (s : State) (ctx : Option Cid) (cause : BitVec 3) : (State.takeStop s ctx cause).mem = s.mem := by
  unfold State.takeStop
  (repeat' split) <;> simp [*]

@[simp] theorem State.trigger_mem (s : State) (src : Src) (c : Option Cid) (typ : Nat) : (State.trigger s src c typ).mem = s.mem := by
  obtain ⟨l, r, h, x, e⟩ := s.trigger_frame src c typ
  rw [e]

@[simp] theorem State.stopNow_mem (s : State) (ctx : Option Cid) (cause : BitVec 3) : (State.stopNow s ctx cause).mem = s.mem := by
  unfold State.stopNow
  split <;> simp

@[simp] theorem State.trace_mem (s : State) (src : Src) (c : Option Cid) (typ : Nat) (payload : List Byte) : (State.trace s src c typ payload).mem = s.mem := by
  simp [State.trace, *]

@[simp] theorem State.raise_mem (s : State) (code : BitVec 16) (src : Src) (c : Option Cid) (detail : Nat) : (State.raise s code src c detail).mem = s.mem := by
  simp [State.raise, *]

@[simp] theorem State.regEvent_mem (s : State) (code : BitVec 16) (off : Nat) : (State.regEvent s code off).mem = s.mem := by
  simp [State.regEvent, *]

@[simp] theorem State.canary_mem (s : State) (i n : Nat) : (State.canary s i n).mem = s.mem := by
  simp [State.canary, *]

@[simp] theorem State.inject_mem (s : State) (space lo n : Nat) : (State.inject s space lo n).mem = s.mem := by
  unfold State.inject
  (repeat' split) <;> simp [*]

@[simp] theorem State.setMemBits_mem (s : State) (x : Bits72) : (s.setMemBits x).mem = x.bytes := rfl

@[simp] theorem State.memLines_mem (s : State) (a n : Nat) (rd : Bool) : (State.memLines s a n rd).mem = s.mem := by
  simp [State.memLines, *]

@[simp] theorem Bits72.fix_wf (x : Bits72) (w : Nat) (h : Memory.wf x.bytes = true) : Memory.wf (x.fix w).bytes = true := by
  unfold Bits72.fix
  simp only []
  split
  · exact SMap.wf_putList _ _ _ _ h
  · exact h

@[simp] theorem Bits72.write_wf (x : Bits72) (lo : Nat) (bs : List Byte) (h : Memory.wf x.bytes = true) :
    Memory.wf (x.write lo bs).bytes = true := by
  have key : ∀ (l : List Nat) (x : Bits72), Memory.wf x.bytes = true → Memory.wf (l.foldl (fun x w =>
      match eccOutcome (SMap.val x.err 0 w) with
      | .ce _ => x.fix w
      | .ue => x.setWord w (eccData (x.word w) (SMap.val x.err 0 w)) eccBad
      | .ok => x) x).bytes = true := by
    intro l
    induction l with
    | nil => exact fun x h => h
    | cons w l ih =>
      intro x h
      apply ih
      dsimp only
      split
      · exact Bits72.fix_wf x w h
      · exact SMap.wf_putList _ _ _ _ h
      · exact h
  unfold Bits72.write
  simp only []
  split
  · exact SMap.wf_putList _ _ _ _ h
  · exact SMap.wf_putList _ _ _ _ (key _ x h)

@[simp] theorem State.memError_wf (s : State) (scrub : Bool) (p : Nat × Ecc) (h : Memory.wf s.mem = true) :
    Memory.wf (s.memError scrub p).mem = true := by
  have h1 : Memory.wf (s.memBits.fix p.1).bytes = true := Bits72.fix_wf _ _ h
  unfold State.memError
  simp only []
  split
  · exact h
  · split <;> simp [h1]
  · simp [h]

@[simp] theorem State.memRead_wf (s : State) (a n : Nat) (h : Memory.wf s.mem = true) : Memory.wf (s.memRead a n).st.mem = true :=
  foldl_wf _ _ _ (fun t p ht => State.memError_wf t false p ht) (by simp [h])

@[simp] theorem State.memWrite_wf (s : State) (a : Nat) (bs : List Byte) (h : Memory.wf s.mem = true) :
    Memory.wf (s.memWrite a bs).mem = true := by
  unfold State.memWrite
  split
  · exact h
  · simp only [State.inject_mem, State.setMemBits_mem]
    exact Bits72.write_wf _ _ _ h

@[simp] theorem State.memZero_wf (s : State) (a n : Nat) (h : Memory.wf s.mem = true) : Memory.wf (s.memZero a n).mem = true :=
  SMap.wf_clear s.mem _ _ _ h

@[simp] theorem State.setBunkBits_mem (s : State) (x : Bits72) : (State.setBunkBits s x).mem = s.mem := by
  simp [State.setBunkBits, *]

@[simp] theorem State.setSideBits_mem (s : State) (x : Bits72) : (State.setSideBits s x).mem = s.mem := by
  simp [State.setSideBits, *]

@[simp] theorem State.bunkNote_mem (s : State) (sb scrub : Bool) (w pos : Nat) (ue : Bool) : (s.bunkNote sb scrub w pos ue).mem = s.mem := by
  unfold State.bunkNote
  dsimp only
  split <;> simp

@[simp] theorem State.bunkError_mem (s : State) (sb scrub : Bool) (p : Nat × Ecc) : (State.bunkError s sb scrub p).mem = s.mem := by
  unfold State.bunkError
  (repeat' split) <;> simp [*]

@[simp] theorem State.bunkRead_mem (s : State) (i : StationId) (a n : Nat) : (State.bunkRead s i a n).st.mem = s.mem := by
  simp [State.bunkRead, *]

@[simp] theorem State.sideRead_mem (s : State) (i : StationId) (a n : Nat) : (State.sideRead s i a n).st.mem = s.mem := by
  simp [State.sideRead, *]

@[simp] theorem State.bunkPart_mem (s : State) (sb : Bool) (errs : List (Nat × Ecc)) : (State.bunkPart s sb errs).mem = s.mem := by
  simp [State.bunkPart, *]

@[simp] theorem State.bunkWrite_mem (s : State) (i : StationId) (a : Nat) (bs : List Byte) : (State.bunkWrite s i a bs).mem = s.mem := by
  simp [State.bunkWrite, *]

@[simp] theorem State.sideWrite_mem (s : State) (i : StationId) (a : Nat) (bs : List Byte) : (State.sideWrite s i a bs).mem = s.mem := by
  simp [State.sideWrite, *]

@[simp] theorem State.bunkZero_mem (s : State) (i : StationId) (line n : Nat) : (State.bunkZero s i line n).mem = s.mem := by
  simp [State.bunkZero, *]

@[simp] theorem State.rowRead_mem (s : State) (h : Handle) (i : StationId) (r : Nat) : (State.rowRead s h i r).2.1.mem = s.mem := by
  simp [State.rowRead, *]

@[simp] theorem State.rowWrite_mem (s : State) (h : Handle) (i : StationId) (r : Nat) (es : List Nat) : (State.rowWrite s h i r es).mem = s.mem := by
  simp [State.rowWrite, *]

/-- Memory after reset is in its form: nothing is listed. -/
@[simp] theorem State.reset_wf : Memory.wf State.reset.mem = true := rfl

/-- Equal reads are equal memories: a memory in its form is what it reads. -/
theorem Memory.wf_iff (m : List Host.Cell) : Memory.wf m = true ↔ SMap.rising m = true ∧ ∀ p ∈ m, p.2 ≠ 0 := by
  simp [Memory.wf, SMap.wf_iff]

theorem State.ctxRead_wf {s : State} {c : Cid} {a n : Nat} {o : ReadRes} (ho : s.ctxRead c a n = some o)
    (hw : Memory.wf s.mem = true) : Memory.wf o.st.mem = true := by
  obtain ⟨l, -, rfl⟩ := Option.map_eq_some_iff.mp ho
  exact foldl_inv (fun q : ReadRes => Memory.wf q.st.mem = true) _ _ _ (fun b a h => State.memRead_wf _ _ _ h) hw

@[simp] theorem State.memWrites_wf (s : State) (l : List (Nat × Nat)) (bs : List Byte) (h : Memory.wf s.mem = true) :
    Memory.wf (s.memWrites l bs).mem = true := by
  induction l generalizing s bs with
  | nil => exact h
  | cons p t ih => exact ih _ _ (State.memWrite_wf _ _ _ h)

theorem State.ctxWrite_wf {s : State} {c : Cid} {a : Nat} {bs : List Byte} {o : State} (ho : s.ctxWrite c a bs = some o)
    (hw : Memory.wf s.mem = true) : Memory.wf o.mem = true := by
  obtain ⟨l, -, rfl⟩ := Option.map_eq_some_iff.mp ho
  exact State.memWrites_wf _ _ _ hw

end Sys2Proof.Machine
end

