-- ==== Sys2Proof/Laws/MemorySeq.lean ====
section
/-! SUPPORT. What the sequencer, the array, the vector unit and haulage do to device memory: nothing, or they keep its canonical form. -/

namespace Sys2Proof.Machine

set_option linter.all false

/-! ### Machine/Ops.lean -/

@[simp] theorem State.setCtx_wf (s : State) (c : Cid) (x : Ctx) (hw : Memory.wf s.mem = true) : Memory.wf (State.setCtx s c x).mem = true := by
  simp +contextual [State.setCtx, *]

@[simp] theorem State.setStn_wf (s : State) (i : StationId) (x : Station) (hw : Memory.wf s.mem = true) : Memory.wf (State.setStn s i x).mem = true := by
  simp +contextual [State.setStn, *]

@[simp] theorem State.setHnd_wf (s : State) (h : HandleId) (x : Handle) (hw : Memory.wf s.mem = true) : Memory.wf (State.setHnd s h x).mem = true := by
  simp +contextual [State.setHnd, *]

@[simp] theorem State.setInst_wf (s : State) (no : Nat) (x : Option SInst) (hw : Memory.wf s.mem = true) : Memory.wf (State.setInst s no x).mem = true := by
  simp +contextual [State.setInst, *]

@[simp] theorem State.setPass_wf (s : State) (no : Nat) (x : Option Pass) (hw : Memory.wf s.mem = true) : Memory.wf (State.setPass s no x).mem = true := by
  simp +contextual [State.setPass, *]

@[simp] theorem State.setHub_wf (s : State) (h : HubId) (x : Hub) (hw : Memory.wf s.mem = true) : Memory.wf (State.setHub s h x).mem = true := by
  simp +contextual [State.setHub, *]

@[simp] theorem State.setQue_wf (s : State) (h : HubId) (q : QueueId) (x : Queue) (hw : Memory.wf s.mem = true) : Memory.wf (State.setQue s h q x).mem = true := by
  simp +contextual [State.setQue, *]

@[simp] theorem State.setMill_wf (s : State) (m : Fin 2) (x : Mill) (hw : Memory.wf s.mem = true) : Memory.wf (State.setMill s m x).mem = true := by
  simp +contextual [State.setMill, *]

@[simp] theorem State.setStore_wf (s : State) (i : Nat) (x : Store) (hw : Memory.wf s.mem = true) : Memory.wf (State.setStore s i x).mem = true := by
  simp +contextual [State.setStore, *]

@[simp] theorem State.setSmp_wf (s : State) (c : Cid) (x : Sampler) (hw : Memory.wf s.mem = true) : Memory.wf (State.setSmp s c x).mem = true := by
  simp +contextual [State.setSmp, *]

@[simp] theorem State.setBport_wf (s : State) (p : PortId) (x : Port) (hw : Memory.wf s.mem = true) : Memory.wf (State.setBport s p x).mem = true := by
  simp +contextual [State.setBport, *]

@[simp] theorem State.takeFree_mem (s : State) : (State.takeFree s).2.mem = s.mem := by
  simp [State.takeFree, *]

@[simp] theorem State.setFld_wf (s : State) (F : Fld) (v : Nat) (i : Nat) (j : Nat) (hw : Memory.wf s.mem = true) : Memory.wf (State.setFld s F v i j).mem = true := by
  simp +contextual [State.setFld, *]

/-! ### Machine/Handles.lean -/

@[simp] theorem State.setFill_mem (s : State) (h : HandleId) (n : Nat) : (State.setFill s h n).mem = s.mem := by
  simp [State.setFill, *]

@[simp] theorem State.addFill_mem (s : State) (h : HandleId) (n : Nat) : (State.addFill s h n).mem = s.mem := by
  simp [State.addFill, *]

@[simp] theorem State.settleProv_mem (s : State) : (State.settleProv s).mem = s.mem := by
  simp [State.settleProv, *]

@[simp] theorem State.register_mem (s : State) (a : Access) : (State.register s a).mem = s.mem := by
  simp [State.register, *]

@[simp] theorem State.regReader_mem (s : State) (no : Nat) (h : HandleId) (set : StationSet) : (State.regReader s no h set).mem = s.mem := by
  simp [State.regReader, *]

@[simp] theorem State.regWriter_mem (s : State) (no : Nat) (h : HandleId) (set : StationSet) : (State.regWriter s no h set).mem = s.mem := by
  simp [State.regWriter, *]

@[simp] theorem State.endAccs_mem (s : State) (p : Access → Bool) (set : StationSet) : (State.endAccs s p set).mem = s.mem := by
  simp [State.endAccs, *]

@[simp] theorem State.endAt_mem (s : State) (no : Nat) (i : StationId) : (State.endAt s no i).mem = s.mem := by
  simp [State.endAt, *]

@[simp] theorem State.dropNo_mem (s : State) (no : Nat) : (State.dropNo s no).mem = s.mem := by
  simp [State.dropNo, *]

@[simp] theorem State.endNo_mem (s : State) (no : Nat) : (State.endNo s no).mem = s.mem := by
  simp [State.endNo, *]

@[simp] theorem State.startPurge_mem (s : State) (h : HandleId) (keep : Bool) : (State.startPurge s h keep).mem = s.mem := by
  simp [State.startPurge, *]

@[simp] theorem State.freeHandle_mem (s : State) (h : HandleId) : (State.freeHandle s h).mem = s.mem := by
  simp [State.freeHandle, *]

@[simp] theorem State.purged_mem (s : State) (h : HandleId) (keep : Bool) : (State.purged s h keep).mem = s.mem := by
  simp [State.purged, *]

@[simp] theorem State.setBankPwr_mem (s : State) (i : StationId) (b : Nat) (x : BPwr) : (State.setBankPwr s i b x).mem = s.mem := by
  simp [State.setBankPwr, *]

@[simp] theorem State.scrubRound_mem (s : State) (i : StationId) : (State.scrubRound s i).mem = s.mem := by
  simp [State.scrubRound, *]

@[simp] theorem State.endPurge_mem (s : State) (h : HandleId) (keep : Bool) : (State.endPurge s h keep).mem = s.mem := by
  simp [State.endPurge, *]

@[simp] theorem State.wakeBank_mem (s : State) (i : StationId) (b : Nat) : (State.wakeBank s i b).mem = s.mem := by
  unfold State.wakeBank
  dsimp only
  (repeat' split) <;> simp +contextual [*]

@[simp] theorem State.sleepBank_mem (s : State) (i : StationId) (b : Nat) : (State.sleepBank s i b).mem = s.mem := by
  simp [State.sleepBank, *]

@[simp] theorem State.stampBanks_mem (s : State) (x : Handle) : (State.stampBanks s x).mem = s.mem := by
  simp [State.stampBanks, *]

/-! ### Machine/Lanes.lean -/

@[simp] theorem State.laneWords_mem (words : Nat) (s : State) (n : StationId × Bool) : (State.laneWords words s n).mem = s.mem := by
  simp [State.laneWords, *]

@[simp] theorem State.passWords_mem (s : State) (p : Pass) (words : Nat) : (State.passWords s p words).mem = s.mem := by
  simp [State.passWords, *]

@[simp] theorem State.passCut_mem (s : State) (p : Pass) (words : Nat) : (State.passCut s p words).mem = s.mem := by
  simp [State.passCut, *]

/-! ### Machine/Seq.lean -/

@[simp] theorem State.modBoth_mem (s : State) (c : Cid) (f : Ctx → Ctx) : (State.modBoth s c f).mem = s.mem := by
  simp [State.modBoth, *]

@[simp] theorem State.dropStream_mem (s : State) (h : HubId) (q : QueueId) : (State.dropStream s h q).mem = s.mem := by
  unfold State.dropStream
  dsimp only
  (repeat' split) <;> simp +contextual [*]

@[simp] theorem State.dropShadow_mem (s : State) (h : HubId) (q : QueueId) : (State.dropShadow s h q).mem = s.mem := by
  unfold State.dropShadow
  dsimp only
  (repeat' split) <;> simp +contextual [*]

@[simp] theorem State.dropStreams_mem (s : State) (c : Cid) (p : Stream → Bool) : (State.dropStreams s c p).mem = s.mem := by
  simp [State.dropStreams, *]

@[simp] theorem State.dropVus_mem (s : State) (gone : Update → Bool) : (State.dropVus s gone).mem = s.mem := by
  simp [State.dropVus, *]

@[simp] theorem State.abortCtx_mem (s : State) (c : Cid) : (State.abortCtx s c).mem = s.mem := by
  simp [State.abortCtx, *]
  apply foldl_mem
  intro t a
  (repeat' split) <;> simp [*]

@[simp] theorem State.cancelAhead_mem (s : State) (c : Cid) : (State.cancelAhead s c).mem = s.mem := by
  simp [State.cancelAhead, *]

@[simp] theorem State.checkBudget_mem (s : State) (c : Cid) : (State.checkBudget s c).mem = s.mem := by
  simp [State.checkBudget, *]

@[simp] theorem State.faultCtx_mem (s : State) (c : Cid) (code : BitVec 16) (src : Src) (detail : Nat) : (State.faultCtx s c code src detail).mem = s.mem := by
  simp [State.faultCtx, *]

@[simp] theorem State.seqFault_mem (s : State) (c : Cid) (code : BitVec 16) : (State.seqFault s c code).mem = s.mem := by
  simp [State.seqFault, *]

@[simp] theorem State.stopCtx_mem (s : State) (c : Cid) (code : BitVec 16) : (State.stopCtx s c code).mem = s.mem := by
  simp [State.stopCtx, *]

@[simp] theorem State.seqRun_mem (s : State) (c : Cid) (enc : Bool) (regs : List Nat) (body : State → State) (h_body : ∀ (v0 : State), (body v0).mem = v0.mem) : (State.seqRun s c enc regs body).mem = s.mem := by
  simp [State.seqRun, *]

@[simp] theorem State.nextPc_mem (s : State) (c : Cid) (words : Nat) : (State.nextPc s c words).mem = s.mem := by
  simp [State.nextPc, *]

@[simp] theorem State.goto_mem (s : State) (c : Cid) (a : Word) : (State.goto s c a).mem = s.mem := by
  simp [State.goto, *]

@[simp] theorem State.pastReturn_mem (s : State) (c : Cid) : (State.pastReturn s c).mem = s.mem := by
  simp [State.pastReturn, *]

@[simp] theorem State.reqToken_mem (s : State) (c : Cid) : (State.reqToken s c).mem = s.mem := by
  simp [State.reqToken, *]

@[simp] theorem State.countCross_mem (s : State) (c : Cid) : (State.countCross s c).mem = s.mem := by
  simp [State.countCross, *]

@[simp] theorem State.claim_mem (s : State) (c : Cid) (n : BitVec 32) : (State.claim s c n).mem = s.mem := by
  simp [State.claim, *]

@[simp] theorem State.crossRun_mem (s : State) (c : Cid) (cross : Bool) (words : Nat) (body : State → State) (h_body : ∀ (v0 : State), (body v0).mem = v0.mem) : (State.crossRun s c cross words body).mem = s.mem := by
  simp [State.crossRun, *]

@[simp] theorem State.checked_mem (s : State) (c : Cid) (l : List (Option (BitVec 16))) (body : State → State) (h_body : ∀ (v0 : State), (body v0).mem = v0.mem) : (State.checked s c l body).mem = s.mem := by
  unfold State.checked
  (repeat' split) <;> simp [*]

@[simp] theorem State.queueInst_mem (s : State) (no : Nat) (x : SInst) : (State.queueInst s no x).mem = s.mem := by
  simp [State.queueInst, *]

@[simp] theorem State.enqueueInst_mem (s : State) (x : SInst) : (State.enqueueInst s x).mem = s.mem := by
  simp [State.enqueueInst, *]

/-! ### Machine/Control.lean -/

@[simp] theorem State.endSegment_mem (s : State) (c : Cid) (enc : Bool) (halt : Bool) (bells : Nat) : (State.endSegment s c enc halt bells).mem = s.mem := by
  simp [State.endSegment, *]

@[simp] theorem State.ldsValue_mem (s : State) (c : Cid) (ord : Nat) (v : Word) : (State.ldsValue s c ord v).2.mem = s.mem := by
  unfold State.ldsValue
  (repeat' split) <;> simp [*]

/-! ### Machine/Sync.lean -/

@[simp] theorem State.firstWork_mem (s : State) (c : Cid) : (State.firstWork s c).mem = s.mem := by
  unfold State.firstWork
  dsimp only
  (repeat' split) <;> simp +contextual [*]

@[simp] theorem State.commitSegment_mem (s : State) (c : Cid) (enc : Bool) (bells : Nat) : (State.commitSegment s c enc bells).mem = s.mem := by
  simp [State.commitSegment, *]

@[simp] theorem State.reachBarrier_mem (s : State) (c : Cid) (set : StationSet) : (State.reachBarrier s c set).mem = s.mem := by
  simp [State.reachBarrier, *]

@[simp] theorem State.flushStores_wf (s : State) (c : Cid) (hw : Memory.wf s.mem = true) : Memory.wf (State.flushStores s c).mem = true := by
  simp +contextual [State.flushStores, *]

@[simp] theorem State.postCmd_mem (s : State) (c : Cid) (code : BitVec 3) (target : BitVec 2) : (State.postCmd s c code target).mem = s.mem := by
  simp [State.postCmd, *]

/-! ### Machine/RegAcc.lean -/

@[simp] theorem WOut.map_st (o : WOut) (f : State → State) : (o.map f).st = f o.st := rfl
@[simp] theorem WOut.map_denied (o : WOut) (f : State → State) : (o.map f).denied = o.denied := rfl
@[simp] theorem WOut.ite_st (c : Prop) [Decidable c] (a b : WOut) : (if c then a else b).st = if c then a.st else b.st :=
  apply_ite ..
@[simp] theorem WOut.foldl_mem {α : Type} (f : WOut → α → WOut) (l : List α) (s : WOut)
    (h : ∀ t a, (f t a).st.mem = t.st.mem) : (l.foldl f s).st.mem = s.st.mem := by
  induction l generalizing s with
  | nil => rfl
  | cons a l ih => simp [List.foldl, ih, h]

@[simp] theorem WOut.map_mem (o : WOut) (f : State → State) (h_f : ∀ (v0 : State), (f v0).mem = v0.mem) : (WOut.map o f).st.mem = o.st.mem := by
  simp [WOut.map, *]

@[simp] theorem WOut.outside_mem (o : WOut) (off : Nat) : (WOut.outside o off).st.mem = o.st.mem := by
  simp [WOut.outside, *]

@[simp] theorem WOut.absent_mem (o : WOut) (off : Nat) : (WOut.absent o off).st.mem = o.st.mem := by
  simp [WOut.absent, *]

@[simp] theorem WOut.reject_mem (o : WOut) (off : Nat) : (WOut.reject o off).st.mem = o.st.mem := by
  simp [WOut.reject, *]

@[simp] theorem WOut.refuse_mem (o : WOut) : (WOut.refuse o).st.mem = o.st.mem := by
  simp [WOut.refuse, *]

@[simp] theorem State.privWrite_mem (s : State) (who : Requester) (body : WOut → WOut) (h_body : ∀ (v0 : WOut), (body v0).st.mem = v0.st.mem) : (State.privWrite s who body).st.mem = s.mem := by
  simp [State.privWrite, *]

@[simp] theorem State.stoppedWrite_mem (s : State) (busy : Bool) (off : Nat) (body : WOut → WOut) (h_body : ∀ (v0 : WOut), (body v0).st.mem = v0.st.mem) : (State.stoppedWrite s busy off body).st.mem = s.mem := by
  simp [State.stoppedWrite, *]

@[simp] theorem State.setCell_mem (s : State) (off : Nat) (f : FieldDef) (v : Nat) : (State.setCell s off f v).mem = s.mem := by
  simp [State.setCell, *]

@[simp] theorem fieldWrite_mem (who : Requester) (off : Nat) (busy locked : Bool) (v : Word) (o : WOut) (f : FieldDef) : (fieldWrite who off busy locked v o f).st.mem = o.st.mem := by
  unfold fieldWrite
  (repeat' split) <;> simp [*]

@[simp] theorem State.regFields_mem (s : State) (who : Requester) (d : RegDef) (off : Nat) (busy locked : Bool) (v : Word) : (State.regFields s who d off busy locked v).st.mem = s.mem := by
  simp [State.regFields, *]

@[simp] theorem State.regPlain_mem (s : State) (who : Requester) (off : Nat) (busy locked : Bool) (v : Word) : (State.regPlain s who off busy locked v).st.mem = s.mem := by
  unfold State.regPlain
  (repeat' split) <;> simp [*]

/-! ### Machine/Vec.lean -/

@[simp] theorem State.rowVals_mem (s : State) (h : Handle) (i : StationId) (r : Nat) (rowBlocks : Bool) : (State.rowVals s h i r rowBlocks).2.1.mem = s.mem := by
  unfold State.rowVals
  (repeat' split) <;> simp [*]

@[simp] theorem State.readTensor_mem (s : State) (h : Handle) (i : StationId) (n : Nat) (rowBlocks : Bool) : (State.readTensor s h i n rowBlocks).2.1.mem = s.mem := by
  simp [State.readTensor, *]

@[simp] theorem State.readIn_mem (s : State) (h : Handle) (i : StationId) (n : Nat) (rowBlocks : Bool) : (State.readIn s h i n rowBlocks).2.1.mem = s.mem := by
  simp [State.readIn, *]

@[simp] theorem State.imageRead_mem (s : State) (h : Handle) (i : StationId) (len : Nat) : (State.imageRead s h i len).st.mem = s.mem := by
  unfold State.imageRead
  repeat' (first
    | (simp [*]; done) | intro _
    | (refine (foldl_proj (fun q : ReadRes => q.st.mem) _ _ _ ?_).trans ?_)
    | (refine (foldl_mem _ _ _ ?_).trans ?_) | (refine (foldl_mem_mid _ _ _ ?_).trans ?_)
    | (refine (foldl_mem_snd _ _ _ ?_).trans ?_) | (refine (foldl_mem_fst _ _ _ ?_).trans ?_)
    | (refine (mem_of_snd (by assumption)).trans ?_) | (refine (mem_of_mid (by assumption)).trans ?_)
    | (refine (mem_of_fst (by assumption)).trans ?_) | split | simp [*])

@[simp] theorem State.writeRows_mem (s : State) (h : Handle) (i : StationId) (r0 : Nat) (rows : List (List Val)) (k : Conv) : (State.writeRows s h i r0 rows k).1.mem = s.mem := by
  unfold State.writeRows
  (repeat' split) <;> simp [*]

/-! ### Machine/Cell.lean -/

@[simp] theorem State.readSlices_mem (s : State) (h : Handle) (i : StationId) (fmt r0 k : Nat) : (State.readSlices s h i fmt r0 k).2.1.mem = s.mem := by
  unfold State.readSlices
  dsimp only
  (repeat' split) <;> simp +contextual [*]

/-! ### Machine/Ring.lean -/

@[simp] theorem State.dispatchTo_mem (s : State) (c : Cid) (w : NWords) (mask : StationSet) (checks : List (Option (BitVec 16))) (note : State → State) (mk : StationSet → SInst) (acc : Nat → StationSet → State → State) (h_note : ∀ (v0 : State), (note v0).mem = v0.mem) (h_acc : ∀ (v0 : Nat) (v1 : StationSet) (v2 : State), (acc v0 v1 v2).mem = v2.mem) : (State.dispatchTo s c w mask checks note mk acc).mem = s.mem := by
  simp [State.dispatchTo, *]

@[simp] theorem State.dispatch_mem (s : State) (c : Cid) (w : NWords) (kind : SKind) (mask : StationSet) (off : Nat) (checks : List (Option (BitVec 16))) (acc : Nat → StationSet → State → State) (h_acc : ∀ (v0 : Nat) (v1 : StationSet) (v2 : State), (acc v0 v1 v2).mem = v2.mem) : (State.dispatch s c w kind mask off checks acc).mem = s.mem := by
  simp [State.dispatch, *]

@[simp] theorem State.dispatchMember_mem (s : State) (c : Cid) (w : NWords) (kind : SKind) (mask : StationSet) (off : Nat) (tag : Nat) (checks : List (Option (BitVec 16))) (acc : Nat → StationSet → State → State) (h_acc : ∀ (v0 : Nat) (v1 : StationSet) (v2 : State), (acc v0 v1 v2).mem = v2.mem) : (State.dispatchMember s c w kind mask off tag checks acc).mem = s.mem := by
  simp [State.dispatchMember, *]

@[simp] theorem State.traceIssue_mem (s : State) (i : StationId) (x : SInst) : (State.traceIssue s i x).mem = s.mem := by
  simp [State.traceIssue, *]

@[simp] theorem State.traceDone_mem (s : State) (i : StationId) (x : SInst) : (State.traceDone s i x).mem = s.mem := by
  simp [State.traceDone, *]

@[simp] theorem State.popInst_mem (s : State) (i : StationId) (no : Nat) : (State.popInst s i no).mem = s.mem := by
  unfold State.popInst
  (repeat' split) <;> simp [*]

@[simp] theorem State.instDone_mem (s : State) (i : StationId) (no : Nat) : (State.instDone s i no).mem = s.mem := by
  unfold State.instDone
  (repeat' split) <;> simp [*]

@[simp] theorem State.tryRelease_mem (s : State) (no : Nat) : (State.tryRelease s no).mem = s.mem := by
  unfold State.tryRelease
  (repeat' split) <;> simp [*]

@[simp] theorem State.passMember_mem (s : State) (ord : Nat) (c : Cid) (i : StationId) : (State.passMember s ord c i).mem = s.mem := by
  unfold State.passMember
  dsimp only
  (repeat' split) <;> simp +contextual [*]

@[simp] theorem State.countMma_mem (s : State) (c : Cid) (i : StationId) (t words gated : Nat) : (State.countMma s c i t words gated).mem = s.mem := by
  simp [State.countMma, *]

@[simp] theorem State.runMma_mem (s : State) (a : Slices) (x : SInst) (i : StationId) (d : Nat) (init : SMap (BitVec 40)) : (State.runMma s a x i d init).2.mem = s.mem := by
  unfold State.runMma
  dsimp only
  (repeat' split) <;> simp +contextual [*]

@[simp] theorem State.startMma_mem (s : State) (p : Pass) (a : Slices) (i : StationId) (no : Nat) : (State.startMma s p a i no).mem = s.mem := by
  unfold State.startMma
  repeat' (first
    | (simp [*]; done) | intro _
    | (refine (mem_of_snd (by assumption)).trans ?_) | (refine (mem_of_mid (by assumption)).trans ?_)
    | (refine (mem_of_fst (by assumption)).trans ?_) | split | simp [*])

@[simp] theorem State.writeSlices_mem (s : State) (h : Handle) (i : StationId) (off : Nat) (a : Slices) : (State.writeSlices s h i off a).mem = s.mem := by
  simp [State.writeSlices, *]

@[simp] theorem State.loadRows_mem (s : State) (i : StationId) (l : LoadSrc) : (State.loadRows s i l).2.1.mem = s.mem := by
  unfold State.loadRows
  dsimp only
  (repeat' split) <;> simp +contextual [*]

@[simp] theorem State.drainRows_mem (s : State) (i : StationId) (x : SInst) (acc : SMap (BitVec 40)) : (State.drainRows s i x acc).mem = s.mem := by
  unfold State.drainRows
  repeat' (first
    | (simp [*]; done) | intro _
    | (refine (foldl_mem _ _ _ ?_).trans ?_) | (refine (foldl_mem_mid _ _ _ ?_).trans ?_)
    | (refine (foldl_mem_snd _ _ _ ?_).trans ?_) | (refine (foldl_mem_fst _ _ _ ?_).trans ?_)
    | (refine (mem_of_snd (by assumption)).trans ?_) | (refine (mem_of_mid (by assumption)).trans ?_)
    | (refine (mem_of_fst (by assumption)).trans ?_) | split | simp [*])

@[simp] theorem State.finishDrain_mem (s : State) (i : StationId) (no : Nat) : (State.finishDrain s i no).mem = s.mem := by
  unfold State.finishDrain
  (repeat' split) <;> simp [*]

@[simp] theorem State.mmaEnds_mem (s : State) (st : StationId) (b : Bank) (m : Nat) : (State.mmaEnds s st b m).mem = s.mem := by
  unfold State.mmaEnds
  dsimp only
  (repeat' split) <;> simp +contextual [*]

@[simp] theorem State.loadDone_mem (s : State) (i : StationId) (no : Nat) : (State.loadDone s i no).mem = s.mem := by
  unfold State.loadDone
  (repeat' split) <;> simp [*]

@[simp] theorem State.replayEnds_mem (s : State) (st : StationId) (bank : Fin 2) (b : Bank) : (State.replayEnds s st bank b).mem = s.mem := by
  unfold State.replayEnds
  (repeat' split) <;> simp [*]

@[simp] theorem State.mmaClean_mem (s : State) (st : StationId) (bank : Fin 2) : (State.mmaClean s st bank).mem = s.mem := by
  unfold State.mmaClean
  dsimp only
  (repeat' split) <;> simp +contextual [*]

@[simp] theorem State.residueFault_mem (s : State) (st : StationId) (bank : Fin 2) (row col : Fin 128) : (State.residueFault s st bank row col).mem = s.mem := by
  unfold State.residueFault
  dsimp only
  (repeat' split) <;> simp +contextual [*]

/-! ### Machine/Sampler.lean -/

@[simp] theorem State.pushMissed_mem (s : State) (k : Nat) (f : PushFate) : (State.pushMissed s k f).mem = s.mem := by
  unfold State.pushMissed
  (repeat' split) <;> simp [*]

@[simp] theorem State.takeSlot_mem (s : State) (k : Nat) : (State.takeSlot s k).mem = s.mem := by
  simp [State.takeSlot, *]

@[simp] theorem State.pushEnd_wf (s : State) (k : Nat) (weight : BitVec 16) (hw : Memory.wf s.mem = true) : Memory.wf (State.pushEnd s k weight).mem = true := by
  unfold State.pushEnd
  (repeat' split) <;> simp +contextual [*]

@[simp] theorem State.holdPush_mem (s : State) (k : Nat) (h : HeldPush) : (State.holdPush s k h).mem = s.mem := by
  simp [State.holdPush, *]

@[simp] theorem State.pushSlot_wf (s : State) (k : Nat) (weight : BitVec 16) (bytes : List Byte) (hw : Memory.wf s.mem = true) : Memory.wf (State.pushSlot s k weight bytes).mem = true := by
  unfold State.pushSlot
  (repeat' split) <;> simp +contextual [*]

@[simp] theorem State.denyWrite_mem (s : State) (a : Nat) : (State.denyWrite s a).mem = s.mem := by
  simp [State.denyWrite, *]

@[simp] theorem State.setPushes_mem (s : State) (l : List Push) : (State.setPushes s l).mem = s.mem := by
  simp [State.setPushes, *]

@[simp] theorem State.putPush_mem (s : State) (p : Push) : (State.putPush s p).mem = s.mem := by
  simp [State.putPush, *]

@[simp] theorem State.dropPush_mem (s : State) (tag : BitVec 8) : (State.dropPush s tag).mem = s.mem := by
  simp [State.dropPush, *]

@[simp] theorem State.freeSlot_mem (s : State) (p : Push) : (State.freeSlot s p).mem = s.mem := by
  simp [State.freeSlot, *]

@[simp] theorem State.badPush_mem (s : State) (p : Push) : (State.badPush s p).mem = s.mem := by
  simp [State.badPush, *]

@[simp] theorem State.purgedPush_mem (s : State) (p : Push) : (State.purgedPush s p).mem = s.mem := by
  simp [State.purgedPush, *]

@[simp] theorem State.pushPut_wf (s : State) (p : Push) (d : List Byte) (hw : Memory.wf s.mem = true) : Memory.wf (State.pushPut s p d).mem = true := by
  unfold State.pushPut
  simp +contextual [*]
  (repeat' split) <;> simp +contextual [*]

@[simp] theorem State.releaseLalux_wf (s : State) (p : Push) (hw : Memory.wf s.mem = true) : Memory.wf (State.releaseLalux s p).mem = true := by
  unfold State.releaseLalux
  (repeat' split) <;> simp +contextual [*]

@[simp] theorem State.releasePush_wf (s : State) (k : Nat) (h : HeldPush) (hw : Memory.wf s.mem = true) : Memory.wf (State.releasePush s k h).mem = true := by
  unfold State.releasePush
  (repeat' split) <;> simp +contextual [*]

@[simp] theorem State.releaseHeld_wf (k : Nat) (x0 : Nat) (s : State) (hw : Memory.wf s.mem = true) : Memory.wf (State.releaseHeld k x0 s).mem = true := by
  induction x0 generalizing s with
  | zero => simp [State.releaseHeld, *]
  | succ n ih => (unfold State.releaseHeld; (repeat' split) <;> simp +contextual [*])

@[simp] theorem State.publish_wf (s : State) (hw : Memory.wf s.mem = true) : Memory.wf (State.publish s).mem = true := by
  simp +contextual [State.publish, *]

@[simp] theorem drawPerm_mem (key : RngKey) (s : State) (p : DataPos) : (drawPerm key s p).st.mem = s.mem := by
  unfold drawPerm
  dsimp only
  (repeat' split) <;> simp +contextual [*]

@[simp] theorem drawWeighted_wf (key : RngKey) (k : Nat) (x0 : Nat) (s : State) (x2 : DataPos) (x3 : Bool) (hw : Memory.wf s.mem = true) : Memory.wf (drawWeighted key k x0 s x2 x3).st.mem = true := by
  induction x0 generalizing s x2 x3 with
  | zero => simp [drawWeighted, *]
  | succ n ih => (simp only [drawWeighted]; (repeat' split) <;> simp +contextual [*])

@[simp] theorem State.draw_wf (s : State) (c : Cid) (eval : Bool) (key : RngKey) (p : DataPos) (hw : Memory.wf s.mem = true) : Memory.wf (State.draw s c eval key p).st.mem = true := by
  unfold State.draw
  simp +contextual [*]
  (repeat' split) <;> simp +contextual [*]

@[simp] theorem State.drawRows_wf (s : State) (c : Cid) (eval : Bool) (key : RngKey) (x0 : Nat) (hw : Memory.wf s.mem = true) : Memory.wf (State.drawRows s c eval key x0).2.1.mem = true := by
  induction x0 generalizing s with
  | zero => simp [State.drawRows, *]
  | succ n ih => (simp only [State.drawRows]; (repeat' split) <;> simp +contextual [*])

@[simp] theorem State.commitDraws_mem (s : State) (c : Cid) : (State.commitDraws s c).mem = s.mem := by
  simp [State.commitDraws, *]

@[simp] theorem State.loadPos_mem (s : State) (c : Cid) (b : List Byte) : (State.loadPos s c b).mem = s.mem := by
  simp [State.loadPos, *]

@[simp] theorem State.wrSsCfg_mem (s : State) (who : Requester) (k : Nat) (v : Word) : (State.wrSsCfg s who k v).st.mem = s.mem := by
  simp [State.wrSsCfg, *]

@[simp] theorem State.wrSmpCfg_mem (s : State) (c : Cid) (v : Word) : (State.wrSmpCfg s c v).st.mem = s.mem := by
  simp [State.wrSmpCfg, *]

/-! ### Machine/Secured.lean -/

@[simp] theorem State.secSlots_mem (s : State) (no : Nat) : (State.secSlots s no).mem = s.mem := by
  unfold State.secSlots
  (repeat' split) <;> simp [*]

/-! ### Machine/Vector.lean -/

@[simp] theorem State.noteFlag_mem (s : State) (c : Cid) (fs : Nat) : (State.noteFlag s c fs).mem = s.mem := by
  simp [State.noteFlag, *]

@[simp] theorem State.dispatchVec_mem (s : State) (c : Cid) (w : NWords) (kind : SKind) (mask : StationSet) (fs : Option Nat) (checks : List (Option (BitVec 16))) (acc : Nat → StationSet → State → State) (h_acc : ∀ (v0 : Nat) (v1 : StationSet) (v2 : State), (acc v0 v1 v2).mem = v2.mem) : (State.dispatchVec s c w kind mask fs checks acc).mem = s.mem := by
  unfold State.dispatchVec
  (repeat' split) <;> simp [*]

@[simp] theorem State.storeRows_mem (s : State) (h : Handle) (i : StationId) (sol : Bool) (rows : List (List R32)) : (State.storeRows s h i sol rows).1.mem = s.mem := by
  simp [State.storeRows, *]

@[simp] theorem State.runVop_mem (s : State) (i : StationId) (x : SInst) : (State.runVop s i x).st.mem = s.mem := by
  unfold State.runVop
  dsimp only
  (repeat' split) <;> simp +contextual [*]

@[simp] theorem State.runVopLoad_mem (s : State) (i : StationId) (x : SInst) : (State.runVopLoad s i x).st.mem = s.mem := by
  simp [State.runVopLoad, *]

@[simp] theorem State.runLutLoad_mem (s : State) (i : StationId) (x : SInst) : (State.runLutLoad s i x).st.mem = s.mem := by
  simp [State.runLutLoad, *]

@[simp] theorem State.runLut_mem (s : State) (i : StationId) (x : SInst) (back : Bool) : (State.runLut s i x back).st.mem = s.mem := by
  unfold State.runLut
  dsimp only
  (repeat' split) <;> simp +contextual [*]

@[simp] theorem State.chainWords_mem (s : State) (run : List StationId) (words : Nat) : (State.chainWords s run words).mem = s.mem := by
  unfold State.chainWords
  repeat' (first
    | (simp [*]; done) | intro _
    | (refine (foldl_mem _ _ _ ?_).trans ?_) | (refine (foldl_mem_mid _ _ _ ?_).trans ?_)
    | (refine (foldl_mem_snd _ _ _ ?_).trans ?_) | (refine (foldl_mem_fst _ _ _ ?_).trans ?_)
    | (refine (mem_of_snd (by assumption)).trans ?_) | (refine (mem_of_mid (by assumption)).trans ?_)
    | (refine (mem_of_fst (by assumption)).trans ?_) | split | simp [*])

@[simp] theorem State.runVred_mem (s : State) (grp : List StationId) (x : SInst) : (State.runVred s grp x).st.mem = s.mem := by
  unfold State.runVred
  dsimp only
  (repeat' split) <;> simp +contextual [*]

@[simp] theorem State.runVcvt_mem (s : State) (i : StationId) (x : SInst) : (State.runVcvt s i x).st.mem = s.mem := by
  unfold State.runVcvt
  dsimp only
  (repeat' split) <;> simp +contextual [*]

@[simp] theorem State.runVrng_mem (s : State) (i : StationId) (x : SInst) : (State.runVrng s i x).st.mem = s.mem := by
  simp [State.runVrng, *]

@[simp] theorem State.runVector_mem (s : State) (i : StationId) (x : SInst) : (State.runVector s i x).st.mem = s.mem := by
  unfold State.runVector
  dsimp only
  (repeat' split) <;> simp +contextual [*]

@[simp] theorem State.recordUpdate_mem (s : State) (c : Cid) (h : HandleId) : (State.recordUpdate s c h).mem = s.mem := by
  simp [State.recordUpdate, *]

@[simp] theorem State.giveFlag_mem (s : State) (c : Cid) (ord : Nat) (v : Word) : (State.giveFlag s c ord v).mem = s.mem := by
  simp [State.giveFlag, *]

/-! ### Machine/Haul.lean -/

@[simp] theorem State.placeStream_mem (s : State) (h : HubId) (q : QueueId) (r : Stream) : (State.placeStream s h q r).mem = s.mem := by
  simp [State.placeStream, *]

@[simp] theorem State.samplerRun_mem (s : State) (c : Cid) (here : Bool) (body : State → State) (h_body : ∀ (v0 : State), (body v0).mem = v0.mem) : (State.samplerRun s c here body).mem = s.mem := by
  simp [State.samplerRun, *]

@[simp] theorem State.dispatchStream_mem (s : State) (c : Cid) (w : NWords) (checks : List (Option (BitVec 16))) (r0 : Stream) : (State.dispatchStream s c w checks r0).mem = s.mem := by
  simp [State.dispatchStream, *]

end Sys2Proof.Machine
end

