-- ==== Sys2Proof/Laws/MemoryUnits.lean ====
section
/-! SUPPORT. What the other units do to device memory: nothing, or they keep its canonical form. -/

namespace Sys2Proof.Machine

set_option linter.all false

/-! ### Machine/Streams.lean -/

@[simp] theorem State.traceStream_mem (s : State) (h : HubId) (q : QueueId) (r : Stream) (fin : Bool) : (State.traceStream s h q r fin).mem = s.mem := by
  simp [State.traceStream, *]

@[simp] theorem State.streamFault_mem (s : State) (h : HubId) (r : Stream) (code : BitVec 16) : (State.streamFault s h r code).mem = s.mem := by
  simp [State.streamFault, *]

@[simp] theorem State.tryRun_mem (s : State) (h : HubId) (q : QueueId) : (State.tryRun s h q).mem = s.mem := by
  unfold State.tryRun
  dsimp only
  (repeat' split) <;> simp +contextual [*]

@[simp] theorem Stream.put_mem (s : State) (h : HubId) (q : QueueId) (shadow : Bool) (r : Stream) : (Stream.put s h q shadow r).mem = s.mem := by
  simp [Stream.put, *]

@[simp] theorem State.drawFor_wf (s : State) (r : Stream) (b : List Word) (hw : Memory.wf s.mem = true) : Memory.wf (State.drawFor s r b).2.1.mem = true := by
  unfold State.drawFor
  simp +contextual [*]
  (repeat' split) <;> simp +contextual [*]

@[simp] theorem State.fetch_wf (s : State) (r : Stream) (a n : Nat) (hw : Memory.wf s.mem = true) : Memory.wf (State.fetch s r a n).2.1.mem = true := by
  unfold State.fetch
  repeat' (first
    | (simp +contextual [*]; done) | intro _
    | (refine State.ctxRead_wf (by assumption) ?_)
    | (refine wf_of_snd (by assumption) ?_) | (refine wf_of_mid (by assumption) ?_)
    | (refine wf_of_fst (by assumption) ?_) | split | simp [*])

@[simp] theorem State.checkHeader_wf (s : State) (hub : HubId) (q : QueueId) (r : Stream) (tr : Bool) (hw : Memory.wf s.mem = true) : Memory.wf (State.checkHeader s hub q r tr).st.mem = true := by
  unfold State.checkHeader
  simp +contextual [*]
  (repeat' split) <;> simp +contextual [*]

@[simp] theorem State.rowPut_mem (s : State) (h : Handle) (i : StationId) (r : Nat) (b : List Byte) : (State.rowPut s h i r b).mem = s.mem := by
  simp [State.rowPut, *]

@[simp] theorem State.noteIndex_mem (s : State) (hub : HubId) (q : QueueId) (r : Stream) (m : Move) : (State.noteIndex s hub q r m).1.mem = s.mem := by
  unfold State.noteIndex
  (repeat' split) <;> simp [*]

@[simp] theorem Moved.refused_mem (s : State) (hub : HubId) : (Moved.refused s hub).st.mem = s.mem := by
  simp [Moved.refused, *]

theorem State.sectionBytes_wf {s : State} {r : Stream} {n : Nat} {o : ReadRes} (ho : s.sectionBytes r n = some o)
    (hw : Memory.wf s.mem = true) : Memory.wf o.st.mem = true := State.ctxRead_wf ho hw

@[simp] theorem State.saveSection_wf (s : State) (hub : HubId) (r : Stream) (x : RecShape) (i : StationId) (hw : Memory.wf s.mem = true) : Memory.wf (State.saveSection s hub r x i).1.st.mem = true := by
  unfold State.saveSection
  repeat' (first
    | (simp +contextual [*]; done) | intro _
    | (refine State.ctxWrite_wf (by assumption) ?_)
    | (refine wf_of_snd (by assumption) ?_) | (refine wf_of_mid (by assumption) ?_)
    | (refine wf_of_fst (by assumption) ?_) | split | simp [*])

@[simp] theorem State.doSave_wf (s : State) (hub : HubId) (r : Stream) (code : Nat) (hw : Memory.wf s.mem = true) : Memory.wf (State.doSave s hub r code).1.st.mem = true := by
  unfold State.doSave
  simp +contextual [*]
  (repeat' split) <;> simp +contextual [*]

@[simp] theorem State.useLines_mem (s : State) (hub : HubId) (q : QueueId) : (State.useLines s hub q).mem = s.mem := by
  simp [State.useLines, *]

@[simp] theorem State.endStream_mem (s : State) (hub : HubId) (q : QueueId) (r : Stream) : (State.endStream s hub q r).mem = s.mem := by
  simp [State.endStream, *]

/-! ### Machine/Bunker.lean -/

@[simp] theorem State.wakeFor_mem (s : State) (l : List (StationId × Nat)) : (State.wakeFor s l).mem = s.mem := by
  simp [State.wakeFor, *]

@[simp] theorem State.snapHandle_mem (s : State) : (State.snapHandle s).mem = s.mem := by
  simp [State.snapHandle, *]
  apply foldl_mem
  intro t a
  (repeat' split) <;> simp [*]

@[simp] theorem State.wrHsel_mem (s : State) (who : Requester) (v : Word) : (State.wrHsel s who v).st.mem = s.mem := by
  simp [State.wrHsel, *]

@[simp] theorem State.wrPwrCtl_mem (s : State) (v : Word) : (State.wrPwrCtl s v).st.mem = s.mem := by
  simp [State.wrPwrCtl, *]

@[simp] theorem State.wrCtxRange_mem (s : State) (who : Requester) (c : Nat) (v : Word) : (State.wrCtxRange s who c v).st.mem = s.mem := by
  unfold State.wrCtxRange State.privWrite
  split <;> rfl

@[simp] theorem State.wrScrubEn_mem (s : State) (who : Requester) (v : Word) : (State.wrScrubEn s who v).st.mem = s.mem := by
  simp [State.wrScrubEn, *]

@[simp] theorem State.sleepReq_mem (s : State) (i : StationId) (v : Word) : (State.sleepReq s i v).mem = s.mem := by
  simp [State.sleepReq, *]

@[simp] theorem State.wakeReq_mem (s : State) (i : StationId) (v : Word) : (State.wakeReq s i v).mem = s.mem := by
  simp [State.wakeReq, *]

@[simp] theorem State.scrubUe_mem (s : State) (i : StationId) (sb : Bool) (line w : Nat) : (State.scrubUe s i sb line w).mem = s.mem := by
  unfold State.scrubUe
  dsimp only
  (repeat' split) <;> simp +contextual [*]

@[simp] theorem State.scrubRead_mem (s : State) (i : StationId) (line : Nat) : (State.scrubRead s i line).mem = s.mem := by
  unfold State.scrubRead
  repeat' (first
    | (simp [*]; done) | intro _
    | (refine (foldl_mem _ _ _ ?_).trans ?_) | (refine (foldl_mem_mid _ _ _ ?_).trans ?_)
    | (refine (foldl_mem_snd _ _ _ ?_).trans ?_) | (refine (foldl_mem_fst _ _ _ ?_).trans ?_)
    | (refine (mem_of_snd (by assumption)).trans ?_) | (refine (mem_of_mid (by assumption)).trans ?_)
    | (refine (mem_of_fst (by assumption)).trans ?_) | split | simp [*])

/-! ### Machine/Regions.lean -/

@[simp] theorem State.setRgn_mem (s : State) (r base size state cls : Nat) : (State.setRgn s r base size state cls).mem = s.mem := by
  simp [State.setRgn, *]

@[simp] theorem State.placePart_mem (s : State) (k u n : Nat) : (State.placePart s k u n).mem = s.mem := by
  simp [State.placePart, *]

@[simp] theorem State.purgeRegion_mem (s : State) (r : Nat) : (State.purgeRegion s r).mem = s.mem := by
  unfold State.purgeRegion
  (repeat' split) <;> simp [*]

@[simp] theorem State.purgeRegions_mem (s : State) (c : Cid) : (State.purgeRegions s c).mem = s.mem := by
  simp [State.purgeRegions, *]

@[simp] theorem State.placeTail_mem (s : State) (h : Nat) : (State.placeTail s h).mem = s.mem := by
  simp [State.placeTail, *]

@[simp] theorem State.placeTailings_mem (s : State) : (State.placeTailings s).mem = s.mem := by
  simp [State.placeTailings, *]

@[simp] theorem State.freeRegion_wf (s : State) (r : Nat) (hw : Memory.wf s.mem = true) : Memory.wf (State.freeRegion s r).mem = true := by
  simp +contextual [State.freeRegion, *]

@[simp] theorem State.allocRgn_mem (s : State) (r : Nat) (v : Word) : (State.allocRgn s r v).st.mem = s.mem := by
  simp [State.allocRgn, *]

@[simp] theorem State.releaseRgn_mem (s : State) (r : Nat) : (State.releaseRgn s r).st.mem = s.mem := by
  simp [State.releaseRgn, *]

@[simp] theorem State.wrRgnB_mem (s : State) (who : Requester) (r : Nat) (state : Nat) (v : Word) : (State.wrRgnB s who r state v).st.mem = s.mem := by
  unfold State.wrRgnB
  (repeat' split) <;> simp [*]

@[simp] theorem State.wrRgnA_mem (s : State) (who : Requester) (r : Nat) (v : Word) : (State.wrRgnA s who r v).st.mem = s.mem := by
  simp [State.wrRgnA, *]

@[simp] theorem State.wrScrubCtl_mem (s : State) (v : Word) : (State.wrScrubCtl s v).st.mem = s.mem := by
  simp [State.wrScrubCtl, *]

@[simp] theorem State.patrol_wf (s : State) (a : Nat) (hw : Memory.wf s.mem = true) : Memory.wf (State.patrol s a).mem = true := by
  unfold State.patrol
  (repeat' split) <;> simp +contextual [*]

/-! ### Machine/Mill.lean -/

@[simp] theorem State.coefPut_mem (s : State) (tgt buf entry field : Nat) (v : Word) : (State.coefPut s tgt buf entry field v).mem = s.mem := by
  simp [State.coefPut, *]

@[simp] theorem State.coefWrite_mem (s : State) (x : CoefWrite) : (State.coefWrite s x).mem = s.mem := by
  simp [State.coefWrite, *]

@[simp] theorem State.coefSet_mem (s : State) (x : CoefWrite) : (State.coefSet s x).mem = s.mem := by
  simp [State.coefSet, *]

@[simp] theorem State.coefBell_mem (s : State) (c : Cid) : (State.coefBell s c).mem = s.mem := by
  simp [State.coefBell, *]

@[simp] theorem State.coefDrop_mem (s : State) (c : Cid) : (State.coefDrop s c).mem = s.mem := by
  simp [State.coefDrop, *]

@[simp] theorem State.wrMillEntry_mem (s : State) (who : Requester) (c : Cid) (v : Word) : (State.wrMillEntry s who c v).st.mem = s.mem := by
  unfold State.wrMillEntry State.privWrite
  split <;> rfl

@[simp] theorem State.readUE_wf (s : State) (a n : Nat) (hw : Memory.wf s.mem = true) : Memory.wf (State.readUE s a n).2.1.mem = true := by
  simp +contextual [State.readUE, *]

@[simp] theorem State.readF32_wf (s : State) (a m : Nat) (hw : Memory.wf s.mem = true) : Memory.wf (State.readF32 s a m).2.1.mem = true := by
  simp +contextual [State.readF32, *]

@[simp] theorem State.readMat_wf (s : State) (a blk h : Nat) (hw : Memory.wf s.mem = true) : Memory.wf (State.readMat s a blk h).2.1.mem = true := by
  simp +contextual [State.readMat, *]

@[simp] theorem State.writeMat_wf (s : State) (a blk : Nat) (m : Mat) (hw : Memory.wf s.mem = true) : Memory.wf (State.writeMat s a blk m).mem = true := by
  simp +contextual [State.writeMat, *]

@[simp] theorem State.refreshOne_wf (s : State) (r : Refresh) (a h : Nat) (hw : Memory.wf s.mem = true) : Memory.wf (State.refreshOne s r a h).1.mem = true := by
  unfold State.refreshOne
  simp +contextual [*]
  (repeat' split) <;> simp +contextual [*]

/-! ### Machine/Update.lean -/

@[simp] theorem State.newUpdate_mem (s : State) (c : Cid) (w : NWords) (hwv : Bool) : (State.newUpdate s c w hwv).2.mem = s.mem := by
  simp [State.newUpdate, *]

@[simp] theorem State.handReceived_mem (s : State) (m : Fin 2) (r : Red) : (State.handReceived s m r).mem = s.mem := by
  simp [State.handReceived, *]

@[simp] theorem State.handWaiting_mem (s : State) (m : Fin 2) (u : Update) : (State.handWaiting s m u).mem = s.mem := by
  unfold State.handWaiting
  (repeat' split) <;> simp [*]

@[simp] theorem State.dropRed_mem (s : State) (no : Nat) : (State.dropRed s no).mem = s.mem := by
  simp [State.dropRed, *]

@[simp] theorem State.kronStats_wf (s : State) (u : Update) (g : Nat → Nat → Nat) (hw : Memory.wf s.mem = true) : Memory.wf (State.kronStats s u g).1.mem = true := by
  unfold State.kronStats
  repeat' (first
    | (simp +contextual [*]; done) | intro _
    | (refine foldl_wf _ _ _ ?_ ?_) | (refine foldl_wf_mid _ _ _ ?_ ?_)
    | (refine foldl_wf_snd _ _ _ ?_ ?_) | (refine foldl_wf_fst _ _ _ ?_ ?_)
    | (refine wf_of_snd (by assumption) ?_) | (refine wf_of_mid (by assumption) ?_)
    | (refine wf_of_fst (by assumption) ?_) | split | simp [*])

@[simp] theorem State.blockFlags_wf (s : State) (slot blk ix : Nat) (hw : Memory.wf s.mem = true) : Memory.wf (State.blockFlags s slot blk ix).2.1.mem = true := by
  simp +contextual [State.blockFlags, *]

@[simp] theorem State.anyInvalid_wf (s : State) (slot blk : Nat) (x0 : List KBlock) (hw : Memory.wf s.mem = true) : Memory.wf (State.anyInvalid s slot blk x0).2.1.mem = true := by
  induction x0 generalizing s with
  | nil => simp [State.anyInvalid, *]
  | cons a l ih => (simp only [State.anyInvalid]; (repeat' split) <;> simp +contextual [*])

@[simp] theorem State.tileRow_mem (s : State) (h : Handle) (i : StationId) (r : Nat) (es : List Nat) : (State.tileRow s h i r es).mem = s.mem := by
  simp [State.tileRow, *]

@[simp] theorem State.endUpdate_wf (s : State) (u : Update) (hw : Memory.wf s.mem = true) : Memory.wf (State.endUpdate s u).mem = true := by
  simp +contextual [State.endUpdate, *]

@[simp] theorem State.updateUE_mem (s : State) (c : Cid) (code : BitVec 16) (src : Src) (a : Nat) : (State.updateUE s c code src a).mem = s.mem := by
  simp [State.updateUE, *]

@[simp] theorem State.noteUE_mem (s : State) (m : Fin 2) (a : Nat) : (State.noteUE s m a).mem = s.mem := by
  simp [State.noteUE, *]

@[simp] theorem State.dlogAppend_wf (s : State) (u : Update) (hw : Memory.wf s.mem = true) : Memory.wf (State.dlogAppend s u).mem = true := by
  unfold State.dlogAppend
  simp +contextual [*]
  (repeat' split) <;> simp +contextual [*]

@[simp] theorem State.countUpdate_mem (s : State) (m : Nat) (u : Update) : (State.countUpdate s m u).mem = s.mem := by
  unfold State.countUpdate
  (repeat' split) <;> simp [*]

@[simp] theorem State.vuOver_mem (s : State) (d : Red) : (State.vuOver s d).2.1.mem = s.mem := by
  unfold State.vuOver
  (repeat' split) <;> simp [*]

/-! ### Machine/Link.lean -/

@[simp] theorem State.portCnt_mem (s : State) (p : LinkPort) (k n : Nat) : (State.portCnt s p k n).mem = s.mem := by
  unfold State.portCnt
  (repeat' split) <;> simp [*]

@[simp] theorem State.modPort_mem (s : State) (p : LinkPort) (f : Port → Port) : (State.modPort s p f).mem = s.mem := by
  simp [State.modPort, *]

@[simp] theorem State.failover_mem (s : State) (p : LinkPort) : (State.failover s p).mem = s.mem := by
  unfold State.failover
  (repeat' split) <;> simp [*]

@[simp] theorem State.pairMsg_mem (s : State) (p : PortId) (step : Nat) (data : List Byte) : (State.pairMsg s p step data).mem = s.mem := by
  simp [State.pairMsg, *]

@[simp] theorem State.pairHello_mem (s : State) (p : PortId) : (State.pairHello s p).mem = s.mem := by
  simp [State.pairHello, *]

@[simp] theorem State.pairSign_mem (s : State) (p : PortId) : (State.pairSign s p).mem = s.mem := by
  simp [State.pairSign, *]

@[simp] theorem State.linkUp_mem (s : State) (p : LinkPort) (st : PortSt) (lanes : BitVec 8) : (State.linkUp s p st lanes).mem = s.mem := by
  unfold State.linkUp
  (repeat' split) <;> simp [*]

@[simp] theorem State.retrain_mem (s : State) (p : LinkPort) : (State.retrain s p).mem = s.mem := by
  unfold State.retrain
  (repeat' split) <;> simp [*]

@[simp] theorem State.leaveBuf_mem (s : State) (p : PortId) (vl : BitVec 3) (cls : BitVec 2) (n : Nat) : (State.leaveBuf s p vl cls n).mem = s.mem := by
  simp [State.leaveBuf, *]

@[simp] theorem State.releaseDn_mem (s : State) : (State.releaseDn s).mem = s.mem := by
  simp [State.releaseDn, *]

@[simp] theorem State.takeDown_mem (s : State) (p : PortId) : (State.takeDown s p).mem = s.mem := by
  simp [State.takeDown, *]

@[simp] theorem State.takeOver_mem (s : State) (p : PortId) : (State.takeOver s p).mem = s.mem := by
  simp [State.takeOver, *]

@[simp] theorem State.retrainCmd_mem (s : State) (p : PortId) : (State.retrainCmd s p).mem = s.mem := by
  simp [State.retrainCmd, *]

@[simp] theorem State.portEnable_mem (s : State) (p : PortId) (en : Bool) : (State.portEnable s p en).mem = s.mem := by
  simp [State.portEnable, *]

@[simp] theorem State.llxFlit_mem (s : State) (dn : Bool) (no : BitVec 16) : (State.llxFlit s dn no).1.mem = s.mem := by
  unfold State.llxFlit
  dsimp only
  (repeat' split) <;> simp +contextual [*]

@[simp] theorem State.countFlits_mem (s : State) (p : LinkPort) (flits : List Flit) : (State.countFlits s p flits).mem = s.mem := by
  unfold State.countFlits
  (repeat' split) <;> simp [*]

@[simp] theorem State.putFrame_mem (s : State) (p : LinkPort) (no : BitVec 16) (flits : List Flit) : (State.putFrame s p no flits).mem = s.mem := by
  simp [State.putFrame, *]

@[simp] theorem State.putAlign_mem (s : State) (p : LinkPort) : (State.putAlign s p).mem = s.mem := by
  simp [State.putAlign, *]

@[simp] theorem State.putAgain_mem (s : State) (p : LinkPort) (f : BitVec 16 × List Flit) (rest : List (BitVec 16 × List Flit)) : (State.putAgain s p f rest).mem = s.mem := by
  simp [State.putAgain, *]

@[simp] theorem State.flitLeft_mem (s : State) (m : TxMsg) : (State.flitLeft s m).mem = s.mem := by
  unfold State.flitLeft
  (repeat' split) <;> simp [*]

@[simp] theorem State.berkenFrame_mem (s : State) (p : PortId) (no : BitVec 16) : (State.berkenFrame s p no).1.mem = s.mem := by
  unfold State.berkenFrame
  repeat' (first
    | (simp [*]; done) | intro _
    | (refine (foldl_mem _ _ _ ?_).trans ?_) | (refine (foldl_mem_mid _ _ _ ?_).trans ?_)
    | (refine (foldl_mem_snd _ _ _ ?_).trans ?_) | (refine (foldl_mem_fst _ _ _ ?_).trans ?_)
    | (refine (mem_of_snd (by assumption)).trans ?_) | (refine (mem_of_mid (by assumption)).trans ?_)
    | (refine (mem_of_fst (by assumption)).trans ?_) | split | simp [*])

@[simp] theorem State.frameSend_mem (s : State) (p : LinkPort) : (State.frameSend s p).mem = s.mem := by
  unfold State.frameSend
  dsimp only
  (repeat' split) <;> simp +contextual [*]

/-! ### Machine/Fabric.lean -/

@[simp] theorem State.queueAt_mem (s : State) (p : PortId) (m : FMsg) (cls : BitVec 2) (own : Option Cid) (buf : Option (PortId × BitVec 2)) : (State.queueAt s p m cls own buf).mem = s.mem := by
  simp [State.queueAt, *]

@[simp] theorem State.freeBuf_mem (s : State) (m : FMsg) (x0 : Option (PortId × BitVec 2)) : (State.freeBuf s m x0).mem = s.mem := by
  unfold State.freeBuf
  (repeat' split) <;> simp [*]

@[simp] theorem State.resetLimit_mem (s : State) (p : PortId) (m : FMsg) (buf : Option (PortId × BitVec 2)) (go : State → State) (h_go : ∀ (v0 : State), (go v0).mem = v0.mem) : (State.resetLimit s p m buf go).mem = s.mem := by
  unfold State.resetLimit
  (repeat' split) <;> simp [*]

@[simp] theorem State.unreach_mem (s : State) (plane : Nat) : (State.unreach s plane).mem = s.mem := by
  simp [State.unreach, *]

@[simp] theorem State.routeOut_mem (s : State) (m : FMsg) (came : Option (Nat × Bool)) (own : Option Cid) (buf : Option (PortId × BitVec 2)) : (State.routeOut s m came own buf).mem = s.mem := by
  unfold State.routeOut
  dsimp only
  (repeat' split) <;> simp +contextual [*]

@[simp] theorem State.sendOn_mem (s : State) (m : FMsg) (own : Option Cid) : (State.sendOn s m own).mem = s.mem := by
  simp [State.sendOn, *]

@[simp] theorem State.sendMsg_mem (s : State) (m : FMsg) (own : Option Cid) : (State.sendMsg s m own).mem = s.mem := by
  simp [State.sendMsg, *]

@[simp] theorem State.winDeny_mem (s : State) (plane : Nat) : (State.winDeny s plane).mem = s.mem := by
  simp [State.winDeny, *]

@[simp] theorem State.samplePush_wf (s : State) (m : FMsg) (hw : Memory.wf s.mem = true) : Memory.wf (State.samplePush s m).mem = true := by
  unfold State.samplePush
  simp +contextual [*]
  (repeat' split) <;> simp +contextual [*]

@[simp] theorem State.refTick_mem (s : State) : (State.refTick s).mem = s.mem := by
  simp [State.refTick, *]

@[simp] theorem State.sendHeartbeats_mem (s : State) (k : Nat) : (State.sendHeartbeats s k).mem = s.mem := by
  simp [State.sendHeartbeats, *]

@[simp] theorem State.discipline_mem (s : State) (off : Int) : (State.discipline s off).mem = s.mem := by
  simp [State.discipline, *]

@[simp] theorem State.countOffset_mem (s : State) : (State.countOffset s).mem = s.mem := by
  simp [State.countOffset, *]

@[simp] theorem State.countMissed_mem (s : State) (k : Nat) : (State.countMissed s k).mem = s.mem := by
  simp [State.countMissed, *]

@[simp] theorem State.flood_mem (s : State) (n : Notice) (but : Option PortId) : (State.flood s n but).mem = s.mem := by
  simp [State.flood, *]

@[simp] theorem State.endPairing_mem (s : State) (n : Nat) (reason : Nat) (peer : NodeId) : (State.endPairing s n reason peer).mem = s.mem := by
  simp [State.endPairing, *]

@[simp] theorem State.reliefFailed_mem (s : State) (pos : NodeId) : (State.reliefFailed s pos).mem = s.mem := by
  simp [State.reliefFailed, *]

@[simp] theorem State.unpark_mem (s : State) (id : NodeId) : (State.unpark s id).mem = s.mem := by
  simp [State.unpark, *]

@[simp] theorem State.remap_mem (s : State) (id pos : NodeId) : (State.remap s id pos).mem = s.mem := by
  unfold State.remap
  (repeat' split) <;> simp [*]

@[simp] theorem State.wrRtData_mem (s : State) (v : Word) : (State.wrRtData s v).st.mem = s.mem := by
  simp [State.wrRtData, *]

@[simp] theorem State.wrVlCfg_mem (s : State) (who : Requester) (v : Word) : (State.wrVlCfg s who v).st.mem = s.mem := by
  simp [State.wrVlCfg, *]

@[simp] theorem State.wrBknCfg_mem (s : State) (who : Requester) (v : Word) : (State.wrBknCfg s who v).st.mem = s.mem := by
  simp [State.wrBknCfg, *]

@[simp] theorem State.wrBknLock_mem (s : State) (v : Word) : (State.wrBknLock s v).st.mem = s.mem := by
  simp [State.wrBknLock, *]

@[simp] theorem State.wrPortCfg_mem (s : State) (p : PortId) (v : Word) : (State.wrPortCfg s p v).st.mem = s.mem := by
  simp [State.wrPortCfg, *]

/-! ### Machine/Reduce.lean -/

@[simp] theorem State.redMsg_mem (s : State) (r : Red) (me dst : NodeId) (kind b : Nat) (w2 w5 : Word) (data : List Byte) : (State.redMsg s r me dst kind b w2 w5 data).mem = s.mem := by
  simp [State.redMsg, *]

@[simp] theorem State.sendPart_mem (s : State) (r : Red) (me dst : NodeId) (p : Partial) : (State.sendPart s r me dst p).mem = s.mem := by
  simp [State.sendPart, *]

@[simp] theorem State.sendBlock_mem (s : State) (r : Red) (me dst : NodeId) (b : Nat) (x : RBlock) : (State.sendBlock s r me dst b x).mem = s.mem := by
  simp [State.sendBlock, *]

theorem State.land_wf {s : State} {c : Cid} {m : FMsg} {o : State} (ho : s.land c m = some o) (hw : Memory.wf s.mem = true) :
    Memory.wf o.mem = true := by
  unfold State.land at ho
  dsimp only at ho
  split at ho
  · obtain ⟨a, -, rfl⟩ := Option.map_eq_some_iff.mp ho
    exact State.memWrite_wf _ _ _ hw
  · exact absurd ho (by simp)

@[simp] theorem State.unlandOne_wf (s : State) (p : Landed) (hw : Memory.wf s.mem = true) : Memory.wf (State.unlandOne s p).2.1.mem = true := by
  simp +contextual [State.unlandOne, *]

@[simp] theorem State.takeLanded_wf (s : State) (c : Cid) (f : FMsg → Bool) (hw : Memory.wf s.mem = true) : Memory.wf (State.takeLanded s c f).2.1.mem = true := by
  simp +contextual [State.takeLanded, *]

@[simp] theorem State.collUE_mem (s : State) (c : Cid) (x0 : Option Nat) : (State.collUE s c x0).mem = s.mem := by
  unfold State.collUE
  (repeat' split) <;> simp [*]

@[simp] theorem State.takeKept_mem (s : State) (f : FMsg → Bool) : (State.takeKept s f).2.mem = s.mem := by
  simp [State.takeKept, *]

theorem State.landKept_wf {s : State} {k : Kept} {o : State} (ho : s.landKept k = some o) (hw : Memory.wf s.mem = true) :
    Memory.wf o.mem = true := by
  obtain ⟨t, h, rfl⟩ := Option.map_eq_some_iff.mp ho
  rw [State.freeBuf_mem]
  split at h
  · exact State.land_wf h hw
  · obtain ⟨c, -, h⟩ := List.exists_of_findSome?_eq_some h
    exact State.land_wf h hw

@[simp] theorem State.putRed_mem (s : State) (r : Red) : (State.putRed s r).mem = s.mem := by
  simp [State.putRed, *]

@[simp] theorem State.gatherOut_mem (s : State) (r : Red) (me : NodeId) (b d : Nat) (x : RBlock) : (State.gatherOut s r me b d x).mem = s.mem := by
  simp [State.gatherOut, *]

@[simp] theorem State.redTake_mem (s : State) (m : FMsg) (f : State → Red → NodeId → FMsg → State × Red) (h_f : ∀ v0_0 v0_1 v0_2 v0_3, (f v0_0 v0_1 v0_2 v0_3).1.mem = v0_0.mem) : (State.redTake s m f).mem = s.mem := by
  unfold State.redTake
  (repeat' split) <;> simp [*]

@[simp] theorem State.readHs_mem (s : State) (r : Red) : (State.readHs s r).2.1.mem = s.mem := by
  simp [State.readHs, *]

@[simp] theorem State.dieEvent_mem (s : State) (ev : Nat) : (State.dieEvent s ev).mem = s.mem := by
  simp [State.dieEvent, *]

@[simp] theorem State.lateFold_wf (s : State) (r : Red) (hw : Memory.wf s.mem = true) : Memory.wf (State.lateFold s r).mem = true := by
  unfold State.lateFold
  simp +contextual [*]
  (repeat' split) <;> simp +contextual [*]

@[simp] theorem State.takeFold_wf (s : State) (r : Red) (hw : Memory.wf s.mem = true) : Memory.wf (State.takeFold s r).1.mem = true := by
  unfold State.takeFold
  (repeat' split) <;> simp +contextual [*]

@[simp] theorem State.toHandles_mem (s : State) (r : Red) : (State.toHandles s r).mem = s.mem := by
  simp [State.toHandles, *]

@[simp] theorem State.countHandover_mem (s : State) (r : Red) : (State.countHandover s r).mem = s.mem := by
  simp [State.countHandover, *]

/-! ### Machine/Collect.lean -/

@[simp] theorem State.rowsOut_mem (s : State) (h : Handle) (i : StationId) (r0 n : Nat) : (State.rowsOut s h i r0 n).st.mem = s.mem := by
  unfold State.rowsOut
  repeat' (first
    | (simp [*]; done) | intro _
    | (refine (foldl_proj (fun q : ReadRes => q.st.mem) _ _ _ ?_).trans ?_)
    | (refine (foldl_mem _ _ _ ?_).trans ?_) | (refine (foldl_mem_mid _ _ _ ?_).trans ?_)
    | (refine (foldl_mem_snd _ _ _ ?_).trans ?_) | (refine (foldl_mem_fst _ _ _ ?_).trans ?_)
    | (refine (mem_of_snd (by assumption)).trans ?_) | (refine (mem_of_mid (by assumption)).trans ?_)
    | (refine (mem_of_fst (by assumption)).trans ?_) | split | simp [*])

@[simp] theorem State.rowsIn_mem (s : State) (h : Handle) (i : StationId) (r0 n off : Nat) (d : List Byte) : (State.rowsIn s h i r0 n off d).mem = s.mem := by
  simp [State.rowsIn, *]

@[simp] theorem State.collMsg_mem (s : State) (own : Cid) (me dst : NodeId) (m : FMsg) : (State.collMsg s own me dst m).mem = s.mem := by
  simp [State.collMsg, *]

@[simp] theorem State.gatherFwd_mem (s : State) (own : Cid) (me : NodeId) (d : Nat) (m : FMsg) : (State.gatherFwd s own me d m).mem = s.mem := by
  simp [State.gatherFwd, *]

@[simp] theorem State.bcastFwd_mem (s : State) (own : Cid) (me : NodeId) (m : FMsg) : (State.bcastFwd s own me m).mem = s.mem := by
  simp [State.bcastFwd, *]

@[simp] theorem State.putColl_mem (s : State) (x : Coll) : (State.putColl s x).mem = s.mem := by
  simp [State.putColl, *]

@[simp] theorem State.dropColl_mem (s : State) (no : Nat) : (State.dropColl s no).mem = s.mem := by
  simp [State.dropColl, *]

@[simp] theorem State.countRows_mem (s : State) (x : Coll) (rows : Nat) : (State.countRows s x rows).1.mem = s.mem := by
  simp [State.countRows, *]

@[simp] theorem State.gatherCount_mem (s : State) (x : Coll) : (State.gatherCount s x).mem = s.mem := by
  simp [State.gatherCount, *]

@[simp] theorem State.gatherPiece_mem (s : State) (x : Coll) (rank b : Nat) (d : List Byte) : (State.gatherPiece s x rank b d).mem = s.mem := by
  simp [State.gatherPiece, *]

@[simp] theorem State.gatherZeros_mem (s : State) (x : Coll) (which : NodeId → Bool) : (State.gatherZeros s x which).mem = s.mem := by
  simp [State.gatherZeros, *]

@[simp] theorem State.gatherLost_mem (s : State) (pos : NodeId) : (State.gatherLost s pos).mem = s.mem := by
  simp [State.gatherLost, *]

@[simp] theorem State.newColl_mem (s : State) (c : Cid) (kind : CollKind) (hs hd : HandleId) (g : Nat) (node : NodeId) (mtag : Nat) (ord : Nat) : (State.newColl s c kind hs hd g node mtag ord).2.mem = s.mem := by
  simp [State.newColl, *]

@[simp] theorem State.bcastPiece_mem (s : State) (x : Coll) (b : Nat) (d : List Byte) : (State.bcastPiece s x b d).mem = s.mem := by
  simp [State.bcastPiece, *]

@[simp] theorem State.collPlace_mem (s : State) (kind g : Nat) (m : FMsg) : (State.collPlace s kind g m).mem = s.mem := by
  unfold State.collPlace
  (repeat' split) <;> simp [*]

@[simp] theorem State.recvMsg_mem (s : State) (x : Coll) (m : FMsg) : (State.recvMsg s x m).mem = s.mem := by
  simp [State.recvMsg, *]

@[simp] theorem State.recvLanded_wf (s : State) (no : Nat) (x0 : List Landed) (hw : Memory.wf s.mem = true) : Memory.wf (State.recvLanded s no x0).mem = true := by
  induction x0 generalizing s with
  | nil => simp [State.recvLanded, *]
  | cons a l ih => (unfold State.recvLanded; (repeat' split) <;> simp +contextual [*])

@[simp] theorem State.recvKept_mem (s : State) (no : Nat) (x0 : List Kept) : (State.recvKept s no x0).mem = s.mem := by
  induction x0 generalizing s with
  | nil => simp [State.recvKept, *]
  | cons a l ih => (unfold State.recvKept; (repeat' split) <;> simp [*])

/-! ### Machine/Notice.lean -/

@[simp] theorem State.downDir_mem (s : State) (dir : Nat) : (State.downDir s dir).mem = s.mem := by
  simp [State.downDir, *]

@[simp] theorem State.noteCover_mem (s : State) (id : NodeId) : (State.noteCover s id).mem = s.mem := by
  simp [State.noteCover, *]

/-! ### Machine/Securing.lean -/

@[simp] theorem State.secWrite_mem (s : State) (t : Target) (u off : Nat) (b : List Byte) : (State.secWrite s t u off b).mem = s.mem := by
  simp [State.secWrite, *]

@[simp] theorem State.secWriteAll_mem (s : State) (z : Securing) (u off : Nat) (b : List Byte) : (State.secWriteAll s z u off b).mem = s.mem := by
  simp [State.secWriteAll, *]

@[simp] theorem State.regionBytes_mem (s : State) (h : HandleId) (i : StationId) : (State.regionBytes s h i).st.mem = s.mem := by
  simp [State.regionBytes, *]

@[simp] theorem State.readRanges_wf (s : State) (c : Cid) (l : List (Nat × Nat)) (hw : Memory.wf s.mem = true) : Memory.wf (State.readRanges s c l).2.1.mem = true := by
  unfold State.readRanges
  repeat' (first
    | (simp +contextual [*]; done) | intro _
    | (refine foldl_wf _ _ _ ?_ ?_) | (refine foldl_wf_mid _ _ _ ?_ ?_)
    | (refine foldl_wf_snd _ _ _ ?_ ?_) | (refine foldl_wf_fst _ _ _ ?_ ?_)
    | (refine wf_of_snd (by assumption) ?_) | (refine wf_of_mid (by assumption) ?_)
    | (refine wf_of_fst (by assumption) ?_) | split | simp [*])

@[simp] theorem State.stageCopy_wf (s : State) (z : Securing) (n : Nat) (h : HandleId) (hw : Memory.wf s.mem = true) : Memory.wf (State.stageCopy s z n h).2.1.mem = true := by
  unfold State.stageCopy
  repeat' (first
    | (simp +contextual [*]; done) | intro _
    | (refine foldl_wf _ _ _ ?_ ?_) | (refine foldl_wf_mid _ _ _ ?_ ?_)
    | (refine foldl_wf_snd _ _ _ ?_ ?_) | (refine foldl_wf_fst _ _ _ ?_ ?_)
    | (refine wf_of_snd (by assumption) ?_) | (refine wf_of_mid (by assumption) ?_)
    | (refine wf_of_fst (by assumption) ?_) | split | simp [*])

@[simp] theorem State.readItem_wf (s : State) (z : Securing) (n : Nat) (hw : Memory.wf s.mem = true) : Memory.wf (State.readItem s z n).2.1.mem = true := by
  unfold State.readItem
  (repeat' split) <;> simp +contextual [*]

@[simp] theorem State.setFlight_mem (s : State) (z : Securing) : (State.setFlight s z).mem = s.mem := by
  simp [State.setFlight, *]

@[simp] theorem State.itemRead_wf (s : State) (z : Securing) (n : Nat) (hw : Memory.wf s.mem = true) : Memory.wf (State.itemRead s z n).mem = true := by
  unfold State.itemRead
  (repeat' split) <;> simp +contextual [*]

@[simp] theorem State.secureCommit_mem (s : State) (c : Cid) (bell : Nat) : (State.secureCommit s c bell).mem = s.mem := by
  unfold State.secureCommit
  (repeat' split) <;> simp [*]

@[simp] theorem State.endFlight_mem (s : State) (z : Securing) : (State.endFlight s z).mem = s.mem := by
  simp [State.endFlight, *]

@[simp] theorem State.abandon_mem (s : State) (z : Securing) : (State.abandon s z).mem = s.mem := by
  simp [State.abandon, *]

@[simp] theorem State.secureDrop_mem (s : State) (c : Cid) : (State.secureDrop s c).mem = s.mem := by
  unfold State.secureDrop
  (repeat' split) <;> simp [*]

@[simp] theorem State.sendControl_mem (s : State) (z : Securing) : (State.sendControl s z).mem = s.mem := by
  simp [State.sendControl, *]

@[simp] theorem State.mgmt_mem (s : State) (dst : NodeId) (code w1 w2 w3 : Nat) (data : List Byte) : (State.mgmt s dst code w1 w2 w3 data).mem = s.mem := by
  simp [State.mgmt, *]

@[simp] theorem State.commitSecuring_mem (s : State) (z : Securing) : (State.commitSecuring s z).mem = s.mem := by
  unfold State.commitSecuring
  dsimp only
  (repeat' split) <;> simp +contextual [*]

@[simp] theorem State.secAck_mem (s : State) (n : Nat) : (State.secAck s n).mem = s.mem := by
  unfold State.secAck
  (repeat' split) <;> simp [*]

/-! ### Machine/Relief.lean -/

@[simp] theorem State.setPairing_mem (s : State) (n : Nat) (p : Pairing) : (State.setPairing s n p).mem = s.mem := by
  simp [State.setPairing, *]

@[simp] theorem State.pairLast_mem (s : State) (reason : Nat) (peer : NodeId) : (State.pairLast s reason peer).mem = s.mem := by
  simp [State.pairLast, *]

@[simp] theorem State.declare_mem (s : State) (n : Nat) : (State.declare s n).mem = s.mem := by
  simp [State.declare, *]

@[simp] theorem State.seqFor_mem (s : State) (n : Nat) (id : NodeId) : (State.seqFor s n id).mem = s.mem := by
  simp only [State.seqFor]

@[simp] theorem State.wrRelief_mem (s : State) (who : Requester) (n : Nat) (v : Word) : (State.wrRelief s who n v).st.mem = s.mem := by
  simp [State.wrRelief, *]

@[simp] theorem State.refused_mem (s : State) (n reason : Nat) : (State.refused s n reason).mem = s.mem := by
  simp [State.refused, *]

@[simp] theorem State.setCover_mem (s : State) (k : Nat) (x : Cover) : (State.setCover s k x).mem = s.mem := by
  simp [State.setCover, *]

@[simp] theorem State.declaration_mem (s : State) (m : FMsg) : (State.declaration s m).mem = s.mem := by
  unfold State.declaration
  dsimp only
  (repeat' split) <;> simp +contextual [*]

@[simp] theorem State.answered_mem (s : State) (m : FMsg) : (State.answered s m).mem = s.mem := by
  unfold State.answered
  (repeat' split) <;> simp [*]

@[simp] theorem State.setAct_mem (s : State) (x : Activation) : (State.setAct s x).mem = s.mem := by
  simp [State.setAct, *]

@[simp] theorem State.recordCame_mem (s : State) (m : FMsg) (k : Nat) (b : Bool) : (State.recordCame s m k b).mem = s.mem := by
  unfold State.recordCame
  (repeat' split) <;> simp [*]

@[simp] theorem State.remoteWrite_wf (s : State) (m : FMsg) (hw : Memory.wf s.mem = true) : Memory.wf (State.remoteWrite s m).mem = true := by
  unfold State.remoteWrite
  simp +contextual [*]
  (repeat' split) <;> simp +contextual [*]

@[simp] theorem State.reliefNotice_mem (s : State) (ident : NodeId) : (State.reliefNotice s ident).mem = s.mem := by
  simp [State.reliefNotice, *]

@[simp] theorem State.keepOthers_mem (s : State) (k : Nat) : (State.keepOthers s k).mem = s.mem := by
  simp [State.keepOthers, *]

@[simp] theorem State.digestQueries_mem (s : State) (x : Activation) (twin : NodeId) : (State.digestQueries s x twin).mem = s.mem := by
  simp [State.digestQueries, *]
  apply foldl_mem
  intro t a
  (repeat' split) <;> simp [*]

@[simp] theorem State.askCopy_mem (s : State) (x : Activation) (sr : Nat) (cur : Bool) : (State.askCopy s x sr cur).mem = s.mem := by
  unfold State.askCopy
  (repeat' split) <;> simp [*]

@[simp] theorem State.activate_mem (s : State) (k : Fin 8) (b : Bool) : (State.activate s k b).mem = s.mem := by
  unfold State.activate
  dsimp only
  (repeat' split) <;> simp +contextual [*]

@[simp] theorem State.activateDrop_mem (s : State) (k : Fin 8) : (State.activateDrop s k).mem = s.mem := by
  simp [State.activateDrop, *]

@[simp] theorem State.restoreConfig_mem (s : State) (d : SlotData) : (State.restoreConfig s d).mem = s.mem := by
  simp [State.restoreConfig, *]
  apply foldl_mem
  intro t a
  (repeat' split) <;> simp [*]

@[simp] theorem State.tryReady_mem (s : State) : (State.tryReady s).mem = s.mem := by
  unfold State.tryReady
  (repeat' split) <;> simp [*]

@[simp] theorem State.rejoined_mem (s : State) (sa : Nat) : (State.rejoined s sa).mem = s.mem := by
  unfold State.rejoined
  (repeat' split) <;> simp [*]

@[simp] theorem State.rejoinBell_mem (s : State) : (State.rejoinBell s).mem = s.mem := by
  unfold State.rejoinBell
  (repeat' split) <;> simp [*]

@[simp] theorem State.digestCame_mem (s : State) (m : FMsg) : (State.digestCame s m).mem = s.mem := by
  unfold State.digestCame
  (repeat' split) <;> simp [*]

@[simp] theorem State.digestReply_mem (s : State) (m : FMsg) : (State.digestReply s m).mem = s.mem := by
  unfold State.digestReply
  (repeat' split) <;> simp [*]

@[simp] theorem State.copyAsk_mem (s : State) (m : FMsg) : (State.copyAsk s m).mem = s.mem := by
  simp [State.copyAsk, *]

@[simp] theorem State.applyItem_wf (s : State) (x : Activation) (it : PItem) (hw : Memory.wf s.mem = true) : Memory.wf (State.applyItem s x it).mem = true := by
  unfold State.applyItem
  repeat' (first
    | (simp +contextual [*]; done) | intro _
    | (refine foldl_wf _ _ _ ?_ ?_) | (refine foldl_wf_mid _ _ _ ?_ ?_)
    | (refine foldl_wf_snd _ _ _ ?_ ?_) | (refine foldl_wf_fst _ _ _ ?_ ?_)
    | (refine wf_of_snd (by assumption) ?_) | (refine wf_of_mid (by assumption) ?_)
    | (refine wf_of_fst (by assumption) ?_) | split | simp [*])

@[simp] theorem State.release_mem (s : State) (m : FMsg) : (State.release s m).mem = s.mem := by
  unfold State.release
  (repeat' split) <;> simp [*]

/-! ### Machine/Domains.lean -/

@[simp] theorem State.resetBlock_mem (s : State) (lo n : Nat) : (State.resetBlock s lo n).mem = s.mem := by
  simp [State.resetBlock, *]

@[simp] theorem State.resetRegion_mem (s : State) (r : Nat) : (State.resetRegion s r).mem = s.mem := by
  simp [State.resetRegion, *]

@[simp] theorem State.resetStation_mem (s : State) (i : StationId) : (State.resetStation s i).mem = s.mem := by
  simp [State.resetStation, *]

@[simp] theorem State.groupHandles_mem (s : State) (g : Nat) : (State.groupHandles s g).mem = s.mem := by
  simp [State.groupHandles, *]

@[simp] theorem State.resetGroup_mem (s : State) (g : Nat) : (State.resetGroup s g).mem = s.mem := by
  simp [State.resetGroup, *]

@[simp] theorem State.resetMill_mem (s : State) (m : Fin 2) : (State.resetMill s m).mem = s.mem := by
  simp [State.resetMill, *]

@[simp] theorem State.resetHub_mem (s : State) (h : HubId) : (State.resetHub s h).mem = s.mem := by
  simp [State.resetHub, *]
  apply foldl_mem
  intro t a
  (repeat' split) <;> simp [*]

@[simp] theorem State.resetDie_mem (s : State) (d : Nat) : (State.resetDie s d).mem = s.mem := by
  simp [State.resetDie, *]
  apply foldl_mem
  intro t a
  (repeat' split) <;> simp [*]

@[simp] theorem State.resetLlx_mem (s : State) : (State.resetLlx s).mem = s.mem := by
  simp [State.resetLlx, *]

@[simp] theorem State.purgeAll_mem (s : State) : (State.purgeAll s).mem = s.mem := by
  simp [State.purgeAll, *]

@[simp] theorem State.resetRlf_mem (s : State) : (State.resetRlf s).mem = s.mem := by
  simp [State.resetRlf, *]

@[simp] theorem State.schedule_mem (s : State) (origin : Nat) : (State.schedule s origin).mem = s.mem := by
  simp [State.schedule, *]

@[simp] theorem State.resetSeq_mem (s : State) : (State.resetSeq s).mem = s.mem := by
  simp [State.resetSeq, *]

@[simp] theorem State.clearPert_mem (s : State) (d : Nat) : (State.clearPert s d).mem = s.mem := by
  simp [State.clearPert, *]

@[simp] theorem State.resetDomain_mem (s : State) (d : Nat) : (State.resetDomain s d).mem = s.mem := by
  simp [State.resetDomain, *]

@[simp] theorem State.unscan_mem (s : State) (dom : Nat → Bool) : (State.unscan s dom).mem = s.mem := by
  simp [State.unscan, *]

@[simp] theorem State.resetData_mem (s : State) : (State.resetData s).mem = s.mem := by
  simp [State.resetData, *]

@[simp] theorem State.dropPower_wf (s : State) : Memory.wf (State.dropPower s).mem = true := rfl

@[simp] theorem State.cause_mem (s : State) (k : Fin 9) : (State.cause s k).mem = s.mem := by
  simp [State.cause, *]

@[simp] theorem State.assertData_mem (s : State) (k : Fin 9) : (State.assertData s k).mem = s.mem := by
  simp [State.assertData, *]

@[simp] theorem State.pwrFail_wf (s : State) (aux : Bool) (hw : Memory.wf s.mem = true) : Memory.wf (State.pwrFail s aux).mem = true := by
  simp +contextual [State.pwrFail, *]

/-! ### Machine/Clocks.lean -/

@[simp] theorem State.changeStep_mem (s : State) (x : BitVec 3) : (State.changeStep s x).mem = s.mem := by
  simp [State.changeStep, *]

@[simp] theorem State.request_mem (s : State) (point : Nat) (x : BitVec 3) : (State.request s point x).mem = s.mem := by
  simp [State.request, *]

@[simp] theorem State.wrStepAt_mem (s : State) (v : Word) : (State.wrStepAt s v).st.mem = s.mem := by
  simp [State.wrStepAt, *]

@[simp] theorem State.modeRequest_mem (s : State) : (State.modeRequest s).mem = s.mem := by
  simp [State.modeRequest, *]

@[simp] theorem State.setClock_mem (s : State) (mode : Nat) : (State.setClock s mode).mem = s.mem := by
  simp [State.setClock, *]

@[simp] theorem profField_mem (F : Fld) (v : Nat) (o : WOut) : (profField F v o).st.mem = o.st.mem := by
  simp [profField, *]

@[simp] theorem State.wrProfile_mem (s : State) (v : Word) : (State.wrProfile s v).st.mem = s.mem := by
  simp [State.wrProfile, *]

@[simp] theorem State.limitFall_mem (s : State) : (State.limitFall s).mem = s.mem := by
  simp [State.limitFall, *]

@[simp] theorem State.limiter_mem (s : State) : (State.limiter s).mem = s.mem := by
  simp [State.limiter, *]

@[simp] theorem State.thermFall_mem (s : State) (again : Bool) : (State.thermFall s again).mem = s.mem := by
  simp [State.thermFall, *]

@[simp] theorem State.envelopeLoop_mem (s : State) : (State.envelopeLoop s).mem = s.mem := by
  simp [State.envelopeLoop, *]

@[simp] theorem State.wrDomReq_mem (s : State) (who : Requester) (v : Word) : (State.wrDomReq s who v).st.mem = s.mem := by
  simp [State.wrDomReq, *]

/-! ### Machine/Reset.lean -/

@[simp] theorem State.fresh_wf (s : State) (hw : Memory.wf s.mem = true) : Memory.wf (State.fresh s).mem = true := by
  simp +contextual [State.fresh, *]

@[simp] theorem State.resetFull_mem (s : State) : (State.resetFull s).mem = s.mem := by
  simp [State.resetFull, *]

@[simp] theorem State.kick_mem (s : State) : (State.kick s).mem = s.mem := by
  simp [State.kick, *]

@[simp] theorem State.assertDomain_mem (s : State) (d : Fin 50) (hold : Bool) : (State.assertDomain s d hold).mem = s.mem := by
  simp [State.assertDomain, *]

@[simp] theorem State.askReset_mem (s : State) (c : Cid) : (State.askReset s c).mem = s.mem := by
  simp [State.askReset, *]

@[simp] theorem State.assertForced_mem (s : State) : (State.assertForced s).mem = s.mem := by
  simp [State.assertForced, *]

@[simp] theorem State.wrRollback_mem (s : State) (who : Requester) (v : Word) : (State.wrRollback s who v).st.mem = s.mem := by
  unfold State.wrRollback
  (repeat' split) <;> simp [*]

/-! ### Machine/Debug.lean -/

@[simp] theorem State.debugCmd_mem (s : State) (who : Requester) (body : State → State) (h_body : ∀ (v0 : State), (body v0).mem = v0.mem) : (State.debugCmd s who body).st.mem = s.mem := by
  simp [State.debugCmd, *]

@[simp] theorem State.restart_mem (s : State) : (State.restart s).mem = s.mem := by
  unfold State.restart
  (repeat' split) <;> simp [*]

@[simp] theorem State.releaseStop_mem (s : State) (who : Requester) : (State.releaseStop s who).st.mem = s.mem := by
  simp [State.releaseStop, *]

@[simp] theorem State.stopWrite_mem (s : State) (who : Requester) (v : Word) : (State.stopWrite s who v).st.mem = s.mem := by
  simp [State.stopWrite, *]

@[simp] theorem State.dbgReset_mem (s : State) (who : Requester) : (State.dbgReset s who).st.mem = s.mem := by
  simp [State.dbgReset, *]

@[simp] theorem State.stopFields_mem (s : State) (v : Word) : (State.stopFields s v).mem = s.mem := by
  simp [State.stopFields, *]

@[simp] theorem State.wrStop_mem (s : State) (who : Requester) (v : Word) : (State.wrStop s who v).st.mem = s.mem := by
  simp [State.wrStop, *]

@[simp] theorem State.newNonce_mem (s : State) : (State.newNonce s).mem = s.mem := by
  simp [State.newNonce, *]

@[simp] theorem State.unlock_mem (s : State) : (State.unlock s).mem = s.mem := by
  simp [State.unlock, *]

@[simp] theorem State.wrUnlock_mem (s : State) (v : Word) : (State.wrUnlock s v).st.mem = s.mem := by
  simp [State.wrUnlock, *]

@[simp] theorem State.wrPert_mem (s : State) (who : Requester) (off : Nat) (v : Word) : (State.wrPert s who off v).st.mem = s.mem := by
  simp [State.wrPert, *]

@[simp] theorem State.wrTrCfg_mem (s : State) (who : Requester) (v : Word) : (State.wrTrCfg s who v).st.mem = s.mem := by
  simp [State.wrTrCfg, *]

@[simp] theorem State.wrTrPtr_mem (s : State) (who : Requester) (off : Nat) (v : Word) : (State.wrTrPtr s who off v).st.mem = s.mem := by
  simp [State.wrTrPtr, *]

@[simp] theorem State.wrToken_mem (s : State) (k : Nat) (v : Word) : (State.wrToken s k v).st.mem = s.mem := by
  simp [State.wrToken, *]

@[simp] theorem State.ringPut_wf (s : State) (h : Nat) (r : List Byte) (hw : Memory.wf s.mem = true) : Memory.wf (State.ringPut s h r).mem = true := by
  unfold State.ringPut
  (repeat' split) <;> simp +contextual [*]

/-! ### Machine/Bell.lean -/

@[simp] theorem State.traceEnd_mem (s : State) (c : Cid) (len outcome : Nat) : (State.traceEnd s c len outcome).mem = s.mem := by
  simp [State.traceEnd, *]

@[simp] theorem State.traceCut_mem (s : State) (c : Cid) (outcome : Nat) : (State.traceCut s c outcome).mem = s.mem := by
  simp [State.traceCut, *]

@[simp] theorem State.dropSegment_mem (s : State) (c : Cid) : (State.dropSegment s c).mem = s.mem := by
  simp [State.dropSegment, *]

@[simp] theorem State.stopWith_mem (s : State) (c : Cid) (code : BitVec 16) : (State.stopWith s c code).mem = s.mem := by
  simp [State.stopWith, *]

@[simp] theorem State.lateDraws_wf (s : State) (c : Cid) (hw : Memory.wf s.mem = true) : Memory.wf (State.lateDraws s c).mem = true := by
  simp +contextual [State.lateDraws, *]
  apply foldl_wf _ _ _ _ hw
  intro t a ht
  (repeat' split) <;> simp +contextual [*]

@[simp] theorem State.commitAhead_mem (s : State) (c : Cid) : (State.commitAhead s c).mem = s.mem := by
  simp [State.commitAhead, *]

@[simp] theorem State.halted_mem (s : State) (c : Cid) : (State.halted s c).mem = s.mem := by
  simp [State.halted, *]

@[simp] theorem State.commitCtx_wf (s : State) (c : Cid) (hw : Memory.wf s.mem = true) : Memory.wf (State.commitCtx s c).mem = true := by
  simp +contextual [State.commitCtx, *]

@[simp] theorem State.stopFaulted_mem (s : State) (c : Cid) (code : BitVec 16) : (State.stopFaulted s c code).mem = s.mem := by
  simp [State.stopFaulted, *]

@[simp] theorem State.overrun_mem (s : State) (c : Cid) : (State.overrun s c).mem = s.mem := by
  simp [State.overrun, *]

@[simp] theorem State.slip_mem (s : State) (c : Cid) : (State.slip s c).mem = s.mem := by
  simp [State.slip, *]

@[simp] theorem State.judge_wf (s : State) (c : Cid) (hw : Memory.wf s.mem = true) : Memory.wf (State.judge s c).mem = true := by
  unfold State.judge
  simp +contextual [*]
  (repeat' split) <;> simp +contextual [*]

@[simp] theorem State.latch_mem (s : State) : (State.latch s).mem = s.mem := by
  simp [State.latch, *]
  apply foldl_mem
  intro t a
  (repeat' split) <;> simp [*]

@[simp] theorem State.realign_mem (s : State) : (State.realign s).mem = s.mem := by
  simp [State.realign, *]

@[simp] theorem State.latchAll_mem (s : State) : (State.latchAll s).mem = s.mem := by
  unfold State.latchAll
  dsimp only
  (repeat' split) <;> simp +contextual [*]

@[simp] theorem State.killCtx_mem (s : State) (c : Cid) : (State.killCtx s c).mem = s.mem := by
  simp [State.killCtx, *]

@[simp] theorem State.resetCtx_mem (s : State) (c : Cid) : (State.resetCtx s c).mem = s.mem := by
  simp [State.resetCtx, *]

@[simp] theorem State.stopCmd_mem (s : State) (c : Cid) : (State.stopCmd s c).mem = s.mem := by
  simp [State.stopCmd, *]

@[simp] theorem State.resume_mem (s : State) (c : Cid) : (State.resume s c).mem = s.mem := by
  unfold State.resume
  dsimp only
  (repeat' split) <;> simp +contextual [*]

@[simp] theorem State.preempt_mem (s : State) (c t : Cid) : (State.preempt s c t).mem = s.mem := by
  simp [State.preempt, *]

@[simp] theorem State.takeCmd_mem (s : State) (c : Cid) : (State.takeCmd s c).mem = s.mem := by
  unfold State.takeCmd
  dsimp only
  (repeat' split) <;> simp +contextual [*]

@[simp] theorem State.badSeam_mem (s : State) (c : Cid) : (State.badSeam s c).mem = s.mem := by
  simp [State.badSeam, *]

@[simp] theorem State.settle_mem (s : State) (keepStopped : Bool) (c : Cid) : (State.settle s keepStopped c).mem = s.mem := by
  unfold State.settle
  dsimp only
  (repeat' split) <;> simp +contextual [*]

@[simp] theorem State.settleAll_mem (s : State) : (State.settleAll s).mem = s.mem := by
  simp [State.settleAll, *]

@[simp] theorem State.takeWork_mem (s : State) (c : Cid) (h : List Byte) : (State.takeWork s c h).mem = s.mem := by
  simp [State.takeWork, *]

@[simp] theorem State.scan_mem (s : State) (c : Cid) : (State.scan s c).mem = s.mem := by
  unfold State.scan
  dsimp only
  (repeat' split) <;> simp +contextual [*]

@[simp] theorem State.begin_mem (s : State) (c : Cid) : (State.begin s c).mem = s.mem := by
  simp [State.begin, *]

@[simp] theorem State.snapCounters_mem (s : State) : (State.snapCounters s).mem = s.mem := by
  unfold State.snapCounters
  dsimp only
  rw [State.setFld_mem, foldl_mem, foldl_mem]
  · intro t k
    rw [State.setFld_mem]
  · intro t c
    apply foldl_mem
    intro t k
    rw [State.setFld_mem]

@[simp] theorem State.clearGiven_mem (s : State) : (State.clearGiven s).mem = s.mem := by
  simp [State.clearGiven, *]

@[simp] theorem State.bellActions_wf (s : State) (k : Nat) (hw : Memory.wf s.mem = true) : Memory.wf (State.bellActions s k).mem = true := by
  simp +contextual [State.bellActions, *]

@[simp] theorem State.readSlot_wf (s : State) (c : Cid) (hw : Memory.wf s.mem = true) : Memory.wf (State.readSlot s c).mem = true := by
  unfold State.readSlot
  simp +contextual [*]
  (repeat' split) <;> simp +contextual [*]

@[simp] theorem State.wrBellOrigin_mem (s : State) (_who : Requester) (v : Word) : (State.wrBellOrigin s _who v).st.mem = s.mem := by
  simp [State.wrBellOrigin, *]

@[simp] theorem State.wrBell_mem (s : State) (who : Requester) (v : Word) : (State.wrBell s who v).st.mem = s.mem := by
  simp [State.wrBell, *]

/-! ### Machine/RegView.lean -/

@[simp] theorem State.regRead_mem (s : State) (who : Requester) (off : Nat) : (State.regRead s who off).2.mem = s.mem := by
  simp [State.regRead, *]

/-! ### Machine/RegWrite.lean -/

@[simp] theorem State.wrWdt_mem (s : State) (who : Requester) (v : Word) : (State.wrWdt s who v).st.mem = s.mem := by
  simp [State.wrWdt, *]

@[simp] theorem State.wrCtxCmd_mem (s : State) (c : Cid) (v : Word) : (State.wrCtxCmd s c v).st.mem = s.mem := by
  unfold State.wrCtxCmd
  (repeat' split) <;> simp [*]

@[simp] theorem State.wrProgReg_mem (s : State) (c : Cid) (off : Nat) (f : ProgState → ProgState) : (State.wrProgReg s c off f).st.mem = s.mem := by
  simp [State.wrProgReg, *]

@[simp] theorem State.wrQueueCfg_mem (s : State) (who : Requester) (off : Nat) (h q : Nat) (v : Word) : (State.wrQueueCfg s who off h q v).st.mem = s.mem := by
  simp [State.wrQueueCfg, *]

@[simp] theorem State.wrLlxCfg_mem (s : State) (who : Requester) (v : Word) : (State.wrLlxCfg s who v).st.mem = s.mem := by
  simp [State.wrLlxCfg, *]

@[simp] theorem State.wrBankReq_mem (s : State) (i : StationId) (v : Word) : (State.wrBankReq s i v).st.mem = s.mem := by
  simp [State.wrBankReq, *]

@[simp] theorem State.wrPriv_mem (s : State) (who : Requester) (v : Word) : (State.wrPriv s who v).st.mem = s.mem := by
  simp [State.wrPriv, *]

@[simp] theorem State.wrMboxCtl_mem (s : State) (v : Word) : (State.wrMboxCtl s v).st.mem = s.mem := by
  simp [State.wrMboxCtl, *]

@[simp] theorem State.wrMbox_mem (s : State) (k : Nat) (v : Word) : (State.wrMbox s k v).st.mem = s.mem := by
  simp [State.wrMbox, *]

/-! ### Machine/Lalux.lean -/

@[simp] theorem State.sendUp_mem (s : State) (f : LFlit) : (State.sendUp s f).mem = s.mem := by
  simp [State.sendUp, *]

@[simp] theorem State.answerAs_mem (s : State) (tally : BitVec 6) (f : LFlit) (status : BitVec 8) (data : List Byte) : (State.answerAs s tally f status data).mem = s.mem := by
  simp [State.answerAs, *]

@[simp] theorem State.answer_mem (s : State) (f : LFlit) (status : BitVec 8) (data : List Byte) : (State.answer s f status data).mem = s.mem := by
  simp [State.answer, *]

@[simp] theorem State.freeWords_mem (s : State) (x0 : Nat) : (State.freeWords s x0).2.mem = s.mem := by
  induction x0 generalizing s with
  | zero => simp [State.freeWords, *]
  | succ n ih => simp [State.freeWords, *]

@[simp] theorem State.refuseReq_mem (s : State) (f : LFlit) (status : BitVec 8) : (State.refuseReq s f status).mem = s.mem := by
  simp [State.refuseReq, *]

@[simp] theorem State.forwardDn_mem (s : State) (f : LFlit) : (State.forwardDn s f).mem = s.mem := by
  simp [State.forwardDn, *]

@[simp] theorem State.llxTake_mem (s : State) (t : Nat) (f : LFlit) (body : State → State) (h_body : ∀ (v0 : State), (body v0).mem = v0.mem) : (State.llxTake s t f body).mem = s.mem := by
  simp [State.llxTake, *]

@[simp] theorem State.regReq_mem (s : State) (f : LFlit) (body : State → Nat → State) (h_body : ∀ (v0 : State) (v1 : Nat), (body v0 v1).mem = v0.mem) : (State.regReq s f body).mem = s.mem := by
  simp [State.regReq, *]

@[simp] theorem State.dataFlits_mem (s : State) (f : LFlit) (a : Nat) (bs : List Byte) : (State.dataFlits s f a bs).mem = s.mem := by
  simp [State.dataFlits, *]

@[simp] theorem State.pushBytes_wf (s : State) (f : LFlit) (p : Push) (hw : Memory.wf s.mem = true) : Memory.wf (State.pushBytes s f p).mem = true := by
  unfold State.pushBytes
  simp +contextual [*]
  (repeat' split) <;> simp +contextual [*]

@[simp] theorem State.pushFirst_wf (s : State) (f : LFlit) (k : Nat) (hw : Memory.wf s.mem = true) : Memory.wf (State.pushFirst s f k).mem = true := by
  unfold State.pushFirst
  simp +contextual [*]
  (repeat' split) <;> simp +contextual [*]

@[simp] theorem State.pushFlit_wf (s : State) (f : LFlit) (hw : Memory.wf s.mem = true) : Memory.wf (State.pushFlit s f).mem = true := by
  unfold State.pushFlit
  simp +contextual [*]
  (repeat' split) <;> simp +contextual [*]

@[simp] theorem State.resetAnswered_mem (s : State) : (State.resetAnswered s).mem = s.mem := by
  unfold State.resetAnswered
  (repeat' split) <;> simp [*]

/-! ### Machine/Boot.lean -/

@[simp] theorem State.gap_mem (s : State) (cycles : Nat) : (State.gap s cycles).mem = s.mem := by
  simp [State.gap, *]

@[simp] theorem State.sliceFilled_mem (s : State) (i : StationId) : (State.sliceFilled s i).mem = s.mem := by
  simp [State.sliceFilled, *]

@[simp] theorem State.groupFree_mem (s : State) (g : Nat) : (State.groupFree s g).mem = s.mem := by
  simp [State.groupFree, *]

@[simp] theorem State.startFill_mem (s : State) (mask : BitVec 14) : (State.startFill s mask).mem = s.mem := by
  simp [State.startFill, *]

@[simp] theorem State.trainPorts_mem (s : State) (die : Nat → Bool) : (State.trainPorts s die).mem = s.mem := by
  simp [State.trainPorts, *]

@[simp] theorem State.trainLlx_mem (s : State) : (State.trainLlx s).mem = s.mem := by
  simp [State.trainLlx, *]

@[simp] theorem State.letGo_mem (s : State) (d : Nat) : (State.letGo s d).mem = s.mem := by
  simp [State.letGo, *]

@[simp] theorem State.step1_mem (s : State) (strap : List (BitVec 4)) : (State.step1 s strap).mem = s.mem := by
  simp [State.step1, *]
  apply foldl_mem
  intro t a
  (repeat' split) <;> simp [*]

@[simp] theorem State.loadTrim_mem (s : State) (ok : Bool) : (State.loadTrim s ok).mem = s.mem := by
  simp [State.loadTrim, *]

@[simp] theorem State.loadCfg_mem (s : State) (copyA copyB : List Byte) : (State.loadCfg s copyA copyB).mem = s.mem := by
  simp [State.loadCfg, *]

@[simp] theorem State.step2_mem (s : State) (trim copyA copyB : List Byte) : (State.step2 s trim copyA copyB).mem = s.mem := by
  simp [State.step2, *]

@[simp] theorem State.step4_mem (s : State) : (State.step4 s).mem = s.mem := by
  simp [State.step4, *]

@[simp] theorem State.stepWork_mem (s : State) (k : Nat) (strap : List (BitVec 4)) (trim copyA copyB : List Byte) : (State.stepWork s k strap trim copyA copyB).mem = s.mem := by
  unfold State.stepWork
  (repeat' split) <;> simp [*]

/-! ### Machine/Tap.lean -/

@[simp] theorem State.freeBits_mem (s : State) (w : Nat) : (State.freeBits s w).2.mem = s.mem := by
  simp [State.freeBits, *]

@[simp] theorem State.tap_mem (s : State) (ir : BitVec 8) (out : List Bool) : (State.tap s ir out).mem = s.mem := by
  simp [State.tap, *]

@[simp] theorem State.capture_mem (s : State) : (State.capture s).2.mem = s.mem := by
  simp [State.capture, *]

@[simp] theorem State.accResult_mem (s : State) (status : Nat) (data : Option Word) : (State.accResult s status data).mem = s.mem := by
  simp [State.accResult, *]

end Sys2Proof.Machine
end

