-- ==== Sys2Proof/Laws/Nente.lean ====
section
/-! SUPPORT. Laws of the Nente words: the parts of a word are those it was made of, and a command comes back from its words. -/

namespace Sys2Proof

/-- A bit of a word, by its part. -/
theorem NWords.word_bit (op : BitVec 8) (w : NWords) (j : Nat) :
    (w.word op).getLsbD j = if j < 54 then w.opnd.getLsbD j else if j < 56 then w.next.getLsbD (j - 54) else op.getLsbD (j - 56) := by
  have h : (w.word op).getLsbD j = BitVec.getLsbD (w := 8 + 2 + 54) (op ++ w.next ++ w.opnd) j := rfl
  rw [h, BitVec.getLsbD_append, BitVec.getLsbD_append]
  by_cases a : j < 54
  · simp [a]
  · by_cases b : j < 56
    · simp [a, b, show j - 54 < 2 by omega]
    · simp [a, b, show ¬ j - 54 < 2 by omega, show j - 54 - 2 = j - 56 by omega]

theorem NWords.word_op (op : BitVec 8) (w : NWords) : (w.word op).extractLsb' 56 8 = op :=
  BitVec.eq_of_getLsbD_eq fun i hi => by simp [NWords.word_bit, hi, show ¬ 56 + i < 54 by omega]

theorem NWords.word_next (op : BitVec 8) (w : NWords) : (w.word op).extractLsb' 54 2 = w.next :=
  BitVec.eq_of_getLsbD_eq fun i hi => by simp [NWords.word_bit, hi, show 54 + i < 56 by omega]

theorem NWords.word_opnd (op : BitVec 8) (w : NWords) : (w.word op).extractLsb' 0 54 = w.opnd :=
  BitVec.eq_of_getLsbD_eq fun i hi => by simp [NWords.word_bit, hi]

/-- The parts come back, the extension word as it is where NEXT names one. -/
theorem nenteWords_word (op : BitVec 8) (w : NWords) (h : w.next = 0 → w.ext = 0) : nenteWords (w.word op) w.ext = w := by
  simp only [nenteWords, NWords.word_next, NWords.word_opnd]
  split
  · rename_i e; rw [← h e]
  · rfl

/-- What a command's words must have for it to come back: no extension word without NEXT, and the bits of VOP and VLUT by which one
opcode has several commands. -/
def Instr.nenteShaped (i : Instr) : Prop :=
  match i with
  | .vop _ w => w.opnd.getLsbD 50 = false
  | .vopLoadProg _ w => w.opnd.getLsbD 50 = true
  | .vlut _ w => w.opnd.extractLsb' 49 2 = 0
  | .vlutBack _ w => w.opnd.extractLsb' 49 2 = 1
  | .vlutLoad _ w => w.opnd.extractLsb' 49 2 = 2
  | _ => True

/-- R158: a Nente command comes back from its words. -/
theorem nenteInstr_word (i : Instr) (op : BitVec 8) (c : Cid) (w : NWords) (h : i.nente = some (op, c, w))
    (hx : w.next = 0 → w.ext = 0) (hs : i.nenteShaped) : nenteInstr c (w.word op) w.ext = i := by
  cases i <;> simp only [Instr.nente, Option.some.injEq, Prod.mk.injEq, reduceCtorEq] at h <;> obtain ⟨rfl, rfl, rfl⟩ := h <;>
    simp_all [nenteInstr, nenteWords_word, NWords.word_op, Instr.nenteShaped]

end Sys2Proof
end

