-- ==== Sys2Proof/WellFormed.lean ====
section
/-! DEFINITION. Which commands can come: the shapes that the manual fixes for what a command brings with it (R14, R158, R311, R394,
R396, R400, R405, R460, R571, R601, R605, R615, R652). -/

namespace Sys2Proof

/-- The opcodes that an encoding table assigns (R166, R174, R177, R184, R191, R196, R199, R204, R207). -/
def assignedOps : List Nat :=
  [0x00, 0x01, 0x02, 0x03, 0x04, 0x05, 0x06, 0x07, 0x08, 0x09, 0x0A, 0x0B, 0x0C, 0x10, 0x11, 0x12, 0x13, 0x14, 0x20, 0x21, 0x22, 0x23,
   0x24, 0x30, 0x31, 0x32, 0x33, 0x34] ++
  [0x40, 0x41, 0x42, 0x43, 0x44, 0x48, 0x49, 0x4A, 0x50, 0x51, 0x52, 0x53, 0x60, 0x61, 0x62, 0x63, 0x64, 0x70, 0x71, 0x72, 0x78, 0x79]

/-- A payload of LEN bytes, at most 224. -/
def LFlit.shaped (f : LFlit) : Bool := f.len.toNat ≤ 224 && f.payload.length == f.len.toNat

/-- A Lalux request of type `t`. -/
def LFlit.request (f : LFlit) (t : Nat) : Bool := f.typ.toNat == t && f.shaped

/-- At most 192 bytes inline and 256 body flits of 256 bytes. -/
def FMsg.shaped (m : FMsg) : Bool := m.data.length ≤ 65728

/-- A configuration copy's header and body at most (R605). -/
def copyShaped (b : List Byte) : Bool := b.length ≤ 65536

/-- A firmware image's header and body at most (R609). -/
def imageShaped (b : List Byte) : Bool := b.length ≤ 8388608

/-- 72 junction readings; the supply's samples fit the fields that show them. -/
def Sensors.shaped (x : Sensors) : Bool :=
  x.temps.length == 72 && x.volt < 65536 && x.current < 65536 && x.power < 65536 && x.vmin ≤ x.vmax

/-- The command can come. A word on NOP's arm has NOP's opcode or one that no table assigns. -/
def Instr.wf : Instr → Bool
  | .nop _ w => !assignedOps.contains (w >>> 56).toNat || w >>> 56 == 0
  | .halt _ _ => true
  | .br _ _ => true
  | .brc _ _ => true
  | .loop _ _ => true
  | .endloop _ _ => true
  | .call _ _ => true
  | .ret _ _ => true
  | .sets _ _ => true
  | .salu _ _ => true
  | .salui _ _ => true
  | .lds _ _ => true
  | .ldsReturn _ _ => true
  | .sts _ _ => true
  | .segment _ _ => true
  | .commit _ _ => true
  | .bellwait _ _ => true
  | .barrier _ _ => true
  | .barrierPass _ => true
  | .fence _ _ => true
  | .fencePass _ => true
  | .mma _ _ => true
  | .accload _ _ => true
  | .drain _ _ => true
  | .ringinj _ _ => true
  | .ringret _ _ => true
  | .arrayIssue _ => true
  | .ringGroupIssue _ _ => true
  | .bankExchangeEnd _ _ => true
  | .mmaResidueOutcome _ _ _ _ _ => true
  | .residueFault _ _ _ _ => true
  | .replayPassIssue _ _ => true
  | .passRetire _ _ => true
  | .ringretCaptureEnd _ _ => true
  | .stationHoldStart _ _ => true
  | .stationHoldEnd _ => true
  | .vop _ _ => true
  | .vopLoadProg _ _ => true
  | .vred _ _ => true
  | .vlut _ _ => true
  | .vlutBack _ _ => true
  | .vlutLoad _ _ => true
  | .vcvt _ _ => true
  | .vrng _ _ => true
  | .vectorIssue _ => true
  | .vectorFinish _ => true
  | .stream _ _ => true
  | .streamp _ _ => true
  | .waith _ _ => true
  | .waithRelease _ => true
  | .saveact _ _ => true
  | .loadact _ _ => true
  | .halloc _ _ => true
  | .hfree _ _ => true
  | .hpurge _ _ => true
  | .handleHoldEnd _ => true
  | .millstep _ _ => true
  | .coefset _ _ => true
  | .coefswap _ _ => true
  | .vupdate _ _ => true
  | .reduce _ _ => true
  | .gather _ _ => true
  | .bcast _ _ => true
  | .send _ _ => true
  | .recv _ _ => true
  | .secure _ _ => true
  | .markpos _ _ => true
  | .rngsave _ _ => true
  | .evalbegin _ _ => true
  | .evalend _ _ => true
  | .tokenTransfer => true
  | .splitCharge _ => true
  | .segmentComplete _ => true
  | .bell => true
  | .slotPreread => true
  | .cmdStop _ => true
  | .cmdResume _ => true
  | .cmdKill _ => true
  | .cmdPreempt _ _ => true
  | .contextPurgeDone _ => true
  | .seqBellOriginWrite _ _ => true
  | .seqBellWrite _ _ => true
  | .bnkHselWrite _ _ => true
  | .bnkHent0Read _ => true
  | .bankSleepReq _ _ => true
  | .bankWakeReq _ _ => true
  | .bankPowerDown _ _ => true
  | .pwrDefer _ _ => true
  | .bankWakeDone _ _ => true
  | .bankAutoSleep _ _ => true
  | .scrubRead _ _ => true
  | .bnkScrubSlow _ => true
  | .bnkPurgeDone _ => true
  | .streamCheckDone _ _ => true
  | .engineGrant _ _ => true
  | .streamRowWrite _ _ => true
  | .loadactSectionCheck _ _ => true
  | .streamFinish _ _ => true
  | .shadowStart _ _ => true
  | .queueDrainDone _ _ lines => lines ≤ 12288
  | .crossbarRound _ _ => true
  | .rgnAllocate _ _ _ => true
  | .rgnRelease _ _ _ => true
  | .hbmPurgeDone _ => true
  | .patrolScrub _ offset => offset % 8 == 0
  | .samplePushWrite _ _ bytes => bytes.length ≤ 2 ^ 28
  | .memSmpLoad _ _ => true
  | .millAccept _ => true
  | .millUpdateStart _ => true
  | .millUpdateFinish _ => true
  | .kronRefreshDone _ => true
  | .stockpilePurgeDone _ => true
  | .vupdateIssue _ => true
  | .frameReceive _ _ _ _ frame => frame.flits.length == 5 && frame.sym.length ≤ 4
  | .linkReplay _ _ => true
  | .controlFlit p ctl => ctl.credits.length == (match p with | .berken _ => 32 | _ => 3)
  | .linkDown _ => true
  | .laneSpare _ _ => true
  | .linkRetrainDone _ _ => true
  | .bknRetrainCmd _ => true
  | .portPairing _ info => info.port.toNat < 48
  | .pairingRetry _ => true
  | .remoteWrite msg => msg.shaped
  | .samplePushMsg msg => msg.shaped
  | .managementMsg msg => msg.shaped
  | .fabricResetMsg _ msg _ => msg.shaped
  | .messageRoute _ msg _ => msg.shaped
  | .heartbeatReceive _ msg => msg.shaped
  | .bknTimeLost => true
  | .neighbourSuspect _ _ => true
  | .failureNotice _ _ _ _ => true
  | .bknRtDataWrite _ _ => true
  | .reduceReadHs _ => true
  | .partialReceive msg => msg.shaped
  | .reduceDecide _ => true
  | .gatherBlockReceive msg => msg.shaped
  | .handoverComplete _ => true
  | .sendMsgReceive a => a.msg.shaped
  | .regRd f => f.request 1
  | .regWr f => f.request 2
  | .regWrite _ _ _ => true
  | .memWr f => f.request 3
  | .memRd f => f.request 4
  | .flush f => f.request 5
  | .enum f => f.request 6
  | .untally f => f.request 7
  | .resetReq f => f.request 8
  | .push f => f.request 9
  | .imgWr f => f.request 10
  | .imgGo f _ => f.request 11
  | .flitForward _ _ f => f.shaped
  | .dnPortTrainDone _ => true
  | .event => true
  | .llxEvtLost => true
  | .canaryCycle => true
  | .surfaceCycle x => x.shaped
  | .securingCommitRecord => true
  | .securingAck _ => true
  | .securingAbandon => true
  | .reliefPairReq _ _ _ => true
  | .declaration msg => msg.shaped
  | .reliefPairRetry _ => true
  | .rlfRoleWrite _ _ => true
  | .rlfActivated _ => true
  | .rejoinReply _ => true
  | .rejoinTimeout => true
  | .assay _ _ _ => true
  | .catchupRequest msg => msg.shaped
  | .catchupCopy => true
  | .catchupApply => true
  | .release msg => msg.shaped
  | .servedCopy _ _ => true
  | .sfcProfileWrite _ _ => true
  | .clkStepAt _ _ => true
  | .stepPoint _ => true
  | .droopStretch _ _ => true
  | .xingFallback _ _ => true
  | .fastLimiterTrigger => true
  | .limiterStretchTimeout => true
  | .limiterStretchEnd => true
  | .limiterCeilRise => true
  | .inputCap => true
  | .inputCapRelease => true
  | .surgeSpent => true
  | .surgeRestored => true
  | .thermCeilRise => true
  | .thermTrip => true
  | .pwrInput _ => true
  | .auxLoss _ => true
  | .pwrDomReq _ _ => true
  | .domainPowerOn _ => true
  | .por => true
  | .pin _ => true
  | .wdt => true
  | .peer => true
  | .dbg => true
  | .resetRelease _ => true
  | .releaseStepDone strap trim a b => strap.length == 16 && trim.length ≤ 4096 && copyShaped a && copyShaped b
  | .memoryZeroFillDone _ => true
  | .sysrefEdge => true
  | .rstSwreq _ _ => true
  | .cfgStoreWrite head body => head.length == 256 && copyShaped (head ++ body)
  | .lastGasp => true
  | .imageVerify x y => imageShaped x && imageShaped y
  | .secRollbackWrite _ _ => true
  | .spdmRequest response => 0 < response.length && response.length ≤ 4096
  | .kick _ => true
  | .holdupCharged energy => energy < 65536
  | .stop _ _ => true
  | .allstopRelease _ => true
  | .dbgrst _ => true
  | .dbgUnlock _ _ => true
  | .dbgRdSelWrite _ _ => true
  | .dbgTrMark _ => true
  | .dbgPcCtlWrite _ _ => true
  | .traceRecordWrite _ => true
  | .remoteTrace msg => msg.shaped
  | .extest drive => drive.length == 6
  | .samplePreload load => match load with | none => true | some l => l.length == 6
  | .idcode => true
  | .dbgacc _ _ _ => true
  | .scansel _ => true
  | .scan => true
  | .tapStop _ => true
  | .bypass => true
  | .trst => true
  | .i2cRead _ => true
  | .pwrgdInLow => true
  | .linkTrainingDone _ => true
  | .frameSend _ => true
  | .collectiveMsgReceive msg => msg.shaped
  | .llxInvalidRequest f => f.shaped && !(1 ≤ f.typ.toNat && f.typ.toNat ≤ 11)
  | .reliefPairTimeout _ => true
  | .securingItemRead _ => true
  | .reliefRestoreDone => true
  | .portEnWrite _ _ _ => true

/-- The same as a proposition. -/
abbrev Instr.WellFormed (i : Instr) : Prop := i.wf = true

end Sys2Proof
end

