-- ==== Sys2Proof/Tests/Slice0.lean ====
section
/-! SUPPORT. Tests: for every statement, states and operands that meet the hypotheses of its clauses, with what the command then does
there; and an ill-formed command for each check of WellFormed. -/

namespace Sys2Proof.Tests

set_option Elab.async false

open Sys2Proof
open Sys2Proof.Machine

/-- The command answers a next state of which `p` holds. -/
def ok (i : Instr) (s : State) (p : State → Bool) : Bool :=
  match exec i s with
  | .next t => p t
  | _ => false

/-- The command answers just this state. -/
def is (i : Instr) (s t : State) : Bool := ok i s (· == t)

/-- The event was raised between the two states. -/
def raised (s t : State) (code : BitVec 16) (src : Src) (detail : Nat := 0) : Bool :=
  t.llx.recent.any fun f => f.code == code && (f.number == s.llx.evNo || f.number == s.llx.evNo + 1) &&
    f.source == BitVec.ofNat 8 src.source && f.unit == BitVec.ofNat 8 src.unit && f.detail == BitVec.ofNat 64 detail

def told (s t : State) (code : BitVec 16) : Bool :=
  t.llx.recent.any fun f => f.code == code && (f.number - s.llx.evNo).toNat < 4 && f.source == 0 && f.unit == 0

/-- Bits from (lowest bit, value) pairs. -/
def word (l : List (Nat × Nat)) : Nat := l.foldl (fun a p => a + p.2 * 2 ^ p.1) 0
def nw (l : List (Nat × Nat)) : NWords := ⟨0, BitVec.ofNat 54 (word l), 0⟩
def nw2 (l k : List (Nat × Nat)) : NWords := ⟨1, BitVec.ofNat 54 (word l), BitVec.ofNat 64 (word k)⟩

/-- A device that runs: every domain released, seams of 12 stations. -/
def up : State := ({ State.reset with rst := { State.reset.rst with held := 0, step := 11 }, pwr := { State.reset.pwr with dataOn := true } } : State).setFld Fld.SFC_PROFILE_SEAM 3

/-- `up` with context 0 RUNNING inside a segment. -/
def sq (x : Ctx := {}) : State := up.setCtx 0 { x with st := .running, inSeg := true, owner := true }

/-- Context 0 with these scalars. -/
def cx (l : List (Nat × Nat)) (m : List (Nat × Nat) := []) : Ctx :=
  { prog := { sregs := l.map fun p => (p.1, BitVec.ofNat 64 p.2), masks := m.map fun p => (p.1, BitVec.ofNat 96 p.2) } }

/-- An allocated handle of context 0. -/
def hd (set rows : Nat) (fmt : Nat := 0) (stride : Nat := 8) (cols : Nat := 0) : Handle :=
  { st := .allocated, set := BitVec.ofNat 96 set, rows := BitVec.ofNat 20 rows, fmt := BitVec.ofNat 4 fmt, stride := BitVec.ofNat 12 stride, cols := BitVec.ofNat 7 cols }

/-- Memory bytes from an address. -/
def cells (a : Nat) (b : List Byte) : List Host.Cell :=
  (b.zip (List.range b.length)).filterMap fun p => if p.1 = 0 then none else some (a + p.2, p.1)

/-- A state with these register fields: field, entry, value. -/
def fl (s : State) (l : List (Fld × Nat × Nat)) : State := l.foldl (fun s p => s.setFld p.1 p.2.2 p.2.1) s

/-! ### Sequencers -/

/-- Words by R158 and the OP columns: OP in [63:56], NEXT in [55:54]; FORM of VLUT in [50:49], PROG of VOP in [50]. -/
theorem test_nente_words :
    nenteInstr 3 0x0200000000000005 9 = .br 3 ⟨0, 5, 0⟩ ∧ nenteInstr 3 0x2040000000000001 9 = .mma 3 ⟨1, 1, 9⟩ ∧
    nenteInstr 3 0x3040000000000000 9 = .vop 3 ⟨1, 0, 9⟩ ∧ nenteInstr 3 0x3044000000000000 9 = .vopLoadProg 3 ⟨1, 2 ^ 50, 9⟩ ∧
    nenteInstr 3 0x3204000000000000 0 = .vlutLoad 3 ⟨0, 2 ^ 50, 0⟩ ∧ nenteInstr 3 0x3206000000000000 0 = .nop 3 0x3206000000000000 ∧
    nenteInstr 3 0x7900000000000000 0 = .evalend 3 ⟨0, 0, 0⟩ ∧ nenteInstr 3 0x0D00000000000000 0 = .nop 3 0x0D00000000000000 := by
  decide +kernel

theorem test_branches :
    let s := sq (cx [(1, 5), (2, 2 ^ 64 - 1)])
    let w := nw [(0, 2 ^ 32 - 3)]
    s.Issues 0 ∧ Enc.br w = true ∧ is (.br 0 w) s (s.setCtx 0 ((s.ctx 0).moved (BitVec.ofInt 64 (-24)))) = true ∧
    is (.nop 0 0) s (s.setCtx 0 ((s.ctx 0).moved 8)) = true := by decide +kernel

theorem test_branch_conditions :
    let s := sq (cx [(1, 5), (2, 2 ^ 64 - 1)])
    let w (k : Nat) := nw [(51, k), (46, 1), (41, 2), (0, 4)]
    let z := nw [(51, 0), (46, 3), (40, 1), (0, 4)]
    (∀ k ∈ List.range 6, Enc.brc (w k) = true) ∧ (s.ctx 0).Settled [1, 2] ∧ Enc.brc z = true ∧
    (List.range 6).map (fun k => ok (.brc 0 (w k)) s (fun t => (t.ctx 0).prog.pc == 32)) = [false, true, false, true, true, false] ∧
    ok (.brc 0 z) s (fun t => (t.ctx 0).prog.pc == 32) = true := by decide +kernel

theorem test_call_and_ret :
    let s := sq (cx [(1, 0x40)])
    let w := nw [(49, 1), (0, 2)]
    let v := nw [(49, 1)]
    Enc.call w = true ∧ Enc.ret v = true ∧ (s.ctx 0).Settled [1] ∧
    ok (.call 0 w) s (fun t => (t.ctx 0).prog.pc == 16 && (t.ctx 0).s 1 == 8) = true ∧
    ok (.ret 0 v) s (fun t => (t.ctx 0).prog.pc == 0x40) = true := by decide +kernel

theorem test_what_stops_an_instruction :
    let s := up.setCtx 0 { st := .running, owner := true }
    let w := nw []
    let e := sq { evalEnded := true }
    let b := sq { lds := [⟨1, 0, 8, 0, 1, 0⟩] }
    s.canExec 0 = true ∧ (s.ctx 0).inSeg = false ∧ is (.salu 0 w) s (s.seqFault 0 0x0205) = true ∧
    (sq).canExec 0 = true ∧ Enc.salu (nw [(35, 13)]) = false ∧ is (.salu 0 (nw [(35, 13)])) sq ((sq).seqFault 0 0x0209) = true ∧
    Enc.br (nw [(32, 1)]) = false ∧ is (.br 0 (nw [(32, 1)])) sq ((sq).seqFault 0 0x0209) = true ∧
    is (.nop 0 1) sq ((sq).seqFault 0 0x0209) = true ∧
    e.canExec 0 = true ∧ Enc.salu w = true ∧ is (.salu 0 w) e (e.seqFault 0 0x020F) = true ∧
    b.canExec 0 = true ∧ (b.ctx 0).scalarBusy 1 = true ∧ is (.salu 0 (nw [(44, 1)])) b b = true ∧
    ((s.seqFault 0 0x0205).ctx 0).faulted = some 0x0205 := by decide +kernel

theorem test_loop :
    let s := sq (cx [(1, 2 ^ 32 + 2)])
    let w := nw [(52, 3), (51, 1), (24, 2 ^ 22 - 1), (0, 7)]
    let v := nw [(52, 1), (46, 1)]
    let z := nw [(52, 0), (51, 1), (0, 2 ^ 24 - 1)]
    s.Issues 0 ∧ Enc.loop w = true ∧ Enc.loop v = true ∧ Enc.loop z = true ∧ (s.ctx 0).Settled [0, 1] ∧
    ok (.loop 0 w) s (fun t => SMap.val (t.ctx 0).prog.loops 0 3 == 2 ^ 22 - 1 && (t.ctx 0).prog.pc == 8) = true ∧
    ok (.loop 0 v) s (fun t => SMap.val (t.ctx 0).prog.loops 0 1 == 2 && SMap.val (t.ctx 0).prog.loopAddr 0 1 == 8) = true ∧
    ok (.loop 0 z) s (fun t => (t.ctx 0).prog.pc == BitVec.ofNat 64 (8 * (2 ^ 24 - 1))) = true := by decide +kernel

theorem test_endloop :
    let s := sq { prog := { pc := 80, loops := [(0, 1), (3, 2)], loopAddr := [(3, 16)] } }
    (∀ k < 4, Enc.endloop (nw [(52, k)]) = true) ∧ s.Issues 0 ∧
    ok (.endloop 0 (nw [(52, 3)])) s (fun t => (t.ctx 0).prog.pc == 16 && (t.ctx 0).prog.loops == [(0, 1), (3, 1)]) = true ∧
    ok (.endloop 0 (nw [(52, 0)])) s (fun t => (t.ctx 0).prog.pc == 88 && (t.ctx 0).prog.loops == [(3, 2)]) = true ∧
    ok (.endloop 0 (nw [(52, 1)])) s (fun t => (t.ctx 0).prog.pc == 88 && (t.ctx 0).prog.loops == [(0, 1), (3, 2)]) = true := by
  decide +kernel

theorem test_sets :
    let s := sq (cx [(31, 0x1122334455667788)] [(7, 2 ^ 96 - 1)])
    let imm := nw [(47, 31), (0, 0x80000000)]
    let hi := nw [(52, 2), (44, 7), (42, 1), (37, 31)]
    let x := nw2 [(52, 1), (44, 7), (43, 1)] [(0, 5)]
    s.Issues 0 ∧ Enc.sets imm = true ∧ Enc.sets hi = true ∧ Enc.sets x = true ∧ (s.ctx 0).Settled [31, 0] ∧
    ok (.sets 0 imm) s (fun t => (t.ctx 0).s 31 == 0xFFFFFFFF80000000 && (t.ctx 0).prog.pc == 8) = true ∧
    ok (.sets 0 hi) s (fun t => SMap.val (t.ctx 0).prog.masks 0 7 == BitVec.ofNat 96 (0x55667788 * 2 ^ 64 + 2 ^ 64 - 1)) = true ∧
    ok (.sets 0 x) s (fun t => SMap.val (t.ctx 0).prog.masks 0 7 == BitVec.ofNat 96 ((2 ^ 32 - 1) * 2 ^ 64 + 5) &&
      (t.ctx 0).prog.pc == 16) = true := by decide +kernel

theorem test_sets_refused_forms :
    let s := sq
    let two := nw2 [(43, 1), (42, 1)] []
    let short := nw [(43, 1)]
    let long := nw2 [] []
    let three := nw [(52, 3)]
    (two.f 43 43 = 1 ∧ two.f 42 42 = 1) ∧ short.next.toNat ≠ short.f 43 43 ∧ long.next.toNat ≠ long.f 43 43 ∧ three.f 53 52 = 3 ∧
    (∀ w ∈ [two, short, long, three], is (.sets 0 w) s (s.seqFault 0 0x0209) = true) := by decide +kernel

theorem test_salu :
    let s := sq (cx [(1, 2 ^ 64 - 8), (2, 65)])
    let w (fn : Nat) := nw [(49, 3), (44, 1), (39, 2), (35, fn)]
    (∀ fn < 13, Enc.salu (w fn) = true) ∧ (s.ctx 0).Settled [3, 1, 2] ∧ 13 ≤ (w 13).f 38 35 ∧
    is (.salu 0 (w 13)) s (s.seqFault 0 0x0209) = true ∧
    (List.range 13).all (fun fn => ok (.salu 0 (w fn)) s fun t => (t.ctx 0).s 3 == BitVec.ofInt 64 (
      [57, -73, -520, 64, -7, -71, -16, (2 ^ 64 - 8) / 2, -4, -8, 65, 1, 0].getD fn 0)) = true := by decide +kernel

theorem test_salui :
    let s := sq (cx [(1, 10)])
    let w (fn : Nat) := nw [(49, 3), (44, 1), (35, fn), (0, 2 ^ 32 - 1)]
    (∀ fn < 13, Enc.salui (w fn) = true) ∧ is (.salui 0 (w 15)) s (s.seqFault 0 0x0209) = true ∧
    (List.range 13).all (fun fn => ok (.salui 0 (w fn)) s fun t => (t.ctx 0).s 3 == BitVec.ofInt 64 (
      [9, 11, -10, 10, -1, -11, 10 * 2 ^ 63, 0, 0, -1, 10, 0, 1].getD fn 0)) = true := by decide +kernel

theorem test_segment :
    let s := up.setCtx 0 { st := .running, owner := true, prog := { step := 4 } }
    let w := nw [(53, 1), (0, 65535)]
    s.canExec 0 = true ∧ (s.ctx 0).inSeg = false ∧ Enc.segment w = true ∧ (s.ctx 0).prog.evalFlag = false ∧ s.stepHeld 0 = false ∧
    s.copyHeld 0 = false ∧ s.rlf.act = none ∧
    ok (.segment 0 w) s (fun t => (t.ctx 0).prog.step == 5 && (t.ctx 0).inSeg && (t.ctx 0).atStart && (t.ctx 0).budget == 65535) = true ∧
    ok (.segment 0 (nw [])) s (fun t => (t.ctx 0).prog.step == 4 && (t.ctx 0).inSeg) = true := by decide +kernel

theorem test_segment_held_at_the_bound :
    let s := (((up.setFld Fld.SFC_PROFILE_RESILIENCE 0).setFld Fld.RLF_CFG_L 2).setFld Fld.RLF_CFG_JOINED 0).setCtx 0
      { st := .running, owner := true, prog := { step := 2 } }
    let w := nw [(53, 1)]
    s.canExec 0 = true ∧ (s.ctx 0).inSeg = false ∧ Enc.segment w = true ∧ (s.ctx 0).prog.evalFlag = false ∧ s.joined 0 = false ∧
    s.fld Fld.SFC_PROFILE_RESILIENCE = 0 ∧ s.lead s.securedCtx = 0 ∧ s.fld Fld.RLF_CFG_JOINED = 0 ∧ s.fld Fld.RLF_CFG_L ≠ 0 ∧
    s.securedStep + s.fld Fld.RLF_CFG_L < (s.ctx 0).prog.step.toNat + 1 ∧
    ok (.segment 0 w) s (fun t => (t.ctx 0).st == .waiting && (t.ctx 0).emptySeg && t.fld Fld.RLF_CNT_HOLDS == 1) = true := by
  decide +kernel

theorem test_segment_ends :
    let s := sq
    let u := sq { unbound := [⟨0, .mma, 0, 1, nw [], 0⟩] }
    let e := sq { prog := { evalFlag := true } }
    s.canExec 0 = true ∧ (s.ctx 0).unbound = [] ∧ Enc.none (nw []) = true ∧ Enc.bellwait (nw [(0, 255)]) = true ∧
    (s.ctx 0).prog.evalFlag = false ∧ (s.ctx 0).evalEnded = false ∧
    ok (.commit 0 (nw [])) s (fun t => (t.ctx 0).ended && !(t.ctx 0).halting && (t.ctx 0).waitBells == 0) = true ∧
    ok (.bellwait 0 (nw [(0, 255)])) s (fun t => (t.ctx 0).ended && (t.ctx 0).waitBells == 255) = true ∧
    ok (.halt 0 (nw [])) s (fun t => (t.ctx 0).ended && (t.ctx 0).halting) = true ∧
    (u.ctx 0).unbound ≠ [] ∧ is (.commit 0 (nw [])) u (u.seqFault 0 0x020A) = true ∧
    is (.bellwait 0 (nw [(0, 1)])) u (u.seqFault 0 0x020A) = true ∧
    (e.ctx 0).prog.evalFlag = true ∧ is (.halt 0 (nw [])) e (e.seqFault 0 0x020F) = true := by decide +kernel

theorem test_evaluations :
    let s := sq { atStart := true }
    let n := sq { atStart := true, newstep := true }
    let e := sq { atStart := true, prog := { evalFlag := true } }
    (s.ctx 0).atStart = true ∧ (s.ctx 0).newstep = false ∧ (s.ctx 0).prog.evalFlag = false ∧
    ok (.evalbegin 0 (nw [])) s (fun t => (t.ctx 0).prog.evalFlag) = true ∧
    (∀ b ∈ [sq, n, e], is (.evalbegin 0 (nw [])) b (b.seqFault 0 0x020F) = true) ∧
    ok (.evalend 0 (nw [])) e (fun t => !(t.ctx 0).prog.evalFlag && (t.ctx 0).evalEnded) = true ∧
    is (.evalend 0 (nw [])) s (s.seqFault 0 0x020F) = true := by decide +kernel

/-- An instruction dispatched by context 0 to stations. -/
def si (kind : SKind) (w : NWords) (mask : Nat) : SInst := { cid := 0, kind := kind, w := w, mask := BitVec.ofNat 96 mask }

theorem test_barrier :
    let s := sq (cx [] [(2, 6)])
    let w := nw [(51, 2)]
    let all := nw [(50, 1)]
    let p := sq { barriers := [{ noW := some 5, noE := none, set := 6 }] }
    let b := (p.setInst 4 (some (si .vop (nw []) 2)))
    let f := b.setInst 4 (some { si .vop (nw []) 2 with done := 2 })
    s.Issues 0 ∧ Enc.barrier w = true ∧ Enc.barrier all = true ∧ s.joined 0 = false ∧ subset 6 (s.seamSet 0) = true ∧
    ok (.barrier 0 w) s (fun t => (t.ctx 0).barriers.map (fun b => (b.set, b.noOf 0)) == [(6, some s.dispNo)]) = true ∧
    ok (.barrier 0 all) s (fun t => (t.ctx 0).barriers.map (fun b => b.set) == [BitVec.ofNat 96 (2 ^ 12 - 1)]) = true ∧
    (∀ x ∈ (p.ctx (p.lead 0)).barriers, p.barrierOk 0 [] x = true ∧ f.barrierOk 0 [] x = true ∧ b.barrierOk 0 [] x = false) ∧
    ok (.barrierPass 0) p (fun t => (t.ctx 0).barriers == []) = true ∧ is (.barrierPass 0) b b = true := by decide +kernel

theorem test_fence :
    let s := sq
    let f := sq { wait := .fence 8 1, stores := [(0, 7)] }
    let g := sq { wait := .fence 1 9 }
    let r : Stream := { no := 4, cid := 0, kind := .block, h := 0, dir := false, prov := false, addr := 0, step := 0, eval := false }
    let o := g.setQue 0 0 { st := .running, run := some r }
    Enc.fence (nw [(50, 15)]) = true ∧ ok (.fence 0 (nw [(50, 15)])) s (fun t => (t.ctx 0).wait == .fence 15 s.dispNo) = true ∧
    ok (.fence 0 (nw [])) s (fun t => (t.ctx 0).wait == .none && (t.ctx 0).prog.pc == 8) = true ∧
    ok (.fencePass 0) f (fun t => (t.ctx 0).wait == .none && (t.ctx 0).stores == []) = true ∧
    (∀ r ∈ g.streamsOf 0, r.no < 9 → r.prov = true) ∧ ok (.fencePass 0) g (fun t => (t.ctx 0).wait == .none) = true ∧
    (∃ r ∈ o.streamsOf 0, r.no < 9 ∧ r.prov = false) ∧ is (.fencePass 0) o o = true := by decide +kernel

theorem test_token :
    let w : State := { up with token := { holder := some true, epoch := 3, reqWest := true, reqEast := true } }
    let e : State := { up with token := { holder := some false, epoch := 3, reqEast := true } }
    is .tokenTransfer w { w with token := { w.token with holder := some false, epoch := 4, reqWest := false, copyWest := some 4 } } = true ∧
    is .tokenTransfer e { e with token := { e.token with holder := some true, epoch := 4, reqEast := false, copyEast := some 4 } } = true ∧
    is .tokenTransfer up up = true := by decide +kernel

theorem test_segment_complete :
    let s := sq { ended := true, budget := 1 }
    let l := s.setBank 3 1 { st := .done }
    s.lead 0 = 0 ∧ (s.ctx 0).st = .running ∧ (s.ctx 0).faulted = none ∧ s.ctxStopped 0 = false ∧ s.segQuiet 0 = true ∧
    l.segQuiet 0 = true ∧ (∀ i ∈ stationsOf (s.seamSet 0), (s.stn i).bank0.st = .empty ∧ (s.stn i).bank1.st = .empty) ∧
    ok (.segmentComplete 0) s (fun t => (t.ctx 0).st == .waiting) = true ∧
    is (.segmentComplete 0) l (l.seqFault 0 0x0206) = true := by decide +kernel

theorem test_segment_over_budget :
    let t0 := ({ up with time := { up.time with cyc := [(58, 5000 * 65)] } } : State)
    let s := t0.setCtx 0 { st := .running, inSeg := true, owner := true, ended := true, budget := 1 }
    s.segQuiet 0 = true ∧ 64 * (s.ctx 0).budget.toNat < s.seqCyc - (s.ctx 0).segStart ∧
    ok (.segmentComplete 0) s (fun t => (t.ctx 0).segLen == 65 && t.fld Fld.SEQ_CTX_CNT_OVER_BUDGET 0 == 1) = true := by decide +kernel

theorem test_context_commands :
    let s := up
    let k := up.setCtx 0 { cmd := 3 }
    s.lead 0 = 0 ∧ (s.ctx 0).cmd ≠ 3 ∧ ok (.cmdStop 0) s (fun t => (t.ctx 0).cmd == 1) = true ∧
    ok (.cmdResume 0) s (fun t => (t.ctx 0).cmd == 2) = true ∧ ok (.cmdKill 0) s (fun t => (t.ctx 0).cmd == 3) = true ∧
    ok (.cmdPreempt 0 2) s (fun t => (t.ctx 0).cmd == 4 && (t.ctx 0).cmdTarget == 2) = true ∧
    is (.cmdStop 0) k k = true ∧ is (.cmdResume 0) k k = true ∧ is (.cmdPreempt 0 1) k k = true := by decide +kernel

theorem test_context_purge :
    let s := up.setCtx 0 { st := .purging }
    let h := s.setHnd 5 (hd 1 1)
    (∀ p ∈ s.usedHandles, p.2.owner ≠ s.lead 0) ∧ (∀ r < 256, s.rgnState r = 2 → s.rgnOfCtx (s.lead 0) r = false) ∧
    ok (.contextPurgeDone 0) s (fun t => (t.ctx 0).st == .idle) = true ∧
    (∃ p ∈ h.usedHandles, p.2.owner = h.lead 0) ∧ is (.contextPurgeDone 0) h h = true := by decide +kernel

/-! ### Loads, stores, arrays, passes -/

/-- Region 0, 2 MiB at address 0, of context 0. -/
def rg (s : State) : State := ((s.setFld Fld.MEM_RGN_A_SIZE 1 0).setFld Fld.MEM_RGN_B_STATE 1 0)

theorem test_lds :
    let s := ((rg (sq (cx [(1, 16)]))).setHnd 5 (hd 2 4))
    let w (sp off : Nat) := nw [(49, 2), (44, 1), (42, sp), (30, if sp = 1 then 5 else 0), (0, off)]
    (∀ sp < 2, Enc.lds (w sp (2 ^ 24 - 8)) = true) ∧ (s.ctx 0).Settled [2, 1] ∧ s.ctxAddr 0 8 8 = some 8 ∧
    ok (.lds 0 (w 0 (2 ^ 24 - 8))) s (fun t => (t.ctx 0).lds == [⟨2, 0, 8, 0, s.dispNo, 0⟩]) = true ∧
    is (.lds 0 (w 0 1)) s (s.seqFault 0 0x0601) = true ∧
    s.ctxAddr 0 (2 ^ 21) 8 = none ∧ is (.lds 0 (w 0 (2 ^ 21 - 16))) s (s.seqFault 0 0x0602) = true ∧
    s.handleFault 0 5 0 = none ∧ (s.hnd 5).rows.toNat * ((s.hnd 5).stride.toNat * 32) = 1024 ∧
    ok (.lds 0 (w 1 1000)) s (fun t => (t.ctx 0).lds == [⟨2, 1, 1016, 5, s.dispNo, 0⟩] && t.accs.map (·.set) == [2]) = true := by
  decide +kernel

theorem test_lds_items :
    let s := (sq { prog := { step := 7, evalCnt := 9 } })
    let w (k : Nat) := nw [(49, 2), (42, 2), (0, k)]
    (∀ k < 7, Enc.lds (w k) = true) ∧ s.joined 0 = false ∧ (s.ctx 0).ldsPeer = [] ∧
    ok (.lds 0 (w 0)) s (fun t => (t.ctx 0).s 2 == 7) = true ∧ ok (.lds 0 (w 1)) s (fun t => (t.ctx 0).s 2 == 9) = true ∧
    ok (.lds 0 (w 5)) s (fun t => (t.ctx 0).s 2 == 12) = true ∧ ok (.lds 0 (w 6)) s (fun t => (t.ctx 0).s 2 == s.variant.caps) = true := by
  decide +kernel

theorem test_lds_return :
    let s : State := { rg (sq { lds := [⟨2, 0, 8, 0, 1, 0⟩] }) with mem := [(8, 1), (15, 2)] }
    let f := s.modCtx 0 fun x => { x with stores := [(8, 77)] }
    (s.ctx 0).lds.find? (fun e => e.sd == 2) = some ⟨2, 0, 8, 0, 1, 0⟩ ∧ s.memErr = [] ∧
    ok (.ldsReturn 0 2) s (fun t => (t.ctx 0).s 2 == 0x0200000000000001 && (t.ctx 0).lds == []) = true ∧
    ok (.ldsReturn 0 2) f (fun t => (t.ctx 0).s 2 == 77) = true := by decide +kernel

theorem test_lds_handle_waits :
    let s : State := { (sq { lds := [⟨2, 1, 0, 5, 4, 0⟩] }).setHnd 5 (hd 2 4) with
      accs := [{ no := 3, h := 5, set := 2, rd := false, wr := true }, { no := 4, h := 5, set := 2, rd := true, wr := false }] }
    let f : State := { s with accs := [{ no := 4, h := 5, set := 2, rd := true, wr := false }] }
    (∃ a ∈ s.accs, a.h = 5 ∧ a.wr = true ∧ a.no < 4 ∧ has a.set (lowest (s.hnd 5).set) = true) ∧ is (.ldsReturn 0 2) s s = true ∧
    ok (.ldsReturn 0 2) f (fun t => (t.ctx 0).lds == [] && t.accs == []) = true := by decide +kernel

theorem test_sts :
    let s := ((rg (sq (cx [(1, 16), (2, 0x0102030405060708)]))).setHnd 5 (hd 2 4))
    let w (sp off : Nat) := nw [(49, 2), (44, 1), (42, sp), (30, if sp = 1 then 5 else 0), (0, off)]
    (∀ sp < 2, Enc.sts (w sp 8) = true) ∧ s.lead 0 = 0 ∧ s.ctxAddr 0 24 8 = some 24 ∧
    ok (.sts 0 (w 0 8)) s (fun t => (t.ctx 0).stores == [(24, 0x0102030405060708)]) = true ∧
    is (.sts 0 (w 0 4)) s (s.seqFault 0 0x0601) = true ∧
    s.handleFault 0 5 0 = none ∧ s.writable 5 s.dispNo 1 = true ∧ s.bunkErr = [] ∧ s.injectWord = none ∧
    ok (.sts 0 (w 1 1000)) s (fun t =>
      SMap.val t.bunk 0 (slice 1 + ((s.hnd 5).rowAt 0 + 1016)) == 8 && SMap.val t.bunk 0 (slice 1 + ((s.hnd 5).rowAt 0 + 1023)) == 1) = true := by
  decide +kernel

/-- A joined pair: layout 0, both copies with JOIN. -/
def jn (x : Ctx := {}) : State :=
  ((((up.setFld Fld.SFC_PROFILE_SEAM 0).setFld Fld.SEQ_CTX_CFG_JOIN 1 0).setFld Fld.SEQ_CTX_CFG_JOIN 1 4).setCtx 0
    { x with st := .running, inSeg := true, owner := true }).setCtx 4 { x with st := .running, inSeg := true, owner := true }

theorem test_sts_in_a_joined_context :
    let s := jn
    s.joined 4 = true ∧ s.lead 4 ≠ 4 ∧ s.Issues 4 ∧ is (.sts 4 (nw [])) s (s.setCtx 4 ((s.ctx 4).moved 8)) = true := by decide +kernel

theorem test_barrier_over_both_halves :
    let m : StationSet := single 1 ||| single 95
    let s := jn { prog := { masks := [(1, m)] } }
    let w := nw [(51, 1)]
    s.Issues 0 ∧ Enc.barrier w = true ∧ m ≠ 0 ∧ subset m (s.seamSet 0) = true ∧ s.joined 0 = true ∧ bothHalves m = true ∧
    s.token.last < (s.ctx 0).prog.cross + 1 ∧ s.token.holder = none ∧
    ok (.barrier 0 w) s (fun t => t.token.reqWest && (t.ctx 0).barriers == [] && (t.ctx 0).prog.pc == 0) = true := by decide +kernel

theorem test_mma_over_both_halves :
    let m : StationSet := single 1 ||| single 95
    let s := (jn { prog := { masks := [(1, m), (2, single 95)], cross := 2 } }).setHnd 5 { hd 0 128 1 with set := BitVec.allOnes 96, joined := true }
    let w (k : Nat) := nw2 [(51, k), (46, 2), (22, 5)] []
    let v (last : Nat) (h : Option Bool) : State := { s with token := { holder := h, copyWest := some 0, last := BitVec.ofNat 32 last } }
    let noted (t : State) : Bool := (t.ctx 0).unbound.map (·.set) == [m] && (t.ctx 0).prog.cross == 3
    Enc.mma (w 1) = true ∧ subset m (s.seamSet 0) = true ∧ s.joined 0 = true ∧ bothHalves m = true ∧ s.handleFault 0 5 m = none ∧
    s.queuesFree m = true ∧ bothHalves (single 95) = false ∧ s.ownHalf 0 (single 95) = 0 ∧
    ok (.mma 0 (w 1)) (v 3 none) (fun t => noted t && t.dispNo == s.dispNo) = true ∧
    ok (.mma 0 (w 1)) (v 2 (some true)) (fun t => t.token.reqWest && (t.ctx 0).unbound == []) = true ∧
    ok (.mma 0 (w 1)) (v 2 (some false)) (fun t => noted t && t.token.last == 3 && (t.stn 1).queue == [1] && (t.stn 95).queue == [1]) = true ∧
    ok (.mma 0 (w 2)) s (fun t => (t.ctx 0).unbound.map (·.set) == [single 95] && (t.stn 95).queue == [] && (t.ctx 0).prog.cross == 2) = true := by
  decide +kernel

theorem test_members_are_dispatched :
    let s := (sq (cx [(3, 2 ^ 20 + 4)] [(1, 6)])).setHnd 5 (hd 0xFFF 128 1)
    let m := nw2 [(51, 1), (46, 2), (22, 5)] [(0, 2 ^ 20 - 5), (20, 3), (25, 1)]
    let r := nw [(51, 1), (47, 2), (31, 5), (11, 8)]
    Enc.mma m = true ∧ Enc.ringret r = true ∧ (s.ctx 0).Settled [3] ∧ subset 6 (s.seamSet 0) = true ∧ s.ownHalf 0 6 ≠ 0 ∧
    s.queuesFree (s.ownHalf 0 6) = true ∧ s.handleFault 0 5 6 = none ∧
    ok (.mma 0 m) s (fun t => (t.ctx 0).unbound.map (fun x => (x.tag.val, x.off)) == [(2, 2 ^ 20 - 1)] && (t.stn 1).queue == [1] &&
      (t.stn 3).queue == [] && (t.ctx 0).prog.pc == 16) = true ∧
    ok (.ringret 0 r) s (fun t => (t.inst 1).map (fun x => (x.off, x.mask)) == some (8, 6) && t.accs.map (·.wr) == [true]) = true := by
  decide +kernel

theorem test_accload_dispatch :
    let s := ((sq (cx [] [(1, 6), (2, 2 ^ 12), (3, 0)])).setHnd 5 (hd 0xFFF 128)).setHnd 6 (hd 0xFFF 128 1)
    let w (m src h off : Nat) := nw [(51, m), (46, src), (34, h), (14, off)]
    (∀ src < 5, Enc.accload (w 1 src 5 0) = true) ∧
    is (.accload 0 (w 2 1 5 0)) s (s.seqFault 0 0x0301) = true ∧
    is (.accload 0 (w 3 1 5 0)) s (s.setCtx 0 ((s.ctx 0).moved 8)) = true ∧
    ok (.accload 0 (w 1 0 0 0)) s (fun t => (t.stn 2).queue == [1] && t.accs == []) = true ∧
    is (.accload 0 (w 1 2 5 0)) s (s.seqFault 0 0x0304) = true ∧ is (.accload 0 (w 1 4 5 0)) s (s.seqFault 0 0x0304) = true ∧
    is (.accload 0 (w 1 3 5 1)) s (s.seqFault 0 0x0402) = true ∧ is (.accload 0 (w 1 1 5 128)) s (s.seqFault 0 0x0402) = true ∧
    ok (.accload 0 (w 1 1 5 127)) s (fun t => (t.stn 1).queue == [1] && t.accs.map (·.rd) == [true]) = true ∧
    ok (.accload 0 (w 1 2 6 0)) s (fun t => (t.stn 1).queue == [1]) = true := by decide +kernel

theorem test_drain_dispatch :
    let s := (sq (cx [] [(1, 6)])).setHnd 5 (hd 0xFFF 160)
    let w (off : Nat) := nw [(51, 1), (34, 5), (14, off)]
    Enc.drain (w 32) = true ∧ is (.drain 0 (w 33)) s (s.seqFault 0 0x0402) = true ∧
    ok (.drain 0 (w 32)) s (fun t => (t.stn 1).queue == [1] && t.accs.map (·.wr) == [true]) = true := by decide +kernel

theorem test_ringinj_dispatch :
    let m (t : Nat) : Member := ⟨t, .mma, Fin.ofNat 16 t, 6, nw [(22, 5)], 0⟩
    let s := (sq { unbound := [m 1, m 2] }).setHnd 5 (hd 0xFFF 128 1)
    let w (o k off : Nat) := nw2 [(47, o), (43, 2), (35, 3), (16, 5)] [(0, k), (20, off)]
    Enc.ringinj (w 11 127 0) = true ∧ (s.ctx 0).Settled [0] ∧
    is (.ringinj 0 (w 12 0 0)) s (s.seqFault 0 0x0301) = true ∧ is (.ringinj 0 (w 96 0 0)) s (s.seqFault 0 0x0301) = true ∧
    is (.ringinj 0 (w 11 127 1)) s (s.seqFault 0 0x0402) = true ∧
    (∀ x ∈ [m 2], s.memberFault 128 x = none) ∧ s.handleFault 0 5 (single 11) = none ∧
    ok (.ringinj 0 (w 11 127 0)) s (fun t => (t.stn 11).queue == [1] && (t.inst 1).map (·.members) == some [m 2] &&
      (t.ctx 0).unbound == [m 1]) = true := by decide +kernel

/-- An instruction of context 0 that stands at the head of station 1's queue, with number 4. -/
def atHead (s : State) (x : SInst) : State := (s.setInst 4 (some x)).setStn 1 { s.stn 1 with queue := [4] }

theorem test_accload_issue :
    let x := si .accload (nw [(46, 0)]) 2
    let y := si .accload (nw [(46, 3), (34, 5)]) 2
    let s := atHead sq x
    let l := s.setBank 1 0 { st := .loaded }
    let h := atHead ((sq).setHnd 5 (hd 2 128)) y
    s.headInst 1 = some (4, x) ∧ ((s.stn 1).bank x.bankIx).st = .empty ∧
    ok (.arrayIssue 1) s (fun t => ((t.stn 1).bank 0).st == .exchanging && ((t.stn 1).bank 0).exLoad == some 4 && (t.stn 1).queue == []) = true ∧
    is (.arrayIssue 1) l (l.faultCtx 0 0x0302 (srcStn 1)) = true ∧
    h.complete 5 4 1 = true ∧ ok (.arrayIssue 1) h (fun t => ((t.stn 1).bank 0).st == .exchanging) = true := by decide +kernel

theorem test_drain_issue :
    let x := si .drain (nw [(34, 5)]) 2
    let s := (atHead ((sq).setHnd 5 (hd 2 128)) x).modStn 1 fun y => { y with bank0 := { st := .done }, drains := [(0, ⟨some 0, [0]⟩)] }
    s.headInst 1 = some (4, x) ∧ ((s.stn 1).bank x.bankIx).st = .done ∧ s.writable 5 4 1 = true ∧ s.drainFault 1 x = none ∧
    s.fusedBehind 1 x = none ∧
    ok (.arrayIssue 1) s (fun t => ((t.stn 1).bank 0).st == .exchanging && ((t.stn 1).bank 0).exDrain == some 4 && (t.stn 1).queue == []) = true := by
  decide +kernel

/-- A group at station 1: RINGINJ number 4 under tag 2 with one MMA, number 3, ahead of it. -/
def grp (f : Nat := 1) : State :=
  let m : Member := ⟨0, .mma, 2, 2, nw [(46, 2), (22, 5), (34, 1), (38, 1)], 0⟩
  let x : SInst := { si .ringinj (nw2 [(47, 1), (43, 2), (28, f), (16, 5)] []) 2 with members := [m] }
  let y : SInst := si .mma (nw [(46, 2), (22, 5), (34, 1), (38, 1)]) 2
  let s := ((sq).setHnd 5 (hd 2 1 1)).setInst 3 (some y)
  (s.setInst 4 (some x)).setStn 1 { s.stn 1 with queue := [3, 4] }

theorem test_group_issue :
    let s := grp
    let late : State := { s with accs := [{ no := 2, h := 5, set := 2, rd := false, wr := true }] }
    let bad := grp 2
    (s.groupOf 0 2).isSome = true ∧ (∀ e ∈ s.groupOf 0 2, s.groupReady 0 2 e.1 e.2 = true ∧ s.groupFault e.2 = none ∧ e.2.cross = none ∧
      late.groupReady 0 2 e.1 e.2 = false) ∧
    (∀ e ∈ bad.groupOf 0 2, bad.groupReady 0 2 e.1 e.2 = true ∧ (bad.groupFault e.2).isSome = true) ∧
    ok (.ringGroupIssue 0 2) (s.modInst 4 fun x => { x with members := [] }) (fun t => (t.pass 4).isNone) = true ∧
    ok (.ringGroupIssue 0 2) ((s.modInst 4 fun x => { x with members := [] }).modStn 1 fun y => { y with queue := [4] }) (fun t =>
      (t.pass 4).isSome && (t.stn 1).queue == []) = true ∧
    is (.ringGroupIssue 0 2) late late = true ∧
    ok (.ringGroupIssue 0 2) bad (fun t => (t.ctx 0).faulted.isSome && (t.pass 4).isNone) = true := by decide +kernel

theorem test_bank_exchange_end :
    let s := ((sq).setInst 4 (some (si .accload (nw []) 2))).setBank 1 0 { st := .exchanging, exLoad := some 4 }
    let d := ((sq).setInst 4 (some (si .drain (nw [(34, 5)]) 2))).setBank 1 0 { st := .exchanging, exDrain := some 4, acc := [(3, 9)] }
    s.stnFree 1 = true ∧ (∀ y ∈ s.inst 4, (s.loadRows 1 (y.loadSrc 4)).2.2 = false) ∧
    ok (.bankExchangeEnd 1 0) s (fun t => ((t.stn 1).bank 0).st == .loaded && ((t.stn 1).bank 0).acc == [] && ((t.stn 1).bank 0).load == some ⟨4, 0, 0, 0, 0⟩) = true ∧
    d.stnFree 1 = true ∧ ok (.bankExchangeEnd 1 0) d (fun t => ((t.stn 1).bank 0).st == .empty && ((t.stn 1).bank 0).acc == []) = true := by
  decide +kernel

theorem test_residue :
    let b : Bank := { st := .computing, mma := some 4, acc := [(0, 9)], res := [(0, 9)] }
    let s := (((sq).setInst 4 (some (si .mma (nw []) 2))).setBank 1 0 b)
    let r := s.setBank 1 0 { b with replayed := true }
    let q := s.setBank 1 0 { b with st := .replay, replayed := true }
    let p := (s.setBank 1 0 { b with st := .replay, acc := [] }).setPass 7 (some
      { cid := 0, tag := 0, orig := 2, lane := false, span := 1, rc := 0, fmt := 0, hs := 5, soff := 0, k := 1, awaiting := [(0, 2)] })
    s.stnFree 1 = true ∧ ((s.stn 1).bank 0).restoring = false ∧ ((s.stn 1).bank 0).drained = none ∧ (s.inst 4).isSome = true ∧ (s.ctx (s.lead 0)).faulted = none ∧
    ok (.mmaResidueOutcome 1 0 true 0 0) s (fun t => ((t.stn 1).bank 0).st == .done && ((t.stn 1).bank 0).mma == none) = true ∧
    ok (.residueFault 1 0 127 127) s (fun t => is (.mmaResidueOutcome 1 0 false 127 127) s t) = true ∧
    ok (.residueFault 1 0 127 126) s (fun t => ((t.stn 1).bank 0).st == .replay && (t.stn 1).replay &&
      t.fld Fld.RING_RESIDUE_FAULTS 1 == 1 && t.fld Fld.RING_RESIDUE_LAST_ROW 1 == 127 && t.fld Fld.RING_RESIDUE_LAST_COL 1 == 126) = true ∧
    ok (.residueFault 1 0 0 0) r (fun t => (t.ctx 0).faulted == some 0x0303) = true ∧
    ((q.stn 1).bank 0).restoring = false ∧ ((q.stn 1).bank 0).later = none ∧
    ok (.mmaResidueOutcome 1 0 true 0 0) q (fun t => ((t.stn 1).bank 0).st == .done && ((t.stn 1).bank 0).acc == [(0, 9)] &&
      !(t.stn 1).replay && t.fld Fld.RING_RESIDUE_REPLAYS 1 == 1) = true ∧
    ((p.stn 1).bank 0).restoring = true ∧ (∀ x ∈ p.inst 4, (p.passOfMma x 1).isSome = true ∧ s.passOfMma x 1 = none) ∧
    p.stnFree 2 = true ∧ p.bunkErr = [] ∧ p.sideErr = [] ∧
    is (.replayPassIssue 1 0) (s.setBank 1 0 { b with st := .replay }) (s.setBank 1 0 { b with st := .replay }) = true ∧
    ok (.replayPassIssue 1 0) p (fun t => ((t.stn 1).bank 0).st == .replay && ((t.stn 1).bank 0).replayed) = true := by decide +kernel

theorem test_pass_retire :
    let p : Pass := { cid := 0, tag := 2, orig := 1, lane := false, span := 1, rc := 0, fmt := 1, hs := 5, soff := 0, k := 1 }
    let s := (sq).setPass 4 (some p)
    let a := (sq).setPass 4 (some { p with awaiting := [(0, 2)] })
    let h := s.modStn (s.passEnd p) fun y => { y with hold := [.throttle] }
    s.passOf 0 2 = some (4, p) ∧ p.retired = false ∧ s.stnFree (s.passEnd p) = true ∧ h.passOf 0 2 = some (4, p) ∧
    h.stnFree (h.passEnd p) = false ∧ is (.passRetire 0 2) h h = true ∧ ok (.passRetire 0 2) s (fun t => t.pass 4 == none) = true ∧
    ok (.passRetire 0 2) a (fun t => t.pass 4 == some { p with awaiting := [(0, 2)], retired := true }) = true := by decide +kernel

theorem test_capture_end :
    let p : Pass := { cid := 0, tag := 2, orig := 1, lane := false, span := 1, rc := 0, fmt := 0, hs := 5, soff := 0, k := 1, awaiting := [(0, 2)] }
    let x : SInst := { si .ringret (nw [(31, 6)]) 2 with issued := 2 }
    let s : State := { (((((sq).setHnd 5 (hd 2 1)).setHnd 6 { hd 2 1 with off := 1 }).setPass 4 (some p)).setInst 3 (some x)) with bunk := [(2 ^ 23, 7)] }
    s.captureOf 1 2 = some (p, 3, x) ∧ s.stnFree 1 = true ∧ s.bunkErr = [] ∧ s.sideErr = [] ∧ s.injectWord = none ∧
    subset x.mask (x.done ||| single 1) = true ∧
    ok (.ringretCaptureEnd 1 2) s (fun t => (t.hnd 6).fill == 1 && SMap.val t.bunk 0 (slice 1 + (s.hnd 6).rowAt 0) == 7 && t.inst 3 == none) = true := by
  decide +kernel

theorem test_holds :
    let s := up
    let h := up.modStn 5 fun y => { y with hold := [.throttle, .crossing] }
    ok (.stationHoldStart 5 .crossing) s (fun t => (t.stn 5).hold == [.crossing] && (t.stn 4).hold == []) = true ∧
    ok (.stationHoldStart 5 .throttle) h (fun t => (t.stn 4).hold == [.throttle] && (t.stn 5).hold == [.throttle, .crossing] &&
      (t.stn 8).hold == []) = true ∧
    ok (.stationHoldEnd ⟨5, .throttle⟩) h (fun t => (t.stn 5).hold == [.crossing] && (t.stn 4).hold == []) = true ∧
    HoldCause.crossing ∈ (h.stn 5).hold ∧ is (.arrayIssue 5) h h = true ∧ is (.mmaResidueOutcome 5 0 true 0 0) h h = true := by decide +kernel

/-! ### Vector instructions -/

/-- Context 0 with mask 1 = stations 1 and 2, and handles: 5, 6 FP32 4 rows; 7, 8 BF16 4 rows; 9 an FP32 column; 10 one FP40 row;
11 a 4-row U32-like stream target; 12 one FP32 row; 13 large. -/
def vs (x : Ctx := {}) : State :=
  let s := sq { x with prog := { x.prog with masks := [(1, 6)] } }
  ((((((((s.setHnd 5 (hd 0xFFF 4)).setHnd 6 (hd 0xFFF 4)).setHnd 7 (hd 0xFFF 4 1)).setHnd 8 (hd 0xFFF 4 1)).setHnd 9 (hd 0xFFF 4 0 8 1)).setHnd 10
    (hd 0xFFF 1 10)).setHnd 11 (hd 0xFFF 4 11)).setHnd 12 (hd 0xFFF 1)).setHnd 13 (hd 0xFFF 64)

theorem test_vector_masks_meet :
    let s := vs
    s.Issues 0 ∧ s.joined 0 = false ∧ subset 6 (s.seamSet 0) = true ∧ s.queuesFree 6 = true ∧ (s.ctx 0).flagPeer = [] ∧
    (s.ctx 0).Settled [0, 31] ∧ (∀ h ∈ List.range 9, s.handleFault 0 (BitVec.ofNat 12 (h + 5)) 6 = none) := by decide +kernel

theorem test_vop :
    let s := vs
    let w (op d a b : Nat) (k : List (Nat × Nat)) := nw2 [(51, 1), (42, op), (30, d), (18, a), (6, b)] k
    let q (v : NWords) (n : Nat) := ok (.vop 0 v) s fun t => (t.stn 1).queue == [1] && (t.stn 2).queue == [1] && (t.stn 3).queue == [] &&
      t.accs.length == n && (t.inst 1).map (·.kind) == some .vop
    (∀ op < 256, Enc.vop 256 (w op 5 6 5 [(0, 6)]) = true) ∧
    q (w 0 5 6 6 []) 3 = true ∧ q (w 3 5 6 6 [(0, 5)]) 4 = true ∧ q (w 12 5 6 6 [(0, 5), (26, 0xFEFF)]) 4 = true ∧
    q (w 15 5 6 0 []) 2 = true ∧ q (w 13 5 12 0 [(18, 1)]) 2 = true ∧ q (w 13 5 9 0 []) 2 = true ∧ q (w 14 10 6 0 []) 2 = true ∧
    ok (.vop 0 (w 0 5 6 6 [(17, 1), (12, 31)])) s (fun t => (t.ctx 0).flagWait == [(31, 0)] && (t.ctx 0).flagOrd == 1) = true := by
  decide +kernel

theorem test_vop_load :
    let s := vs
    let w := nw2 [(51, 1), (50, 1), (42, 7), (18, 13)] []
    Enc.vopLoad w = true ∧ 1088 ≤ (s.hnd 13).rows.toNat * (s.hnd 13).rowSize ∧
    ok (.vopLoadProg 0 w) s (fun t => (t.stn 1).queue == [1] && (t.inst 1).map (·.kind) == some .vopLoad) = true := by decide +kernel

theorem test_vlut_and_vrng :
    let s := vs
    let l := nw [(51, 1), (34, 5), (22, 6)]
    let b := nw [(51, 1), (49, 1), (34, 5), (22, 6), (10, 5)]
    let t := nw [(51, 1), (49, 2), (22, 13)]
    let r := nw [(51, 1), (37, 11), (21, 0xFEFF)]
    let g := nw [(51, 1), (49, 3), (37, 5)]
    Enc.vlut 0 l = true ∧ Enc.vlut 1 b = true ∧ Enc.vlut 2 t = true ∧ Enc.vrng r = true ∧ Enc.vrng g = true ∧
    6272 ≤ (s.hnd 13).rows.toNat * (s.hnd 13).rowSize ∧
    ok (.vlut 0 l) s (fun t => (t.stn 1).queue == [1] && t.accs.map (fun a => (a.rd, a.wr)) == [(true, false), (false, true)]) = true ∧
    ok (.vlutBack 0 b) s (fun t => (t.stn 1).queue == [1] && t.accs.length == 3) = true ∧
    ok (.vlutLoad 0 t) s (fun t => (t.stn 1).queue == [1] && t.accs.length == 1) = true ∧
    ok (.vrng 0 r) s (fun t => (t.stn 1).queue == [1] && t.accs.length == 1) = true ∧
    ok (.vrng 0 g) s (fun t => (t.stn 1).queue == [1] && t.accs.length == 1) = true := by decide +kernel

theorem test_vred :
    let s := vs
    let w (op op2 run l : Nat) := nw2 [(51, 1), (48, op), (45, op2), (44, run), (32, 9), (20, 5), (8, 6), (1, l)] [(0, 9)]
    (∀ op < 6, Enc.vred (w op 7 0 0) = true) ∧ (runsOf 6 2).isSome = true ∧
    ok (.vred 0 (w 0 7 0 0)) s (fun t => (t.stn 2).queue == [1] && t.accs.length == 2) = true ∧
    ok (.vred 0 (w 2 0 1 1)) s (fun t => (t.stn 2).queue == [1] && t.accs.length == 4) = true := by decide +kernel

theorem test_vcvt :
    let s := vs
    let w (fmt rm d a : Nat) (l k : List (Nat × Nat)) := nw2 ([(51, 1), (47, fmt), (44, rm), (28, d), (16, a)] ++ l) k
    Enc.vcvt (w 1 0 7 5 [] []) = true ∧ Enc.vcvt (w 1 4 7 5 [(42, 1)] [(0, 8), (12, 0xFEFF)]) = true ∧ s.numSolori = false ∧
    is (.vcvt 0 (w 2 0 7 5 [] [])) s (s.seqFault 0 0x0304) = true ∧
    ok (.vcvt 0 (w 1 0 7 5 [] [])) s (fun t => t.accs.length == 2) = true ∧
    ok (.vcvt 0 (w 1 4 7 5 [(42, 1)] [(0, 8), (12, 0xFEFF)])) s (fun t => t.accs.length == 3) = true ∧
    s.handleFault 0 13 0 = none ∧ 16 ≤ (s.hnd 13).rowSize ∧
    ok (.vcvt 0 (w 1 1 7 5 [(3, 1), (4, 13), (40, 1)] [(28, 31), (33, 1)])) s (fun t =>
      t.accs.map (fun a => (a.h, a.wr)) == [(5, false), (7, true), (13, true)] && (t.ctx 0).flagWait == [(31, 0)]) = true := by
  decide +kernel

theorem test_vector_masks :
    let s := vs { prog := {} }
    let s := s.modCtx 0 fun x => { x with prog := { x.prog with masks := [(1, 0x1800)] } }
    let l : List (Bool × Instr) := (let w (m : Nat) := nw2 [(51, m)] []; let r (m : Nat) := nw2 [(51, m), (45, 7)] [];
      let v (m f : Nat) := nw [(51, m), (49, f)]
      [1, 2].flatMap fun m => [(Enc.vop 256 (w m), .vop 0 (w m)), (Enc.vred (r m), .vred 0 (r m)), (Enc.vlut 0 (v m 0), .vlut 0 (v m 0)),
        (Enc.vlut 1 (v m 1), .vlutBack 0 (v m 1)), (Enc.vlut 2 (v m 2), .vlutLoad 0 (v m 2)), (Enc.vcvt (w m), .vcvt 0 (w m)),
        (Enc.vrng (v m 0), .vrng 0 (v m 0)), (Enc.vopLoad (nw2 [(51, m), (50, 1)] []), .vopLoadProg 0 (nw2 [(51, m), (50, 1)] []))])
    (∀ e ∈ l, e.1 = true) ∧ subset 0x1800 (s.seamSet 0) = false ∧
    (∀ e ∈ l.take 8, is e.2 s (s.seqFault 0 0x0301) = true) ∧
    (∀ e ∈ l.drop 8, ok e.2 s (fun t => (t.ctx 0).faulted == none && t.accs == [] && t.dispNo == s.dispNo) = true) := by decide +kernel

theorem test_cross_half :
    let m : StationSet := single 1 ||| single 95
    let s := (jn { prog := { masks := [(1, m)], cross := 2 } }).setHnd 11 { hd 0 4 11 with set := BitVec.allOnes 96, joined := true }
    let r := nw [(51, 1), (37, 11)]
    let w (last : Nat) (h : Option Bool) : State := { s with token := { holder := h, copyWest := some 0, last := BitVec.ofNat 32 last } }
    s.Issues 0 ∧ s.joined 0 = true ∧ Enc.vrng r = true ∧ subset m (s.seamSet 0) = true ∧ bothHalves m = true ∧ s.queuesFree m = true ∧
    s.handleFault 0 11 m = none ∧
    ok (.vrng 0 r) (w 3 none) (fun t => (t.ctx 0).prog.cross == 3 && t.dispNo == s.dispNo) = true ∧
    is (.vrng 0 r) (w 2 (some true)) { w 2 (some true) with token := { holder := some true, last := 2, reqWest := true } } = true ∧
    (w 2 (some true)).holdsToken 0 = false ∧ (w 2 (some false)).holdsToken 0 = true ∧
    ok (.vrng 0 r) (w 2 (some false)) (fun t => t.token.last == 3 && t.dispNo == s.dispNo + 1 && (t.stn 95).queue == [1]) = true := by
  decide +kernel

/-- A vector instruction, number 4, at the head of station 1, with handles of one row of one element. -/
def vh (x : SInst) (l : List Access) : State :=
  let s := atHead (((sq).setHnd 5 (hd 2 1 0 1 1)).setHnd 6 { hd 2 1 0 1 1 with off := 1 }) x
  { s with accs := l, bunk := [(2 ^ 23, 0), (2 ^ 23 + 2, 0x80), (2 ^ 23 + 3, 0x3F)].filter fun p => p.2 != 0 }

theorem test_vector_issue :
    let x := si .vop (nw2 [(42, 0), (30, 6), (18, 5), (6, 5)] []) 2
    let s := vh x [{ no := 4, h := 6, set := 2, rd := false, wr := true }]
    let w := vh x [{ no := 3, h := 5, set := 2, rd := false, wr := true }, { no := 4, h := 5, set := 2, rd := true, wr := false }]
    let b := vh (si .vlut (nw [(34, 6), (22, 5)]) 2) []
    s.headInst 1 = some (4, x) ∧ x.kind.vector = true ∧ s.accessReady 4 1 = true ∧ (s.runVector 1 x).fault = none ∧
    s.bunkErr = [] ∧ s.sideErr = [] ∧ s.injectWord = none ∧
    ok (.vectorIssue 1) s (fun t => (t.stn 1).queue == [] && SMap.val t.bunk 0 (2 ^ 23 + 256 + 3) == 0x40) = true ∧
    w.accessReady 4 1 = false ∧ is (.vectorIssue 1) w w = true ∧
    (∀ y ∈ b.inst 4, (b.runVector 1 y).fault = some Ev.LUT_FORMAT) ∧ ok (.vectorIssue 1) b (fun t => (t.ctx 0).faulted.isSome) = true := by
  decide +kernel

theorem test_lut_slot_at_the_head :
    let x := si .vlut (nw [(46, 3), (34, 6), (22, 5)]) 2
    let s := vh x [{ no := 3, h := 5, set := 2, rd := false, wr := true }, { no := 4, h := 5, set := 2, rd := true, wr := false }]
    s.headInst 1 = some (4, x) ∧ slotMine ((s.stn 1).tableSlot 3) (s.lead 0) = false ∧ s.accessReady 4 1 = false ∧
    is (.vectorIssue 1) s (s.faultCtx 0 0x0305 (srcStn 1)) = true := by decide +kernel

theorem test_slot_loads :
    let x := si .vopLoad (nw2 [(50, 1), (42, 7), (18, 5)] []) 2
    let s := (vh x []).setHnd 5 (hd 2 5)
    let y := si .vlutLoad (nw [(49, 2), (46, 3), (22, 5)]) 2
    let z : SInst := { si .vlut (nw [(46, 3)]) 2 with issued := 2 }
    let t := (vh y []).setInst 3 (some z)
    s.headInst 1 = some (4, x) ∧ s.accessReady 4 1 = true ∧ s.progBusy 1 7 = false ∧ s.rlf.securing = none ∧
    drainImageOk (s.imageRead (s.hnd 5) 1 1088).data = true ∧
    ok (.vectorIssue 1) s (fun t => ((t.stn 1).drainSlot 7).owner == some 0 && ((t.stn 1).drainSlot 7).img.length == 1088) = true ∧
    t.accessReady 4 1 = true ∧ t.tableBusy 1 3 = true ∧ is (.vectorIssue 1) t t = true := by decide +kernel

theorem test_vector_finish :
    let x : SInst := { si .vrng (nw [(37, 6)]) 2 with issued := 2, flags := 5, satCnt := 2 ^ 32, flagNo := some 0 }
    let s : State := { ((vh x []).modCtx 0 fun y => { y with flagWait := [(3, 0), (4, 1)] }) with
      accs := [{ no := 4, h := 6, set := 2, rd := false, wr := true }] }
    s.inst 4 = some x ∧ subset x.mask x.issued = true ∧ (s.ctx 0).flagWait.find? (fun p => p.2 == 0) = some (3, 0) ∧
    ok (.vectorFinish 4) s (fun t => t.inst 4 == none && t.accs == [] && (t.hnd 6).fill == 1 && (t.ctx 0).s 3 == 5 + 0xFFFFFFFF0000 &&
      (t.ctx 0).flagWait == [(4, 1)]) = true := by decide +kernel

/-! ### Streams -/

/-- Queue 3 of hub 0 belongs to context 0, which owns region 0. -/
def hq (x : Ctx := {}) : State := ((rg (sq x)).setHnd 5 (hd 6 4)).setFld Fld.HAUL_Q_OWN_VALID 1 0 3

theorem test_stream_dispatch :
    let s := hq (cx [(1, 0x100)])
    let r : Stream := { no := 1, cid := 0, kind := .block, h := 5, dir := false, prov := false, addr := 0, step := 0, eval := false }
    let busy := s.setQue 0 3 { st := .running, run := some r }
    let full := s.setQue 0 3 { st := .running, run := some r, shadow := some r }
    let w (q k : Nat) := nw [(48, q), (43, 1), (31, 5), (30, k)]
    let a (k : Nat) := nw [(48, 3), (43, 1), (31, 5), (29, k)]
    Enc.stream (w 3 1) = true ∧ (∀ k < 3, Enc.saveact (a k) = true) ∧ Enc.loadact (a 3) = true ∧ s.hubHere 0 0 = true ∧
    s.queueMine 0 0 3 = true ∧ s.queueMine 0 0 15 = false ∧ s.handleFault 0 5 0 = none ∧
    ok (.stream 0 (w 3 1)) s (fun t => (t.que 0 3).st == .fetch && ((t.que 0 3).run.map (·.dir)) == some true && t.accs.map (·.rd) == [true]) = true ∧
    ok (.streamp 0 (w 3 0)) s (fun t => ((t.que 0 3).run.map (·.prov)) == some true) = true ∧
    ok (.saveact 0 (a 2)) busy (fun t => ((t.que 0 3).shadow.map (·.kind)) == some (.saveact 2)) = true ∧
    ok (.loadact 0 (a 3)) s (fun t => ((t.que 0 3).run.map fun r => (r.kind, r.prov)) == some (.loadact true, true)) = true ∧
    (∀ e ∈ [.stream 0 (w 3 0), .streamp 0 (w 3 0), .saveact 0 (a 0), .loadact 0 (a 0)], is e full (full.seqFault 0 0x0505) = true) ∧
    is (.stream 0 (w 15 0)) s (s.seqFault 0 0x0501) = true ∧ is (.streamp 0 (w 3 1)) s (s.seqFault 0 0x0504) = true := by
  decide +kernel

theorem test_saveact_in_an_evaluation_and_the_other_half :
    let s := hq { prog := { evalFlag := true } }
    let w := nw [(48, 3), (31, 5)]
    let j := jn
    let v := nw [(52, 2), (48, 3), (31, 5)]
    (s.ctx 0).prog.evalFlag = true ∧ s.hubHere 0 0 = true ∧ is (.saveact 0 w) s (s.seqFault 0 0x0210) = true ∧
    j.hubHere 0 2 = false ∧ Enc.stream v = true ∧
    (∀ e ∈ [.stream 0 v, .streamp 0 v, .saveact 0 v, .loadact 0 v], is e j (j.setCtx 0 ((j.ctx 0).moved 8)) = true) := by decide +kernel

theorem test_waith :
    let s := (hq).modHnd 5 fun x => { x with fill := 3 }
    let p := s.modHnd 5 fun x => { x with st := .provisional }
    let f : State := { s with accs := [{ no := 0, h := 5, set := 2, rd := false, wr := true }] }
    let w (n : Nat) := nw [(42, 5), (21, n)]
    let d (k : Nat) := s.modCtx 0 fun x => { x with wait := .waith 5 (BitVec.ofNat 21 k).toNat 9 }
    Enc.waith (w 4) = true ∧ s.handleFault 0 5 0 = none ∧ (5 : HandleId).toNat ∉ (s.ctx (s.lead 0)).provH ∧
    ok (.waith 0 (w 3)) s (fun t => (t.ctx 0).wait == .none) = true ∧ ok (.waith 0 (w 4)) s (fun t => (t.ctx 0).wait == .waith 5 4 s.dispNo) = true ∧
    ok (.waith 0 (w 0)) s (fun t => (t.ctx 0).wait == .none) = true ∧ ok (.waith 0 (w 0)) f (fun t => (t.ctx 0).wait == .waith 5 0 s.dispNo) = true ∧
    is (.waith 0 (w 1)) p (p.seqFault 0 0x020B) = true ∧
    ok (.waithRelease 0) (d 3) (fun t => (t.ctx 0).wait == .none) = true ∧ is (.waithRelease 0) (d 4) (d 4) = true := by decide +kernel

def st5 (x : Stream → Stream := id) (st : QState := .fetch) (s : State := hq) : State :=
  s.setQue 0 3 { st := st, run := some (x { no := 4, cid := 0, kind := .block, h := 5, dir := false, prov := false, addr := 0, step := 0, eval := false }) }

/-- A descriptor at address 0: two rows of 512 bytes from 0x1000, broadcast. -/
def blk (turn : Nat := 0) : List Word := [0x0100000000001000, BitVec.ofNat 64 (512 + 2 * 2 ^ 36), BitVec.ofNat 64 (2 ^ 22 + turn * 2 ^ 29), 0, 0, 0, 0, 0]
def blkMem (b : List Word) : List Host.Cell := (List.range 64).filterMap fun i => let v := (b.getD (i / 8) 0).extractLsb' (8 * (i % 8)) 8
                                                                           if v = 0 then none else some (i, v)

def default5 : Stream := { no := 4, cid := 0, kind := .block, h := 5, dir := false, prov := false, addr := 0, step := 0, eval := false }

theorem test_stream_check :
    let s : State := { st5 with mem := blkMem (blk) }
    let bad : State := st5
    s.streamRuns 0 (((s.que 0 3).run).getD default5) = true ∧
    (∀ r ∈ (s.que 0 3).run, (s.checkStream 0 3 r).wait = false ∧ (s.checkStream 0 3 r).fault = none ∧
      (s.checkStream 0 3 r).r.needTurn = false ∧ (bad.checkStream 0 3 r).fault = some 0x0502) ∧
    ok (.streamCheckDone 0 3) s (fun t => (t.que 0 3).st == .running && ((t.que 0 3).run.map (·.blk)) == some blk) = true ∧
    ok (.streamCheckDone 0 3) bad (fun t => (t.ctx 0).faulted == some 0x0502) = true := by decide +kernel

theorem test_engine_grant :
    let f (x : Stream) : Stream := { x with checked := true, needTurn := true, needCoder := true }
    let s := (st5 f .waiting).setHub 0 { turn := [7], coder := [1], req := [3, 9] }
    let full := (st5 f .waiting).setHub 0 { turn := [7, 8], coder := [1], req := [3, 9] }
    (s.hub 0).req = 3 :: [9] ∧ (s.hub 0).turn.length < 2 ∧ (s.hub 0).coder.length < 2 ∧ s.streamRuns 0 default5 = true ∧
    ok (.engineGrant 0 3) s (fun t => (t.que 0 3).st == .running && t.hub 0 == { turn := [7, 3], coder := [1, 3], req := [9] }) = true ∧
    ok (.engineGrant 0 3) full (fun t => (t.que 0 3).st == .waiting) = true := by decide +kernel

theorem test_stream_row_write :
    let f (x : Stream) : Stream := { x with checked := true, blk := blk, served := 2 }
    let s : State := { (st5 f .running ((hq).setHnd 5 (hd 2 4 0 2 12))) with mem := [(0x1000, 1), (0x102F, 2), (0x1030, 3)] }
    let r := f default5
    let d := descOf r.blk 2
    let m := descMove d (s.hnd 5) r.idx false r.moved
    (s.que 0 3).run = some r ∧ bits (blkW r.blk 0) 56 8 ≠ 2 ∧ r.moved < d.total 2 ∧ m.addr = some 0x1000 ∧ m.turn = none ∧ m.oob = false ∧
    s.moveReady r m.stns = true ∧ s.memErr = [] ∧ s.bunkErr = [] ∧ s.injectWord = none ∧
    ok (.streamRowWrite 0 3) s (fun t => t.bunk == [(2 ^ 23, 1), (2 ^ 23 + 47, 2)] && (t.hnd 5).fill == 1 && ((t.que 0 3).run.map (·.counted)) == some 1) = true := by
  decide +kernel

theorem test_row_in_a_lost_region :
    let f (x : Stream) : Stream := { x with checked := true, blk := blk, served := 2 }
    let s := (st5 f .running ((hq).setHnd 5 (hd 2 4 0 2 12))).setFld Fld.MEM_RGN_B_STATE 2 0
    s.ctxRange 0 0x1000 48 = false ∧ is (.streamRowWrite 0 3) s (s.faultCtx 0 0x0602 (srcHub 0)) = true := by decide +kernel

theorem test_sampler_stream_of_a_joined_context :
    let b : List Word := [0x0100000000001000, 0, 0, 3, 0, 0, 0, 0]
    let s : State := { rg (jn { prog := { cross := 2 } }) with mem := blkMem b }
    let w (hub : Nat) := nw [(52, hub), (48, 3), (31, 5)]
    let v (last : Nat) (h : Option Bool) : State := { s with token := { holder := h, copyWest := some 0, last := BitVec.ofNat 32 last } }
    Enc.stream (w 0) = true ∧ s.joined 0 = true ∧ s.fld Fld.HAUL_Q_CFG_MODE 0 3 ≠ 1 ∧ s.samplerBlock 0 0 = true ∧
    s.hubHere 0 0 = true ∧ s.hubHere 0 2 = false ∧ (v 2 (some true)).holdsToken 0 = false ∧
    ok (.stream 0 (w 0)) (v 3 none) (fun t => (t.ctx 0).prog.cross == 3 && (t.ctx 0).prog.pc == 8 && t.que 0 3 == {}) = true ∧
    is (.stream 0 (w 2)) (v 2 none) (v 2 none) = true ∧
    is (.stream 0 (w 0)) (v 2 (some true)) ((v 2 (some true)).reqToken 0) = true := by decide +kernel

theorem test_loadact_section :
    let z : Nat := (crc32c (List.replicate 32 0)).toNat
    let blk (crc : Nat) : List Word := [BitVec.ofNat 64 (8 * 2 ^ 16 + 2 ^ 32), 1, 512, 0, 0, 0, 0, 0, BitVec.ofNat 64 (1 + crc * 2 ^ 32)]
    let f (crc : Nat) (x : Stream) : Stream := { x with kind := .loadact false, checked := true, blk := blk crc, moved := 1 }
    let s (crc : Nat) := st5 (f crc) .running
    let r (crc : Nat) := f crc default5
    (∀ crc ∈ [0, z], (s crc).streamRuns 0 (r crc) = true ∧ (r crc).sections < hdrNsec (r crc).head ∧
      ((r crc).sections + 1) * (hdrShape (r crc).head).rows ≤ (r crc).moved ∧
      (((s crc).sectionBytes (r crc) 0).bind fun b => decodeSection (hdrShape (r crc).head) b.data).isSome = true) ∧
    (∀ b ∈ (s z).sectionBytes (r z) 0, ∀ p ∈ decodeSection (hdrShape (r z).head) b.data,
      (hdrSection (r z).head 0).1 + pad256 p.2.2 = hdrNext (r z).head 0) ∧
    ok (.loadactSectionCheck 0 3) (s 0) (fun t => (t.ctx 0).faulted == some 0x0507) = true ∧
    ok (.loadactSectionCheck 0 3) (s z) (fun t => ((t.que 0 3).run.map (·.sections)) == some 1 && (t.ctx 0).faulted == none) = true := by
  decide +kernel

theorem test_stream_finish :
    let f (x : Stream) : Stream := { x with checked := true, blk := blk, moved := 2 }
    let s : State := { (st5 f .running) with accs := [{ no := 4, h := 5, set := 6, rd := false, wr := true }] }
    let h := (hq).setQue 0 3 { st := .idle, shadow := some default5 }
    let d := (hq).setQue 0 3 { st := .draining }
    let z : State := { hq with rst := { hq.rst with memInit := 1 } }
    s.streamDone (f default5) = true ∧
    ok (.streamFinish 0 3) s (fun t => t.que 0 3 == {} && t.accs == [] && t.fld Fld.HAUL_Q_CNT_STREAMS 0 3 == 1) = true ∧
    ok (.shadowStart 0 3) h (fun t => (t.que 0 3).st == .fetch && t.fld Fld.HAUL_Q_STATUS_GEN 0 3 == 1 && t.fld Fld.HAUL_Q_CNT_REARMS 0 3 == 1) = true ∧
    ok (.queueDrainDone 0 3 7) d (fun t => t.que 0 3 == {} && t.fld Fld.HAUL_HUB_DISCARD_LINES 0 == 7) = true ∧
    z.clientWorks 0 19 = true ∧ z.clientWorks 0 3 = false ∧
    ok (.crossbarRound 0 [19, 3, 19, 19]) z (fun t => t.fld Fld.HAUL_HUB_LINES_LINES 0 == min 3 (2 ^ priDflt 19) && t.queues == z.queues) = true := by
  decide +kernel

/-! ### Handles and bunkers -/

theorem test_halloc :
    let s := ((sq (cx [] [(2, 6)])).setFld Fld.BNK_CTX_RANGE_COUNT 8 0).setHnd 6 (hd 2 4)
    let w (h l rows stride : Nat) := nw2 [(42, h), (39, 2), (18, l)] [(0, rows), (20, stride)]
    let e (l rows stride : Nat) : Handle := { st := .allocated, set := 6, off := BitVec.ofNat 11 l, rows := BitVec.ofNat 20 rows, stride := BitVec.ofNat 12 stride, tentative := true, gen := 1 }
    let p := s.setHnd 6 { hd 2 4 with st := .purgePending }
    Enc.halloc (w 7 8 4 16) = true ∧ (e 8 4 16).shapeOk = true ∧ (e 8 4 15).shapeOk = false ∧ s.inRange 0 7 = true ∧ s.inRange 0 8 = false ∧
    (∀ q ∈ s.usedHandles, q.2.meets (e 8 4 16) = false ∧ q.2.meets (e 0 4 16) = true) ∧ s.sleepers (e 8 4 16) = [] ∧
    is (.halloc 0 (w 7 8 4 15)) s (s.seqFault 0 0x0402) = true ∧ is (.halloc 0 (w 8 8 4 16)) s (s.seqFault 0 0x0401) = true ∧
    is (.halloc 0 (w 6 8 4 16)) s (s.seqFault 0 0x0401) = true ∧ is (.halloc 0 (w 7 0 4 16)) s (s.seqFault 0 0x0403) = true ∧
    is (.halloc 0 (w 7 0 4 16)) p p = true ∧
    ok (.halloc 0 (w 7 8 4 16)) s (fun t => t.hnd 7 == e 8 4 16 && (t.ctx 0).prog.pc == 16) = true := by decide +kernel

theorem test_hfree_and_hpurge :
    let s := (sq).setHnd 6 (hd 2 4)
    let h : State := { s with accs := [{ no := 0, h := 6, set := 2, rd := true, wr := false }] }
    let w := nw [(42, 6)]
    Enc.hfree w = true ∧ s.handleFault 0 6 0 = none ∧ (s.hnd 6).purgeNo = none ∧
    ok (.hfree 0 w) s (fun t => (t.hnd 6).st == .purgePending && t.purgeQ == [(6, false)] && (t.ctx 0).pastReturn) = true ∧
    ok (.hpurge 0 w) s (fun t => (t.hnd 6).zeroing && t.purgeQ == [(6, true)]) = true ∧
    ok (.hfree 0 w) h (fun t => (t.hnd 6).freePending && (t.hnd 6).st == .allocated && t.purgeQ == []) = true ∧
    ok (.hpurge 0 w) h (fun t => (t.hnd 6).purgeNo == some h.dispNo && t.purgeQ == []) = true := by decide +kernel

theorem test_purges_end :
    let s := (up).setHnd 6 { hd 2 4 with freePending := true }
    let h : State := { s with accs := [{ no := 0, h := 6, set := 2, rd := true, wr := false }] }
    let k : State := { (up).setHnd 6 { hd 2 4 with zeroing := true, fill := 3 } with purgeQ := [(6, true)], bunk := [(2 ^ 23, 1), (2 ^ 23 + 1023, 2), (2 ^ 23 + 1024, 3)] }
    let f : State := { (up).setHnd 6 { hd 2 4 with st := .purgePending } with purgeQ := [(6, false)] }
    (s.hnd 6).freePending = true ∧ is (.handleHoldEnd 6) h h = true ∧
    ok (.handleHoldEnd 6) s (fun t => (t.hnd 6).st == .purgePending && t.purgeQ == [(6, false)]) = true ∧
    s.purgeFirst 6 = none ∧ is (.bnkPurgeDone 6) s s = true ∧
    k.purgeFirst 6 = some true ∧ (stationsOf (k.hnd 6).set).all k.sliceRuns = true ∧
    ok (.bnkPurgeDone 6) k (fun t => (t.hnd 6).st == .allocated && (t.hnd 6).fill == 0 && t.bunk == [(2 ^ 23 + 1024, 3)] && t.purgeQ == []) = true ∧
    f.purgeFirst 6 = some false ∧ ok (.bnkPurgeDone 6) f (fun t => (t.hnd 6).st == .free) = true := by decide +kernel

theorem test_handle_table :
    let s := (up).setHnd 6 (hd 2 4)
    ok (.bnkHselWrite .host 6) s (fun t => t.fld Fld.BNK_HSEL_HANDLE == 6 && t.fld Fld.BNK_HENT_WORD 0 == s.handleWord 6 0 % 2 ^ 64) = true ∧
    ok (.bnkHent0Read .host) (s.setFld Fld.BNK_HSEL_HANDLE 6) (fun t => t.fld Fld.BNK_HENT_WORD 3 == s.handleWord 6 3 % 2 ^ 64) = true := by decide +kernel

theorem test_bank_power :
    let s := up
    let p (b : BankPwr) (ns since : Nat) (n : Nat := 0) : State := { up.setBankPwr 3 15 { st := b, since := since, inFlight := n } with time := { up.time with ns := BitVec.ofNat 64 ns } }
    let u : State := { (up.setFld Fld.BNK_PWR_CTL_AUTO 1).setFld Fld.BNK_PWR_CTL_IDLE 2 with time := { up.time with ns := 2000 } }
    let g : State := { (p .deferring 5 0) with pwr := { up.pwr with off := [0] } }
    s.sliceRuns 3 = true ∧ g.sliceRuns 3 = false ∧ is (.bankPowerDown 3 15) g g = true ∧
    s.bankHeld 3 15 = false ∧ ok (.bankSleepReq 3 0x8000) s (fun t => (t.bankPwr 3 15).st == .deferring && (t.bankPwr 3 14).st == .awake) = true ∧
    ok (.bankWakeReq 3 0x80000000) (p .asleep 5 0) (fun t => (t.bankPwr 3 15).st == .waking) = true ∧
    ok (.bankWakeReq 3 0x80000000) (p .deferring 5 0) (fun t => (t.bankPwr 3 15).st == .awake) = true ∧
    ok (.bankPowerDown 3 15) (p .deferring 16000 0) (fun t => (t.bankPwr 3 15).st == .asleep) = true ∧
    is (.pwrDefer 3 15) (p .deferring 16000 0) (p .deferring 16000 0) = true ∧
    ok (.pwrDefer 3 15) (p .deferring 16000 0 1) (fun t => (t.bankPwr 3 15).st == .awake && raised s t 0x0406 (srcStn 3) &&
      t.fld Fld.BNK_ST_PWR_DEFERS 3 == 1) = true ∧
    ok (.bankWakeDone 3 15) (p .waking 2000 0) (fun t => (t.bankPwr 3 15).st == .awake) = true ∧
    u.bankHeld 3 15 = false ∧ ok (.bankAutoSleep 3 15) u (fun t => (t.bankPwr 3 15).st == .deferring) = true := by decide +kernel

theorem test_scrub_read :
    let s := (up.setFld Fld.BNK_SCRUB_CTL_EN 1).setFld Fld.BNK_SCRUB_CTL_LIMIT 1
    let e : State := { s with bunkErr := [(3 * 2 ^ 20, 1)] }
    let z := s.modStn 3 fun y => { y with scrubDone := 8191, scrubSeen := s.scrubNeed 3 - 1 }
    let q := s.modStn 3 fun y => { y with scrubSeen := 1 }
    let l : State := { s with time := { s.time with ns := 1001 } }
    s.sliceRuns 3 = true ∧ s.scrubLine 3 0 = true ∧ (s.stn 3).scrubSeen.testBit 0 = false ∧
    s.scrubNeed 3 &&& 1 ≠ s.scrubNeed 3 ∧ (z.scrubNeed 3 &&& ((z.stn 3).scrubSeen ||| 1)) = z.scrubNeed 3 ∧
    (z.stn 3).scrubSeen.testBit 0 = false ∧
    ok (.scrubRead 3 0) s (fun t => (t.stn 3).scrubDone == 1 && (t.stn 3).scrubSeen.testBit 0) = true ∧
    ok (.scrubRead 3 0) z (fun t => (t.stn 3).scrubDone == 0 && (t.stn 3).scrubQuarter == 1 && t.fld Fld.BNK_ST_SCRUB_ROUNDS 3 == 1) = true ∧
    (3 * 2 ^ 20) / 32 = slice 3 / 256 + 0 ∧ eccOutcome 1 = .ce (match eccOutcome 1 with | .ce p => p | _ => 0) ∧
    ok (.scrubRead 3 0) e (fun t => t.bunkErr == [] && t.fld Fld.BNK_ST_ECC_CE_SCRUB 3 == 1) = true ∧
    is (.scrubRead 3 0) q q = true ∧
    ok (.bnkScrubSlow 3) l (fun t => (t.stn 3).scrubSlow && raised s t 0x0405 (srcStn 3)) = true := by decide +kernel

theorem test_patrol_scrub :
    let s := up.setFld Fld.MEM_SCRUB_CTL_EN 1
    let c : State := { s with memErr := [(0, 1)], mem := [(0, 9)] }
    let u : State := { s with memErr := [(0, 3)], mem := [(4095, 9), (4096, 8)] }
    let a := ctrlAddr s.variant 0 0
    s.domOn (ctrlDom 0) = true ∧ s.stopDevice = false ∧ assigned s.variant a 8 = true ∧ memCtrl s.variant a = 0 ∧ a = 0 ∧
    is (.patrolScrub 0 0) s s = true ∧ eccOutcome 3 = .ue ∧
    ok (.patrolScrub 0 7) c (fun t => t.memErr == [] && t.mem == [(0, 9)] && t.fld Fld.MEM_HC_ECC_CE_SCRUB 0 == 1) = true ∧
    ok (.patrolScrub 0 0) (rg u) (fun t => t.memErr == [(0, 3)] && raised s t 0x0603 (srcHbm 0)) = true ∧
    ok (.patrolScrub 0 0) u (fun t => t.memErr == [] && t.mem == [(4096, 8)] && t.fld Fld.MEM_HC_ECC_UE 0 == 1) = true := by decide +kernel

/-! ### Device memory -/

theorem test_regions :
    let s := up.setFld Fld.MEM_RGN_A_SIZE 1 7
    let v : Word := 0b1010001
    let a := (s.setFld Fld.MEM_RGN_B_STATE 1 7)
    s.privileged .sideband = false ∧ s.privileged .config = true ∧ s.tailEntry 7 = false ∧ s.partEntry 7 = false ∧ s.rgnOk 7 = true ∧
    s.rgnOk 8 = false ∧ s.rgnFilling 7 = false ∧ a.rgnBase 7 < 2 ^ 47 ∧
    ok (.rgnAllocate .sideband 7 v) s (fun t => t.rgnState 7 == 0 && t.fld Fld.DBG_STATUS_REFUSALS == 1) = true ∧
    ok (.rgnRelease .sideband 7 2) a (fun t => t.rgnState 7 == 1 && t.fld Fld.DBG_STATUS_REFUSALS == 1) = true ∧
    ok (.rgnAllocate .config 7 v) s (fun t => t.rgnState 7 == 1 && t.rgnOwner 7 == 6) = true ∧
    ok (.rgnAllocate .config 8 v) s (fun t => t.rgnState 8 == 0 && raised s t 0x0102 srcDev (0x702008 + 0x80)) = true ∧
    ok (.rgnRelease .config 7 2) a (fun t => t.rgnState 7 == 2 && t.hbmPurge == [7]) = true ∧
    is (.rgnRelease .config 7 2) s s = true := by decide +kernel

theorem test_region_purges :
    let p := ((up.setFld Fld.MEM_RGN_A_SIZE 1 7).setFld Fld.MEM_RGN_B_STATE 2 7)
    let s : State := { p with hbmPurge := [7, 9], mem := [(0, 1), (2 ^ 21, 2)] }
    let w : State := { p with hbmPurge := [9, 7] }
    let q := p.setFld Fld.MEM_RGN_A_BASE (stkBase / 2 ^ 21) 7
    let m : State := { q.modMill 0 (fun x => { x with purge := [7] }) with mem := [(stkBase, 1)] }
    s.rlf.rolePending = none ∧ (s.hbmPurge.filter fun k => memHub (s.rgnBase k) == memHub 0).head? = some 7 ∧ s.regionRuns 48 = true ∧
    ok (.hbmPurgeDone 7) s (fun t => t.rgnState 7 == 0 && t.mem == [(2 ^ 21, 2)] && t.hbmPurge == [9]) = true ∧
    is (.hbmPurgeDone 7) w w = true ∧
    m.purgeMill 7 = some 0 ∧ (m.mill 0).purge.head? = some 7 ∧ m.regionRuns 56 = true ∧
    ok (.stockpilePurgeDone 7) m (fun t => t.rgnState 7 == 0 && t.mem == [] && t.fld Fld.MILL_PURGE_DONE 0 == 1) = true := by decide +kernel

theorem test_a_purge_waits_for_accesses :
    let p := ((sq { stores := [(8, 7)] }).setFld Fld.MEM_RGN_A_SIZE 1 7).setFld Fld.MEM_RGN_B_STATE 2 7
    let s : State := { p with hbmPurge := [7] }
    s.rgnAccess 7 = true ∧ is (.hbmPurgeDone 7) s s = true ∧ is (.stockpilePurgeDone 7) s s = true := by decide +kernel

/-- Sample store 2: 4 slots of 256 bytes at 0x1000, weights at 2^24, published every 64 pushes. -/
def sst : State :=
  ((((((fl up [(Fld.MEM_RGN_A_SIZE, 7, 9), (Fld.MEM_RGN_B_STATE, 7, 1), (Fld.MEM_RGN_B_CLASS, 7, 1)]).setFld Fld.MEM_SS_CFG_VALID 1 2).setFld Fld.MEM_SS_CFG_N 4 2).setFld Fld.MEM_SS_CFG_SLOT 1 2).setFld Fld.MEM_SS_BASE_SBASE 16 2).setFld
    Fld.MEM_SS_BASE_WBASE 1 2).setFld Fld.MEM_SS_CFG_G 1 2

theorem test_sample_push :
    let s := (sst).setStore 2 { head := 5, since := 63 }
    let w := s.setFld Fld.MEM_SS_CFG_WEIGHTED 1 2
    let f := (sst).setStore 2 { head := 5, since := 64 }
    let h := (sst).setStore 2 { head := 5, since := 3, held := [.whole 0 [9]] }
    let p := s.setFld Fld.MEM_RGN_B_STATE 2 7
    let long := List.replicate 257 (1 : Byte)
    s.ssValid 2 = true ∧ (s.storeRgn 2).isSome = true ∧ (w.storeRgn 2).isSome = true ∧ long.length > s.ssSlot 2 ∧ s.rgnPurging 0x1100 256 = false ∧ p.rgnPurging 0x1100 256 = true ∧ s.ssG 2 = 64 ∧
    ok (.samplePushWrite 2 0x0102 [7, 8]) s (fun t => t.mem == [(0x1100, 7), (0x1101, 8)] && t.store 2 == { head := 6, since := 64 }) = true ∧
    (long.take 256).length ≤ s.ssSlot 2 ∧ ok (.samplePushWrite 2 0x0102 [7, 8]) w (fun t => t.mem.length == 4 && t.memByte (2 ^ 24 + 2) == 2 && t.memByte (2 ^ 24 + 3) == 1) = true ∧
    ok (.samplePushWrite 2 0 long) s (fun t => t.fld Fld.MEM_SS_CNT_DROPPED 2 == 1) = true ∧
    ok (.samplePushWrite 2 0 [7]) p (fun t => t.fld Fld.MEM_PURGE_DROPPED == 1) = true ∧
    (∀ s ∈ [f, h], ok (.samplePushWrite 2 0 [7]) s (fun t => t.fld Fld.MEM_SS_CNT_HELD 2 == 1 && t.mem == [] &&
      (t.store 2).held == (s.store 2).held ++ [.whole 0 [7]]) = true) := by decide +kernel

theorem test_position_load :
    let b0 : List Byte := [5] ++ List.replicate 55 0 ++ [BitVec.ofNat 8 (up.posFlags 0 false)] ++ List.replicate 3 0
    let b := b0 ++ bytesOf 4 (crc32c b0).toNat
    let s : State := { up with mem := cells 64 b }
    let r := s.setCtx 0 { st := .running }
    b.length = 64 ∧ s.posFits 0 b = true ∧ (s.ctx 0).st = .idle ∧
    ok (.memSmpLoad 0 64) s (fun t => (t.smp 0).train.pub == 5 && (t.smp 0).trainW.pub == 5) = true ∧
    ok (.memSmpLoad 0 128) s (fun t => raised s t 0x0605 srcDev && t.samplers == []) = true ∧
    ok (.memSmpLoad 0 64) r (fun t => raised s t 0x0101 srcDev 0x705008 && t.samplers == []) = true := by decide +kernel

/-! ### Updates -/

theorem test_coefset :
    let s := (sq (cx [(1, 2 ^ 64 - 1)])).setFld Fld.MILL_CTX_ENTRY_COUNT 8 0
    let w (m e f : Nat) := nw [(52, m), (40, e), (32, f), (27, 1)]
    let l : State := { s with variant := .link }
    Enc.coefset (w 0 7 0x13) = true ∧ s.variant.hasMill 1 = true ∧ l.variant.hasMill 1 = false ∧
    ok (.coefset 0 (w 0 7 0x13)) s (fun t => SMap.val t.coef 0 (((0 * 2 + 1) * 4096 + 7) * 256 + 0x13) == 2 ^ 64 - 1 && (t.ctx 0).pastReturn) = true ∧
    ok (.coefset 0 (w 1 0 1)) s (fun t => SMap.val t.coef 0 (((1 * 2 + 1) * 4096 + 0) * 256 + 1) == 2 ^ 32 - 1) = true ∧
    is (.coefset 0 (w 0 8 0)) s (s.seqFault 0 0x0702) = true ∧ is (.coefset 0 (w 0 0 0x14)) s (s.seqFault 0 0x0209) = true ∧
    is (.coefset 0 (w 1 0 0)) l (l.seqFault 0 0x0103) = true ∧ Enc.coefswap (nw [(52, 1)]) = true ∧
    ok (.coefswap 0 (nw [(52, 1)])) s (fun t => SMap.val t.coefSwap false 8 && (t.ctx 0).pastReturn) = true := by decide +kernel

def anUpdate (no : Nat) : Update := { no := no, cid := 0, recAddr := 0, hw := 0, hwv := false, rtag := 0, step := 0, red := 0, entries := (0, 1) }

theorem test_millstep :
    let s := (rg (sq { cx [(1, 0)] with tags := [5] })).setHnd 6 (hd 2 4)
    let w (v : Nat) := nw [(49, 1), (37, 6), (36, v), (24, 5)]
    let f := s.modMill 0 fun x => { x with queue := List.replicate 64 (anUpdate 0) }
    let e := s.modCtx 0 fun x => { x with prog := { x.prog with evalFlag := true } }
    let b : State := { s with variant := .base }
    Enc.millstep (w 1) = true ∧ (s.ctx 0).Settled [1] ∧ (5 : BitVec 12) ∈ (s.ctx 0).tags ∧ s.handleFault 0 6 2 = none ∧
    s.millOf 0 0 = 0 ∧ (f.mill (f.millOf 0 0)).queue.length = 64 ∧
    ok (.millstep 0 (w 1)) s (fun t => (t.mill 0).queue.map (·.no) == [1] && t.accs.map (·.wb) == [true] && (t.ctx 0).tags == []) = true ∧
    is (.millstep 0 (w 0)) f f = true ∧ is (.millstep 0 (w 0)) e (e.seqFault 0 0x0210) = true ∧
    is (.millstep 0 (w 0)) b (b.seqFault 0 0x0103) = true ∧
    is (.millstep 0 (nw [(49, 1), (24, 6)])) s (s.seqFault 0 0x020C) = true := by decide +kernel

theorem test_millstep_receives_a_handover :
    let r : Red := { no := 0, cid := 0, group := 0, rtag := 5, gen := 1, set := 1, rows := 128, cols := 1, complete := true, dispatched := true }
    let s := rg (sq { cx [(1, 0)] with tags := [5] })
    let s : State := { s with fab := { s.fab with reds := [r] } }
    s.redOf 0 5 = some r ∧
    ok (.millstep 0 (nw [(49, 1), (37, 6), (24, 5)])) s (fun t => (t.mill 0).queue.map (·.red) == [0] &&
      t.fld Fld.MILL_CNT_FOLD_HANDOVERS 0 == 1) = true := by decide +kernel

/-- A record at address 0 of a 1 by 1 tensor in half 0, whose master lies at the start of the stockpile; entry 0 works on nothing. -/
def rec0 : State :=
  let w : List Nat := [3 * 2 ^ 56, 1 + 2 ^ 24, stkBase, stkBase + 256, 0, 0, 0, 0, 0x400, 0, 0x200 + 2 ^ 48, 0]
  let s := (((rg sq).setFld Fld.MEM_RGN_A_BASE (stkBase / 2 ^ 21) 1).setFld Fld.MEM_RGN_A_SIZE 1 1).setFld Fld.MEM_RGN_B_STATE 1 1
  let s := s.setFld Fld.MILL_CTX_ENTRY_COUNT 1 0
  { s with mem := cells 0 (w.flatMap (bytesOf 8)), coef := [(0, BitVec.ofNat 64 (4 * 2 ^ 17 + 4 * 2 ^ 20))] }

theorem test_mill_accept :
    let s := (rec0).modMill 0 fun x => { x with queue := [anUpdate 9] }
    let b := (rec0).modMill 0 fun x => { x with queue := [{ anUpdate 9 with recAddr := 32 }] }
    (s.mill 0).queue.find? (fun u => !u.accepted) = some (anUpdate 9) ∧ s.regionRuns 56 = true ∧
    (match (s.recCheck 0 0 0 none none [] (rng := some (0, 1))).res with | .ok _ => true | .error _ => false) = true ∧
    ok (.millAccept 0) s (fun t => (t.mill 0).queue.map (·.accepted) == [true]) = true ∧
    ok (.millAccept 0) b (fun t => (t.ctx 0).faulted == some 0x0601) = true := by decide +kernel

/-- An accepted update number 9 of reduction 3, which has handed over with `n` contributions. -/
def toRun (n : Nat) (nf skip : Bool) : State :=
  let t : TRec := { rows := 1, cols := 1, master := stkBase, mask := stkBase + 256 }
  let u : Update := { anUpdate 9 with red := 3, accepted := true, t := t, snap := { fields := if skip then [(0, 2 ^ 24)] else [] } }
  let r : Red := { no := 3, cid := 0, group := 0, rtag := 0, gen := 1, set := 1, rows := 128, cols := 1, complete := true,
                   blocks := [(0, some { n := n, nonfinite := nf })] }
  let s := (rec0).modMill 0 fun x => { x with queue := [u] }
  { s with fab := { s.fab with reds := [r] } }

theorem test_update_start :
    let one : State := { toRun 2 false false with mem := [(stkBase + 256, 1)] }
    (∀ s ∈ [toRun 0 false false, toRun 2 true true, one], (s.millNext 0).isSome = true) ∧
    (∀ p ∈ (toRun 0 false false).millNext 0, p.2.n = 0) ∧ (∀ p ∈ (toRun 2 true true).millNext 0, p.2.n ≠ 0 ∧ p.2.nf = true ∧ p.1.snap.nfSkip = true) ∧
    maskAll [one.memByte (stkBase + 256)] 1 = true ∧
    ok (.millUpdateStart 0) (toRun 0 false false) (fun t => (t.mill 0).queue.map (fun u => (u.running, u.status)) == [(true, 4)]) = true ∧
    ok (.millUpdateStart 0) (toRun 2 true true) (fun t => (t.mill 0).queue.map (fun u => (u.running, u.status)) == [(true, 3)]) = true ∧
    ok (.millUpdateStart 0) one (fun t => (t.mill 0).queue.map (fun u => (u.running, u.status, u.frozen)) == [(true, 2, 1)]) = true := by decide +kernel

theorem test_update_finish :
    let u (k : Nat) : Update := { anUpdate 9 with red := 3, accepted := true, running := true, status := k, words := [7, 1] }
    let r : Red := { no := 3, cid := 0, group := 0, rtag := 0, gen := 1, set := 1, rows := 128, cols := 1, complete := true, issued := true }
    let f : State := { toRun 0 false false with fab := { up.fab with reds := [r] } }
    let s (k : Nat) : State := (f.setFld Fld.SFC_PROFILE_RESILIENCE 1).modMill 0 fun x => { x with queue := [u k], frozenGiven := true }
    (∀ k ∈ [1, 2, 3, 4], ((s k).mill 0).queue.find? (fun v => v.running && (s k).backReady v) = some (u k)) ∧ (s 1).isSecured 0 = false ∧
    ok (.millUpdateFinish 0) (s 1) (fun t => (t.mill 0).queue == [] && t.fab.reds == [] && t.memByte 128 == 7 && t.memByte 136 == 1 &&
      t.fld Fld.MILL_CNT_UPD_DONE 0 == 1) = true ∧
    ok (.millUpdateFinish 0) (s 2) (fun t => t.fld Fld.MILL_CNT_UPD_ALL_FROZEN 0 == 1) = true ∧
    ok (.millUpdateFinish 0) (s 3) (fun t => raised (s 3) t 0x0704 (srcMill 0)) = true ∧
    ok (.millUpdateFinish 0) (s 4) (fun t => t.fld Fld.MILL_CNT_UPD_NO_CONTRIB 0 == 1) = true := by decide +kernel

theorem test_kron_refresh :
    let r : Refresh := { slot := stkBase, rows := 0, cols := 0, blk := 16, keps := 0, ktol := 0, finished := false, outcomes := [] }
    let s := up.modMill 1 fun x => { x with refresh := [r] }
    (s.mill 1).refresh.find? (fun r => !r.finished) = some r ∧
    ok (.kronRefreshDone 1) s (fun t => (t.mill 1).refresh.map (·.finished) == [true]) = true := by decide +kernel

/-- CZT1-B with a record at address 0 for handle 6, one element, in HBM. -/
def recB : State :=
  let w : List Nat := [3 * 2 ^ 56, 1 + 2 ^ 24, 0x800, 0x900, 0, 0, 0, 0, 0, 0, 0x200 + 2 ^ 48, 0x210 + 2 ^ 48]
  let s := ((rg (sq { tags := [5] })).setHnd 6 (hd 2 4))
  { s with variant := .base, mem := cells 0 (w.flatMap (bytesOf 8)) ++ cells 0x210 (bytesOf 8 1 ++ bytesOf 8 (2 ^ 24)),
           coef := [(4 * 2 ^ 20, BitVec.ofNat 64 (4 * 2 ^ 17 + 4 * 2 ^ 20))] }

theorem test_vupdate :
    let s := recB
    let w := nw [(49, 1), (37, 6), (24, 5)]
    let o := (sq { tags := [5] })
    Enc.vupdate w = true ∧ (s.ctx 0).Settled [1] ∧ s.Issues 0 ∧ s.handleFault 0 6 2 = none ∧
    (match (s.recCheck 0 2 0 (some 6) (s.redOf 0 5) []).res with | .ok _ => true | .error _ => false) = true ∧
    ok (.vupdate 0 w) s (fun t => t.vus.map (fun u => (u.no, u.accepted)) == [(1, true)] && t.accs.map (·.wb) == [true] && (t.ctx 0).tags == []) = true ∧
    is (.vupdate 0 w) o (o.seqFault 0 0x0103) = true ∧ is (.vupdate 0 (nw [(37, 6), (24, 4)])) s (s.seqFault 0 0x020C) = true ∧
    ok (.vupdate 0 w) { s with mem := [] } (fun t => (t.ctx 0).faulted == some 0x0701) = true := by decide +kernel

theorem test_vupdate_queues :
    let w := nw [(49, 1), (37, 6), (24, 5)]
    let d : Red := { no := 0, cid := 0, group := 0, rtag := 5, gen := 1, set := 2, rows := 128, cols := 1, hdst := 7, dest := true, dispatched := true }
    let b : List Nat := [3 * 2 ^ 56, 128 + 2 ^ 24, 0x800, 0xA00, 0, 0, 0, 0, 0, 0, 0x200 + 2 ^ 48, 0x210 + 2 ^ 48]
    let s : State := { recB.setHnd 7 (hd 2 4) with
      fab := { up.fab with reds := [d] }, mem := cells 0 (b.flatMap (bytesOf 8)) ++ cells 0x200 ([1, 128 * 2 ^ 24, 1, 2 ^ 24].flatMap (bytesOf 8)) }
    let f := s.modStn 1 fun y => { y with queue := List.replicate 32 0 }
    s.queuesFree 2 = true ∧ f.queuesFree 2 = false ∧ is (.vupdate 0 w) f f = true ∧
    (match (s.recCheck 0 2 0 (some 6) (s.redOf 0 5) []).res with | .ok _ => true | .error _ => false) = true ∧
    ok (.vupdate 0 w) s (fun t => (t.stn 1).queue == [1] && t.accs.map (fun a => (a.h, a.rd)) == [(6, false), (7, true)]) = true := by
  decide +kernel

theorem test_vupdate_issue :
    let u : Update := { anUpdate 9 with red := 3, accepted := true, hw := 6, hwv := true, t := { rows := 1, cols := 1, master := 0x800, mask := 0x900 } }
    let d : Red := { no := 3, cid := 0, group := 0, rtag := 5, gen := 1, set := 1, rows := 1, cols := 1, hdst := 7, dest := true,
                     complete := true, issued := true }
    let s : State := { ((atHead recB (si .vupdate (nw []) 2)).modStn 1 fun y => { y with queue := [9] }).setHnd 7 (hd 1 1 1 1 1) with vus := [u], accs := [{ no := 9, h := 6, set := 2, rd := false, wr := true, wb := true }] }
    let s : State := { s.setInst 9 (some (si .vupdate (nw []) 2)) with fab := { s.fab with reds := [d] } }
    (s.vuNext 0).isSome = true ∧ (s.vuOver d).2.2 = none ∧ up.vuNext 0 = none ∧ is (.vupdateIssue 0) up up = true ∧
    ok (.vupdateIssue 0) s (fun t => t.vus == [] && t.fab.reds == [] && t.accs == []) = true := by decide +kernel

/-! ### Reductions and collectives -/

/-- Two members on the x line, this device at 0; group 1 is context 0's; both planes of all dies. Handles of station 0: 5 BF16, 128 rows
of 1; 6 its scale; 7 like 5. -/
def g2 (x : Ctx := {}) : State :=
  let s := (((sq x).setFld Fld.BKN_TORUS_XS 1).setFld Fld.BKN_CFG_PLANES 15)
  let s := (s.setFld Fld.BKN_GRP_VALID 1 1).setFld Fld.BKN_GRP_NX 1 1
  let k (h : Handle) (l : Nat) : Handle := { h with off := BitVec.ofNat 11 l }
  ((((s.setHnd 5 (hd 1 128 1 1 1)).setHnd 6 (k (hd 1 1 0 1 4) 16)).setHnd 7 (k (hd 1 128 1 1 1) 32)).setHnd 8 (k (hd 1 256 1 1 1) 64)).setHnd 9
    (k (hd 1 128 0 1 1) 128)

/-- The other member's place. -/
def peer : NodeId := posMk 1 0 0

theorem test_group : (g2).rankPos 1 = some 0 ∧ (g2).grpSize 1 = 2 ∧ (g2).grpMembers 1 = [0, peer] ∧ (g2).inTorus peer = true ∧
    (g2).inTorus (posMk 2 0 0) = false ∧ (g2).grpFault 0 1 0 = none ∧ (g2).planeList = [0, 1, 2, 3] ∧
    ((g2).planeList.all fun d => (g2).domOn (36 + d)) = true := by decide +kernel

def wRed : NWords := nw2 [(42, 5), (30, 6), (18, 3), (10, 255)] [(0, 2), (18, 1), (28, 1), (30, 7)]

theorem test_reduce :
    let s := g2
    let w := wRed
    let v := nw2 [(42, 5), (30, 6), (18, 3), (10, 1)] [(0, 1), (18, 1)]
    Enc.reduce w = true ∧ Enc.reduce v = true ∧ (s.reduceChecks 0 w).all (·.isNone) = true ∧ (s.reduceChecks 0 v).all (·.isNone) = true := by decide +kernel

theorem test_reduce_next : ok (.reduce 0 wRed) g2 (fun t => t.fab.reds.map (·.count) == [2]) = true ∧
    ok (.reduce 0 wRed) g2 (fun t => t.accs.map (·.h) == [5, 6, 7]) = true := by decide +kernel

theorem test_reduce_stops :
    let s := g2
    let w := wRed
    let v := nw2 [(42, 5), (30, 6), (18, 3), (10, 1)] [(0, 1), (18, 1)]
    let r : Red := { no := 0, cid := 0, group := 1, rtag := 3, gen := 1, dispatched := true }
    let p : State := { s with fab := { s.fab with reds := [r] } }
    let e := s.modCtx 0 fun x => { x with prog := { x.prog with evalFlag := true } }
    let b : State := { s with variant := .base }
    is (.reduce 0 w) p p = true ∧ is (.reduce 0 w) e (e.seqFault 0 0x0210) = true ∧ is (.reduce 0 v) b (b.seqFault 0 0x0103) = true := by
  decide +kernel

/-- A reduction of group 1 under tag 3, dispatched as number 4. -/
def rd (f : Red → Red := id) : State :=
  let r : Red := f { no := 4, cid := 0, group := 1, rtag := 3, gen := 1, hs := 5, set := 1, rows := 128, cols := 1, hsr := 6, fmt := 2, count := 2,
                     nblk := 1, dbell := 5, deadline := 5, dispatched := true }
  { g2 with fab := { (g2).fab with reds := [r] } }
def rd0 : Red := ((rd).fab.reds).headD { no := 0, cid := 0, group := 0, rtag := 0, gen := 0 }

theorem test_reduce_read :
    let s := (rd).modHnd 5 fun x => { x with fmt := 2 }
    let late : State := { s with accs := [{ no := 3, h := 5, set := 1, rd := false, wr := true }] }
    s.fab.reds.find? (fun r => r.no == 4 && r.dispatched && !r.issued) = some rd0 ∧ s.completeAt 5 4 1 = true ∧ s.completeAt 6 4 1 = true ∧
    late.completeAt 5 4 1 = false ∧ is (.reduceReadHs 4) late late = true ∧
    (s.hnd 5).fmt.toNat = 2 ∧ ok (.reduceReadHs 4) s (fun t => t.fab.reds.map (fun r => (r.issued, r.src.length)) == [(true, 128)]) = true ∧
    (rd.hnd 5).fmt.toNat ≠ 2 ∧ is (.reduceReadHs 4) rd (rd.faultCtx 0 0x0304 (srcIod 0)) = true := by decide +kernel

/-- A message of the reduction: block 0, `n` of 2 contributions, run `k`. -/
def pm (kind n k : Nat) : FMsg :=
  { dst := 0, src := peer, vl := 1, detour := false, kind := BitVec.ofNat 4 kind, plane := 0, w1 := BitVec.ofNat 64 (1 + 3 * 1024)
    w2 := BitVec.ofNat 64 (n + 2 * 2 ^ 46 + 64 * 2 ^ 19), w3 := 9, w4 := BitVec.ofNat 64 (1 + k * 2 ^ 32), w5 := 0, w6 := BitVec.ofNat 64 (1 + 2 ^ 20), w7 := 0
    data := List.replicate 512 0 }

theorem test_partial_receive :
    let s := rd
    let l := rd fun r => { r with restarts := 1 }
    let d := rd fun r => { r with decided := true }
    s.delivered 2 (pm 2 1 0) = true ∧ s.redFor (pm 2 1 0) = some rd0 ∧ dimOf 0 peer = 0 ∧
    is (.partialReceive (pm 2 1 0)) l l = true ∧
    ok (.partialReceive (pm 2 1 1)) s (fun t => t.fab.reds.map (·.early) == [[pm 2 1 1]]) = true ∧
    ok (.partialReceive (pm 2 1 0)) s (fun t => t.fab.reds.map (fun r => (r.held.length, r.full, r.dbell)) == [(1, false, 5)]) = true ∧
    ok (.partialReceive (pm 2 2 0)) s (fun t => t.fab.reds.map (fun r => (r.held.length, r.full)) == [(1, true)]) = true ∧
    d.rankPos 1 = some 0 ∧ (d.lineOf 1 0 0).length = 2 ∧ (d.lineOf 1 0 0).idxOf 0 = d.ownerOfBlock rd0 0 0 0 ∧
    (d.lineOf 1 0 0).idxOf 0 ≠ ringNext (d.blockPlus 0) 2 (d.ownerOfBlock rd0 0 0 0) ∧
    ok (.partialReceive (pm 2 1 0)) d (fun t => t.fab.reds.map (fun r => (SMap.val r.shares none 0).map (·.n)) == [some 1]) = true := by
  decide +kernel

theorem test_reduce_decide :
    let at' (b : Nat) (s : State) : State := s.setFld Fld.SEQ_BELL_NUM_NUMBER b
    let s := at' 5 rd
    let w := at' 4 rd
    let f := at' 0 (rd fun r => { r with full := true })
    s.bellNow = 5 ∧ w.bellNow < rd0.dbell ∧ is (.reduceDecide 4) w w = true ∧
    ok (.reduceDecide 4) s (fun t => t.fab.reds.map (fun r => (r.decided, r.contributes, r.atBell)) == [(true, false, true)]) = true ∧
    ok (.reduceDecide 4) f (fun t => t.fab.reds.map (fun r => (r.decided, r.atBell)) == [(true, false)]) = true := by decide +kernel

theorem test_reduce_room :
    let s := (rd).setFld Fld.SEQ_BELL_NUM_NUMBER 5
    let k (n : Nat) : Red := { no := 100 + n, cid := 0, group := 0, rtag := 0, gen := 0, issued := true }
    let f : State := { s with fab := { s.fab with reds := s.fab.reds ++ (List.range 64).map k } }
    let u : Red := { no := 0, cid := 0, group := 1, rtag := 3, gen := 1, dispatched := true, complete := true }
    let w : State := { g2 with fab := { (g2).fab with reds := [u] } }
    f.redRoom = false ∧ ok (.reduceDecide 4) f (fun t => t.fab.reds.head?.map (·.decided) == some false) = true ∧ u.issued = false ∧ is (.reduce 0 wRed) w w = true := by decide +kernel

theorem test_gather_block_and_handover :
    let s := rd
    let k (d : Bool) := rd fun r => { r with dest := d, hdst := 7, firstRead := true, blocks := [(0, some { vals := List.replicate 128 0x3F80, n := 2 })] }
    s.delivered 3 (pm 3 2 0) = true ∧ s.redFor (pm 3 2 0) = some rd0 ∧
    ok (.gatherBlockReceive (pm 3 2 0)) s (fun t => t.fab.reds.map (fun r => r.blocks.length) == [1]) = true ∧
    rd0.allBlocks = false ∧ is (.handoverComplete 4) s s = true ∧
    (∀ r ∈ (k true).fab.reds, r.allBlocks = true) ∧ (k true).writableAt 7 4 1 = true ∧
    ok (.handoverComplete 4) (k false) (fun t => t.fab.reds.map (·.complete) == [true] && t.bunk == []) = true ∧
    (k true).planeList = (g2).planeList := by decide +kernel

/-- The same with HS of two rows, 8 of four, 7 of three. -/
def gs : State := (((g2).modHnd 5 fun x => { x with rows := 2 }).modHnd 8 fun x => { x with rows := 4 }).modHnd 7 fun x => { x with rows := 3 }
def gLate : State := { gs with accs := [{ no := 0, h := 5, set := 1, rd := false, wr := true }] }
def wGat (d : Nat) : NWords := nw [(42, 5), (30, d), (20, 1)]

theorem test_gather :
    Enc.gather (wGat 8) = true ∧ gs.fab.landing = [] ∧ gs.landFault 0 = none ∧ gs.handleFault 0 8 1 = none ∧ (gs.hnd 5).nblocks = 1 ∧
    (gs.grpMembers 1).all (fun p => !gs.memberGone 1 p) = true ∧ gs.writableAt 8 gs.dispNo 1 = true ∧
    is (.gather 0 (wGat 9)) gs (gs.seqFault 0 0x0304) = true ∧ is (.gather 0 (wGat 7)) gs (gs.seqFault 0 0x0402) = true := by decide +kernel

theorem test_gather_waits_and_runs : gLate.completeAt 5 gLate.dispNo 1 = false ∧ is (.gather 0 (wGat 8)) gLate gLate = true ∧
    ok (.gather 0 (wGat 8)) gs (fun t => (t.ctx 0).pastReturn) = true := by decide +kernel

theorem test_bcast :
    let s := g2
    let w (root : Nat) := nw [(42, 5), (32, 1), (15, root)]
    let busy : State := { s with accs := [{ no := 0, h := 5, set := 1, rd := true, wr := false }] }
    Enc.bcast (w 0) = true ∧ (s.grpRank 1 0).isSome = true ∧ (s.grpRank 1 peer).isSome = true ∧
    is (.bcast 0 (w (posMk 2 0 0).toNat)) s (s.seqFault 0 0x0802) = true ∧
    ok (.bcast 0 (w 0)) s (fun t => (t.ctx 0).pastReturn && t.accs == []) = true ∧
    is (.bcast 0 (w peer.toNat)) busy busy = true ∧
    ok (.bcast 0 (w peer.toNat)) s (fun t => t.fab.colls.map (fun k => (k.hd, k.node)) == [(5, peer)] && t.accs.map (·.wr) == [true]) = true := by
  decide +kernel

theorem test_send_and_recv :
    let s := g2
    let w (n : Nat) := nw [(42, 5), (25, n), (17, 255)]
    let out := w (posMk 2 0 0).toNat
    let busy : State := { s with accs := [{ no := 0, h := 5, set := 1, rd := true, wr := true }] }
    Enc.send out = true ∧ s.accepts 0 = true ∧
    is (.send 0 out) s (s.seqFault 0 0x0802) = true ∧ is (.recv 0 out) s (s.seqFault 0 0x0802) = true ∧
    is (.send 0 (w 0)) busy busy = true ∧ is (.recv 0 (w 0)) busy busy = true ∧
    ok (.send 0 (w 0)) s (fun t => (t.ctx 0).pastReturn && t.fab.sent.map (fun m => (m.w1, m.w2)) == [(255, 256)]) = true ∧
    ok (.recv 0 (w peer.toNat)) s (fun t => t.fab.colls.map (fun k => (k.hd, k.node, k.mtag)) == [(5, peer, 255)]) = true := by decide +kernel

/-- A message of a GATHER (1) or BCAST (2) of group 1 with ordinal `n`, from the other member. -/
def cm (k n : Nat) : FMsg :=
  { dst := 0, src := peer, vl := 1, detour := false, kind := 3, plane := 0, w1 := 1, w2 := BitVec.ofNat 64 peer.toNat, w3 := 0, w4 := BitVec.ofNat 64 n
    w5 := 0, w6 := 0, w7 := BitVec.ofNat 64 k, data := List.replicate 256 7 }

theorem test_collective_messages :
    let x (k : CollKind) : Coll := { no := 4, cid := 0, kind := k, hs := 5, hd := if k = .gather then 8 else 7, group := 1, node := peer, mtag := 0, ord := 1, read := true }
    let two (s : State) (h : HandleId) := s.modHnd h fun y => { y with rows := 2 }
    let s (k : CollKind) : State := { two (two g2 5) 7 with fab := { (g2).fab with colls := [x k], redCnt := [(collKey 1 1, 1), (collKey 2 1, 1)] } }
    let r := ((rg g2).setFld Fld.BKN_CTX_BUF_LAND_V 1 0)
    (g2).delivered 3 (cm 1 1) = true ∧ (g2).fld Fld.BKN_GRP_VALID 1 = 1 ∧
    (s .gather).fab.colls.find? (fun x => x.kind == .gather && x.group.toNat == 1 && x.ord == 1) = some (x .gather) ∧
    ok (.collectiveMsgReceive (cm 1 1)) (s .gather) (fun t => SMap.val t.bunk 0 (64 * 256 + 2 * 32) == 7 && SMap.val t.bunk 0 (64 * 256) == 0) = true ∧
    ok (.collectiveMsgReceive (cm 2 1)) (s .bcast) (fun t => SMap.val t.bunk 0 (32 * 256) == 7) = true ∧
    (g2).land 0 (cm 1 1) = none ∧ ok (.collectiveMsgReceive (cm 1 1)) g2 (fun t => t.fab.kept == [⟨cm 1 1, some 0, none⟩] && t.mem == g2.mem) = true ∧ (r.land 0 (cm 2 1)).isSome = true ∧
    ok (.collectiveMsgReceive (cm 2 1)) r (fun t => t.fab.landing == [⟨0, 0, cm 2 1⟩] && t.memByte 64 == 7) = true := by decide +kernel

theorem test_send_messages :
    let m (len : Nat) : FMsg := { cm 0 0 with kind := 4, vl := 2, w1 := 255, w2 := BitVec.ofNat 64 len, w7 := 0 }
    let x : Coll := { no := 4, cid := 0, kind := .recv, hs := 0, hd := 7, group := 0, node := peer, mtag := 255 }
    let s : State := { g2 with fab := { (g2).fab with colls := [x] }, accs := [{ no := 4, h := 7, set := 1, rd := false, wr := true }] }
    let r := ((rg g2).setFld Fld.BKN_CTX_BUF_LAND_V 1 0)
    s.delivered 4 (m 256) = true ∧ s.recvFor (m 256) = some x ∧
    ok (.sendMsgReceive ⟨0, m 256, 0⟩) s (fun t => t.fab.colls == [] && t.accs == [] && (t.hnd 7).fill == 128) = true ∧
    ok (.sendMsgReceive ⟨0, m 257, 0⟩) s (fun t => t.fab.colls == [{ x with got := 256, counted := (s.hnd 7).sendFill 256 }] && t.accs == s.accs) = true ∧
    (g2).recvFor (m 256) = none ∧ (∀ c, (g2).land c (m 256) = none) ∧ ok (.sendMsgReceive ⟨0, m 256, 1⟩) g2 (fun t => t.fab.kept == [⟨m 256, none, some (0, 1)⟩] && t.mem == []) = true ∧
    (allCids.findSome? (fun c => r.land c (m 256))).isSome = true ∧ ok (.sendMsgReceive ⟨0, m 256, 0⟩) r (fun t => t.fab.landing == [⟨0, 0, m 256⟩] && t.fab.kept == []) = true := by
  decide +kernel

/-! ### Links and fabric -/

/-- A device on a 4 by 1 by 1 torus at x = 1 whose port 0 (x+, plane 0) is in state `x`. -/
def lk (x : Port := { st := .paired, lanes := 0xF, everUp := true }) : State :=
  (((up.setFld Fld.BKN_TORUS_XS 3).setFld Fld.BKN_TORUS_POS 2048).setFld Fld.BKN_TORUS_ID 2048).setBport 0 x

theorem test_frame_receive :
    let s := lk { st := .paired, rxNo := 9 }
    let p : LinkPort := .berken 0
    (s.port p).up = true ∧ s.portOn p = true ∧
    ok (.frameReceive p 9 .corrected .corrected ⟨[.dataFlit true 2 1], [3]⟩) s (fun t => (t.port p).rxNo == 10 && (t.port p).rx == [(9, 1)] &&
      (t.port p).owed == [] && (t.port p).weak == [(2, 0, 3)] && t.fld Fld.BKN_P_CNT_CORRECTED 0 == 2) = true ∧
    ok (.frameReceive p 9 .clean .uncorrectable ⟨[], []⟩) s (fun t => (t.port p).nak == some 9 && (t.port p).ctlDue && (t.port p).rxNo == 9) = true ∧
    ok (.frameReceive p 8 .clean .clean ⟨[], []⟩) s (fun t => t.port p == { s.port p with cws := 2 }) = true := by decide +kernel

theorem test_a_reserved_channel :
    let s : State := { up with llx := { up.llx with dn := { st := .paired, rxNo := 9 } } }
    ok (.frameReceive .llxDn 9 .clean .clean ⟨[.dataFlit true 3 0, .dataFlit true 2 0], []⟩) s (fun t =>
      t.fld Fld.LLX_P_CNT_BADFLIT 1 == 1 && t.llx.dn.rxNo == 10) = true := by decide +kernel

theorem test_control_flit :
    let f (n : Nat) : BitVec 16 × List Flit := (BitVec.ofNat 16 n, [])
    let s := lk { st := .paired, replay := [f 65534, f 65535, f 0], nakNo := 65535, nakCnt := 7, credits := [(1, 4)] }
    let p : LinkPort := .berken 0
    ok (.controlFlit p ⟨[1, 2], 65535, false, 0⟩) s (fun t => (t.port p).replay == [f 0] && (t.port p).credits == [(0, 1), (1, 6)]) = true ∧
    ok (.controlFlit p ⟨[], 65534, true, 65535⟩) s (fun t => (t.port p).st == .retraining) = true ∧
    ok (.linkReplay p 65535) s (fun t => (t.port p).resend == [f 65535, f 0] && t.fld Fld.BKN_P_CNT_RETRIES 0 == 1) = true := by decide +kernel

theorem test_frame_send :
    let p : LinkPort := .berken 0
    let m : FMsg := { dst := 0, src := 2048, vl := 0, detour := false, kind := 0, plane := 0, w1 := 0, w2 := 0, w3 := 0, w4 := 0, w5 := 0, w6 := 0, w7 := 0, data := [] }
    let a := lk { st := .paired, fullSince := some 0 }
    let a : State := { a with time := { a.time with ns := 10000 } }
    let b := lk { st := .paired, resend := [(7, [.dataFlit true 0 0, .idle])] }
    let bc := lk { st := .paired, resend := [(7, [.dataFlit true 0 0, .idle])], ctlDue := true, owed := [(1, 5)] }
    let ba := lk { st := .paired, resend := [(7, [])], frames := 4095 }
    let c := lk { st := .paired, frames := 4095 }
    let d := lk { st := .paired, ctlDue := true, txNo := 65535 }
    let e := lk { st := .paired, credits := [(0, 1)], tx := [{ msg := m, cls := 0 }] }
    ok (.frameSend p) a (fun t => (t.port p).st == .retraining) = true ∧
    up.llx.resetDue = none ∧
    ok (.frameSend p) b (fun t => (t.port p).resend == [] && (t.port p).frames == 1 && (t.port p).tags == [0x20, 0]) = true ∧
    ok (.frameSend p) bc (fun t => (t.port p).resend == [] && (t.port p).tags == [0x20, 0x60] && (t.port p).owed == []) = true ∧
    ok (.frameSend p) ba (fun t => (t.port p).resend == [(7, [])] && (t.port p).frames == 4096) = true ∧
    ok (.frameSend p) c (fun t => (t.port p).frames == 4096 && (t.port p).txNo == 0) = true ∧
    (d.port p).wantsCtl = true ∧
    ok (.frameSend p) d (fun t => (t.port p).txNo == 0 && (t.port p).replay.map (fun f => (f.1, f.2.head?)) == [(65535, some .control)]) = true ∧
    (e.port p).wantsCtl = false ∧ (e.port p).ready (·.msg.vl == 0) = some 0 ∧
    ok (.frameSend p) e (fun t => (t.port p).replay.map (fun f => f.2.head?) == [some (.dataFlit true 0 0)] && (t.port p).tags.length == 5) = true := by decide +kernel

theorem test_link_down :
    let m : FMsg := { dst := 0, src := 2048, vl := 1, detour := false, kind := 2, plane := 0, w1 := 0, w2 := 0, w3 := 0, w4 := 0, w5 := 0, w6 := 0, w7 := 0, data := [] }
    let s := (lk { st := .paired, tx := [{ msg := m, cls := 0 }] }).setBport 1 { st := .paired }
    let l : State := { up with llx := { up.llx with up := { st := .paired }, dn := { st := .paired } } }
    is (.linkDown (.berken 0)) up up = true ∧ sibling 0 = 1 ∧
    ok (.linkDown (.berken 0)) s (fun t => (t.bport 0).st == .retraining && (t.bport 0).tx == [] && (t.bport 1).tx == (s.bport 0).pendingMsgs &&
      t.fld Fld.BKN_P_CNT_RETRAINS 0 == 1) = true ∧
    ok (.linkDown .llxUp) l (fun t => t.llx.up.st == .retraining && raised l t 0x0901 (srcLlx false)) = true ∧
    ok (.linkDown .llxDn) l (fun t => t.llx.dn.st == .retraining && raised l t 0x0901 (srcLlx true)) = true := by decide +kernel

theorem test_lanes :
    let s := lk
    let three := lk { st := .paired, lanes := 0x7, spared := true }
    let weak := lk { st := .paired, lanes := 0xF, weak := [(9, 2, 2 ^ 20)] }
    let off := s.setFld Fld.BKN_P_CFG_EN 0 1
    s.laneWeak 0 2 = false ∧ weak.laneWeak 0 2 = true ∧ is (.laneSpare 0 ⟨2, false⟩) s s = true ∧
    ok (.laneSpare 0 ⟨2, false⟩) weak (fun t => (t.bport 0).st == .retraining && (t.bport 0).lanes == 0xB) = true ∧
    ok (.laneSpare 0 ⟨3, true⟩) s (fun t => (t.bport 0).st == .retraining && (t.bport 0).lanes == 7) = true ∧
    ok (.laneSpare 0 ⟨0, true⟩) three (fun t => (t.bport 0).st == .down && (t.bport 0).lanes == 0 && raised three t 0x0804 (srcPort 0)) = true ∧
    is (.laneSpare 0 ⟨3, true⟩) three three = true ∧ is (.laneSpare 1 ⟨0, true⟩) s s = true ∧
    ok (.bknRetrainCmd 0) three (fun t => (t.bport 0).st == .retraining && (t.bport 0).lanes == 0xF && !(t.bport 0).spared) = true ∧
    (s.bport 1).st = .down ∧ ok (.bknRetrainCmd 1) s (fun t => (t.bport 1).st == .retraining) = true ∧ is (.bknRetrainCmd 1) off off = true := by decide +kernel

theorem test_retrain_done :
    let r (x : Port → Port) (ns : Nat) : State :=
      let s := lk (x { st := .retraining, lanes := 0xF })
      { s with time := { s.time with ns := BitVec.ofNat 64 ns } }
    ok (.linkRetrainDone (.berken 0) 0x3) (r id 0) (fun t => (t.bport 0).st == .down && raised (r id 0) t 0x0804 (srcPort 0)) = true ∧
    ok (.linkRetrainDone (.berken 0) 0x7) (r id 0) (fun t => (t.bport 0).st == .pairing && (t.bport 0).lanes == 7 && raised (r id 0) t 0x0803 (srcPort 0)) = true ∧
    ok (.linkRetrainDone (.berken 0) 0xF) (r (fun x => { x with everUp := true, keepPair := true }) (10 ^ 9)) (fun t => (t.bport 0).st == .paired) = true ∧
    ok (.linkRetrainDone (.berken 0) 0xF) (r (fun x => { x with everUp := true, keepPair := true }) (10 ^ 9 + 1)) (fun t => (t.bport 0).st == .pairing &&
      (t.bport 0).tx.map (·.msg.kind) == [8]) = true ∧
    (let l : State := { up with llx := { up.llx with up := { st := .retraining } } }
     ok (.linkRetrainDone .llxUp 0xFF) l (fun t => t.llx.up.st == .paired) = true ∧
     ok (.linkRetrainDone .llxUp 0x7F) l (fun t => t.llx.up.st == .down) = true) := by decide +kernel

theorem test_lalux_comes_up_again :
    let l : State := { up with llx := { up.llx with up := { st := .down, everUp := true } } }
    ok (.linkRetrainDone .llxUp 0xFF) l (fun t => t.llx.up.st == .paired) = true ∧
    ok (.linkRetrainDone .llxUp 0x7F) l (fun t => t.llx.up.st == .down) = true := by decide +kernel

theorem test_training_and_enable :
    let s := lk { st := .training, txNo := 4 }
    let l : State := { up with llx := { up.llx with dn := { st := .training } } }
    ok (.linkTrainingDone (.berken 0)) s (fun t => (t.bport 0).st == .pairing && (t.bport 0).txNo == 0) = true ∧
    ok (.linkTrainingDone .llxDn) l (fun t => t.llx.dn.st == .paired && t.llx.dn.lanes == 0xFF) = true ∧
    ok (.portEnWrite .mgmt 0 false) lk (fun t => (t.bport 0).st == .down && t.fld Fld.BKN_P_CFG_EN 0 == 0) = true ∧
    ok (.portEnWrite .mgmt 1 true) lk (fun t => (t.bport 1).st == .training && t.fld Fld.BKN_P_CFG_EN 1 == 1) = true := by decide +kernel

theorem test_pairing :
    let s := (lk { st := .pairing }).setFld Fld.BKN_LOCK_AUTH 1
    let i : PairInfo := ⟨4096, 4096, 2, true, true, 0⟩
    let f : State := { lk { st := .pairing, pairFail := some 0 } with time := { up.time with ns := 10 ^ 9 } }
    i.pos = s.neighbour s.ownPos (dirOf 0) ∧ i.port.toNat = peerPort 0 ∧
    ok (.portPairing 0 i) s (fun t => (t.bport 0).st == .paired && (t.bport 0).peer == 4096 && (t.bport 0).everUp) = true ∧
    ([{ i with certOk := false }, { i with sigOk := false }, { i with pos := 0 }, { i with port := 0 }].all fun j =>
      ok (.portPairing 0 j) s fun t => (t.bport 0).pairFail == some 0 && raised s t 0x0805 (srcPort 0)) = true ∧
    ok (.pairingRetry 0) f (fun t => (t.bport 0).pairFail == none) = true ∧
    is (.pairingRetry 0) (lk { st := .pairing, pairFail := some 0 }) (lk { st := .pairing, pairFail := some 0 }) = true := by decide +kernel

/-- A message to the device. -/
def fm (kind vl : Nat) (w1 w2 : Word) (data : List Byte := []) : FMsg :=
  { dst := 2048, src := 4096, vl := BitVec.ofNat 3 vl, detour := false, kind := BitVec.ofNat 4 kind, plane := 0, w1 := w1, w2 := w2, w3 := 0
    w4 := 0, w5 := 0, w6 := 0, w7 := 0, data := data }

/-- Window 0 lets 4096 write and push to the first 2 MiB on lanes 2 and 4. -/
def wn : State := (((((lk).setFld Fld.BKN_WIN_A_SIZE 1 0).setFld Fld.BKN_WIN_B_SRC 4096 0).setFld Fld.BKN_WIN_B_SRC_MASK (2 ^ 17 - 1) 0).setFld
  Fld.BKN_WIN_B_VLS 0x14 0).setFld Fld.BKN_WIN_B_VALID 1 0

theorem test_remote_write :
    let s := wn
    let m := fm 5 2 (BitVec.ofNat 64 (2 ^ 21 - 2)) 2 [7, 8]
    let o := fm 5 2 (BitVec.ofNat 64 (2 ^ 21 - 1)) 2 [7, 8]
    let p := (s.setFld Fld.MEM_RGN_A_SIZE 1 7).setFld Fld.MEM_RGN_B_STATE 2 7
    s.delivered 5 m = true ∧ s.delivered 5 (fm 6 4 0 0) = false ∧ is (.remoteWrite (fm 6 4 0 0)) s s = true ∧
    (s.winsFor 2048).any (fun w => winPermits w 4096 2 (2 ^ 21 - 2) 2) = true ∧
    (s.winsFor 2048).all (fun w => !winPermits w 4096 2 (2 ^ 21 - 1) 2) = true ∧ s.msgAddr 2048 (2 ^ 21 - 2) 2 = some (2 ^ 21 - 2) ∧
    ok (.remoteWrite m) s (fun t => t.mem == [(2 ^ 21 - 2, 7), (2 ^ 21 - 1, 8)]) = true ∧
    ok (.remoteWrite o) s (fun t => t.mem == [] && t.fld Fld.BKN_STATUS_WIN_DENY == 1 && raised s t 0x0806 (srcIod 0)) = true ∧
    ok (.remoteWrite m) p (fun t => t.mem == [] && t.fld Fld.MEM_PURGE_DROPPED == 1) = true := by decide +kernel

theorem test_sample_push_message :
    let s := (((wn).setFld Fld.MEM_SS_CFG_VALID 1 2).setFld Fld.MEM_SS_CFG_N 4 2).setFld Fld.MEM_SS_CFG_SLOT 1 2
    let s := s.setFld Fld.MEM_SS_CFG_G 1 2
    let m := fm 6 4 (BitVec.ofNat 64 (2 + 5 * 16)) 1 [9]
    let d := s.setFld Fld.BKN_WIN_B_VLS 4 0
    s.delivered 6 m = true ∧ (s.winsFor 2048).any (fun w => winPermits w 4096 4 (s.ssBase 2) (s.ssN 2 * s.ssSlot 2)) = true ∧
    ok (.samplePushMsg m) s (fun t => is (.samplePushWrite 2 5 [9]) s t) = true ∧
    (d.winsFor 2048).all (fun w => !winPermits w 4096 4 (d.ssBase 2) (d.ssN 2 * d.ssSlot 2)) = true ∧
    ok (.samplePushMsg m) d (fun t => t.fld Fld.BKN_STATUS_WIN_DENY == 1) = true := by decide +kernel

theorem test_sample_push_message_completes :
    let s := fl wn [(Fld.MEM_RGN_A_SIZE, 7, 1), (Fld.MEM_RGN_B_STATE, 7, 1), (Fld.MEM_RGN_B_CLASS, 7, 1), (Fld.MEM_SS_CFG_VALID, 2, 1),
      (Fld.MEM_SS_CFG_N, 2, 4), (Fld.MEM_SS_CFG_SLOT, 2, 1), (Fld.MEM_SS_CFG_G, 2, 1), (Fld.MEM_SS_BASE_SBASE, 2, 16),
      (Fld.MEM_SS_CFG_WEIGHTED, 2, 1)]
    let m := fm 6 4 (BitVec.ofNat 64 (2 + 5 * 16)) 1 [9]
    s.delivered 6 m = true ∧ (s.winsFor 2048).any (fun w => winPermits w 4096 4 (s.pushArea 2).1 (s.pushArea 2).2) = true ∧
    s.ssValid 2 = true ∧ s.rgnPurging 0x1000 256 = false ∧ (s.storeRgn 2).isSome = true ∧ s.ssG 2 = 64 ∧
    ok (.samplePushMsg m) s (fun t => t.store 2 == { head := 1, since := 1 } && t.mem == [(0, 5), (0x1000, 9)]) = true := by decide +kernel

theorem test_management_messages :
    let r : State := ((lk).setFld Fld.RLF_RELIEF_VALID 1 1).setFld Fld.RLF_RELIEF_IDENT 4096 1
    let s : State := { r with rlf := { r.rlf with pair1 := { r.rlf.pair1 with paired := true } } }
    let a : State := { lk with rlf := { (lk).rlf with act := some { entry := 0, ident := 9, slot := false, cid := 0, step := 0, anchor := 4096, items := [] } } }
    let m (c : Nat) (n : Nat := 0) := fm 7 5 (BitVec.ofNat 64 c) (BitVec.ofNat 64 n)
    let same (s : State) (x y : Instr) : Bool := ok x s fun t => is y s t
    s.delivered 7 (m 1) = true ∧
    same s (.managementMsg (m 8)) (.catchupRequest (m 8)) = true ∧ same s (.managementMsg (m 9)) (.release (m 9)) = true ∧
    same a (.managementMsg (m 5 3)) (.rejoinReply 3) = true ∧ s.reliefOf 4096 = some 1 ∧ s.seqOf 1 = 1 ∧ (s.pairing 1).paired = true ∧
    same s (.managementMsg (m 3 1)) (.securingAck 1) = true ∧ is (.managementMsg (m 10)) s s = true ∧
    is (.managementMsg (m 255)) s s = true := by decide +kernel

theorem test_fabric_reset_and_routes :
    let s := (lk).setFld Fld.SEQ_BELL_NUM_NUMBER 7
    let m (b : Nat) := fm 9 5 (BitVec.ofNat 64 b) 0
    let r := (lk).setFld Fld.BKN_RT_ADDR_ADDR (2 ^ 17 - 1)
    s.livePort 0 0 0 = true ∧ s.accepts 2048 = true ∧ s.bellNow = 7 ∧
    ok (.fabricResetMsg 0 (m 5) true) s (fun t => t.fab.resetAsked) = true ∧ ok (.fabricResetMsg 0 (m 9) true) s (fun t => t.fab.resetAsked) = true ∧
    is (.fabricResetMsg 0 (m 4) true) s s = true ∧ is (.fabricResetMsg 0 (m 10) true) s s = true ∧ is (.fabricResetMsg 0 (m 7) false) s s = true ∧
    ok (.bknRtDataWrite .mgmt 0x0706050403020100) r (fun t => SMap.val t.fab.routes 0x3F (2 ^ 17 - 1) == 0 && SMap.val t.fab.routes 0x3F 6 == 7 &&
      SMap.val t.fab.routes 0x3F 7 == 0x3F && t.fld Fld.BKN_RT_ADDR_ADDR == 7) = true := by decide +kernel

theorem test_message_route :
    let s := lk
    let m := { fm 5 2 0 0 with dst := 4096, src := 0 }
    let bad := { fm 5 0 0 0 with dst := 4096 }
    s.domOn 36 = true ∧ FMsgOk bad = false ∧ FMsgOk m = true ∧ s.accepts 4096 = false ∧ s.hop 0 (s.posOf 4096) false = some (0, false) ∧
    s.hop 1 (s.posOf 4096) false = none ∧
    ok (.messageRoute 0 bad 0) s (fun t => t.fld Fld.BKN_P_CNT_PROTO 0 == 1) = true ∧ is (.messageRoute 0 (fm 5 2 0 0) 0) s s = true ∧
    ok (.messageRoute 12 m 0) s (fun t => t.fld Fld.BKN_STATUS_UNREACH == 1 && raised s t 0x0807 (srcIod 1)) = true := by decide +kernel

theorem test_message_route_waits :
    let g : State := { lk with rst := State.reset.rst }
    g.dieRuns 0 = false ∧ is (.messageRoute 0 (fm 5 2 0 0) 0) g g = true ∧ FMsgOk (fm 4 2 255 0) = true ∧
    is (.messageRoute 0 (fm 4 2 255 0) 0) lk lk = true := by decide +kernel

theorem test_heartbeat :
    let s := (lk).setFld Fld.BKN_TIME_MASTER 4096
    let s : State := { s with time := { s.time with ns := 1000 }, fab := { s.fab with firstMeasure := true } }
    let m : FMsg := { fm 0 0 9 900 with w3 := 800, w4 := 880 }
    let n := (lk).setFld Fld.BKN_TIME_MASTER 2048
    s.parentDir = some 0 ∧ n.parentDir = none ∧ s.livePort 0 0 0 = true ∧
    ok (.heartbeatReceive 0 m) s (fun t => t.fab.hbSeen == [(0, 9)] && t.fld Fld.BKN_TIME_LOCKED == 1 && t.fld Fld.BKN_TIME_OFFSET == 40 &&
      (t.bport 0).hbStamp == 900) = true ∧
    ok (.heartbeatReceive 0 { m with w4 := 879 }) s (fun t => t.fld Fld.BKN_TIME_LOCKED == 0 && t.fld Fld.BKN_TIME_OFFSET == 42) = true ∧
    ok (.heartbeatReceive 0 m) n (fun t => t.regs == n.regs) = true := by decide +kernel

theorem test_time_lost_and_suspicion :
    let s : State := { lk with fab := { (lk).fab with offBells := 16 } }
    let q : State := { lk with fab := { (lk).fab with missed := [(0, 3)] } }
    let l : State := { lk with fab := { (lk).fab with missed := [(0, 2)] } }
    ok .bknTimeLost s (fun t => t.fab.offBells == 0 && raised s t 0x080B srcDev) = true ∧ is .bknTimeLost lk lk = true ∧
    dirOf 0 = 0 ∧ (q.bport 0).everUp = true ∧ is (.neighbourSuspect 0 false) l l = true ∧
    ok (.neighbourSuspect 0 false) q (fun t => t.fab.downSets.contains 0 && t.fab.downSets.contains 24 && t.fab.notices.length == 1) = true ∧
    ok (.neighbourSuspect 0 true) l (fun t => t.fab.downSets.contains 8) = true := by decide +kernel

theorem test_failure_notice :
    let s := (lk).setBport 3 { st := .paired }
    let n : Notice := ⟨BitVec.ofNat 64 (6144 + 77 * 2 ^ 17), 0, 1⟩
    let seen : State := { s with fab := { s.fab with notices := [n] } }
    noticePos n = 6144 ∧ s.livePort 0 0 0 = true ∧ is (.failureNotice 0 n.w1 n.w2 n.w3) seen seen = true ∧
    s.pairedPorts = [0, 3] ∧
    ok (.failureNotice 0 n.w1 n.w2 n.w3) s (fun t => t.fab.notices == [n] && t.fab.faults == [6144] && raised s t 0x0808 srcDev 6144 &&
      (t.bport 3).tx.any (fun m => m.msg.kind == 1 && m.msg.w1 == n.w1) && (t.bport 0).tx == []) = true ∧
    ok (.failureNotice 0 n.w1 0 (BitVec.ofNat 64 (2 ^ 18 + 5 * 2))) s (fun t => t.posOf 77 == 5) = true := by decide +kernel

/-! ### The host's chain -/

/-- A tallied device whose UP port is up; host window 0 lets the host at the first 2 MiB. -/
def lx (tally : Nat := 5) : State :=
  let s : State := { up with llx := { up.llx with up := { st := .paired, lanes := 0xFF }, tally := BitVec.ofNat 6 tally } }
  fl s [(Fld.LLX_HWIN_A_SIZE, 0, 1), (Fld.LLX_HWIN_B_VALID, 0, 1), (Fld.LLX_HWIN_B_RD, 0, 1), (Fld.LLX_HWIN_B_WR, 0, 1), (Fld.LLX_HWIN_B_PUSH, 0, 1)]

/-- A flit from the host with a good CHECK. -/
def rq (typ : Nat) (a : Nat := 0) (aux : Nat := 0) (p : List Byte := []) (dst : Nat := 5) : LFlit :=
  let f : LFlit := ⟨BitVec.ofNat 6 dst, 0, BitVec.ofNat 4 typ, BitVec.ofNat 8 p.length, 9, BitVec.ofNat 48 a, 0, BitVec.ofNat 64 aux, 0, p⟩
  { f with check := crc32c (f.head ++ f.data) }

/-- The statuses of the responses on UP. -/
def resps (t : State) : List (BitVec 8) := t.llx.upq.map (·.status)

theorem test_host_flits :
    let s := lx
    let bad (f : LFlit) : LFlit := { f with check := f.check ^^^ 1 }
    s.llxUp .llxUp = true ∧ s.takes (rq 1) = true ∧ (rq 1).checkOk = true ∧ (bad (rq 3)).checkOk = false ∧
    ok (.memWr (bad (rq 3 0 0 [1]))) s (fun t => t.fld Fld.LLX_P_CNT_BADFLIT == 1 && t.mem == [] && resps t == []) = true ∧
    ok (.flush (bad (rq 5))) s (fun t => resps t == [5] && t.fld Fld.LLX_P_CNT_BADFLIT == 1) = true ∧
    ok (.llxInvalidRequest (rq 12)) s (fun t => resps t == [2]) = true ∧ ok (.llxInvalidRequest (rq 0)) s (fun t => resps t == [2]) = true ∧
    ok (.flush (rq 5)) s (fun t => resps t == [0]) = true ∧
    is (.flush (rq 5 0 0 [] 6)) s s = true ∧ ok (.flush (rq 5)) (lx 0) (fun t => resps t == []) = true := by decide +kernel

theorem test_untally_and_reset_request :
    let s := lx
    let b := s.setCtx 3 { st := .waiting }
    b.anyBusy = true ∧ s.anyBusy = false ∧
    ok (.untally (rq 7)) s (fun t => t.llx.tally == 0 && resps t == [0] && t.llx.upq.map (·.src) == [5]) = true ∧
    ok (.untally (rq 7)) b (fun t => t.llx.tally == 5 && resps t == [3]) = true ∧
    (rq 8).checkOk = true ∧ s.takes (rq 8) = true := by decide +kernel

theorem test_untally_lets_dn_empty :
    let s : State := { lx with llx := { (lx).llx with dn := { st := .paired }, dnq := [rq 1] } }
    ok (.untally (rq 7)) s (fun t => t.llx.tally == 0 && t.llx.dnq == [rq 1] && t.llx.dn.st == .paired) = true ∧
    ok (.resetReq (rq 8)) (lx) (fun t => t.llx.resetDue.isSome && resps t == [0]) = true := by decide +kernel

theorem test_reset_after_its_answer :
    let s : State := { up with llx := { up.llx with resetDue := some (rq 8), up := { st := .paired } } }
    s.llx.resetDue = some (rq 8) ∧ (s.frameSend .llxUp).llx.upq = [] := by decide +kernel

theorem test_reset_before_its_answer :
    let q : State := { up with llx := { up.llx with resetDue := some (rq 8), up := { st := .paired }, upq := [rq 8] } }
    (q.frameSend .llxUp).llx.upq.length = 1 ∧
    ok (.frameSend .llxUp) q (fun t => t.llx.resetDue.isSome && t.rst.asserted == q.rst.asserted) = true := by decide +kernel

/-- A store of magic `m` with no body: bytes 4 and 13 as given, key index 0, key and signature of zeros. -/
def storeOf (m : Nat) (b4 b13 : Byte) : List Byte := bytesOf 4 m ++ [b4] ++ List.replicate 8 0 ++ [b13] ++ List.replicate 242 0

/-- A firmware image with a ROLLBACK and a VERSION. -/
def image (roll : Byte) (version : Byte := 1) : List Byte := storeOf 0x5A544657 version roll

/-- Functions of the security block under which the stores above are signed well: the manual leaves them to others (free functions), so
that a witness of a good signature takes their values for granted. -/
def Signs : Prop :=
  (∀ b i, Config.sha512 b i = 0) ∧ (∀ k i, Config.keyDigest k i = 0) ∧ (∀ k, Config.keyRevoked k = false) ∧
    ∀ k d g, Config.ed25519 k d g = true

theorem Signs.digest (h : Signs) (b : List Byte) : sha512 b = List.replicate 64 0 := by
  have e : Config.sha512 b = fun _ => 0 := funext (h.1 b)
  rw [sha512, e, List.map_const', List.length_range]

theorem Signs.keys (h : Signs) (k : Nat) : (List.range 32).map (Config.keyDigest k) = List.replicate 32 0 := by
  have e : Config.keyDigest k = fun _ => 0 := funext (h.2.1 k)
  rw [e, List.map_const', List.length_range]

theorem test_signed_images (h : Signs) :
    imgOk 3 (image 3) = true ∧ imgOk 3 (image 63 2) = true ∧ cfgOk (storeOf 0x5A544346 9 16) = true := by
  simp only [imgOk, cfgOk, storeOk, signedBy, keyCheck, h.digest, h.keys, h.2.2.1, h.2.2.2]
  decide +kernel

theorem test_image_runs (h : Signs) (s : State) (hs : s.rst.step = 2) (hr : s.rst.running = none) (h3 : s.rst.rollback = 3)
    (h0 : s.rst.strap = 0) : exec (.imageVerify (image 3) (image 2)) s = .next { s with
      rst := { s.rst with running := some (image 3), imageSlot := false, verified := true } } := by
  have a : s.imageOk (image 3) = true := by rw [State.imageOk, h3]; exact (test_signed_images h).1
  have b : s.imageOk (image 2) = false := by rw [State.imageOk, h3]; decide +kernel
  simp only [exec, execImageVerify, hs, hr, a, b, h0]
  rfl

theorem test_recovery_images :
    let s := lx
    let r : State := { s with rst := { s.rst with recovery := true, rollback := 3 } }
    let end_ := 8 * 2 ^ 20
    r.imageOk (image 2) = false ∧ r.imageOk (image 64) = false ∧ r.imageOk r.bufImage = false ∧ r.bufImage.length = 256 ∧
    ok (.imgWr (rq 10 (end_ - 2) 0 [1, 2])) r (fun t => t.llx.img == [(end_ - 2, 1), (end_ - 1, 2)] && t.fld Fld.LLX_WR_CNT_DENIED == 0) = true ∧
    ok (.imgWr (rq 10 (end_ - 1) 0 [1, 2])) r (fun t => t.llx.img == [(end_ - 1, 1)] && t.fld Fld.LLX_WR_CNT_DENIED == 1) = true ∧
    ok (.imgGo (rq 11) ()) r (fun t => t.rst.running == none && resps t == [5] && raised r t 0x0C02 srcSurface) = true ∧
    ok (.memWr (rq 3 0 0 [1])) r (fun t => t.mem == [] && t.fld Fld.LLX_WR_CNT_DENIED == 1) = true ∧
    ok (.push (rq 9 0 1 [1])) r (fun t => t.fld Fld.LLX_WR_CNT_DENIED == 1) = true ∧
    ok (.memRd (rq 4 0 1)) r (fun t => resps t == [4]) = true ∧ ok (.flush (rq 5)) r (fun t => resps t == [4]) = true := by decide +kernel

theorem test_host_registers :
    let s := lx
    ok (.regRd (rq 1 0xB00018)) s (fun t => t.llx.upq.map (·.payload) == [bytesOf 8 (s.regWord .host 0xB00018).toNat]) = true ∧
    ok (.regRd (rq 1 4)) s (fun t => resps t == [2]) = true ∧ ok (.regRd (rq 1 (2 ^ 24))) s (fun t => resps t == [2]) = true ∧
    (s.regWrite .host 0xB00018 7).st.portOn .llxUp = true ∧
    ok (.regWr (rq 2 0xB00018 0 [7, 0, 0, 0, 0, 0, 0, 0])) s (fun t => t.fld Fld.RLF_INTERVAL_I0 == 7 && resps t == [0]) = true ∧
    ok (.regWr (rq 2 0xB00018 0 [7])) s (fun t => resps t == [2]) = true := by decide +kernel

theorem test_host_memory :
    let s := lx
    let p := fl s [(Fld.MEM_RGN_A_SIZE, 7, 1), (Fld.MEM_RGN_B_STATE, 7, 2)]
    let m : State := { s with mem := cells 100 (List.replicate 225 6) }
    let e := 2 ^ 21
    s.postedOk Fld.LLX_HWIN_B_WR (e - 2) 2 = true ∧ s.postedOk Fld.LLX_HWIN_B_WR (e - 1) 2 = false ∧ p.rgnPurging 4 1 = true ∧
    ok (.memWr (rq 3 (e - 2) 0 [1, 2])) s (fun t => t.mem == [(e - 2, 1), (e - 1, 2)]) = true ∧
    ok (.memWr (rq 3 (e - 1) 0 [1, 2])) s (fun t => t.mem == [] && t.llx.wrDenyGiven && raised s t 0x0902 (srcLlx false) (e - 1)) = true ∧
    ok (.memWr (rq 3 4 0 [1])) p (fun t => t.mem == [] && t.fld Fld.MEM_PURGE_DROPPED == 1) = true ∧
    assigned s.variant e 4 = true ∧ ok (.memRd (rq 4 e 4)) s (fun t => resps t == [1]) = true ∧
    ok (.memRd (rq 4 100 225)) m (fun t => t.llx.upq.map (·.payload.length) == [224, 1, 0] && t.llx.upq.map (·.addr) == [100, 324, 100]) = true := by
  decide +kernel

theorem test_host_push :
    let s := fl lx [(Fld.MEM_RGN_A_SIZE, 7, 1), (Fld.MEM_RGN_B_STATE, 7, 1), (Fld.MEM_RGN_B_CLASS, 7, 1),
      (Fld.MEM_SS_CFG_VALID, 2, 1), (Fld.MEM_SS_CFG_N, 2, 4), (Fld.MEM_SS_CFG_SLOT, 2, 1), (Fld.MEM_SS_CFG_G, 2, 1),
      (Fld.MEM_SS_CFG_WEIGHTED, 2, 1)]
    let w := 3 * 2 ^ 48
    let s := s.setStore 2 { head := 5, since := 0 }
    let big := rq 9 2 (225 + 7 * 2 ^ 32) (List.replicate 224 1)
    s.pushFate 2 257 = .drop ∧ s.pushFate 2 256 = .take ∧ s.postedOk Fld.LLX_HWIN_B_PUSH 256 224 = true ∧ bits big.addr 24 24 = 0 ∧
    ok (.push (rq 9 2 (257 + w) [1])) s (fun t => t.fld Fld.LLX_WR_CNT_PUSH_BAD == 1) = true ∧
    ok (.push (rq 9 2 (1 + 7 * 2 ^ 32) [8])) s (fun t => t.mem == [(2, 7), (256, 8)] && t.llx.pushes == [] && t.store 2 == { head := 6, since := 1 }) = true ∧
    (s.setStore 2 { head := 5, since := 64 }).pushFate 2 1 = .hold ∧ s.postedOk Fld.LLX_HWIN_B_PUSH (s.ssWbase 2 + 2) 2 = true ∧
    ok (.push (rq 9 2 (1 + 7 * 2 ^ 32) [8])) (s.setStore 2 { head := 5, since := 64 }) (fun t => t.fld Fld.MEM_SS_CNT_HELD 2 == 1 &&
      (t.store 2).head == 5 && (t.store 2).held.length == 1) = true ∧
    s.pushFate 2 225 = .take ∧ big.len.toNat = min 224 225 := by decide +kernel

theorem test_chain :
    let s := lx 0
    let d : State := { lx with llx := { (lx).llx with dn := { st := .training } } }
    let e : State := { lx with llx := { (lx).llx with events := [⟨1, 2, 3, 4, 5, 6, 7, 8, 9⟩] } }
    let l : State := { lx with llx := { (lx).llx with evLost := 3 } }
    ok (.enum (rq 6 0 32 [] 62)) s (fun t => t.llx.tally == 32 && t.llx.dn.st == .training && resps t == [0]) = true ∧
    ok (.enum (rq 6 0 33 [] 62)) s (fun t => t.llx.tally == 0 && resps t == [2]) = true ∧
    ok (.dnPortTrainDone true) d (fun t => t.llx.dn.st == .paired) = true ∧ ok (.dnPortTrainDone false) d (fun t => t.llx.dn.st == .down) = true ∧
    is (.dnPortTrainDone true) lx lx = true ∧
    ok (.flitForward false 2 (rq 3 0 0 [] 6)) lx (fun t => t.llx.dnq.length == 1) = true ∧ is (.flitForward false 2 (rq 3)) lx lx = true ∧
    is (.flitForward false 3 (rq 3 0 0 [] 6)) lx lx = true ∧
    (let u : State := { lx with llx := { (lx).llx with dn := { st := .paired } } }
     ok (.flitForward true 2 (rq 3)) u (fun t => t.llx.upq.length == 1)) = true ∧
    ok .event e (fun t => t.llx.events == [] && t.llx.upq.map (·.payload.length) == [64] && t.fld Fld.LLX_EVT_CNT_SENT == 1) = true ∧
    ok .llxEvtLost l (fun t => t.llx.evLost == 0 && raised l t 0x0903 (srcLlx false) 3) = true ∧ is .llxEvtLost lx lx = true := by decide +kernel

theorem test_checks_are_good (typ a aux : Nat) (p : List Byte) (dst : Nat) : (rq typ a aux p dst).checkOk = true := by
  simp [rq, LFlit.checkOk, LFlit.head, LFlit.data]

/-! ### Securing -/

/-- Context 0 in a segment, secured in Bounded mode, with one declared region of 2 MiB from 0 and relief 1 paired. -/
def sc (x : Ctx := cx [(1, 64)]) : State :=
  let s := fl (rg (sq x)) [(Fld.RLF_DECL_REGIONS, 0, 2 ^ 64 - 256), (Fld.RLF_RELIEF_VALID, 1, 1), (Fld.RLF_RELIEF_IDENT, 1, 4096)]
  { s with rlf := { s.rlf with pair1 := { s.rlf.pair1 with paired := true, bases := List.replicate 12 0 } } }

/-- A plan at 64 with the one item REDUCTIONS of SEQ group 0. -/
def planMem : List Host.Cell := [(64, 4), (66, 1), (128, 5)]

/-- The word of a record operation at s[1]. -/
def atS1 : NWords := nw [(49, 1)]

theorem test_secure :
    let s := sc { cx [(1, 64)] with prog := { (cx [(1, 64)]).prog with step := 20 } }
    let e := sc { cx [(1, 64)] with prog := { (cx [(1, 64)]).prog with evalFlag := true } }
    let d := s.setFld Fld.SFC_PROFILE_RESILIENCE 1
    let b : State := { s with rlf := { s.rlf with securing := some { cid := 0, no := 0, items := [], anchor := 0, unread := [], risk := 0, l := 8 } } }
    let p : State := { s with mem := planMem }
    Enc.atSa atS1 = true ∧ s.joined 0 = false ∧ (s.ctx 0).Settled [1] ∧ s.isSecured 0 = true ∧ d.isSecured 0 = false ∧ s.secureDue 0 = true ∧
    (sc).secureDue 0 = false ∧
    ok (.secure 0 atS1) e (fun t => (t.ctx 0).faulted == some 0x0210) = true ∧
    ok (.secure 0 atS1) d (fun t => (t.ctx 0).faulted == some 0x0A01) = true ∧
    ok (.secure 0 atS1) (sc) (fun t => t.fld Fld.RLF_CNT_NOT_DUE == 1 && (t.ctx 0).prog.pc == 8) = true ∧
    ok (.secure 0 atS1) b (fun t => t.fld Fld.RLF_CNT_BUSY_SKIP == 1) = true ∧
    (match (s.planCheck 0 64).res with | .error f => f == 0x0306 || f != 0 | .ok _ => false) = true ∧
    (match (p.planCheck 0 64).res with | .ok q => q.items == [⟨5, false, 0, 0, 0⟩] | .error _ => false) = true := by decide +kernel

theorem test_securings_run :
    let it : PItem := ⟨2, false, 0, 256, 1⟩
    let z : Securing := { cid := 0, no := 3, items := [it], anchor := 0, unread := [0], targets := [1], risk := 0, l := 8 }
    let r (z : Securing) : State := { sc with rlf := { (sc).rlf with securing := some z } }
    let s := r z
    let c := r { z with unread := [], committed := true, targets := [] }
    let a := r { z with unread := [], committed := true, sentAt := some 0 }
    let l := (a).setFld Fld.SEQ_BELL_NUM_NUMBER 8
    let lost : State := { a with rlf := { a.rlf with pair1 := {} } }
    let two : State := { a with rlf := { a.rlf with pair0 := { paired := true } } }
    s.declared 0 (256, 1) = true ∧
    ok (.securingItemRead 0) s (fun t => t.rlf.securing.map (·.unread) == some []) = true ∧ is (.securingItemRead 1) s s = true ∧
    ok .securingCommitRecord c (fun t => t.rlf.securing.map (·.sentAt) == some (some 0)) = true ∧ is .securingCommitRecord s s = true ∧
    ok (.securingAck 1) a (fun t => t.rlf.securing == none && t.rlf.seq1 == 2 && t.rlf.seq0 == 1 && t.fld Fld.RLF_CNT_SECURED == 1) = true ∧
    ok (.securingAck 1) two (fun t => t.rlf.securing.map (·.acks) == some [1]) = true ∧
    is (.securingAck 0) a a = true ∧ is (.securingAck 1) s s = true ∧
    ok .securingAbandon l (fun t => t.rlf.securing == none && t.fld Fld.RLF_CNT_ABANDONED == 1) = true ∧
    ok .securingAbandon lost (fun t => t.rlf.securing == none) = true ∧ is .securingAbandon s s = true := by decide +kernel

theorem test_records :
    let s := sc
    let e := sc { cx [(1, 64)] with prog := { (cx [(1, 64)]).prog with evalFlag := true } }
    let o := sc (cx [(1, 2 ^ 21 - 8)])
    s.ctxAddr 0 64 64 = some 64 ∧ s.ctxAddr 0 64 32 = some 64 ∧ o.ctxAddr 0 (2 ^ 21 - 8) 32 = none ∧ s.memErr = [] ∧ s.injectWord = none ∧
    ok (.markpos 0 atS1) o (fun t => (t.ctx 0).faulted == some 0x0602) = true ∧
    ok (.rngsave 0 atS1) e (fun t => (t.ctx 0).faulted == some 0x0210) = true ∧
    ok (.rngsave 0 atS1) o (fun t => (t.ctx 0).faulted == some 0x0602) = true ∧
    ok (.rngsave 0 atS1) (sc { cx [(1, 64)] with prog := { (cx [(1, 64)]).prog with step := 20 } }) (fun t =>
      t.memByte 72 == 20 && (t.ctx 0).prog.pc == 8) = true := by decide +kernel

theorem test_canary :
    let s : State := { up with rlf := { up.rlf with cur := [100, 0, 0, 0, 0, 0, 0, 0] } }
    let o := fl s [(Fld.DBG_PT_RISK_EN, 0, 1), (Fld.DBG_PT_RISK_LEVEL, 0, 5)]
    let q := up
    ok .canaryCycle s (fun t => t.fld Fld.RLF_CANARY_LEVELS == 3 && t.fld Fld.RLF_CANARY_RISK == 1 && raised s t 0x0A07 srcSurface 16) = true ∧
    ok .canaryCycle o (fun t => t.fld Fld.RLF_CANARY_RISK == 5) = true ∧
    ok .canaryCycle q (fun t => t.fld Fld.RLF_CANARY_RISK == 0 && t.llx == q.llx) = true ∧ s.fld Fld.DBG_PT_RISK_LEVEL < 8 := by decide +kernel

/-! ### Reliefs -/

/-- A relief that covers up to two devices. -/
def rl : State := fl lk [(Fld.RLF_CFG_ROLE, 0, 1), (Fld.RLF_CFG_COVER, 0, 1)]

theorem test_relief_pairing :
    let s := lk
    let p : State := { fl lk [(Fld.RLF_RELIEF_IDENT, 1, 4096), (Fld.RLF_RELIEF_VALID, 1, 1)] with
      rlf := { (lk).rlf with pair1 := { paired := true } } }
    s.privileged .config = true ∧ s.privileged .debug = false ∧
    ok (.reliefPairReq .debug 1 7) s (fun t => t.fld Fld.DBG_STATUS_REFUSALS == 1) = true ∧
    ok (.reliefPairReq .config 1 4097) s (fun t => t.fld Fld.RLF_RELIEF_IDENT 1 == 4097 && t.fld Fld.RLF_RELIEF_VALID 1 == 0) = true ∧
    ok (.reliefPairReq .config 1 0) p (fun t => t.rlf.pairChanged && !(t.pairing 1).paired) = true := by decide +kernel

theorem test_declarations :
    let m (w1 : Nat) : FMsg := fm 7 5 (BitVec.ofNat 64 w1) 0
    let s := rl
    let good := m (1 + lk.variant.code * 2 ^ 8 + 2 ^ 12)
    let q (n : Nat) (x : Pairing) : State := { (fl lk [(Fld.RLF_RELIEF_VALID, 1, 1)]) with
      rlf := { (lk).rlf with pair1 := x }, time := { (lk).time with ns := BitVec.ofNat 64 n } }
    s.managed 1 good = true ∧ s.managed 1 (m 2) = false ∧ is (.declaration (m 2)) s s = true ∧ s.refuseReason good = 0 ∧ s.coverFor 4096 = some 0 ∧
    lk.refuseReason good = 1 ∧ s.refuseReason (m (1 + 2 ^ 12 + (lk.variant.code ^^^ 1) * 2 ^ 8)) = 2 ∧
    ((q (10 ^ 9) { refused := some 0 }).pairing 1).refused = some 0 ∧ is (.reliefPairRetry 1) (q (10 ^ 9 - 1) { refused := some 0 }) (q (10 ^ 9 - 1) { refused := some 0 }) = true ∧
    is (.reliefPairRetry 0) lk lk = true ∧ is (.reliefPairTimeout 0) lk lk = true ∧
    ok (.reliefPairTimeout 1) (q (10 ^ 7) { asked := some 0 }) (fun t => (t.pairing 1).refused == some (10 ^ 7) && t.fld Fld.RLF_PAIR_LAST_REASON == 8) = true ∧
    is (.reliefPairTimeout 1) (q (10 ^ 7 - 1) { asked := some 0 }) (q (10 ^ 7 - 1) { asked := some 0 }) = true := by decide +kernel

theorem test_role :
    let s := lk
    let v (role cover l : Nat) := BitVec.ofNat 64 (word [(0, role), (2, cover), (9, l)])
    let b := s.setCtx 0 { st := .ready }
    s.roleFree = true ∧ b.roleFree = false ∧ b.anyBusy = false ∧
    ok (.rlfRoleWrite .config (v 1 1 0)) s (fun t => t.fld Fld.RLF_CFG_ROLE == 0 && raised s t 0x0102 srcDev 0xB00000) = true ∧
    ok (.rlfRoleWrite .config (v 1 1 7)) b (fun t => t.fld Fld.RLF_CFG_ROLE == 0 && raised b t 0x0101 srcDev 0xB00000) = true ∧
    ok (.rlfRoleWrite .config (v 0 1 7)) s (fun t => t.fld Fld.RLF_CFG_COVER == 1 && t.fld Fld.RLF_CFG_L == 7) = true := by decide +kernel

theorem test_release_of_an_entry :
    let s := (rl).setCover 1 { ident := 4096, valid := true, kept := true }
    let m := fm 7 5 9 0
    s.managed 9 m = true ∧ ok (.release m) s (fun t => t.cover 1 == {}) = true ∧ is (.release m) rl rl = true ∧
    is (.release (fm 7 5 8 0)) s s = true := by decide +kernel

/-- The CRC of R509's records on a running value that is kept small. -/
def crcRun : List Byte → BitVec 32 → BitVec 32
  | [], c => c
  | b :: t, c => if c.toNat < 2 ^ 32 then crcRun t (crcByte 32 0x82F63B78#32 c b) else 0

theorem crcRun_eq (l : List Byte) (c : BitVec 32) : crcRun l c = l.foldl (crcByte 32 0x82F63B78#32) c := by
  induction l generalizing c with
  | nil => rfl
  | cons b t ih => simp [crcRun, c.isLt, ih]

/-- A commit record with type 5 and nothing else set. -/
def rcMem : List Host.Cell := [(0, 5)] ++ cells 1016 (bytesOf 4 (976564399 ^^^ (2 ^ 32 - 1)))

/-- `rl` with a good record in slot A of entry 0, slot B at 2 MiB empty. -/
def rv : State := { fl rl [(Fld.MEM_RGN_A_SIZE, 204, 2)] with mem := rcMem }

theorem test_good_record : recGood 5 (SMap.vals rcMem 0 0 1024) = true := by
  have h : crcRun ((SMap.vals rcMem 0 0 1024).take 1016) (BitVec.allOnes 32) = 976564399#32 := by decide +kernel
  have k : (BitVec.ofNat 32 (leAt (SMap.vals rcMem 0 0 1024) 1016 4) = 976564399#32 ^^^ BitVec.allOnes 32) ∧
    leAt (SMap.vals rcMem 0 0 1024) 0 1 = 5 := by decide +kernel
  rw [crcRun_eq] at h
  simp only [recGood, crc32c, crc, h, k, beq_self_eq_true, Bool.and_self]

theorem live_of_good_a (s : State) (k : Nat) (a : recGood 5 (s.commitRec k false) = true) (b : recGood 5 (s.commitRec k true) = false) :
    s.liveSlot k = some false := by
  simp [State.liveSlot, a, b]

theorem rv_reads : rv.slotBase 0 0 false = 0 ∧ rv.memErr = [] ∧ rv.mem = rcMem := by decide +kernel

theorem rv_slot_b_empty : recGood 5 (rv.commitRec 0 true) = false := by decide +kernel

theorem rv_record : rv.commitRec 0 false = SMap.vals rcMem 0 0 1024 := by
  simp only [State.commitRec, rv_reads.1, State.memBits, Bits72.read, Bits72.found, rv_reads.2.1, rv_reads.2.2]; rfl

theorem test_live_slot : rv.liveSlot 0 = some false := live_of_good_a rv 0 (by rw [rv_record]; exact test_good_record) rv_slot_b_empty

theorem test_activation_waits :
    let n : Notice := ⟨BitVec.ofNat 64 (6144 + 4096 * 2 ^ 17), 0, 1⟩
    let k (s : State) : State := { s.setCover 0 { ident := 4096, valid := true } with fab := { s.fab with notices := [n] } }
    let s := k rl
    let d := s.setFld Fld.SFC_PROFILE_RESILIENCE 1
    ([s, d, k rv].all fun s => s.fld Fld.RLF_CFG_ROLE == 1 && s.rlf.act == none && (s.cover 0).valid && s.confirmedFail 4096) = true ∧
    s.fld Fld.SFC_PROFILE_RESILIENCE = 0 ∧ s.liveSlot 0 = none ∧
    ok (.rlfActivated 0) s (fun t => raised s t 0x0A02 srcDev && t.rlf == s.rlf) = true ∧
    ok (.rlfActivated 0) d (fun t => t.rlf.act.map (·.drop) == some true) = true ∧ is (.rlfActivated 0) rl rl = true := by decide +kernel

/-- A relief whose activation is `x`, at `ns`. -/
def ra (x : Activation) (ns : Nat := 0) (s : State := rl) : State :=
  { s with rlf := { s.rlf with act := some x }, time := { s.time with ns := BitVec.ofNat 64 ns } }
def act0 (it : List PItem := []) : Activation :=
  { entry := 0, ident := 4096, slot := false, cid := 0, step := 7, anchor := 4096, items := it, assay := tensorItems it }

theorem test_restore_and_rejoin :
    let x := act0
    let five : PItem := ⟨5, false, 3, 4 + 2 * 2 ^ 12, 0⟩
    let y := { act0 [five] with restored := true }
    let l := ra x 100000
    is .reliefRestoreDone rl rl = true ∧ is (.rejoinReply 3) rl rl = true ∧ is .rejoinTimeout rl rl = true ∧ is (.assay 0 () ()) rl rl = true ∧
    ok .reliefRestoreDone (ra x) (fun t => t.rlf.act.map (·.restored) == some true) = true ∧
    ok (.rejoinReply 9) (ra x) (fun t => t.rlf.act.map (·.sa) == some 9 && (t.ctx 0).st == .idle) = true ∧
    ok (.rejoinReply 10) (ra y) (fun t => t.rlf.act.map (·.ready) == some true && (t.ctx 0).st == .ready && (t.ctx 0).prog.step == 9 &&
      SMap.val t.fab.redCnt 0 (redKey 3 4) == 4 && told (ra y) t 0x0A04) = true ∧
    ok .rejoinTimeout l (fun t => t.rlf.act.map (·.slow) == some true && raised l t 0x0A05 srcDev) = true ∧
    is .rejoinTimeout (ra x 99999) (ra x 99999) = true := by decide +kernel

theorem test_assay :
    let it (r : Bool) : PItem := ⟨1, r, 0, 0, 0⟩
    let s (r : Bool) := ra { act0 [it r] with restored := true }
    let d := (s true).assayDigest (act0 [it true]) 0
    let got (d : Word × Word) : State := ra { act0 [it true] with restored := true, replies := [(0, some (true, d))] }
    let f : State := { s false with mem := [(48, 1)] }
    let w := (s true).setCover 0 { twin := some 4096 }
    (w.cover 0).twin.isSome = true ∧ is (.assay 0 () ()) w w = true ∧ ((s true).rlf.act.map fun x => x.assay.head?) = some (some 0) ∧
    ok (.assay 0 () ()) (got d) (fun t => t.rlf.act.map (·.assay) == some [] && t.fld Fld.RLF_CNT_ASSAY_FAIL == 0) = true ∧
    ok (.assay 0 () ()) (got (d.1 + 1, d.2)) (fun t => t.rlf.act.map (·.failed) == some [0] && (t.ctx 0).faulted == none) = true ∧
    f.tableDigest (act0 [it false]) 0 = none ∧ ok (.assay 0 () ()) f (fun t => (t.ctx 0).faulted == some 0x0A06) = true ∧
    is (.assay 1 () ()) (s true) (s true) = true := by decide +kernel

theorem test_copies :
    let m := fm 7 5 8 21
    let now := fm 7 5 (8 + 2 ^ 8) 21
    let t0 (step : Nat) : State := sc { cx [] with prog := { step := BitVec.ofNat 63 step }, atStart := true, newstep := true }
    let c (step : Nat) (q : Option (NodeId × BitVec 63)) : State := { (t0 step).setFld Fld.RLF_CTX_PLAN_ADDR 1 with
      mem := planMem, rlf := { (t0 step).rlf with copyReq := q } }
    let bad : State := { c 22 (some (4096, 21)) with mem := [] }
    let x := act0
    rl.managed 8 m = true ∧ rl.managed 8 (fm 7 5 9 0) = false ∧
    ok (.catchupRequest m) rl (fun t => t.rlf.copyReq == some (4096, 21)) = true ∧
    ok (.catchupRequest now) rl (fun t => t.rlf.copyReq == some (4096, 0)) = true ∧
    (c 21 (some (4096, 21))).copyDue = none ∧ (c 22 (some (4096, 21))).copyDue = some 4096 ∧
    is .catchupCopy (c 21 (some (4096, 21))) (c 21 (some (4096, 21))) = true ∧
    (match ((c 22 (some (4096, 21))).planCheck 0 64).res with | .ok _ => true | .error _ => false) = true ∧
    ok .catchupCopy bad (fun t => t.rlf.copyReq == none && t.rlf.copy == none) = true ∧
    is .catchupApply rl rl = true ∧ is .catchupApply (ra x) (ra x) = true ∧ is .catchupApply (ra { x with copyStep := some 8 }) (ra { x with copyStep := some 8 }) = true ∧
    (ra { x with copyStep := some 8, restored := true }).updatesOpen 0 8 = false ∧
    ok .catchupApply (ra { x with copyStep := some 8, restored := true, copyAsked := true }) (fun t =>
      t.rlf.act.map (fun y => (y.copyAsked, y.copyStep)) == some (false, none)) = true ∧
    ok .catchupApply (ra { x with copyStep := some 8, drop := true }) (fun t =>
      t.rlf.act.map (·.ready) == some false && (t.ctx 0).st == .stopped && (t.ctx 0).stopEvent == 0x0A04) = true := by decide +kernel

/-- The live slot of entry 0 is kept, and entry 1 activated. -/
theorem test_served_copy :
    let k (s : State) : State := ra { act0 with entry := 1 } 0 (s.setCover 0 { ident := 4096, valid := true, kept := true })
    let s := k rv
    s.mem = rv.mem ∧ s.memErr = [] ∧ s.regs = rv.regs ∧ s.rlf.act.isSome = true ∧ (s.cover 0).kept = true ∧ s.accepts 2048 = true ∧
    (ra act0 0 rl).liveSlot 0 = none ∧ is (.servedCopy 0 2048) rl rl = true := by decide +kernel

/-! ### Clocks, power and supplies -/

/-- `up` at `n` ns, with these power and reset fields. -/
def pw (p : Pwr := {}) (n : Nat := 0) (v : Variant := .full) : State :=
  { up with pwr := { p with dataOn := true }, time := { up.time with ns := BitVec.ofNat 64 n }, variant := v }

theorem test_step_requests :
    let s := pw {} 10000
    let v (p x : Nat) := BitVec.ofNat 64 (p + x * 2 ^ 61)
    ok (.clkStepAt .host (v 3 4)) s (fun t => t.pwr.plan == some ⟨3, 4, false⟩ && t.fld Fld.CLK_STEP_AT_STEP == 4) = true ∧
    ok (.clkStepAt .host (v 2 4)) s (fun t => t.pwr.plan == none && raised s t 0x0102 srcDev 0x200008) = true := by decide +kernel

theorem test_step_point :
    let s := pw { plan := some ⟨3, 4, false⟩, therm := { val := 3, act := 7, wait := [(20000, 3), (30001, 1)] } }
    let q := pw {}
    ok (.stepPoint 3) s (fun t => t.pwr.req == 4 && t.pwr.step == 3 && t.time.allFallback && t.fld Fld.CLK_XING_CNT_FALLBACKS == 1 &&
      t.llx.recent.any fun f => f.code == 0x0B01 && f.detail == 48) = true ∧
    ok (.stepPoint 2) s (fun t => t.pwr.req == 0 && t.pwr.step == 0) = true ∧
    ok (.stepPoint 0) q (fun t => t.pwr.step == 0 && !t.time.allFallback) = true := by decide +kernel

theorem test_profile :
    let s := pw
    let b := s.setCtx 0 { st := .running }
    let p := pw {} 0 .base
    let v (c n : Nat) := BitVec.ofNat 64 (c + n * 4)
    s.fld Fld.SFC_PROFILE_CLOCK = 1 ∧ b.anyBusy = true ∧
    ok (.sfcProfileWrite .host (v 3 0)) s (fun t => t.fld Fld.SFC_PROFILE_CLOCK == 1 && told s t 0x0102) = true ∧
    ok (.sfcProfileWrite .host (v 2 0)) p (fun t => t.fld Fld.SFC_PROFILE_CLOCK == 1 && t.pwr == p.pwr) = true ∧
    ok (.sfcProfileWrite .host (v 0 1)) s (fun t => t.fld Fld.SFC_PROFILE_CLOCK == 0 && t.fld Fld.SFC_PROFILE_NUMERICS == 1 && t.pwr.mode.val == 3 &&
      t.pwr.plan == some ⟨2, 3, true⟩) = true ∧
    ok (.sfcProfileWrite .host (v 2 1)) b (fun t => t.fld Fld.SFC_PROFILE_CLOCK == 2 && t.fld Fld.SFC_PROFILE_NUMERICS == 0 &&
      raised b t 0x0101 srcDev 0x10) = true := by decide +kernel

theorem test_droops_and_crossings :
    let s := pw
    let b := pw {} 0 .base
    let f : State := { s with time := { s.time with fallback := [130] } }
    s.regionRuns 2 = true ∧ s.regionRuns 59 = true ∧ b.regionRuns 2 = true ∧
    ok (.droopStretch 2 true) s (fun t => t.time.droop == [2] && t.fld Fld.CLK_R_STAT_DROOPS 2 == 1) = true ∧
    is (.droopStretch 2 true) b b = true ∧ ok (.droopStretch 2 false) s (fun t => t.time.droop == []) = true ∧
    ok (.xingFallback 2 2) s (fun t => t.time.fallback == [130] && t.fld Fld.CLK_XING_CNT_FALLBACKS == 1) = true ∧
    is (.xingFallback 2 2) f f = true ∧ is (.xingFallback 59 2) s s = true := by decide +kernel

theorem test_limiters :
    let s := pw { step := 5 }
    let b := pw { step := 5 } 0 .base
    let st := pw { step := 5, stretching := true } 1000000
    let l := pw { step := 5, limit := { val := 3 } } 10000000
    ok .fastLimiterTrigger s (fun t => t.pwr.stretching && t.pwr.limit.val == 7 && t.fld Fld.PWR_LIMIT_CNT_TRIGGERS == 1 && raised s t 0x0B02 srcSurface) = true ∧
    is .fastLimiterTrigger st st = true ∧
    ok .fastLimiterTrigger b (fun t => !t.pwr.stretching && t.pwr.limit.val == 4 && t.fld Fld.PWR_LIMIT_CNT_LIMIT_STEPS == 1) = true ∧
    ok .limiterStretchTimeout st (fun t => t.pwr.limit.val == 4 && t.pwr.stretchSince == 1000000) = true ∧
    is .limiterStretchTimeout (pw { step := 5, stretching := true } 999999) (pw { step := 5, stretching := true } 999999) = true ∧
    is .limiterStretchTimeout s s = true ∧
    is .limiterCeilRise s s = true ∧ is .limiterCeilRise (pw { limit := { val := 3 } } 9999999) (pw { limit := { val := 3 } } 9999999) = true ∧
    ok .limiterCeilRise l (fun t => t.pwr.limit.val.toNat == (if l.stepBut.toNat ≤ 4 then 7 else 4) && t.pwr.limitSince == 10000000) = true ∧
    ok .inputCap s (fun t => t.pwr.cap && t.fld Fld.PWR_LIMIT_CNT_CAPS == 1) = true := by decide +kernel

theorem test_surge :
    let s := pw { credit := 0 }
    let p := pw { spent := true, credit := 150000000000 }
    let q := pw { spent := true, credit := 149999999999 }
    ok .surgeSpent s (fun t => t.pwr.spent && t.pwr.surge.val == 5 && raised s t 0x0B03 srcSurface) = true ∧
    is .surgeSpent p p = true ∧ is .surgeSpent (pw { credit := 1 }) (pw { credit := 1 }) = true ∧ is .surgeSpent (pw { credit := 0 } 0 .base) (pw { credit := 0 } 0 .base) = true ∧
    ok .surgeRestored p (fun t => !t.pwr.spent && t.pwr.surge.val == 7) = true ∧ is .surgeRestored q q = true ∧ is .surgeRestored s s = true := by
  decide +kernel

theorem test_surface_cycle :
    let x (temp p : Nat) : Sensors := ⟨List.replicate 72 temp, 500, 600, p, 1, 2⟩
    let s := pw { step := 4, req := 4 }
    let hot := pw { step := 4, therm := { val := 5 }, hist := [1600] }
    let low := pw { step := 4, therm := { val := 3 } }
    let r : State := { s with rst := { s.rst with running := some (image 1) } }
    ok (.surfaceCycle (x 1599 0)) s (fun t => t.pwr.therm == s.pwr.therm && t.fld Fld.PWR_TEMP_MAX == 1599 && t.pwr.powers == [0]) = true ∧
    ok (.surfaceCycle (x 1600 0)) s (fun t => t.pwr.therm.val == 3 && raised s t 0x0B04 srcSurface) = true ∧
    ok (.surfaceCycle (x 1600 0)) low (fun t => t.pwr.therm.val == 3) = true ∧
    ok (.surfaceCycle (x 1600 0)) hot (fun t => t.pwr.therm.val == 4) = true ∧
    r.rst.step = 11 ∧ ok (.surfaceCycle (x 0 (2 ^ 30))) r (fun t => t.pwr.plan == some ⟨2, 3, false⟩) = true ∧
    is .thermCeilRise s s = true ∧ is .thermCeilRise (pw { therm := { val := 3 }, coolRun := 99 }) (pw { therm := { val := 3 }, coolRun := 99 }) = true ∧
    ok .thermCeilRise (pw { therm := { val := 3 }, coolRun := 100 }) (fun t => t.pwr.therm.val == 4 && t.pwr.coolRun == 0) = true := by decide +kernel

theorem test_domains :
    let s := pw
    let v (d off : Nat) := BitVec.ofNat 64 (d + off * 64)
    let o := pw { off := [3] }
    let b := pw {} 0 .base
    let u := s.setHnd 5 (hd (2 ^ 12) 4)
    ok (.pwrDomReq .debug (v 3 1)) s (fun t => t.fld Fld.DBG_STATUS_REFUSALS == 1) = true ∧
    ok (.pwrDomReq .config (v 50 1)) s (fun t => raised s t 0x0102 srcDev 0x200130) = true ∧
    ((List.range 50).find? fun d => b.domState d == 3) = some 26 ∧
    ok (.pwrDomReq .config (v 40 1)) b (fun t => raised b t 0x0103 srcDev 0x200130) = true ∧
    ok (.pwrDomReq .config (v 24 1)) s (fun t => raised s t 0x0101 srcDev 0x200130) = true ∧ u.domBusy 3 = true ∧
    ok (.pwrDomReq .config (v 3 1)) u (fun t => raised u t 0x0101 srcDev 0x200130) = true ∧ s.domBusy 3 = false ∧ s.domState 3 ≠ 3 ∧ ok (.pwrDomReq .config (v 3 1)) s (fun t => t.pwr.off == [3]) = true ∧
    ok (.pwrDomReq .config (v 3 0)) o (fun t => t.pwr.turningOn == [3] && t.pwr.off == [3]) = true ∧
    is (.domainPowerOn 3) s s = true ∧ ok (.domainPowerOn 40) (pw { turningOn := [40] }) (fun t => t.pwr.turningOn == [] && t.pwr.waking == [40] && bit t.rst.held 40) = true := by
  decide +kernel

/-! ### Resets, boot and the stores -/

/-- `up` with these reset fields; domains held as given. -/
def rs (step : Nat := 11) (asserted : Nat := 0) (r : Rst := {}) : State :=
  { up with rst := { r with held := 0, step := step, asserted := BitVec.ofNat 9 asserted } }

theorem test_supplies :
    let s := up
    let g := rs 11 48
    ok (.pwrInput true) s (fun t => t.pwr.inOk) = true ∧ ok (.auxLoss true) s (fun t => t.pwr.auxOk) = true ∧
    ok (.holdupCharged 5400) s (fun t => t.pwr.charged) = true ∧ ok (.holdupCharged 5399) s (fun t => !t.pwr.charged) = true ∧
    is .lastGasp g g = true ∧ is .lastGasp s s = true ∧
    (let a : State := { g with pwr := { g.pwr with energy := 1500 } }
     ok .lastGasp a (fun t => t.rst.gasps.map (·.length) == [256] && t.rst.gasps.map (fun r => leAt r 1 1) == [3]) = true) ∧
    (let b : State := { rs 11 32 with pwr := { up.pwr with auxOk := true } }
     ok .lastGasp b (fun t => t.rst.gasps.map (fun r => leAt r 1 1) == [1]) = true) := by decide +kernel

theorem test_sources :
    let s := up
    let w : State := { s with rst := { s.rst with lastKick := 1 } }.setFld Fld.RST_WDT_TIMEOUT 1
    let at_ (n : Nat) : State := { w with time := { w.time with ns := BitVec.ofNat 64 n } }
    let p : State := { s with fab := { s.fab with resetAsked := true } }
    let d : State := { s with dbg := { s.dbg with unlocked := true } }
    ok (.pin true) s (fun t => t.pins.rstN) = true ∧ is .wdt (at_ 1000000) (at_ 1000000) = true ∧
    (at_ 1000001).rst.lastKick + (at_ 1000001).fld Fld.RST_WDT_TIMEOUT * 1000000 ≤ (at_ 1000001).now ∧
    p.fab.resetAsked = true ∧ is .peer s s = true ∧ d.dbg.unlocked = true ∧ is .dbg s s = true ∧
    ok (.dbgrst .debug) s (fun t => t.fld Fld.DBG_STATUS_REFUSALS == 1) = true ∧
    ok (.dbgrst .host) d (fun t => t.fld Fld.DBG_STATUS_REFUSALS == 1) = true := by decide +kernel

theorem test_reset_releases :
    let w : State := { rs 11 2 with pins := { up.pins with rstN := false } }
    let hot : State := { rs 11 16 with pwr := { up.pwr with temps := [1440] } }
    let cool : State := { rs 11 16 with pwr := { up.pwr with temps := [1439] } }
    let pf : State := { rs 11 32 with pwr := { up.pwr with inOk := true, auxOk := true }, pins := { up.pins with pwrgdIn := false } }
    let sw := rs 11 128 { swPulse := 1 }
    let swh := rs 11 128 { swPulse := 1, swHeld := 2 }
    is (.resetRelease 3) up up = true ∧ is (.resetRelease 1) w w = true ∧ is (.resetRelease 4) hot hot = true ∧ is (.resetRelease 5) (rs 11 32) (rs 11 32) = true ∧
    ok (.resetRelease 1) (rs 11 2) (fun t => t.rst.asserted == 0) = true ∧ ok (.resetRelease 4) cool (fun t => t.rst.asserted == 0) = true ∧
    ok (.resetRelease 5) pf (fun t => t.rst.asserted == 0 && t.pins.pwrgdIn) = true ∧
    ok (.resetRelease 7) sw (fun t => t.rst.asserted == 0 && t.rst.swPulse == 0) = true ∧
    ok (.resetRelease 7) swh (fun t => t.rst.asserted == 128 && t.rst.swPulse == 0) = true := by decide +kernel

theorem test_software_resets :
    let s := up
    let v (d c hold force : Nat) := BitVec.ofNat 64 (word [(0, d), (6, c), (10, force), (11, hold)])
    let b : State := { up with variant := .base }
    let h := rs 11 0 { swHeld := 8 }
    let u := up.setHnd 5 (hd (2 ^ 12) 4)
    ok (.rstSwreq .debug (v 3 0 0 0)) s (fun t => t.fld Fld.DBG_STATUS_REFUSALS == 1) = true ∧
    ok (.rstSwreq .config (v 0 1 0 0)) s (fun t => (t.ctx 0).resetReq && t.fld Fld.RST_CAUSE_LAST == 7) = true ∧
    ok (.rstSwreq .config (v 49 0 0 0)) s (fun t => raised s t 0x0102 srcDev 0x100018) = true ∧
    ok (.rstSwreq .config (v 26 0 0 0)) b (fun t => raised b t 0x0103 srcDev 0x100018) = true ∧
    ok (.rstSwreq .config (v 3 0 0 0)) h (fun t => t.rst.swHeld == 0 && t.rst.held == 0) = true ∧
    u.domBusy 3 = true ∧ ok (.rstSwreq .config (v 3 0 0 0)) u (fun t => raised u t 0x0101 srcDev 0x100018) = true ∧
    ok (.rstSwreq .config (v 24 0 0 0)) s (fun t => raised s t 0x0101 srcDev 0x100018) = true ∧
    bit s.rst.swHeld 40 = false ∧ s.domBusy 40 = false ∧ ok (.rstSwreq .config (v 40 0 1 0)) s (fun t => bit t.rst.swHeld 40 && bit t.rst.held 40 && bit t.rst.asserted 7) = true ∧
    (let z := u.setCtx 0 { st := .ready }
     z.domUsers 3 = [0] ∧ ok (.rstSwreq .config (v 3 0 0 1)) z (fun t => t.rst.forced == [(3, false)] && (t.ctx 0).resetReq) = true) := by decide +kernel

/-- A trim block with its check code. -/
theorem test_trim (b : List Byte) (h : b.length = 4092) : trimOk (b ++ bytesOf 4 (crc32c b).toNat) = true := by
  have n : (crc32c b).toNat < 2 ^ 32 := (crc32c b).isLt
  generalize hc : (crc32c b).toNat = c at n
  have g (i : Nat) : (b ++ bytesOf 4 c).getD (4092 + i) 0 = (bytesOf 4 c).getD i 0 := by
    rw [List.getD_eq_getElem?_getD, List.getD_eq_getElem?_getD, List.getElem?_append_right (by omega), h, Nat.add_sub_cancel_left]
  have l : leAt (b ++ bytesOf 4 c) 4092 4 = c := by
    simp only [leAt, sliceB, g]
    simp [bytesOf, ofBytes, List.range, List.range.loop, List.map, List.getD]
    omega
  simp only [trimOk, l, List.take_left' h, hc, beq_self_eq_true, Bool.and_true, List.length_append, h]
  simp [bytesOf]

theorem test_release_order :
    let r (step : Nat) (counting : Bool := true) (asserted : Nat := 0) : State :=
      { (rs step asserted).setFld Fld.SEC_CFG_SEL 2 with time := { up.time with counting := counting }, pwr := { up.pwr with inOk := true, dataOn := true } }
    let go : Instr := .releaseStepDone [] [] [] []
    let cold : State := { r 3 with pwr := { up.pwr with inOk := false } }
    is go (r 5 true 1) (r 5 true 1) = true ∧
    (r 0 false).time.counting = false ∧ (r 0 false).rst.asserted &&& 0b000001011 = 0 ∧
    cfgOk [] = false ∧ cfgOk (r 1).rst.copyA = false ∧ cfgOk (r 1).rst.copyB = false ∧ trimOk [] = false ∧
    ok go (r 1 false) (fun t => t.rst.step == 2 && t.fld Fld.SEC_CFG_SEL == 2 && t.llx.recent.any (·.code == 0x0C03) && t.pwr.trim.val == 3 && t.llx.recent.any (·.code == 0x0C04)) = true ∧
    (r 2).fld Fld.SEC_CFG_SEL = 2 ∧
    ok go (r 2 false) (fun t => t.rst.step == 3 && t.time.counting && t.time.ns == 1280) = true ∧
    is go (r 3 true 4) (r 3 true 4) = true ∧ is go cold cold = true ∧
    ok go (r 3) (fun t => t.rst.step == 4 && t.pwr.dataOn && t.time.ns == 40960) = true ∧
    ok go (r 4) (fun t => t.rst.step == 5 && t.time.ns == 0) = true ∧
    ok go (r 10) (fun t => t.rst.step == 11 && t.llx.recent.any (·.code == 0x0C01)) = true ∧
    ((List.range 12).all fun k => (r 11).free k == []) = true ∧ is go (r 11) (r 11) = true := by decide +kernel

theorem test_release_frees_domains :
    let s : State := { rs 4 with rst := { (rs 4).rst with held := 1 }, time := { up.time with counting := true } }
    (s.free 5 ++ s.free 6 ++ s.free 7 ++ s.free 8 ++ s.free 9).length = 1 := by decide +kernel

theorem test_fill_and_sysref :
    let f := rs 11 0 { memInit := 3 }
    let h : State := { f with rst := { f.rst with held := BitVec.allOnes 50 } }
    let two := rs 2
    ok (.memoryZeroFillDone 0) f (fun t => t.rst.memInit == 2) = true ∧ is (.memoryZeroFillDone 5) f f = true ∧ is (.memoryZeroFillDone 0) h h = true ∧
    ok .sysrefEdge two (fun t => t.rst.sysrefSeen) = true ∧ is .sysrefEdge f f = true ∧ is .sysrefEdge (rs 2 1) (rs 2 1) = true := by decide +kernel

theorem test_stores_and_boot :
    let r : State := { rs 11 0 { running := some (image 2) } with pwr := { up.pwr with energy := 800 } }
    let lo : State := { r with pwr := { r.pwr with energy := 799 } }
    let c := storeOf 0x5A544346 9 3
    let as (n : Byte) := storeOf 0x5A544346 n 3
    let b := rs 2 0 { rollback := 3 }
    is (.cfgStoreWrite (c.take 256) (c.drop 256)) up up = true ∧ ok (.cfgStoreWrite (c.take 256) (c.drop 256)) lo (fun t => raised lo t 0x0104 srcSurface && t.rst == lo.rst) = true ∧
    ok (.cfgStoreWrite (c.take 256) (c.drop 256)) r (fun t => t.rst.copyA == as 1) = true ∧
    ok (.cfgStoreWrite (c.take 256) (c.drop 256)) (fl r [(Fld.SEC_CFG_SEL, 0, 0), (Fld.SEC_CFG_SEQ, 0, 6)]) (fun t => t.rst.copyB == as 7) = true ∧
    is (.imageVerify (image 3) (image 3)) (rs 1) (rs 1) = true ∧ is (.imageVerify (image 3) (image 3)) r r = true ∧
    b.imageOk (image 2) = false ∧ b.imageOk [] = false ∧
    ok (.imageVerify (image 2) []) b (fun t => t.rst.recovery && t.rst.running == none && raised b t 0x0C02 srcSurface) = true := by
  decide +kernel

theorem test_rollback :
    let s : State := { rs 11 0 { rollback := 3, running := some (image 5), verified := true } with variant := .full }
    ok (.secRollbackWrite .mgmt 5) s (fun t => t.rst.rollback == 5) = true ∧ is (.secRollbackWrite .mgmt 6) s s = true ∧
    is (.secRollbackWrite .mgmt 3) s s = true ∧ ok (.secRollbackWrite .host 5) s (fun t => t.fld Fld.DBG_STATUS_REFUSALS == 1) = true ∧
    s.privileged .mgmt = true := by decide +kernel

theorem test_mailbox_and_kick :
    let s := (up).setFld Fld.SEC_MBOX_WORD 0x8110 0
    let q := (up).setFld Fld.SEC_MBOX_WORD 0x0110 0
    (0x81 ∈ spdmCodes) ∧ (0x01 ∉ spdmCodes) ∧ s.fld Fld.SEC_MBOX_WORD 0 / 256 % 256 = 0x81 ∧ q.fld Fld.SEC_MBOX_WORD 0 / 256 % 256 = 1 ∧
    ok (.kick .host) up (fun t => t.fld Fld.RST_WDT_SURF_CYCLES == 1) = true := by decide +kernel

/-! ### Debug, trace, test port, registers -/

/-- `up` with these debug fields. -/
def db (d : Dbg := { unlocked := true, level := 7 }) : State := { up with dbg := d }
def halted : Dbg := { unlocked := true, level := 7, stop := some ⟨none, 1⟩ }

theorem test_stops :
    let s := db
    let h := db halted
    ok (.stop .debug 0) up (fun t => t.fld Fld.DBG_STATUS_REFUSALS == 1 && t.dbg.stop == none) = true ∧
    ok (.stop .debug 12) s (fun t => t.dbg.stop == some ⟨some (s.lead 4), 1⟩ && t.fld Fld.DBG_STOP_STAT_SCOPE == 1 && raised s t 0x0D03 srcDev) = true ∧
    ok (.stop .debug 0) h (fun t => t.dbg == h.dbg) = true ∧
    ok (.allstopRelease .host) h (fun t => t.fld Fld.DBG_STATUS_REFUSALS == 1) = true ∧ is (.allstopRelease .debug) s s = true ∧
    is (.allstopRelease .debug) (db { halted with scanned := [3] }) (db { halted with scanned := [3] }) = true ∧
    ok (.allstopRelease .debug) h (fun t => t.dbg.stop == none && t.time.allFallback) = true ∧
    ok (.dbgPcCtlWrite .debug 3) s (fun t => t.dbg.pcPend == some true && t.fld Fld.DBG_PC_CTL_FREEZE == 1) = true ∧
    ok (.dbgPcCtlWrite .host 3) s (fun t => t.fld Fld.DBG_STATUS_REFUSALS == 1) = true ∧
    ok (.dbgRdSelWrite .host 3) s (fun t => t.fld Fld.DBG_STATUS_REFUSALS == 1) = true := by decide +kernel

theorem test_debug_reads :
    let s := db
    let h : State := { db halted with mem := [(9, 2)] }.setCtx 0 { (cx [(5, 77)]) with st := .stopped }
    let run : State := (db).setCtx 0 { st := .running }
    let rd (s : State) (sp a : Nat) : Option (Nat × Nat) := match exec (.dbgRdSelWrite .debug (BitVec.ofNat 64 (sp + a * 16))) s with
      | .next t => some (t.fld Fld.DBG_RD_SEL_STATUS + 16 * t.fld Fld.DBG_RD_SEL_SPACE, t.fld Fld.DBG_RD_DATA_DATA)
      | _ => none
    let p := (fl h [(Fld.MEM_RGN_A_SIZE, 7, 1), (Fld.MEM_RGN_B_STATE, 7, 2)])
    rd (db { unlocked := true, level := 6 }) 4 8 = some (3 + 64, 0) ∧ rd h 4 8 = some (64, 512) ∧ rd p 4 8 = some (2 + 64, 0) ∧
    assigned h.variant (2 ^ 40) 8 = false ∧ rd h 4 (2 ^ 40) = some (2 + 64, 0) ∧ h.ctxStopped 0 = true ∧ run.ctxStopped 0 = false ∧
    rd h 3 (8 * 5) = some (48, 77) ∧ rd run 3 (8 * 5) = some (1 + 48, 0) ∧ rd h 3 (8 * 33) = some (48, 0) ∧ rd h 3 (8 * 56) = some (2 + 48, 0) ∧
    h.stnStopped 3 = true ∧ run.stnStopped 3 = false ∧ rd h 1 3 = some (16, 0) ∧ rd run 1 3 = some (1 + 16, 0) ∧ rd h 6 0 = some (2 + 96, 0) ∧
    s.dbg.unlocked = true := by decide +kernel

/-- An unlock token for nonce 0 with LEVEL 3. -/
def tok : SMap Byte := SMap.putList (SMap.putList [] 0 0 (bytesOf 4 0x5A544454)) 0 8 [3]

theorem test_unlock :
    let s : State := { up with dbg := { token := tok } }
    let w : State := { up with dbg := { token := tok, refusedAt := some 0 }, time := { up.time with ns := 999999999 } }
    let e : State := { up with dbg := { refusedAt := some 0 }, time := { up.time with ns := 1000000000 } }
    let l := (List.range 192).map fun k => SMap.val s.dbg.token 0 k
    leAt l 0 4 = 0x5A544454 ∧ leAt l 16 8 = s.fld Fld.DBG_NONCE_NONCE ∧ tokenZeros l = true ∧
    s.rst.porCount.toNat ≤ leAt l 4 4 ∧ leAt l 8 1 = 3 ∧ leAt l 12 1 = 0 ∧ is (.dbgUnlock .host 1) w w = true ∧ is (.dbgUnlock .host 2) s s = true ∧
    e.dbg.refusedAt = some 0 ∧ ¬ e.now < 10 ^ 9 := by
  decide +kernel

theorem test_marks :
    let s := fl up [(Fld.DBG_TR_CFG_EN, 0, 1), (Fld.DBG_TR_FILT_TYPES, 0, 2 ^ 16 - 1), (Fld.DBG_TR_FILT_SOURCES, 0, 511), (Fld.DBG_TR_FILT_NOCTX, 0, 1)]
    is (.dbgTrMark 9) up up = true ∧ s.fld Fld.DBG_TRIG_EN = 0 ∧ (s.hub 0).trPost = none ∧ s.tracePass srcSurface none 0xA = true ∧
    ok (.dbgTrMark 9) s (fun t => (t.hub 0).trBuf.map (fun r => (r.length, leAt r 11 1, leAt r 16 8)) == [(32, 10, 9)]) = true := by decide +kernel

/-- Tailings of 2 MiB at region 252 and a hub 0 with this buffer. -/
def tr (x : Hub) (l : List (Fld × Nat × Nat) := []) : State :=
  let s := (fl lk l).setHub 0 x
  { s with rst := { s.rst with tail := 1 } }

theorem test_trace_records :
    let r : List Byte := List.replicate 32 7
    let s := tr { trBuf := [r] }
    let full := tr { trBuf := [r] } [(Fld.DBG_TR_PTR_FULL, 0, 1)]
    let last (stop : Nat) := tr { trBuf := [r] } [(Fld.DBG_TR_PTR_NEXT, 0, 2 ^ 21 - 1), (Fld.DBG_TR_CFG_STOPFULL, 0, stop)]
    let rem := tr { trBuf := [r] } [(Fld.DBG_TR_CFG_REMOTE, 0, 1), (Fld.DBG_TR_CFG_DEST, 0, 2048)]
    ok (.traceRecordWrite 0) s (fun t => (t.hub 0).trBuf == [] && t.mem.length == 32 && t.fld Fld.DBG_TR_PTR_NEXT 0 == 1) = true ∧
    ok (.traceRecordWrite 1) s (fun t => t.mem == []) = true ∧ ok (.traceRecordWrite 0) full (fun t => t.mem == [] && t.fld Fld.DBG_TR_PTR_LOST 0 == 1) = true ∧
    ok (.traceRecordWrite 0) (last 0) (fun t => t.fld Fld.DBG_TR_PTR_WRAPPED 0 == 1 && t.fld Fld.DBG_TR_PTR_NEXT 0 == 0) = true ∧
    ok (.traceRecordWrite 0) (last 1) (fun t => t.fld Fld.DBG_TR_PTR_FULL 0 == 1) = true ∧
    rem.accepts 2048 = true ∧ ok (.traceRecordWrite 0) rem (fun t => t.fab.sent.map (·.kind) == [10] && t.mem == []) = true := by decide +kernel

theorem test_remote_trace :
    let m := fm 10 6 0 0 (List.replicate 32 9)
    let s := tr {} [(Fld.DBG_TR_CFG_ACCEPT, 0, 1), (Fld.DBG_TR_CFG_ASRC, 0, 4096), (Fld.DBG_TR_CFG_AMASK, 0, 2 ^ 17 - 1)]
    s.delivered 10 m = true ∧ s.delivered 10 (fm 5 2 0 0) = false ∧ is (.remoteTrace (fm 5 2 0 0)) s s = true ∧
    ok (.remoteTrace m) (tr {}) (fun t => t.mem == [] && t.fld Fld.DBG_TR_PTR_LOST 0 == 1) = true ∧
    ok (.remoteTrace m) s (fun t => t.fld Fld.DBG_TR_PTR_NEXT 0 == 2 && t.memByte 11 == 0xC && t.memByte 32 == 9 && t.memByte 63 == 9) = true := by
  decide +kernel

theorem test_split_charge :
    let j := fl up [(Fld.SFC_PROFILE_SEAM, 0, 0), (Fld.SEQ_CTX_CFG_JOIN, 0, 1), (Fld.SEQ_CTX_CFG_JOIN, 4, 1)]
    let s := (j.setCtx 0 { st := .running, owner := true }).setCtx 4 { st := .running }
    s.joined 0 = true ∧ s.busyCtx 0 = true ∧ is (.splitCharge 0) j j = true ∧ is (.splitCharge 1) s s = true ∧
    ok (.splitCharge 0) s (fun t => (t.ctx 0).st == .stopped && (t.ctx 0).stopEvent == 0x020E && t.fld Fld.SEQ_CHARGE_SPLITS == 1 && t.token.epoch == 1) = true := by
  decide +kernel

theorem test_test_port :
    let s := up
    let cells6 (t : State) : Bool := t.dbg.tdo.length == 6
    ok (.extest [true]) s (fun t => cells6 t && t.dbg.driving && t.dbg.ir == 0) = true ∧
    ok (.samplePreload none) s (fun t => cells6 t && !t.dbg.driving && t.dbg.ir == 1) = true ∧
    ok .idcode s (fun t => t.dbg.tdo.take 4 == [true, false, true, true] && t.dbg.tdo.length == 32) = true ∧
    ok .bypass { s with dbg := { s.dbg with bypass := true } } (fun t => t.dbg.tdo == [true] && !t.dbg.bypass) = true ∧
    ok .trst (db { halted with driving := true, scansel := 3 }) (fun t => !t.dbg.driving && t.dbg.scansel == 0 && t.dbg.stop.isSome) = true ∧
    ok (.scansel 9) s (fun t => t.dbg.scansel == 9) = true := by decide +kernel

theorem test_debug_access :
    up.dbg.unlocked = false ∧ ok (.dbgacc 2 0xB00018 7) (db) (fun t => t.fld Fld.RLF_INTERVAL_I0 == 7) = true ∧
    ok (.dbgacc 2 0xB00018 7) up (fun t => t.fld Fld.RLF_INTERVAL_I0 == up.fld Fld.RLF_INTERVAL_I0) = true := by decide +kernel

theorem test_scan_and_stop :
    let s := db { halted with scansel := 5, scanned := [2] }
    ok .scan s (fun t => t.dbg.scanned.contains 5 && t.dbg.scanned.contains 2) = true ∧
    ok .scan (db) (fun t => t.dbg.scanned == [] && t.dbg.tdo == List.replicate 64 false) = true ∧
    ok (.tapStop true) (db) (fun t => t.dbg.stop == some ⟨none, 4⟩) = true ∧ ok (.tapStop false) (db) (fun t => t.dbg.stop == none) = true ∧
    ok (.tapStop true) up (fun t => t.dbg.stop == none && t.fld Fld.DBG_STATUS_REFUSALS == 1) = true := by decide +kernel

theorem test_sideband :
    let s := up
    is (.i2cRead 0) (rs 11 1) (rs 11 1) = true ∧ ok (.i2cRead 4) s (fun t => t.pins.i2c == none) = true ∧
    ok (.i2cRead 0xB00018) s (fun t => t.pins.i2c == some (bytesOf 8 (s.regWord .sideband 0xB00018).toNat)) = true := by decide +kernel

theorem test_register_writes :
    let s := up
    let b := s.setCtx 0 { st := .running }
    let at_ : State := { s with time := { s.time with ns := 25000 } }
    regAt 0xF00000 = none ∧ is (.regWrite .host 0xF00000 1) s s = true ∧
    ok (.regWrite .host 0xB00108 (BitVec.ofNat 64 (9 + 3 * 2 ^ 21))) s (fun t => t.fld Fld.RLF_CAN_IN_BASE 1 == 16 && t.fld Fld.DBG_STATUS_REFUSALS == 1) = true ∧
    ok (.regWrite .config 0xB00108 (BitVec.ofNat 64 (9 + 3 * 2 ^ 21))) s (fun t => t.fld Fld.RLF_CAN_IN_BASE 1 == 9 && t.fld Fld.RLF_CAN_IN_W 1 == 3) = true ∧
    ok (.regWrite .host 0xB00038 5) b (fun t => raised b t 0x0101 srcDev 0xB00038) = true ∧ ok (.regWrite .host 0xB00038 5) s (fun t => t.fld Fld.RLF_DECL_REGIONS 1 == 5) = true ∧
    ok (.regWrite .host 0x901010 5) (s.setFld Fld.BKN_LOCK_WIN 1) (fun t => t.fld Fld.BKN_WIN_A_BASE 1 == 0) = true ∧
    ok (.seqBellWrite .host 100) s (fun t => t.shadow == [(0x308000 * 64, some 100)]) = true ∧
    ok (.seqBellWrite .host 0) s (fun t => t.shadow == [] && raised s t 0x0102 srcDev 0x308000) = true ∧
    ok (.seqBellWrite .host 101) s (fun t => t.shadow == [] && raised s t 0x0102 srcDev 0x308000) = true ∧
    ok (.seqBellOriginWrite .host 5000) b (fun t => t.fld Fld.SEQ_BELL_ORIGIN_ORIGIN == 0 && raised b t 0x0101 srcDev 0x308008) = true ∧
    ok (.seqBellOriginWrite .host 30000) at_ (fun t => t.time.nextBell == 30000 && t.time.nextNum == 0) = true ∧ 0 < at_.fld Fld.SEQ_BELL_PERIOD ∧
    ok (.seqBellOriginWrite .host 5000) at_ (fun t => 25000 < t.time.nextBell && t.time.nextBell == 5000 + t.time.nextNum * at_.fld Fld.SEQ_BELL_PERIOD * 10000) = true := by
  decide +kernel

/-! ### The bell -/

/-- A device whose bell 7 is due at 40,000 ns, with context 0 as `x`. -/
def bl (x : Ctx := {}) (l : List (Fld × Nat × Nat) := []) : State :=
  ({ fl up l with time := { up.time with counting := true, nextBell := 40000, nextNum := 7 } } : State).setCtx 0 x

theorem test_bell_counts :
    let s := bl
    let h : State := { s with rst := { s.rst with held := BitVec.allOnes 50 } }
    let d : State := { s with dbg := halted }
    let p : State := { s with shadow := [(0x308000 * 64, some 30)], dbg := { pcPend := some true } }
    is .bell up up = true ∧ is .slotPreread up up = true ∧ h.held 48 = true ∧ ok .bell h (fun t => t.time.nextNum == 8 && t.regs == h.regs) = true ∧ is .slotPreread h h = true ∧
    d.stopDevice = true ∧ ok .bell d (fun t => t.fld Fld.SEQ_BELL_NUM_NUMBER == 7 && t.fld Fld.DBG_STOP_STAT_BELLS_SKIPPED == 1) = true ∧
    is .slotPreread d d = true ∧ s.held 48 = false ∧ s.fld Fld.DBG_TRIG_EN = 0 ∧
    ok .bell p (fun t => t.fld Fld.SEQ_BELL_PERIOD == 30 && t.time.nextBell == 340000 && t.dbg.pcOn && t.shadow == []) = true := by decide +kernel

theorem test_slot_preread :
    let s : State := { bl {} [(Fld.SEQ_CTX_CFG_SCAN_EN, 0, 1)] with mem := [(3, 9)] }
    s.joined 0 = false ∧ assigned s.variant (s.slotAddr 0) 32 = true ∧ s.slotAddr 0 < stkBase ∧ s.rgnPurging (s.slotAddr 0) 32 = false ∧
    ok .slotPreread s (fun t => (t.ctx 0).preread.map (·.getD 3 0) == some 9) = true := by decide +kernel

theorem test_bell_contexts :
    let p : ProgState := { pc := 64, step := 3 }
    let w : Ctx := { st := .waiting, owner := true, inSeg := true, prog := p }
    let at_ (x : Ctx) (q : Ctx → Bool) (l : List (Fld × Nat × Nat) := []) : Bool := ok .bell (bl x l) fun t => q (t.ctx 0)
    let slip := [(Fld.SEQ_CTX_CFG_SLIP_EN, 0, 1)]
    (bl w).seamOk 0 = true ∧
    at_ w (fun x => x.st == .running && x.image == p && !x.inSeg) = true ∧
    at_ { w with waitBells := 2 } (fun x => x.st == .waiting && x.waitBells == 1 && x.emptySeg) = true ∧
    at_ { w with halting := true } (fun x => x.st == .idle && !x.owner) = true ∧
    at_ { w with st := .running } (fun x => x.st == .stopped && x.stopEvent == 0x0201) = true ∧
    at_ { w with st := .running } (fun x => x.st == .running && x.slipped) slip = true ∧
    at_ { w with st := .running, slipped := true } (fun x => x.st == .stopped && x.stopEvent == 0x0201) slip = true ∧
    at_ { w with faulted := some 0x0602 } (fun x => x.st == .stopped && x.stopEvent == 0x0602) = true ∧
    at_ { st := .stopped, cmd := 2, prog := p } (fun x => x.st == .running && x.prog == p) = true ∧
    at_ { st := .stopped, cmd := 2, pastReturn := true } (fun x => x.st == .stopped && x.cmd == 0) = true ∧
    at_ { w with cmd := 1 } (fun x => x.st == .stopped) = true := by decide +kernel

/-- A slot: sequence 0, entry 64, seed 5, step 6. -/
def slot0 : List Byte :=
  let b := bytesOf 8 64 ++ bytesOf 8 5 ++ bytesOf 8 6
  bytesOf 4 0 ++ bytesOf 4 (crc32c (bytesOf 4 0 ++ b)).toNat ++ b

theorem test_bell_takes_work :
    let s := (rg (bl { preread := some slot0 } [(Fld.SEQ_CTX_CFG_SCAN_EN, 0, 1)]))
    let q := s.fld Fld.SEQ_CTX_SUBSEQ_NEXT_SEQ 0
    s.entryFits 0 64 = true ∧ leAt slot0 0 4 = q ∧ leAt slot0 4 4 = (crc32c (sliceB slot0 0 4 ++ sliceB slot0 8 24)).toNat ∧
    ok .bell s (fun t => (t.ctx 0).st == .running && (t.ctx 0).prog.pc == 64 && (t.ctx 0).prog.step == 6 && t.fld Fld.SEQ_CTX_SEED_SEED 0 == 5) = true := by
  decide +kernel

/-! ### Steps -/

theorem test_step :
    let s : State := { State.reset with pending := [.kick .host, .bell] }
    let t : State := { State.reset with time := { State.reset.time with counting := true } }
    (match step s with | .next u => u.pending == [.bell] && u.fld Fld.RST_WDT_SURF_CYCLES == 1 | _ => false) = true ∧
    (match step t with | .next u => u.time.ns == 10 | _ => false) = true ∧ (match step State.reset with | .next u => u == State.reset | _ => false) = true ∧
    State.reset.Sound ∧ State.reset.time.counting = false := by decide +kernel

/-! ### Ill-formed commands -/

theorem test_wf_nop : (Instr.nop 0 0x0900000000000000#64).wf = false ∧ (Instr.nop 0 0xFF00000000000000#64).wf = true ∧ (Instr.nop 0 1).wf = true := by
  decide +kernel

theorem test_wf_numbers :
    (Instr.queueDrainDone 0 0 12289).wf = false ∧ (Instr.queueDrainDone 0 0 12288).wf = true ∧ (Instr.patrolScrub 0 4).wf = false ∧
    (Instr.portPairing 0 ⟨0, 0, 48, true, true, 0⟩).wf = false ∧ (Instr.portPairing 0 ⟨0, 0, 47, true, true, 0⟩).wf = true ∧
    (Instr.holdupCharged 65536).wf = false ∧ (Instr.holdupCharged 65535).wf = true := by decide +kernel

theorem test_token_opens (h : Signs) (key : List Byte) :
    tokenOk 0 0 key (SMap.vals tok 0 0 192) = true ∧ BitVec.ofNat 3 (leAt (SMap.vals tok 0 0 192) 8 1) = 3 := by
  simp only [tokenOk, signedBy, keyCheck, h.digest, h.keys, h.2.2.1, h.2.2.2]
  decide +kernel

theorem test_wf_link :
    (Instr.frameReceive .llxUp 0 .clean .clean ⟨[.idle], []⟩).wf = false ∧
    (Instr.frameReceive .llxUp 0 .clean .clean ⟨List.replicate 5 .idle, [0, 0, 0, 0, 0]⟩).wf = false ∧ (Instr.controlFlit .llxUp ⟨[1], 0, false, 0⟩).wf = false ∧
    (Instr.controlFlit .llxUp ⟨[1, 2, 3], 0, false, 0⟩).wf = true ∧ (Instr.controlFlit (.berken 0) ⟨[1, 2, 3], 0, false, 0⟩).wf = false := by
  decide +kernel

theorem test_wf_requests :
    let f (t len n : Nat) : LFlit := ⟨1, 0, BitVec.ofNat 4 t, BitVec.ofNat 8 len, 0, 0, 0, 0, 0, List.replicate n 0⟩
    ([Instr.regRd, .regWr, .memWr, .memRd, .flush, .enum, .untally, .resetReq, .push, .imgWr, fun f => .imgGo f ()].all fun c =>
      !(c (f 12 0 0)).wf && !(c (f 12 1 0)).wf) = true ∧
    (([(Instr.regRd, 1), (.regWr, 2), (.memWr, 3), (.memRd, 4), (.flush, 5), (.enum, 6), (.untally, 7), (.resetReq, 8), (.push, 9), (.imgWr, 10),
      (fun f => .imgGo f (), 11)] : List ((LFlit → Instr) × Nat)).all fun c => (c.1 (f c.2 1 1)).wf && !(c.1 (f c.2 1 0)).wf && !(c.1 (f c.2 225 225)).wf) = true ∧
    (Instr.flitForward true 0 (f 3 1 0)).wf = false ∧ (Instr.llxInvalidRequest (f 11 0 0)).wf = false ∧ (Instr.llxInvalidRequest (f 12 0 0)).wf = true ∧
    (Instr.llxInvalidRequest (f 12 1 0)).wf = false := by decide +kernel

theorem test_wf_messages (m : FMsg) (h : 65728 < m.data.length) :
    ∀ i ∈ [Instr.remoteWrite m, .samplePushMsg m, .managementMsg m, .fabricResetMsg 0 m true, .messageRoute 0 m 0, .heartbeatReceive 0 m,
      .partialReceive m, .gatherBlockReceive m, .sendMsgReceive ⟨0, m, 0⟩, .declaration m, .catchupRequest m, .release m, .remoteTrace m,
      .collectiveMsgReceive m], i.wf = false := by
  have k : m.shaped = false := by simp only [FMsg.shaped, decide_eq_false_iff_not]; omega
  simp [Instr.wf, k]

theorem test_wf_lists :
    (Instr.cfgStoreWrite [] []).wf = false ∧ (Instr.cfgStoreWrite (image 1) []).wf = true ∧ (Instr.spdmRequest []).wf = false ∧
    (Instr.extest [true]).wf = false ∧ (Instr.samplePreload (some [])).wf = false ∧
    (Instr.samplePreload none).wf = true ∧ (Instr.releaseStepDone [] [] [] []).wf = false ∧
    (Instr.surfaceCycle ⟨List.replicate 71 0, 0, 0, 0, 0, 0⟩).wf = false ∧ (Instr.surfaceCycle ⟨List.replicate 72 0, 0, 0, 0, 1, 0⟩).wf = false ∧
    (Instr.surfaceCycle ⟨List.replicate 72 0, 0, 0, 0, 1, 1⟩).wf = true := by decide +kernel

theorem test_wf_lengths (b : List Byte) (hb : 2 ^ 28 < b.length) :
    (Instr.samplePushWrite 0 0 b).wf = false ∧ (Instr.spdmRequest b).wf = false ∧ (Instr.cfgStoreWrite [] b).wf = false ∧
    (Instr.imageVerify b []).wf = false ∧ (Instr.imageVerify [] b).wf = false ∧
    (Instr.releaseStepDone (List.replicate 16 0) b [] []).wf = false ∧ (Instr.releaseStepDone (List.replicate 16 0) [] b []).wf = false := by
  simp only [Instr.wf, copyShaped, imageShaped, Bool.and_eq_false_iff, decide_eq_false_iff_not, List.nil_append]
  omega

end Sys2Proof.Tests
end

section
/-! What raising an event and making a trace record leave: every register field outside the events' own cells, and the raises shown
before. -/

namespace Sys2Proof.Machine

/-! ### The register fields that events touch (R477, R644, R646) -/

/-- The cells of the register file that a raise or a trace record may write: the event counts, the trigger's mark, and the scope, cause
and count of an all-stop. -/
def eventCells : List Nat :=
  [Fld.LLX_EVT_CNT_MASKED, Fld.LLX_EVT_CNT_LOST, Fld.DBG_TRIG_FIRED, Fld.DBG_STOP_STAT_SCOPE, Fld.DBG_STOP_STAT_CAUSE,
    Fld.DBG_STOP_STAT_STOPS].map (·.key 0 0)

/-- From `s` to `t` every register field outside the events' cells keeps its value. -/
def State.KeepsFlds (s t : State) : Prop := ∀ (F : Fld) (i j : Nat), F.key i j ∉ eventCells → t.fld F i j = s.fld F i j

theorem State.KeepsFlds.refl (s : State) : s.KeepsFlds s := fun _ _ _ _ => rfl

theorem State.KeepsFlds.trans {s t u : State} (h : s.KeepsFlds t) (k : t.KeepsFlds u) : s.KeepsFlds u :=
  fun F i j n => (k F i j n).trans (h F i j n)

/-- A change of state outside the register file and the fused variant keeps the fields. -/
theorem State.keepsFlds_of_regs {s t : State} (hr : t.regs = s.regs) (hv : t.variant = s.variant) : s.KeepsFlds t :=
  fun F i j _ => by rw [State.fld, State.fld, hr, hv]

theorem State.keepsFlds_setFld (s : State) (F : Fld) (v : Nat) (h : F.key 0 0 ∈ eventCells) : s.KeepsFlds (s.setFld F v) :=
  fun G k l n => s.fld_setFld_ne F G v 0 0 k l fun e => n (e ▸ h)

theorem State.keepsFlds_bump (s : State) (F : Fld) (h : F.key 0 0 ∈ eventCells) : s.KeepsFlds (s.bump F) :=
  s.keepsFlds_setFld F _ h

theorem State.enqueue_keepsFlds (s : State) (code : BitVec 16) (src : Src) (c : Option Cid) (d n : Nat) :
    s.KeepsFlds (s.enqueue code src c d n) := by
  unfold State.enqueue
  dsimp only
  split
  · exact State.KeepsFlds.trans (State.keepsFlds_of_regs rfl rfl) (State.keepsFlds_bump _ _ (by decide))
  · split
    · exact State.keepsFlds_of_regs rfl rfl
    · split
      · exact (State.keepsFlds_bump s Fld.LLX_EVT_CNT_LOST (by decide)).trans (State.keepsFlds_of_regs rfl rfl)
      · exact State.keepsFlds_of_regs rfl rfl

theorem State.traceRec_keepsFlds (s : State) (src : Src) (c : Option Cid) (typ : Nat) (p : List Byte) :
    s.KeepsFlds (s.traceRec src c typ p) := by
  obtain ⟨h, e⟩ := s.traceRec_frame src c typ p
  rw [e]
  exact State.keepsFlds_of_regs rfl rfl

theorem State.raise0_keepsFlds (s : State) (code : BitVec 16) (src : Src) (c : Option Cid) (d : Nat) :
    s.KeepsFlds (s.raise0 code src c d) :=
  (s.enqueue_keepsFlds code src c d 0).trans (State.traceRec_keepsFlds _ _ _ _ _)

theorem State.takeStop_keepsFlds (s : State) (c : Option Cid) (k : BitVec 3) : s.KeepsFlds (s.takeStop c k) := by
  unfold State.takeStop
  split
  · exact State.KeepsFlds.refl s
  · have scope := State.keepsFlds_setFld { s with dbg := { s.dbg with stop := some ⟨c, k⟩ } } Fld.DBG_STOP_STAT_SCOPE
      (if c.isSome then 1 else 0) (by decide)
    exact (((State.KeepsFlds.trans (State.keepsFlds_of_regs rfl rfl) scope).trans
      (State.keepsFlds_setFld _ Fld.DBG_STOP_STAT_CAUSE _ (by decide))).trans
      (State.keepsFlds_bump _ Fld.DBG_STOP_STAT_STOPS (by decide))).trans (State.raise0_keepsFlds _ _ _ _ _)

theorem State.trigger_keepsFlds (s : State) (src : Src) (c : Option Cid) (typ : Nat) : s.KeepsFlds (s.trigger src c typ) := by
  have fired : s.KeepsFlds (s.setFld Fld.DBG_TRIG_FIRED 1) := s.keepsFlds_setFld _ _ (by decide)
  unfold State.trigger
  split
  · dsimp only
    split
    · obtain ⟨h, e⟩ := foldl_rel (fun a b : State => ∃ h, b = { a with hubs := h }) (fun a => ⟨a.hubs, rfl⟩)
        (fun _ _ _ ⟨_, x⟩ ⟨y, z⟩ => ⟨y, by rw [z, x]⟩)
        (fun (s : State) (h : HubId) => s.modHub h fun x => { x with trPost := some (s.fld Fld.DBG_TRIG_POST) }) (List.finRange 4)
        (fun t a => ⟨_, rfl⟩) (s.setFld Fld.DBG_TRIG_FIRED 1)
      rw [e]
      exact fired.trans (State.keepsFlds_of_regs rfl rfl)
    · split
      · exact fired.trans (State.takeStop_keepsFlds _ _ _)
      · exact fired
    · split
      · cases c with
        | none => exact fired
        | some c => exact fired.trans (State.takeStop_keepsFlds _ _ _)
      · exact fired
    · exact fired
  · exact State.KeepsFlds.refl s

/-- A raise writes no register field outside the events' cells. -/
theorem State.raise_keepsFlds (s : State) (code : BitVec 16) (src : Src) (c : Option Cid) (d : Nat) :
    s.KeepsFlds (s.raise code src c d) :=
  (s.raise0_keepsFlds code src c d).trans (State.trigger_keepsFlds _ _ _ _)

/-- Nor does a trace record. -/
theorem State.trace_keepsFlds (s : State) (src : Src) (c : Option Cid) (typ : Nat) (p : List Byte) :
    s.KeepsFlds (s.trace src c typ p) :=
  (s.traceRec_keepsFlds src c typ p).trans (State.trigger_keepsFlds _ _ _ _)

/-! ### The raises shown last (R608) -/

/-- The raise `f` is among the `n` newest of the eight that the device shows. -/
def State.ShowsLast (s : State) (f : EvFrame) (n : Nat) : Prop := f ∈ s.llx.recent.take n

theorem State.ShowsLast.mem {s : State} {f : EvFrame} {n : Nat} (h : s.ShowsLast f n) : f ∈ s.llx.recent := List.mem_of_mem_take h

theorem State.ShowsLast.mono {s : State} {f : EvFrame} {m n : Nat} (h : s.ShowsLast f m) (k : m ≤ n) : s.ShowsLast f n :=
  (List.take_sublist_take_left k).mem h

/-- One more raise pushes an older one back by a place. -/
theorem State.ShowsLast.push {s t : State} {f g : EvFrame} {n : Nat} (h : s.ShowsLast f n) (hn : n < 8)
    (e : t.llx.recent = (g :: s.llx.recent).take 8) : t.ShowsLast f (n + 1) := by
  rw [State.ShowsLast, e, List.take_take, Nat.min_eq_left (by omega), List.take_succ_cons]
  exact List.mem_cons_of_mem _ h

theorem State.ShowsLast.trigger {s : State} {f : EvFrame} {n : Nat} (h : s.ShowsLast f n) (hn : n < 8) (src : Src) (c : Option Cid) (typ : Nat) :
    (s.trigger src c typ).ShowsLast f (n + 1) := by
  rcases s.trigger_recent src c typ with e | ⟨g, e⟩
  · exact State.ShowsLast.mono (show (s.trigger src c typ).ShowsLast f n by rw [State.ShowsLast, e]; exact h) (Nat.le_succ n)
  · exact h.push hn e

theorem State.ShowsLast.trace {s : State} {f : EvFrame} {n : Nat} (h : s.ShowsLast f n) (hn : n < 8) (src : Src) (c : Option Cid) (typ : Nat)
    (p : List Byte) : (s.trace src c typ p).ShowsLast f (n + 1) := by
  obtain ⟨x, e⟩ := s.traceRec_frame src c typ p
  exact State.ShowsLast.trigger (show (s.traceRec src c typ p).ShowsLast f n by rw [e]; exact h) hn src c typ

theorem State.ShowsLast.raise {s : State} {f : EvFrame} {n : Nat} (h : s.ShowsLast f n) (hn : n < 7) (code : BitVec 16) (src : Src)
    (c : Option Cid) (d : Nat) : (s.raise code src c d).ShowsLast f (n + 2) := by
  obtain ⟨g, e, -⟩ := s.enqueue_recent code src c d 0
  have one : (s.raise0 code src c d).ShowsLast f (n + 1) := h.push (by omega) (by rw [State.raise0_llx, e])
  exact one.trigger (by omega) src c 6

/-- A raise is one of the two newest, under the number that the next raise had. -/
theorem State.raise_shows (s : State) (code : BitVec 16) (src : Src) (c : Option Cid) (d : Nat) :
    ∃ f, (s.raise code src c d).ShowsLast f 2 ∧ f.code = code ∧ f.number = s.llx.evNo ∧ f.source = BitVec.ofNat 8 src.source ∧
      f.unit = BitVec.ofNat 8 src.unit ∧ f.detail = BitVec.ofNat 64 d := by
  obtain ⟨f, e, hc, hn, hs, hu, hd, -⟩ := s.enqueue_recent code src c d 0
  have first : (s.raise0 code src c d).ShowsLast f 1 := by rw [State.ShowsLast, State.raise0_llx, e]; simp
  exact ⟨f, first.trigger (by omega) src c 6, hc, hn, hs, hu, hd⟩

end Sys2Proof.Machine
end

section
/-! The clock commands (R548 to R562): step requests, step points, the profile's clock mode, droop and crossings. -/

namespace Sys2Proof.Machine

/-! ### Values -/

theorem fieldN_lt (x lo w : Nat) : fieldN x lo w < 2 ^ w := Nat.mod_lt _ (Nat.two_pow_pos w)

theorem bits_lt {n : Nat} (x : BitVec n) (lo w : Nat) : bits x lo w < 2 ^ w := fieldN_lt _ _ _

theorem min3_toNat (a b : BitVec 3) : (min3 a b).toNat = min a.toNat b.toNat := by
  rw [min3]
  split <;> omega

/-- A request clamped to a maximum, as a number and as a step. -/
theorem min3_ofNat {x : Nat} (b : BitVec 3) (h : x < 8) : min3 (BitVec.ofNat 3 x) b = BitVec.ofNat 3 (min x b.toNat) := by
  refine BitVec.eq_of_toNat_eq ?_
  rw [min3_toNat, BitVec.toNat_ofNat, BitVec.toNat_ofNat, Nat.mod_eq_of_lt h, Nat.mod_eq_of_lt (by omega)]

/-! ### A step request (R555) -/

theorem State.wrStepAt_ahead (s : State) (v : Word) (h : s.now + 20000 ≤ bits v 0 60 * 10000) :
    (s.wrStepAt v).st = s.request (bits v 0 60) (BitVec.ofNat 3 (bits v 61 3)) := by
  rw [State.wrStepAt, if_pos h]

theorem State.wrStepAt_late (s : State) (v : Word) (h : bits v 0 60 * 10000 < s.now + 20000) :
    (s.wrStepAt v).st = s.raise Ev.CFG_RANGE srcDev none 0x200008 := by
  rw [State.wrStepAt, if_neg (Nat.not_le.mpr h)]
  rfl

theorem State.request_point (s : State) (n : Nat) (x : BitVec 3) (h : n < 2 ^ 60) : (s.request n x).fld Fld.CLK_STEP_AT_POINT = n :=
  calc (s.request n x).fld Fld.CLK_STEP_AT_POINT
    _ = (s.setFld Fld.CLK_STEP_AT_POINT n).fld Fld.CLK_STEP_AT_POINT := State.fld_setFld_ne _ _ _ _ _ _ _ _ (by decide)
    _ = n % 2 ^ 60 := State.fld_setFld_self _ _ _ _ _ (by decide)
    _ = n := Nat.mod_eq_of_lt h

theorem State.request_step (s : State) (n : Nat) (x : BitVec 3) : (s.request n x).fld Fld.CLK_STEP_AT_STEP = x.toNat :=
  (State.fld_setFld_self (s.setFld Fld.CLK_STEP_AT_POINT n) Fld.CLK_STEP_AT_STEP x.toNat 0 0 (by decide)).trans
    (Nat.mod_eq_of_lt x.isLt)

theorem clkStepAt_ahead (s : State) (who : Requester) (v : Word) (h : s.now + 20000 ≤ bits v 0 60 * 10000) :
    ∃ t, exec (.clkStepAt who v) s = .next t ∧
      t.pwr = { s.pwr with plan := some ⟨bits v 0 60, BitVec.ofNat 3 (min (bits v 61 3) s.variant.maxStep.toNat), false⟩ } ∧
      t.fld Fld.CLK_STEP_AT_POINT = bits v 0 60 ∧ t.fld Fld.CLK_STEP_AT_STEP = bits v 61 3 ∧
      t = { s with pwr := t.pwr, regs := t.regs } := by
  have step : bits v 61 3 < 8 := bits_lt v 61 3
  refine ⟨_, congrArg Host.Outcome.next (s.wrStepAt_ahead v h), ?_, s.request_point _ _ (bits_lt v 0 60), ?_, rfl⟩
  · rw [← min3_ofNat _ step]
    rfl
  · rw [State.request_step, BitVec.toNat_ofNat, Nat.mod_eq_of_lt step]

theorem clkStepAt_late (s : State) (who : Requester) (v : Word) (h : bits v 0 60 * 10000 < s.now + 20000) :
    ∃ t, exec (.clkStepAt who v) s = .next t ∧ s.Raised t 0x0102 srcDev 0x200008 ∧ t.pwr = s.pwr := by
  refine ⟨_, congrArg Host.Outcome.next (s.wrStepAt_late v h), s.raise_raised _ _ _ _, ?_⟩
  obtain ⟨l, r, x, d, e⟩ := s.raise_frame Ev.CFG_RANGE srcDev none 0x200008
  rw [e]

/-! ### A step point (R553, R554) -/

/-- The power block once everything due by step point `k` has acted. -/
def Pwr.due (p : Pwr) (k : Nat) : Pwr :=
  let q := { p with
    mode := p.mode.take (k * 10000), therm := p.therm.take (k * 10000), limit := p.limit.take (k * 10000)
    surge := p.surge.take (k * 10000), trim := p.trim.take (k * 10000) }
  match p.plan with
  | some x => if x.point ≤ k then { q with req := x.step, plan := none } else q
  | none => q

/-- The step asked for once a step point has passed. -/
def Pwr.reqAt (p : Pwr) (k : Nat) : BitVec 3 :=
  match p.plan with
  | some x => if x.point ≤ k then x.step else p.req
  | none => p.req

/-- A step point changes the request, the plan and the ceilings, nothing else of the power block. -/
theorem Pwr.due_eq (p : Pwr) (k : Nat) :
    ∃ plan, p.due k = { p with
      mode := p.mode.take (k * 10000), therm := p.therm.take (k * 10000), limit := p.limit.take (k * 10000)
      surge := p.surge.take (k * 10000), trim := p.trim.take (k * 10000), req := p.reqAt k, plan := plan } := by
  unfold Pwr.due Pwr.reqAt
  dsimp only
  split
  · split <;> exact ⟨_, rfl⟩
  · exact ⟨_, rfl⟩

/-- The effective step is the least of its terms (R553). -/
theorem State.effStep_toNat (s : State) :
    s.effStep.toNat = min s.pwr.req.toNat (min s.pwr.mode.act.toNat (min s.pwr.therm.act.toNat (min s.pwr.limit.act.toNat
      (min s.pwr.surge.act.toNat (min s.pwr.trim.act.toNat s.variant.maxStep.toNat))))) := by
  simp only [State.effStep, State.stepBut, List.foldl_cons, List.foldl_nil, min3_toNat]
  ac_rfl

theorem State.changeStep_same (s : State) : s.changeStep s.pwr.step = s := by simp [State.changeStep]

/-- What a change of the effective step leaves as it was. -/
theorem State.changeStep_frame (s : State) (x : BitVec 3) (h : x ≠ s.pwr.step) :
    ∃ l r hb d, s.changeStep x = { s with
      llx := l, regs := r, hubs := hb, dbg := d, pwr := { s.pwr with step := x }, time := { s.time with allFallback := true } } := by
  rw [State.changeStep, if_neg h]
  dsimp only
  rw [(State.trace_frame _ _ _ _ _).choose_spec.choose_spec.choose_spec.choose_spec,
    (State.raise_frame _ _ _ _ _).choose_spec.choose_spec.choose_spec.choose_spec]
  exact ⟨_, _, _, _, rfl⟩

/-- A change of the effective step counts one fallback and is reported with the old and the new step (R554, R556). -/
theorem State.changeStep_told (s : State) (x : BitVec 3) (h : x ≠ s.pwr.step) :
    s.Counted (s.changeStep x) Fld.CLK_XING_CNT_FALLBACKS 1 ∧
      ∃ f ∈ (s.changeStep x).llx.recent, f.code = 0x0B01 ∧ f.detail.toNat = s.pwr.step.toNat + 16 * x.toNat := by
  rw [State.changeStep, if_neg h]
  dsimp only
  refine ⟨?_, ?_⟩
  · rw [State.Counted, State.trace_keepsFlds _ _ _ _ _ _ _ _ (by decide), State.raise_keepsFlds _ _ _ _ _ _ _ _ (by decide)]
    exact State.bump_counted _ _ _ _ _ (by decide)
  · obtain ⟨f, shown, code, -, -, -, detail⟩ := State.raise_shows _ Ev.CLK_STEP srcSurface none (s.pwr.step.toNat + 16 * x.toNat)
    refine ⟨f, (shown.trace (by omega) _ _ _ _).mem, code, ?_⟩
    have := s.pwr.step.isLt
    have := x.isLt
    rw [detail, BitVec.toNat_ofNat, Nat.mod_eq_of_lt (by omega)]

/-- Time that passes leaves the power block but for the surge credit. -/
theorem State.advanceTo_frame (s : State) (n : Nat) :
    ∃ g d x t p, s.advanceTo n = { s with regs := g, dbg := d, stations := x, time := t, pwr := { s.pwr with credit := p } } :=
  s.advance_frame (n - s.now)

/-- The block once the timebase stands at step point `k` and everything due by it has acted. -/
def State.dueAt (s : State) (k : Nat) : State := { s.advanceTo (k * 10000) with pwr := (s.advanceTo (k * 10000)).pwr.due k }

theorem State.dueAt_pwr_step (s : State) (k : Nat) : (s.dueAt k).pwr.step = (s.advanceTo (k * 10000)).pwr.step := by
  obtain ⟨plan, e⟩ := (s.advanceTo (k * 10000)).pwr.due_eq k
  rw [State.dueAt, e]

theorem State.dueAt_pwr_req (s : State) (k : Nat) : (s.dueAt k).pwr.req = (s.advanceTo (k * 10000)).pwr.reqAt k := by
  obtain ⟨plan, e⟩ := (s.advanceTo (k * 10000)).pwr.due_eq k
  rw [State.dueAt, e]

theorem State.dueAt_mem_ctxs (s : State) (k : Nat) : (s.dueAt k).mem = s.mem ∧ (s.dueAt k).ctxs = s.ctxs := by
  obtain ⟨g, d, x, t, p, e⟩ := s.advanceTo_frame (k * 10000)
  rw [State.dueAt, e]
  exact ⟨rfl, rfl⟩

/-- The effective step at a step point, by what is in force there of each of its terms. -/
theorem State.dueAt_effStep (s : State) (k : Nat) :
    let p := (s.advanceTo (k * 10000)).pwr
    (s.dueAt k).effStep.toNat = min (p.reqAt k).toNat (min (p.mode.take (k * 10000)).act.toNat (min (p.therm.take (k * 10000)).act.toNat
      (min (p.limit.take (k * 10000)).act.toNat (min (p.surge.take (k * 10000)).act.toNat
        (min (p.trim.take (k * 10000)).act.toNat s.variant.maxStep.toNat))))) := by
  have variant : (s.dueAt k).variant = s.variant := by
    obtain ⟨g, d, x, t, p, e⟩ := s.advanceTo_frame (k * 10000)
    rw [State.dueAt, e]
  obtain ⟨plan, e⟩ := (s.advanceTo (k * 10000)).pwr.due_eq k
  rw [State.effStep_toNat, variant, State.dueAt, e]

theorem exec_stepPoint (k : Nat) (s : State) : exec (.stepPoint k) s = .next ((s.dueAt k).changeStep (s.dueAt k).effStep) := rfl

theorem State.changeStep_pwr (s : State) (x : BitVec 3) : (s.changeStep x).pwr = { s.pwr with step := x } := by
  by_cases h : x = s.pwr.step
  · rw [h, s.changeStep_same]
  · obtain ⟨l, r, hb, d, e⟩ := s.changeStep_frame x h
    rw [e]

theorem State.changeStep_mem_ctxs (s : State) (x : BitVec 3) : (s.changeStep x).mem = s.mem ∧ (s.changeStep x).ctxs = s.ctxs := by
  by_cases h : x = s.pwr.step
  · rw [h, s.changeStep_same]
    exact ⟨rfl, rfl⟩
  · obtain ⟨l, r, hb, d, e⟩ := s.changeStep_frame x h
    rw [e]
    exact ⟨rfl, rfl⟩

/-- A step point at which the effective step stays only takes what is due. -/
theorem State.dueAt_changeStep_same (s : State) (k : Nat) (h : (s.dueAt k).effStep = (s.advanceTo (k * 10000)).pwr.step) :
    (s.dueAt k).changeStep (s.dueAt k).effStep = s.dueAt k := by
  rw [h, ← s.dueAt_pwr_step k, State.changeStep_same]

/-- A step point at which the effective step changes puts all crossings in fallback and reports the change. -/
theorem State.dueAt_changeStep_told (s : State) (k : Nat) (h : (s.dueAt k).effStep ≠ (s.advanceTo (k * 10000)).pwr.step) :
    let t := (s.dueAt k).changeStep (s.dueAt k).effStep
    t.time.allFallback = true ∧ (s.advanceTo (k * 10000)).Counted t Fld.CLK_XING_CNT_FALLBACKS 1 ∧
      ∃ f ∈ t.llx.recent, f.code = 0x0B01 ∧
        f.detail.toNat = (s.advanceTo (k * 10000)).pwr.step.toNat + 16 * (s.dueAt k).effStep.toNat := by
  rw [← s.dueAt_pwr_step k] at h ⊢
  obtain ⟨counted, told⟩ := (s.dueAt k).changeStep_told _ h
  refine ⟨?_, counted, told⟩
  obtain ⟨l, r, hb, d, e⟩ := (s.dueAt k).changeStep_frame _ h
  rw [e]

end Sys2Proof.Machine
end

section
/-! The profile's clock mode, droop monitors and crossings (R548, R550, R560, R562), and the statement on steps. -/

namespace Sys2Proof.Machine

/-! ### A field of the profile (R48, R94, R490) -/

theorem profField_frame (F : Fld) (v : Nat) (o : WOut) : ∃ r, (profField F v o).st = { o.st with regs := r } := by
  rw [profField]
  split
  · exact ⟨_, rfl⟩
  · split
    · exact ⟨_, rfl⟩
    · exact ⟨_, rfl⟩

theorem profField_anyBusy (F : Fld) (v : Nat) (o : WOut) : (profField F v o).st.anyBusy = o.st.anyBusy := by
  obtain ⟨r, e⟩ := profField_frame F v o
  rw [e]
  rfl

/-- The field takes its value unless a context is busy. -/
theorem profField_fld_self (F : Fld) (v : Nat) (o : WOut) (hv : v < 2 ^ F.width) (hw : F.width ≤ 64) :
    (profField F v o).st.fld F = if o.st.anyBusy then o.st.fld F else v := by
  rw [profField]
  split
  · next h => simp [h]
  · split
    · rfl
    · exact (State.fld_setFld_self _ _ _ _ _ hw).trans (Nat.mod_eq_of_lt hv)

theorem profField_fld_ne (F G : Fld) (v : Nat) (o : WOut) (h : G.key 0 0 ≠ F.key 0 0) :
    (profField F v o).st.fld G = o.st.fld G := by
  rw [profField]
  split
  · rfl
  · split
    · rfl
    · exact State.fld_setFld_ne _ _ _ _ _ _ _ _ h

theorem profField_busy_mono (F : Fld) (v : Nat) (o : WOut) (h : o.busy = true) : (profField F v o).busy = true := by
  rw [profField]
  split
  · exact h
  · split
    · rfl
    · exact h

/-- A field that would change while a context is busy is rejected. -/
theorem profField_rejects (F : Fld) (v : Nat) (o : WOut) (hv : v ≠ o.st.fld F) (hb : o.st.anyBusy = true) :
    (profField F v o).busy = true := by rw [profField, if_neg hv, if_pos hb]

/-! ### The fields beside the clock mode -/

/-- The numerics, resilience and seam fields of a profile write. -/
def profRest (v : Word) (o : WOut) : WOut :=
  profField Fld.SFC_PROFILE_SEAM (bits v 4 2)
    (profField Fld.SFC_PROFILE_RESILIENCE (bits v 3 1) (profField Fld.SFC_PROFILE_NUMERICS (bits v 2 1) o))

theorem profRest_frame (v : Word) (o : WOut) : ∃ r, (profRest v o).st = { o.st with regs := r } := by
  let n := profField Fld.SFC_PROFILE_NUMERICS (bits v 2 1) o
  let m := profField Fld.SFC_PROFILE_RESILIENCE (bits v 3 1) n
  obtain ⟨a, ea⟩ : ∃ r, n.st = { o.st with regs := r } := profField_frame _ _ _
  obtain ⟨b, eb⟩ : ∃ r, m.st = { n.st with regs := r } := profField_frame _ _ _
  obtain ⟨c, ec⟩ : ∃ r, (profRest v o).st = { m.st with regs := r } := profField_frame _ _ _
  exact ⟨c, by rw [ec, eb, ea]⟩

theorem profRest_clock (v : Word) (o : WOut) : (profRest v o).st.fld Fld.SFC_PROFILE_CLOCK = o.st.fld Fld.SFC_PROFILE_CLOCK := by
  rw [profRest, profField_fld_ne _ _ _ _ (by decide), profField_fld_ne _ _ _ _ (by decide), profField_fld_ne _ _ _ _ (by decide)]

theorem profRest_numerics (v : Word) (o : WOut) :
    (profRest v o).st.fld Fld.SFC_PROFILE_NUMERICS = if o.st.anyBusy then o.st.fld Fld.SFC_PROFILE_NUMERICS else bits v 2 1 := by
  rw [profRest, profField_fld_ne _ _ _ _ (by decide), profField_fld_ne _ _ _ _ (by decide),
    profField_fld_self _ _ _ (bits_lt v 2 1) (by decide)]

theorem profRest_resilience (v : Word) (o : WOut) :
    (profRest v o).st.fld Fld.SFC_PROFILE_RESILIENCE = if o.st.anyBusy then o.st.fld Fld.SFC_PROFILE_RESILIENCE else bits v 3 1 := by
  rw [profRest, profField_fld_ne _ _ _ _ (by decide), profField_fld_self _ _ _ (bits_lt v 3 1) (by decide), profField_anyBusy,
    profField_fld_ne _ _ _ _ (by decide)]

theorem profRest_seam (v : Word) (o : WOut) :
    (profRest v o).st.fld Fld.SFC_PROFILE_SEAM = if o.st.anyBusy then o.st.fld Fld.SFC_PROFILE_SEAM else bits v 4 2 := by
  rw [profRest, profField_fld_self _ _ _ (bits_lt v 4 2) (by decide), profField_anyBusy, profField_anyBusy,
    profField_fld_ne _ _ _ _ (by decide), profField_fld_ne _ _ _ _ (by decide)]

theorem profRest_rejects (v : Word) (o : WOut) (hb : o.st.anyBusy = true) (hv : bits v 2 1 ≠ o.st.fld Fld.SFC_PROFILE_NUMERICS) :
    (profRest v o).busy = true :=
  profField_busy_mono _ _ _ (profField_busy_mono _ _ _ (profField_rejects _ _ _ hv hb))

/-! ### The end of the write: rejected fields are told -/

/-- The state a profile write leaves once its clock mode is dealt with. -/
def profEnd (v : Word) (o : WOut) : State := if (profRest v o).busy then (profRest v o).st.regEvent Ev.CFG_BUSY 0x10 else (profRest v o).st

theorem profEnd_frame (v : Word) (o : WOut) :
    ∃ l r h x, profEnd v o = { o.st with llx := l, regs := r, hubs := h, dbg := { o.st.dbg with stop := x } } := by
  obtain ⟨r, e⟩ := profRest_frame v o
  rw [profEnd]
  split
  · obtain ⟨l, r2, h, x, e2⟩ := (profRest v o).st.raise_frame Ev.CFG_BUSY srcDev none 0x10
    exact ⟨l, r2, h, x, by rw [State.regEvent, e2, e]⟩
  · exact ⟨o.st.llx, r, o.st.hubs, o.st.dbg.stop, by rw [e]⟩

theorem profEnd_keepsFlds (v : Word) (o : WOut) : (profRest v o).st.KeepsFlds (profEnd v o) := by
  rw [profEnd]
  split
  · exact State.raise_keepsFlds _ _ _ _ _
  · exact State.KeepsFlds.refl _

theorem profEnd_shows (v : Word) (o : WOut) {f : EvFrame} {n : Nat} (h : o.st.ShowsLast f n) (hn : n < 7) : (profEnd v o).ShowsLast f (n + 2) := by
  obtain ⟨r, e⟩ := profRest_frame v o
  have rest : (profRest v o).st.ShowsLast f n := by rw [e]; exact h
  rw [profEnd]
  split
  · exact rest.raise hn _ _ _ _
  · exact rest.mono (by omega)

/-- The write tells the rejected field, under the number of the next raise. -/
theorem profEnd_raised (s : State) (v : Word) (o : WOut) (hs : o.st.llx = s.llx) (hb : o.st.anyBusy = true)
    (hv : bits v 2 1 ≠ o.st.fld Fld.SFC_PROFILE_NUMERICS) : s.Raised (profEnd v o) 0x0101 srcDev 0x10 := by
  obtain ⟨r, e⟩ := profRest_frame v o
  have number : (profRest v o).st.llx.evNo = s.llx.evNo := by rw [e, ← hs]
  have raised := (profRest v o).st.raise_raised Ev.CFG_BUSY srcDev none 0x10
  rw [State.Raised, number] at raised
  rw [profEnd, if_pos (profRest_rejects v o hb hv)]
  exact raised

/-! ### The clock mode (R560 to R562) -/

theorem State.setClock_same (s : State) : s.setClock (s.fld Fld.SFC_PROFILE_CLOCK) = s := by rw [State.setClock, if_pos rfl]

theorem Ceil.set_val (c : Ceil) (v : BitVec 3) (now : Nat) : (c.set v now).val = v := by
  rw [Ceil.set]
  split
  · next h => exact h.symm
  · rfl

/-- A new clock mode sets its ceiling and asks for it at the first step point at least 20 µs ahead. -/
theorem State.setClock_pwr (s : State) (m : Nat) (h : m ≠ s.fld Fld.SFC_PROFILE_CLOCK) :
    (s.setClock m).pwr = { s.pwr with
      mode := s.pwr.mode.set (modeStep m) s.now, plan := some ⟨ceilDiv (s.now + 20000) 10000, modeStep m, true⟩ } := by
  rw [State.setClock, if_neg h]
  show ({ s.pwr with
    mode := s.pwr.mode.set (modeStep m) s.now
    plan := some ⟨ceilDiv (s.now + 20000) 10000, (s.pwr.mode.set (modeStep m) s.now).val, true⟩ } : Pwr) = _
  rw [Ceil.set_val]

theorem State.setClock_frame (s : State) (m : Nat) : ∃ r p, s.setClock m = { s with regs := r, pwr := p } := by
  rw [State.setClock]
  split
  · exact ⟨s.regs, s.pwr, rfl⟩
  · exact ⟨_, _, rfl⟩

theorem State.setClock_clock (s : State) (m : Nat) (h : m < 4) : (s.setClock m).fld Fld.SFC_PROFILE_CLOCK = m := by
  rw [State.setClock]
  split
  · next e => exact e.symm
  · exact (s.fld_setFld_self Fld.SFC_PROFILE_CLOCK m 0 0 (by decide)).trans (Nat.mod_eq_of_lt h)

theorem State.setClock_fld (s : State) (m : Nat) (F : Fld) (h : F.key 0 0 ≠ Fld.SFC_PROFILE_CLOCK.key 0 0) :
    (s.setClock m).fld F = s.fld F := by
  rw [State.setClock]
  split
  · rfl
  · exact s.fld_setFld_ne Fld.SFC_PROFILE_CLOCK F m 0 0 0 0 h

/-! ### A write of the profile (R12, R560) -/

/-- The clock mode of a profile write: reserved, not permitted, or taken. -/
def State.profClock (s : State) (c : Nat) : WOut :=
  let o : WOut := { st := s }
  if c = 3 then o.outside 0x10 else if c = 2 ∧ s.variant ≠ .full then o.absent 0x10 else o.map (·.setClock c)

theorem exec_sfcProfileWrite (s : State) (who : Requester) (v : Word) :
    exec (.sfcProfileWrite who v) s = .next (profEnd v (s.profClock (bits v 0 2))) := by
  have write : (s.wrProfile v).st = profEnd v (s.profClock (bits v 0 2)) := by
    rw [profEnd, State.wrProfile, apply_ite WOut.st]
    rfl
  exact congrArg Host.Outcome.next write

theorem State.profClock_reserved (s : State) (c : Nat) (h : c = 3) :
    (s.profClock c).st = s.raise Ev.CFG_RANGE srcDev none 0x10 := by
  rw [State.profClock, if_pos h]
  rfl

theorem State.profClock_absent (s : State) (c : Nat) (h : c = 2) (hv : s.variant ≠ .full) :
    (s.profClock c).st = s.raise Ev.UNIT_ABSENT srcDev none 0x10 := by
  rw [State.profClock, if_neg (by omega), if_pos ⟨h, hv⟩]
  rfl

theorem State.profClock_taken (s : State) (c : Nat) (h : c < 2 ∨ c = 2 ∧ s.variant = .full) :
    (s.profClock c).st = s.setClock c := by
  have permitted : ¬ (c = 2 ∧ s.variant ≠ .full) := by
    rintro ⟨two, variant⟩
    rcases h with small | ⟨-, full⟩
    · omega
    · exact variant full
  rw [State.profClock, if_neg (by omega), if_neg permitted]
  rfl

/-- A clock mode that raises an event is told, and neither the mode nor the power block changes. -/
theorem profEnd_refused (s : State) (v : Word) (o : WOut) (code : BitVec 16) (ho : o.st = s.raise code srcDev none 0x10) :
    s.Told (profEnd v o) code ∧ (profEnd v o).pwr = s.pwr ∧
      (profEnd v o).fld Fld.SFC_PROFILE_CLOCK = s.fld Fld.SFC_PROFILE_CLOCK := by
  refine ⟨?_, ?_, ?_⟩
  · obtain ⟨f, shown, hcode, number, source, unit, -⟩ := s.raise_shows code srcDev none 0x10
    rw [← ho] at shown
    exact ⟨f, (profEnd_shows v o shown (by omega)).mem, hcode, by simp [number], source, unit⟩
  · obtain ⟨l, r, h, x, e⟩ := profEnd_frame v o
    obtain ⟨l2, r2, h2, x2, e2⟩ := s.raise_frame code srcDev none 0x10
    rw [e, ho, e2]
  · rw [profEnd_keepsFlds v o _ _ _ (by decide), profRest_clock, ho, s.raise_keepsFlds _ _ _ _ _ _ _ (by decide)]

/-! ### Droop monitors and crossings (R548, R550) -/

theorem exec_droopStretch_off (s : State) (r : Fin 60) :
    exec (.droopStretch r false) s = .next { s with time := { s.time with droop := s.time.droop.filter (· != r) } } := rfl

theorem exec_droopStretch_on (s : State) (r : Fin 60) (hv : s.variant = .full) (ht : s.pwr.trim.val ≠ 3) (hr : r ∉ s.time.droop)
    (hc : s.regionRuns r.val = true) :
    exec (.droopStretch r true) s =
      .next ((({ s with time := { s.time with droop := r :: s.time.droop } } : State).bump Fld.CLK_R_STAT_DROOPS 1 r.val).canary 5 1) := by
  show execDroopStretch r true s = _
  rw [execDroopStretch, if_pos rfl, if_neg (by simpa [hv, hr, hc] using ht)]

theorem exec_droopStretch_unseen (s : State) (r : Fin 60)
    (h : s.variant ≠ .full ∨ s.pwr.trim.val = 3 ∨ r ∈ s.time.droop ∨ s.regionRuns r.val = false) :
    exec (.droopStretch r true) s = .next s := by
  show execDroopStretch r true s = _
  rw [execDroopStretch, if_pos rfl, if_pos]
  rcases h with h | h | h | h <;> simp [h]

theorem exec_xingFallback (s : State) (r : Fin 60) (x : Fin 64) (hr : r.val ≠ 59) (hc : s.regionRuns r.val = true)
    (ha : s.time.allFallback = false) (hf : 64 * r.val + x.val ∉ s.time.fallback) (hd : fieldN (s.fld Fld.DBG_PT_XING_REGIONS) r.val 1 ≠ 1) :
    exec (.xingFallback r x) s = .next (({ s with time := { s.time with
      fallback := (64 * r.val + x.val) :: s.time.fallback } } : State).bump Fld.CLK_XING_CNT_FALLBACKS) := by
  show execXingFallback r x s = _
  rw [execXingFallback, if_neg (by simp [hr, hc, ha, hf, hd])]

theorem exec_xingFallback_none (s : State) (r : Fin 60) (x : Fin 64) (h : r.val = 59 ∨ s.regionRuns r.val = false ∨
    s.time.allFallback = true ∨ 64 * r.val + x.val ∈ s.time.fallback ∨ fieldN (s.fld Fld.DBG_PT_XING_REGIONS) r.val 1 = 1) :
    exec (.xingFallback r x) s = .next s := by
  show execXingFallback r x s = _
  rw [execXingFallback, if_pos]
  rcases h with h | h | h | h | h <;> simp [h]

/-! ### The clauses of the statement on steps -/

/-- A clock mode that may be set is set, the other fields follow unless a context is busy, and a new mode asks for its ceiling. -/
theorem sfcProfileWrite_taken (s : State) (who : Requester) (v : Word) (h : bits v 0 2 < 2 ∨ bits v 0 2 = 2 ∧ s.variant = .full) :
    ∃ t, exec (.sfcProfileWrite who v) s = .next t ∧ t.fld Fld.SFC_PROFILE_CLOCK = bits v 0 2 ∧
      t.fld Fld.SFC_PROFILE_NUMERICS = (if s.anyBusy then s.fld Fld.SFC_PROFILE_NUMERICS else bits v 2 1) ∧
      t.fld Fld.SFC_PROFILE_RESILIENCE = (if s.anyBusy then s.fld Fld.SFC_PROFILE_RESILIENCE else bits v 3 1) ∧
      t.fld Fld.SFC_PROFILE_SEAM = (if s.anyBusy then s.fld Fld.SFC_PROFILE_SEAM else bits v 4 2) ∧
      t.pwr = (s.setClock (bits v 0 2)).pwr ∧
      (s.anyBusy = true → bits v 2 1 ≠ s.fld Fld.SFC_PROFILE_NUMERICS → s.Raised t 0x0101 srcDev 0x10) ∧ t.mem = s.mem ∧
      t.ctxs = s.ctxs := by
  have taken := s.profClock_taken _ h
  obtain ⟨g, p, clock⟩ := s.setClock_frame (bits v 0 2)
  have busy : (s.profClock (bits v 0 2)).st.anyBusy = s.anyBusy := by rw [taken, clock]; rfl
  have fld (F : Fld) (hF : F.key 0 0 ≠ Fld.SFC_PROFILE_CLOCK.key 0 0) : (s.profClock (bits v 0 2)).st.fld F = s.fld F := by
    rw [taken, s.setClock_fld _ _ hF]
  obtain ⟨l, r, hb, x, e⟩ := profEnd_frame v (s.profClock (bits v 0 2))
  refine ⟨_, exec_sfcProfileWrite s who v, ?_, ?_, ?_, ?_, ?_, ?_, ?_, ?_⟩
  · rw [profEnd_keepsFlds v _ _ _ _ (by decide), profRest_clock, taken, s.setClock_clock _ (bits_lt v 0 2)]
  · rw [profEnd_keepsFlds v _ _ _ _ (by decide), profRest_numerics, busy, fld _ (by decide)]
  · rw [profEnd_keepsFlds v _ _ _ _ (by decide), profRest_resilience, busy, fld _ (by decide)]
  · rw [profEnd_keepsFlds v _ _ _ _ (by decide), profRest_seam, busy, fld _ (by decide)]
  · rw [e, taken]
  · intro hbusy hv
    refine profEnd_raised s v _ ?_ (busy.trans hbusy) (by rwa [fld _ (by decide)])
    rw [taken, clock]
  · rw [e, taken, clock]
  · rw [e, taken, clock]

/-- What a step point does (R554), by the effective step that it finds. -/
theorem stepPoint_acts (s : State) (k : Nat) :
    let u := s.advanceTo (k * 10000)
    let eff := (s.dueAt k).effStep
    ∃ t, exec (.stepPoint k) s = .next t ∧ t.pwr.step = eff ∧ t.pwr.req = u.pwr.reqAt k ∧ t.mem = s.mem ∧ t.ctxs = s.ctxs ∧
      (eff = u.pwr.step → t = { u with pwr := t.pwr }) ∧
      (eff ≠ u.pwr.step → t.time.allFallback = true ∧ u.Counted t Fld.CLK_XING_CNT_FALLBACKS 1 ∧
        ∃ f ∈ t.llx.recent, f.code = 0x0B01 ∧ f.detail.toNat = u.pwr.step.toNat + 16 * eff.toNat) := by
  obtain ⟨mem, ctxs⟩ := (s.dueAt k).changeStep_mem_ctxs (s.dueAt k).effStep
  obtain ⟨dueMem, dueCtxs⟩ := s.dueAt_mem_ctxs k
  refine ⟨_, exec_stepPoint k s, ?_, ?_, mem.trans dueMem, ctxs.trans dueCtxs, ?_, s.dueAt_changeStep_told k⟩
  · rw [State.changeStep_pwr]
  · rw [State.changeStep_pwr]
    exact s.dueAt_pwr_req k
  · intro same
    rw [s.dueAt_changeStep_same k same]
    rfl

theorem Pwr.reqAt_toNat (p : Pwr) (k : Nat) : (p.reqAt k).toNat = match p.plan with
    | some x => if x.point ≤ k then x.step.toNat else p.req.toNat
    | none => p.req.toNat := by
  rw [Pwr.reqAt]
  cases p.plan with
  | none => rfl
  | some x => exact apply_ite BitVec.toNat _ _ _

/-- Settles O43: a step request and a step point by the least of the terms, the profile by its clock mode, droop monitors and crossings by
what they see. -/
theorem stepsAreTaken : Obligations.StepsAreTaken := by
  unfold Obligations.StepsAreTaken
  intro s
  refine ⟨fun who v => ⟨clkStepAt_ahead s who v, clkStepAt_late s who v⟩, fun k => ?_, fun who v => ⟨?_, ?_, ?_⟩,
    fun r => ⟨?_, ?_, exec_droopStretch_unseen s r, fun x => ⟨?_, exec_xingFallback_none s r x⟩⟩⟩
  · intro u act req eff
    obtain ⟨t, run, step, request, mem, ctxs, same, told⟩ := stepPoint_acts s k
    have hreq : (u.pwr.reqAt k).toNat = req := u.pwr.reqAt_toNat k
    have heff : (s.dueAt k).effStep.toNat = eff := by rw [s.dueAt_effStep k, hreq]; rfl
    refine ⟨t, run, by rw [step, heff], by rw [request, hreq], mem, ctxs, fun h => same (BitVec.eq_of_toNat_eq (heff.trans h)), fun h => ?_⟩
    rw [← heff]
    exact told fun e => h (by rw [← heff, e])
  · intro h
    exact ⟨_, exec_sfcProfileWrite s who v, profEnd_refused s v _ _ (s.profClock_reserved _ h)⟩
  · intro h hv
    exact ⟨_, exec_sfcProfileWrite s who v, profEnd_refused s v _ _ (s.profClock_absent _ h hv)⟩
  · intro h
    obtain ⟨t, run, clock, numerics, resilience, seam, pwr, raised, mem, ctxs⟩ := sfcProfileWrite_taken s who v h
    refine ⟨t, run, clock, numerics, resilience, seam, fun same => ?_, fun new => ?_, raised, mem, ctxs⟩
    · rw [pwr, same, s.setClock_same]
    · rw [pwr, s.setClock_pwr _ new]
      have top : modeStep (bits v 0 2) = BitVec.ofNat 3 (if bits v 0 2 = 0 then 3 else if bits v 0 2 = 1 then 5 else 7) := by
        unfold modeStep
        split
        · next h0 => rw [h0]; rfl
        · next h1 => rw [h1]; rfl
        · next h0 h1 => rw [if_neg h0, if_neg h1]; rfl
      refine ⟨?_, by rw [top], rfl⟩
      rw [Ceil.set_val, top]
      split
      · rfl
      · split <;> rfl
  · refine ⟨_, exec_droopStretch_off s r, by simp, fun q hq => by simp [hq], rfl⟩
  · intro hv ht hr hc
    refine ⟨_, exec_droopStretch_on s r hv ht hr hc, ?_, ?_, ?_, ?_⟩
    · rfl
    · exact State.fld_bump_self { s with time := { s.time with droop := r :: s.time.droop } } Fld.CLK_R_STAT_DROOPS 1 r.val 0 (by decide)
    · rfl
    · rfl
  · intro hr hc ha hf hd
    exact ⟨_, exec_xingFallback s r x hr hc ha hf hd, rfl, State.fld_bump_self { s with time := { s.time with
      fallback := (64 * r.val + x.val) :: s.time.fallback } } Fld.CLK_XING_CNT_FALLBACKS 1 0 0 (by decide), rfl⟩

end Sys2Proof.Machine
end

section
/-! Register writes (R10, R15, R18): what a write by access codes leaves in the register file, and the write of any register by its
place. -/

namespace Sys2Proof.Machine

/-! ### A cell and the field that lies in it -/

/-- The field `F` of the register's `i`-th one lies in the cell of `f` at `off`. -/
def Fld.At (F : Fld) (v : Variant) (i off : Nat) (f : FieldDef) : Prop := F.key i 0 = cellKey off f ∧ F.dflt v i = cellDflt v off f

theorem State.fld_setCell_self (s : State) (off : Nat) (f : FieldDef) (x : Nat) (F : Fld) (i : Nat) (h : F.At s.variant i off f)
    (w : f.width ≤ 64) : (s.setCell off f x).fld F i = x % 2 ^ f.width := by
  obtain ⟨key, dflt⟩ := h
  simp only [State.fld, State.setCell, key, dflt, SMap.val_put_self, BitVec.toNat_ofNat]
  exact Nat.mod_eq_of_lt (Nat.lt_of_lt_of_le (Nat.mod_lt _ (Nat.two_pow_pos _)) (Nat.pow_le_pow_right (by omega) w))

theorem State.fld_setCell_ne (s : State) (off : Nat) (f : FieldDef) (x : Nat) (F : Fld) (i j : Nat) (h : F.key i j ≠ cellKey off f) :
    (s.setCell off f x).fld F i j = s.fld F i j := by
  simp only [State.fld, State.setCell]
  rw [SMap.val_put_off _ _ _ _ h]

theorem State.cell_eq_fld (s : State) (off : Nat) (f : FieldDef) (F : Fld) (i : Nat) (h : F.At s.variant i off f) :
    s.cell off f = s.fld F i := by rw [State.cell, State.fld, h.1, h.2]

/-! ### Fields that take a write -/

/-- The bits of `v` that belong to each field put in its cell. -/
def State.putFields (s : State) (off : Nat) (v : Word) (fs : List FieldDef) : State :=
  fs.foldl (fun s f => s.setCell off f (bits v f.lo f.width)) s

theorem State.putFields_cons (s : State) (off : Nat) (v : Word) (f : FieldDef) (fs : List FieldDef) :
    s.putFields off v (f :: fs) = (s.setCell off f (bits v f.lo f.width)).putFields off v fs := rfl

theorem State.putFields_frame (s : State) (off : Nat) (v : Word) (fs : List FieldDef) :
    s.putFields off v fs = { s with regs := (s.putFields off v fs).regs } := by
  obtain ⟨r, e⟩ := s.foldl_regs (fun s f => s.setCell off f (bits v f.lo f.width)) fs fun _ _ => ⟨_, rfl⟩
  rw [State.putFields, e]

theorem State.fld_putFields_ne (s : State) (off : Nat) (v : Word) (fs : List FieldDef) (F : Fld) (i j : Nat)
    (h : ∀ f ∈ fs, F.key i j ≠ cellKey off f) : (s.putFields off v fs).fld F i j = s.fld F i j := by
  induction fs generalizing s with
  | nil => rfl
  | cons f fs ih =>
    obtain ⟨head, tail⟩ := List.forall_mem_cons.mp h
    rw [State.putFields_cons, ih _ tail, s.fld_setCell_ne _ _ _ _ _ _ head]

/-- Each field written takes its bits: the fields of a register lie apart. -/
theorem State.fld_putFields_self (s : State) (off : Nat) (v : Word) (fs : List FieldDef) (f : FieldDef) (F : Fld) (i : Nat) (hf : f ∈ fs)
    (apart : (fs.map (·.lo)).Nodup) (h : F.At s.variant i off f) (w : f.width ≤ 64) :
    (s.putFields off v fs).fld F i = bits v f.lo f.width := by
  induction fs generalizing s with
  | nil => cases hf
  | cons g fs ih =>
    rw [List.map_cons, List.nodup_cons] at apart
    rw [State.putFields_cons]
    rcases List.mem_cons.mp hf with rfl | later
    · rw [State.fld_putFields_ne, s.fld_setCell_self _ _ _ _ _ h w, Nat.mod_eq_of_lt (bits_lt v f.lo f.width)]
      intro g hg e
      refine apart.1 (List.mem_map.mpr ⟨g, hg, ?_⟩)
      have key : cellKey off f = cellKey off g := h.1.symm.trans e
      simp only [cellKey] at key
      omega
    · exact ih _ later apart.2 h

/-- The field takes a write (R15): from this requester, in a block that runs or not, with its lock set or not. -/
def FieldDef.opened (f : FieldDef) (priv busy locked : Bool) : Bool :=
  match f.acc with
  | .rw => true
  | .rwp => priv
  | .rws => !busy
  | .rwl => !locked
  | _ => false

theorem FieldDef.opened_rwp {f : FieldDef} (h : f.acc = .rwp) (priv busy locked : Bool) : f.opened priv busy locked = priv := by
  rw [FieldDef.opened, h]

theorem FieldDef.opened_rws {f : FieldDef} (h : f.acc = .rws) (priv busy locked : Bool) : f.opened priv busy locked = !busy := by
  rw [FieldDef.opened, h]

/-- The field keeps its value whatever is written. -/
def FieldDef.closed (f : FieldDef) (priv busy locked : Bool) : Bool :=
  match f.acc with
  | .ro => true
  | .wo => true
  | .rwp => !priv
  | .rws => busy
  | .rwl => locked
  | _ => false

theorem fieldWrite_opened (who : Requester) (off : Nat) (busy locked : Bool) (v : Word) (o : WOut) (f : FieldDef)
    (h : f.opened (o.st.privileged who) busy locked = true) :
    fieldWrite who off busy locked v o f = o.map fun s => s.setCell off f (bits v f.lo f.width) := by
  rw [FieldDef.opened] at h
  rw [fieldWrite]
  cases acc : f.acc with
  | rw => rfl
  | rwp =>
    rw [acc] at h
    exact if_pos h
  | rws =>
    rw [acc] at h
    exact if_neg (by simpa using h)
  | rwl =>
    rw [acc] at h
    exact if_neg (by simpa using h)
  | ro | wo | w1c | rwb =>
    rw [acc] at h
    cases h

theorem fieldWrite_closed (who : Requester) (off : Nat) (busy locked : Bool) (v : Word) (o : WOut) (f : FieldDef)
    (h : f.closed (o.st.privileged who) busy locked = true) : (fieldWrite who off busy locked v o f).st = o.st := by
  rw [FieldDef.closed] at h
  rw [fieldWrite]
  cases acc : f.acc with
  | ro | wo => rfl
  | rwp =>
    have refused : o.st.privileged who = false := by simpa [acc] using h
    simp [refused]
  | rws =>
    have runs : busy = true := by simpa [acc] using h
    simp [runs]
  | rwl =>
    have shut : locked = true := by simpa [acc] using h
    simp [shut]
  | rw | w1c | rwb =>
    rw [acc] at h
    cases h

/-- A write outside SEC_PRIV leaves privilege as it was (R616). -/
theorem State.privileged_setCell (s : State) (who : Requester) (off : Nat) (f : FieldDef) (x : Nat)
    (h : cellKey off f ≠ Fld.SEC_PRIV_HOST.key 0 0) : (s.setCell off f x).privileged who = s.privileged who := by
  cases who with
  | host => rw [State.privileged, State.privileged, State.flag, State.flag, s.fld_setCell_ne _ _ _ _ _ _ (Ne.symm h)]
  | mgmt => rfl
  | config => rfl
  | debug => rfl
  | sideband => rfl

/-- The cells of a register below SEC_PRIV. -/
theorem cellKey_ne_priv {off : Nat} {fs : List FieldDef} (ho : off < 0xD00008) (lo : ∀ f ∈ fs, f.lo < 64) :
    ∀ f ∈ fs, cellKey off f ≠ Fld.SEC_PRIV_HOST.key 0 0 := by
  intro f hf
  have := lo f hf
  show off * 64 + f.lo ≠ (0xD00008 + 0 * 0 + 0 * 0) * 64 + 0
  omega

theorem fieldWrites_opened (who : Requester) (off : Nat) (busy locked : Bool) (v : Word) (fs : List FieldDef) (o : WOut)
    (apart : ∀ f ∈ fs, cellKey off f ≠ Fld.SEC_PRIV_HOST.key 0 0)
    (h : ∀ f ∈ fs, f.opened (o.st.privileged who) busy locked = true) :
    fs.foldl (fieldWrite who off busy locked v) o = o.map fun s => s.putFields off v fs := by
  induction fs generalizing o with
  | nil => rfl
  | cons f fs ih =>
    obtain ⟨head, tail⟩ := List.forall_mem_cons.mp h
    obtain ⟨apartHead, apartTail⟩ := List.forall_mem_cons.mp apart
    rw [List.foldl_cons, fieldWrite_opened _ _ _ _ _ _ _ head, ih _ apartTail]
    · rfl
    · intro g hg
      rw [← tail g hg]
      exact congrArg (fun p => g.opened p busy locked) (o.st.privileged_setCell who off f _ apartHead)

theorem fieldWrites_closed (who : Requester) (off : Nat) (busy locked : Bool) (v : Word) (fs : List FieldDef) (o : WOut)
    (h : ∀ f ∈ fs, f.closed (o.st.privileged who) busy locked = true) : (fs.foldl (fieldWrite who off busy locked v) o).st = o.st := by
  induction fs generalizing o with
  | nil => rfl
  | cons f fs ih =>
    obtain ⟨head, tail⟩ := List.forall_mem_cons.mp h
    have one := fieldWrite_closed who off busy locked v o f head
    rw [List.foldl_cons, ih _ (by rwa [one]), one]

/-- Only a field of a running block is rejected, and then the write is (R18). -/
theorem fieldWrites_busy (who : Requester) (off : Nat) (busy locked : Bool) (v : Word) (fs : List FieldDef) (o : WOut) :
    (fs.foldl (fieldWrite who off busy locked v) o).busy = (o.busy || (busy && fs.any (·.acc == .rws))) := by
  have one (o : WOut) (f : FieldDef) : (fieldWrite who off busy locked v o f).busy = (o.busy || (busy && f.acc == .rws)) := by
    cases busy <;> cases e : f.acc <;> simp [fieldWrite, e, WOut.map, apply_ite WOut.busy]
  induction fs generalizing o with
  | nil => simp
  | cons f fs ih => rw [List.foldl_cons, ih, one, List.any_cons, Bool.and_or_distrib_left, Bool.or_assoc]

/-! ### A register written by its access codes -/

/-- A write by access codes: its fields, one refusal if a privileged field met no privilege, one CFG_BUSY if the block runs. -/
theorem State.regFields_st (s : State) (who : Requester) (d : RegDef) (off : Nat) (busy locked : Bool) (v : Word) :
    (s.regFields who d off busy locked v).st =
      let t := (d.fields.foldl (fieldWrite who off busy locked v) { st := s }).st
      let u := if d.fields.any (·.acc == .rwp) && !s.privileged who then t.bump Fld.DBG_STATUS_REFUSALS else t
      if busy && d.fields.any (·.acc == .rws) then u.regEvent Ev.CFG_BUSY off else u := by
  have flag := fieldWrites_busy who off busy locked v d.fields { st := s }
  rw [Bool.false_or] at flag
  rw [State.regFields, ← flag]
  dsimp only
  generalize d.fields.foldl (fieldWrite who off busy locked v) { st := s } = o
  generalize (d.fields.any (·.acc == .rwp) && !s.privileged who) = refused
  cases refused <;> cases e : o.busy <;> simp [WOut.map, e]

/-- Where every field takes the write, the register holds its bits and nothing else happens. -/
theorem State.regFields_opened (s : State) (who : Requester) (d : RegDef) (off : Nat) (busy locked : Bool) (v : Word)
    (apart : ∀ f ∈ d.fields, cellKey off f ≠ Fld.SEC_PRIV_HOST.key 0 0)
    (h : ∀ f ∈ d.fields, f.opened (s.privileged who) busy locked = true) :
    (s.regFields who d off busy locked v).st = s.putFields off v d.fields := by
  have privileged : (d.fields.any (·.acc == .rwp) && !s.privileged who) = false := by
    rw [Bool.and_eq_false_imp, List.any_eq_true]
    rintro ⟨f, hf, acc⟩
    rw [← FieldDef.opened_rwp (eq_of_beq acc) (s.privileged who) busy locked, h f hf, Bool.not_true]
  have idle : (busy && d.fields.any (·.acc == .rws)) = false := by
    rw [Bool.and_comm, Bool.and_eq_false_imp, List.any_eq_true]
    rintro ⟨f, hf, acc⟩
    rw [← Bool.not_eq_true', ← FieldDef.opened_rws (eq_of_beq acc) (s.privileged who) busy locked, h f hf]
  rw [State.regFields_st, privileged, idle, fieldWrites_opened _ _ _ _ _ _ _ apart h]
  rfl

/-- Where no field takes it, the write is only counted or rejected. -/
theorem State.regFields_closed (s : State) (who : Requester) (d : RegDef) (off : Nat) (busy locked : Bool) (v : Word)
    (h : ∀ f ∈ d.fields, f.closed (s.privileged who) busy locked = true) :
    (s.regFields who d off busy locked v).st =
      let u := if d.fields.any (·.acc == .rwp) && !s.privileged who then s.bump Fld.DBG_STATUS_REFUSALS else s
      if busy && d.fields.any (·.acc == .rws) then u.regEvent Ev.CFG_BUSY off else u := by
  rw [State.regFields_st, fieldWrites_closed _ _ _ _ _ _ { st := s } h]

/-! ### Where the fields of the tables lie -/

theorem Fld.at_plain (F : Fld) (v : Variant) (i off : Nat) (f : FieldDef) (key : F.key i 0 = cellKey off f) (reset : F.reset = f.reset)
    (hF : F.base ≠ 0xB00100 ∧ F.base ≠ 0x900008) (hoff : ¬ (0xB00100 ≤ off ∧ off < 0xB00150) ∧ off ≠ 0x900008) : F.At v i off f := by
  obtain ⟨canary, planes⟩ := hF
  obtain ⟨outside, notPlanes⟩ := hoff
  have base : off ≠ 0xB00100 := by omega
  refine ⟨key, ?_⟩
  simp [Fld.dflt, cellDflt, canary, planes, outside, notPlanes, base, reset]

/-- The canary inputs' registers, whose reset values are a table of their own (R494). -/
theorem Fld.at_canary (v : Variant) (i lo w r : Nat) (acc : Acc) (h : i < 10) :
    (Fld.mk 0xB00100 8 0 lo w r).At v i (0xB00100 + 8 * i) ⟨lo, w, acc, r⟩ := by
  refine ⟨by simp only [Fld.key, cellKey]; omega, ?_⟩
  rw [cellDflt, if_pos (by omega), Nat.add_sub_cancel_left, Nat.mul_div_cancel_left _ (by decide)]

/-! ### The write of any register (R10, R117) -/

/-- A write at the place of a fitted register that no context shares is the write of that register. -/
theorem exec_regWrite_at (s : State) (who : Requester) (v : Word) {off : BitVec 24} {d : RegDef} {i j : Nat}
    (h : regAt off.toNat = some (d, i, j)) (fitted : d.reg.fitted s.variant i = true) (own : d.reg.shared = false) :
    exec (.regWrite who off v) s = .next (s.wrReg who d.reg off.toNat i j v).st := by
  have own : s.eastCopy d.reg i = false := by rw [State.eastCopy, own]; rfl
  show Host.Outcome.next (s.regWrite who off.toNat v).st = _
  rw [State.regWrite, h]
  simp [fitted, own]

/-- An offset without a register takes no write. -/
theorem exec_regWrite_nowhere (s : State) (who : Requester) (v : Word) (off : BitVec 24) (h : regAt off.toNat = none) :
    exec (.regWrite who off v) s = .next s := by
  show Host.Outcome.next (s.regWrite who off.toNat v).st = _
  rw [State.regWrite, h]

/-- A register with no behaviour of its own is written by its access codes. -/
theorem exec_regWrite_plain (s : State) (who : Requester) (v : Word) {off : BitVec 24} {d : RegDef} {i j : Nat} (busy locked : Bool)
    (h : regAt off.toNat = some (d, i, j)) (fitted : d.reg.fitted s.variant i = true) (own : d.reg.shared = false)
    (plain : s.wrReg who d.reg off.toNat i j v = s.regPlain who off.toNat busy locked v) :
    exec (.regWrite who off v) s = .next (s.regFields who d off.toNat busy locked v).st := by
  rw [exec_regWrite_at s who v h fitted own, plain, State.regPlain, h]
  simp [fitted]

end Sys2Proof.Machine
end

section
/-! The registers that the statement on writes names: their entries in the tables, and what their write does. -/

namespace Sys2Proof.Machine

/-- An offset within the surface window is what its 24 bits say. -/
theorem offset_toNat (n : Nat) (h : n < 2 ^ 24) : (BitVec.ofNat 24 n).toNat = n := by rw [BitVec.toNat_ofNat, Nat.mod_eq_of_lt h]

/-! ### RST_CAUSE (R621) -/

theorem exec_regWrite_cause (s : State) (who : Requester) (v : Word) :
    exec (.regWrite who 0x100000 v) s = .next (s.setCell 0x100000 ⟨0, 9, .w1c, 1⟩
      ((BitVec.ofNat 64 (s.cell 0x100000 ⟨0, 9, .w1c, 1⟩) &&& ~~~BitVec.ofNat 64 (bits v 0 9)).toNat)) := by
  rw [exec_regWrite_plain s who v (d := ⟨.RST_CAUSE, 0x100000, 0, 1, 0, 1, [⟨0, 9, .w1c, 1⟩, ⟨16, 4, .ro, 0⟩]⟩) (i := 0) (j := 0) false false
    rfl rfl rfl rfl, State.regFields_st]
  rfl

/-- Bits cleared in a word and cut to nine are bits cleared in the nine. -/
theorem clear_mod (x y : Nat) : (BitVec.ofNat 64 x &&& ~~~BitVec.ofNat 64 y).toNat % 2 ^ 9 = (BitVec.ofNat 9 x &&& ~~~BitVec.ofNat 9 y).toNat := by
  rw [← BitVec.toNat_setWidth]
  congr 1
  ext i hi
  simp

theorem regWrite_cause (s : State) (who : Requester) (v : Word) :
    ∃ t, exec (.regWrite who 0x100000 v) s = .next t ∧ t = { s with regs := t.regs } ∧
      t.fld Fld.RST_CAUSE_SOURCES = (BitVec.ofNat 9 (s.fld Fld.RST_CAUSE_SOURCES) &&& ~~~BitVec.ofNat 9 (bits v 0 9)).toNat ∧
      t.fld Fld.RST_CAUSE_LAST = s.fld Fld.RST_CAUSE_LAST := by
  have sources : Fld.RST_CAUSE_SOURCES.At s.variant 0 0x100000 ⟨0, 9, .w1c, 1⟩ :=
    Fld.at_plain _ _ _ _ _ rfl rfl (by decide) (by decide)
  refine ⟨_, exec_regWrite_cause s who v, rfl, ?_, s.fld_setCell_ne _ _ _ _ _ _ (by decide)⟩
  rw [s.fld_setCell_self _ _ _ _ _ sources (by decide), s.cell_eq_fld _ _ _ _ sources, clear_mod]

/-! ### SFC_ID (R5) and RLF_INTERVAL (R533) -/

theorem exec_regWrite_ident (s : State) (who : Requester) (v : Word) : exec (.regWrite who 0x0 v) s = .next s := by
  rw [exec_regWrite_plain s who v (d := ⟨.SFC_ID, 0, 0, 1, 0, 1, [⟨0, 16, .ro, 0⟩, ⟨16, 16, .ro, 0⟩, ⟨32, 4, .ro, 0⟩, ⟨36, 4, .ro, 0⟩,
    ⟨40, 4, .ro, 0⟩]⟩) (i := 0) (j := 0) false false rfl rfl rfl rfl, State.regFields_closed _ _ _ _ _ _ _ (by simp [FieldDef.closed])]
  rfl

/-- The fields of RLF_INTERVAL. -/
def intervalFields : List FieldDef :=
  [⟨0, 8, .rw, 0x40⟩, ⟨8, 8, .rw, 0x20⟩, ⟨16, 8, .rw, 0x10⟩, ⟨24, 8, .rw, 0x8⟩, ⟨32, 8, .rw, 0x4⟩, ⟨40, 8, .rw, 0x2⟩, ⟨48, 8, .rw, 0x1⟩,
    ⟨56, 8, .rw, 0x1⟩]

theorem exec_regWrite_interval (s : State) (who : Requester) (v : Word) :
    exec (.regWrite who 0xB00018 v) s = .next (s.putFields 0xB00018 v intervalFields) := by
  rw [exec_regWrite_plain s who v (d := ⟨.RLF_INTERVAL, 0xB00018, 0, 1, 0, 1, intervalFields⟩) (i := 0) (j := 0) false false rfl rfl rfl rfl,
    State.regFields_opened]
  · rfl
  · decide
  · simp [intervalFields, FieldDef.opened]

theorem regWrite_interval (s : State) (who : Requester) (v : Word) :
    ∃ t, exec (.regWrite who 0xB00018 v) s = .next t ∧ t = { s with regs := t.regs } ∧ t.fld Fld.RLF_INTERVAL_I0 = bits v 0 8 ∧
      t.fld Fld.RLF_INTERVAL_I3 = bits v 24 8 ∧ t.fld Fld.RLF_INTERVAL_I7 = bits v 56 8 := by
  have takes (f : FieldDef) (F : Fld) (hf : f ∈ intervalFields) (key : F.key 0 0 = cellKey 0xB00018 f) (reset : F.reset = f.reset)
      (base : F.base ≠ 0xB00100 ∧ F.base ≠ 0x900008) (w : f.width ≤ 64) :
      (s.putFields 0xB00018 v intervalFields).fld F = bits v f.lo f.width :=
    s.fld_putFields_self _ _ _ f F 0 hf (by decide) (Fld.at_plain _ _ _ _ _ key reset base (by decide)) w
  exact ⟨_, exec_regWrite_interval s who v, s.putFields_frame _ _ _,
    takes ⟨0, 8, .rw, 0x40⟩ Fld.RLF_INTERVAL_I0 (by decide) (by decide) rfl (by decide) (by decide),
    takes ⟨24, 8, .rw, 0x8⟩ Fld.RLF_INTERVAL_I3 (by decide) (by decide) rfl (by decide) (by decide),
    takes ⟨56, 8, .rw, 0x1⟩ Fld.RLF_INTERVAL_I7 (by decide) (by decide) rfl (by decide) (by decide)⟩

/-! ### RLF_CAN_IN (R543): privileged fields -/

/-- The fields of RLF_CAN_IN. -/
def canaryFields : List FieldDef := [⟨0, 16, .rwp, 0⟩, ⟨16, 4, .rwp, 0⟩, ⟨20, 1, .rwp, 0⟩, ⟨21, 4, .rwp, 0⟩]

theorem regAt_canary (i : Fin 10) :
    regAt (BitVec.ofNat 24 (0xB00100 + 8 * i.val)).toNat = some (⟨.RLF_CAN_IN, 0xB00100, 8, 10, 0, 1, canaryFields⟩, i.val, 0) := by
  revert i
  decide +kernel

theorem exec_regWrite_canary_priv (s : State) (who : Requester) (v : Word) (i : Fin 10) (hp : s.privileged who = true) :
    exec (.regWrite who (BitVec.ofNat 24 (0xB00100 + 8 * i.val)) v) s = .next (s.putFields (0xB00100 + 8 * i.val) v canaryFields) := by
  rw [exec_regWrite_plain s who v false false (regAt_canary i) rfl rfl rfl, offset_toNat (0xB00100 + 8 * i.val) (by omega), State.regFields_opened]
  · exact cellKey_ne_priv (by omega) (by decide)
  · simp [canaryFields, FieldDef.opened, hp]

theorem exec_regWrite_canary_refused (s : State) (who : Requester) (v : Word) (i : Fin 10) (hp : s.privileged who = false) :
    exec (.regWrite who (BitVec.ofNat 24 (0xB00100 + 8 * i.val)) v) s = .next (s.bump Fld.DBG_STATUS_REFUSALS) := by
  rw [exec_regWrite_plain s who v false false (regAt_canary i) rfl rfl rfl, State.regFields_closed _ _ _ _ _ _ _
    (by simp [canaryFields, FieldDef.closed, hp])]
  simp [canaryFields, hp]

theorem regWrite_canary (s : State) (who : Requester) (v : Word) (i : Fin 10) :
    ∃ t, exec (.regWrite who (BitVec.ofNat 24 (0xB00100 + 8 * i.val)) v) s = .next t ∧ t = { s with regs := t.regs } ∧
      (s.privileged who = true → t.fld Fld.RLF_CAN_IN_BASE i.val = bits v 0 16 ∧ t.fld Fld.RLF_CAN_IN_W i.val = bits v 21 4) ∧
      (s.privileged who = false → t.fld Fld.RLF_CAN_IN_BASE i.val = s.fld Fld.RLF_CAN_IN_BASE i.val ∧
        t.fld Fld.RLF_CAN_IN_W i.val = s.fld Fld.RLF_CAN_IN_W i.val ∧ s.Counted t Fld.DBG_STATUS_REFUSALS 1) := by
  cases hp : s.privileged who with
  | true =>
    refine ⟨_, exec_regWrite_canary_priv s who v i hp, s.putFields_frame _ _ _, fun _ => ⟨?_, ?_⟩, fun h => absurd h (by decide)⟩
    · exact s.fld_putFields_self _ _ _ ⟨0, 16, .rwp, 0⟩ _ _ (by decide) (by decide) (Fld.at_canary _ _ _ _ _ _ i.isLt) (by decide)
    · exact s.fld_putFields_self _ _ _ ⟨21, 4, .rwp, 0⟩ _ _ (by decide) (by decide) (Fld.at_canary _ _ _ _ _ _ i.isLt) (by decide)
  | false =>
    have apart (lo w r : Nat) (h : lo < 64) : (Fld.mk 0xB00100 8 0 lo w r).key i.val 0 ≠ Fld.DBG_STATUS_REFUSALS.key 0 0 := by
      simp only [Fld.key]
      have := i.isLt
      omega
    refine ⟨_, exec_regWrite_canary_refused s who v i hp, rfl, fun h => absurd h (by decide), fun _ => ⟨?_, ?_, ?_⟩⟩
    · exact s.fld_bump_ne _ _ _ _ _ _ _ (apart _ _ _ (by decide))
    · exact s.fld_bump_ne _ _ _ _ _ _ _ (apart _ _ _ (by decide))
    · exact s.bump_counted _ _ _ _ (by decide)

/-! ### RLF_DECL (R535): fields of a block that runs -/

/-- The field of RLF_DECL. -/
def declField : FieldDef := ⟨0, 64, .rws, 0xffffffffffffffff⟩

theorem regAt_decl (k : Fin 2) :
    regAt (BitVec.ofNat 24 (0xB00030 + 8 * k.val)).toNat = some (⟨.RLF_DECL, 0xB00030, 8, 2, 0, 1, [declField]⟩, k.val, 0) := by
  revert k
  decide +kernel

theorem decl_not_event (k : Fin 2) : Fld.RLF_DECL_REGIONS.key k.val 0 ∉ eventCells := by
  revert k
  decide

theorem exec_regWrite_decl_idle (s : State) (who : Requester) (v : Word) (k : Fin 2) (hb : s.anyBusy = false) :
    exec (.regWrite who (BitVec.ofNat 24 (0xB00030 + 8 * k.val)) v) s = .next (s.putFields (0xB00030 + 8 * k.val) v [declField]) := by
  rw [exec_regWrite_plain s who v s.anyBusy false (regAt_decl k) rfl rfl rfl, offset_toNat (0xB00030 + 8 * k.val) (by omega), State.regFields_opened]
  · exact cellKey_ne_priv (by omega) (by decide)
  · simp [declField, FieldDef.opened, hb]

theorem exec_regWrite_decl_busy (s : State) (who : Requester) (v : Word) (k : Fin 2) (hb : s.anyBusy = true) :
    exec (.regWrite who (BitVec.ofNat 24 (0xB00030 + 8 * k.val)) v) s =
      .next (s.raise Ev.CFG_BUSY srcDev none (0xB00030 + 8 * k.val)) := by
  rw [exec_regWrite_plain s who v s.anyBusy false (regAt_decl k) rfl rfl rfl, offset_toNat (0xB00030 + 8 * k.val) (by omega), State.regFields_closed _ _ _ _ _ _ _
    (by simp [declField, FieldDef.closed, hb])]
  simp [declField, hb, State.regEvent]

theorem regWrite_decl (s : State) (who : Requester) (v : Word) (k : Fin 2) :
    ∃ t, exec (.regWrite who (BitVec.ofNat 24 (0xB00030 + 8 * k.val)) v) s = .next t ∧
      (s.anyBusy = false → t.fld Fld.RLF_DECL_REGIONS k.val = v.toNat ∧ t = { s with regs := t.regs }) ∧
      (s.anyBusy = true → t.fld Fld.RLF_DECL_REGIONS k.val = s.fld Fld.RLF_DECL_REGIONS k.val ∧
        s.Raised t 0x0101 srcDev (0xB00030 + 8 * k.val)) := by
  have hk := k.isLt
  cases hb : s.anyBusy with
  | false =>
    have place : Fld.RLF_DECL_REGIONS.At s.variant k.val (0xB00030 + 8 * k.val) declField :=
      Fld.at_plain _ _ _ _ _ (by simp only [Fld.key, cellKey, declField]; omega) rfl (by decide) (by omega)
    refine ⟨_, exec_regWrite_decl_idle s who v k hb, fun _ => ⟨?_, s.putFields_frame _ _ _⟩, fun h => absurd h (by decide)⟩
    rw [s.fld_putFields_self _ _ _ _ _ _ (List.mem_singleton_self _) (by decide) place (by decide)]
    simp only [declField, bits, fieldN, Nat.pow_zero, Nat.div_one]
    exact Nat.mod_eq_of_lt v.isLt
  | true =>
    refine ⟨_, exec_regWrite_decl_busy s who v k hb, fun h => absurd h (by decide), fun _ => ⟨?_, s.raise_raised _ _ _ _⟩⟩
    exact s.raise_keepsFlds _ _ _ _ _ _ _ (decl_not_event k)

/-! ### BKN_WIN_A (R448): locked fields -/

/-- The fields of BKN_WIN_A. -/
def windowFields : List FieldDef := [⟨0, 27, .rwl, 0⟩, ⟨27, 26, .rwl, 0⟩]

theorem regAt_window (e : Fin 64) :
    regAt (BitVec.ofNat 24 (0x901000 + 16 * e.val)).toNat = some (⟨.BKN_WIN_A, 0x901000, 16, 64, 0, 1, windowFields⟩, e.val, 0) := by
  revert e
  decide +kernel

theorem exec_regWrite_window_free (s : State) (who : Requester) (v : Word) (e : Fin 64) (hl : s.flag Fld.BKN_LOCK_WIN = false) :
    exec (.regWrite who (BitVec.ofNat 24 (0x901000 + 16 * e.val)) v) s = .next (s.putFields (0x901000 + 16 * e.val) v windowFields) := by
  rw [exec_regWrite_plain s who v false (s.flag Fld.BKN_LOCK_WIN) (regAt_window e) rfl rfl rfl, offset_toNat (0x901000 + 16 * e.val) (by omega), State.regFields_opened]
  · exact cellKey_ne_priv (by omega) (by decide)
  · simp [windowFields, FieldDef.opened, hl]

theorem exec_regWrite_window_locked (s : State) (who : Requester) (v : Word) (e : Fin 64) (hl : s.flag Fld.BKN_LOCK_WIN = true) :
    exec (.regWrite who (BitVec.ofNat 24 (0x901000 + 16 * e.val)) v) s = .next s := by
  rw [exec_regWrite_plain s who v false (s.flag Fld.BKN_LOCK_WIN) (regAt_window e) rfl rfl rfl, State.regFields_closed _ _ _ _ _ _ _
    (by simp [windowFields, FieldDef.closed, hl])]
  simp [windowFields]

theorem regWrite_window (s : State) (who : Requester) (v : Word) (e : Fin 64) :
    ∃ t, exec (.regWrite who (BitVec.ofNat 24 (0x901000 + 16 * e.val)) v) s = .next t ∧ t = { s with regs := t.regs } ∧
      (s.fld Fld.BKN_LOCK_WIN ≠ 1 → t.fld Fld.BKN_WIN_A_BASE e.val = bits v 0 27) ∧
      (s.fld Fld.BKN_LOCK_WIN = 1 → t.regs = s.regs) := by
  by_cases locked : s.fld Fld.BKN_LOCK_WIN = 1
  · exact ⟨s, exec_regWrite_window_locked s who v e (beq_iff_eq.mpr locked), rfl, fun h => absurd locked h, fun _ => rfl⟩
  · have he := e.isLt
    have place : Fld.BKN_WIN_A_BASE.At s.variant e.val (0x901000 + 16 * e.val) ⟨0, 27, .rwl, 0⟩ :=
      Fld.at_plain _ _ _ _ _ (by simp only [Fld.key, cellKey]; omega) rfl (by decide) (by omega)
    exact ⟨_, exec_regWrite_window_free s who v e (beq_eq_false_iff_ne.mpr locked), s.putFields_frame _ _ _,
      fun _ => s.fld_putFields_self _ _ _ _ _ _ (by decide) (by decide) place (by decide), fun h => absurd h locked⟩

/-! ### DBG_TOKEN (R656) -/

theorem regAt_token (k : Fin 24) :
    regAt (BitVec.ofNat 24 (0xC01000 + 8 * k.val)).toNat = some (⟨.DBG_TOKEN, 0xC01000, 8, 24, 0, 1, [⟨0, 64, .wo, 0⟩]⟩, k.val, 0) := by
  revert k
  decide +kernel

theorem regWrite_token (s : State) (who : Requester) (v : Word) (k : Fin 24) :
    ∃ t, exec (.regWrite who (BitVec.ofNat 24 (0xC01000 + 8 * k.val)) v) s = .next t ∧
      t = { s with dbg := { s.dbg with token := SMap.putList s.dbg.token 0 (8 * k.val) (bytesOf 8 v.toNat) } } :=
  ⟨_, exec_regWrite_at s who v (regAt_token k) rfl rfl, rfl⟩

/-! ### SEQ_BELL (R154): a field that waits for the bell -/

theorem seqBellWrite_taken (s : State) (who : Requester) (v : Word) (low : 1 ≤ bits v 0 7) (high : bits v 0 7 ≤ 100) :
    exec (.seqBellWrite who v) s = .next { s with
      shadow := SMap.put s.shadow none (0x308000 * 64) (some (BitVec.ofNat 64 (bits v 0 7))) } := by
  have inside : (decide (bits v 0 7 = 0) || decide (100 < bits v 0 7)) = false := by
    rw [Bool.or_eq_false_iff, decide_eq_false_iff_not, decide_eq_false_iff_not]
    omega
  have plain : s.wrBell who v = s.regPlain who 0x308000 false false v := by rw [State.wrBell, inside]; rfl
  show Host.Outcome.next (s.wrBell who v).st = _
  rw [plain]
  rfl

theorem seqBellWrite_refused (s : State) (who : Requester) (v : Word) (h : bits v 0 7 = 0 ∨ 100 < bits v 0 7) :
    ∃ t, exec (.seqBellWrite who v) s = .next t ∧ s.Raised t 0x0102 srcDev 0x308000 ∧ t.shadow = s.shadow := by
  have outside : (decide (bits v 0 7 = 0) || decide (100 < bits v 0 7)) = true := by simpa using h
  have refused : (s.wrBell who v).st = s.raise Ev.CFG_RANGE srcDev none 0x308000 := by rw [State.wrBell, outside]; rfl
  obtain ⟨l, r, x, d, e⟩ := s.raise_frame Ev.CFG_RANGE srcDev none 0x308000
  exact ⟨_, congrArg Host.Outcome.next refused, s.raise_raised _ _ _ _, by rw [e]⟩

/-! ### SEQ_BELL_ORIGIN (R155) -/

theorem seqBellOriginWrite_busy (s : State) (who : Requester) (v : Word) (hb : s.anyBusy = true) :
    ∃ t, exec (.seqBellOriginWrite who v) s = .next t ∧ s.Raised t 0x0101 srcDev 0x308008 ∧ t.time = s.time ∧
      t.fld Fld.SEQ_BELL_ORIGIN_ORIGIN = s.fld Fld.SEQ_BELL_ORIGIN_ORIGIN := by
  have rejected : (s.wrBellOrigin who v).st = s.raise Ev.CFG_BUSY srcDev none 0x308008 := by
    rw [State.wrBellOrigin, State.stoppedWrite, if_pos hb]
    rfl
  obtain ⟨l, r, x, d, e⟩ := s.raise_frame Ev.CFG_BUSY srcDev none 0x308008
  exact ⟨_, congrArg Host.Outcome.next rejected, s.raise_raised _ _ _ _, by rw [e], s.raise_keepsFlds _ _ _ _ _ _ _ (by decide)⟩

theorem State.schedule_frame (s : State) (n : Nat) :
    ∃ a b, s.schedule n = { s with time := { s.time with nextBell := a, nextNum := b } } := by
  rw [State.schedule]
  split <;> exact ⟨_, _, rfl⟩

theorem State.schedule_later (s : State) (n : Nat) (h : s.now < n) :
    (s.schedule n).time.nextBell = n ∧ (s.schedule n).time.nextNum = 0 := by
  rw [State.schedule, if_pos h]
  exact ⟨rfl, rfl⟩

/-- The first bell after now, counted from an earlier origin. -/
theorem State.schedule_earlier (s : State) (n : Nat) (h : n ≤ s.now) (period : 0 < s.periodNs) :
    s.now < (s.schedule n).time.nextBell ∧ (s.schedule n).time.nextBell ≤ s.now + s.periodNs ∧
      (s.schedule n).time.nextBell = n + (s.schedule n).time.nextNum * s.periodNs := by
  rw [State.schedule, if_neg (Nat.not_lt.mpr h)]
  refine ⟨?_, ?_, rfl⟩
  · have above := Nat.lt_div_mul_add (a := s.now - n) period
    simp only [Nat.add_mul, Nat.one_mul]
    omega
  · have below := Nat.div_mul_le_self (s.now - n) s.periodNs
    simp only [Nat.add_mul, Nat.one_mul]
    omega

/-- The state that an accepted origin leaves. -/
theorem exec_seqBellOriginWrite_idle (s : State) (who : Requester) (v : Word) (hb : s.anyBusy = false) :
    exec (.seqBellOriginWrite who v) s = .next
      (((s.setFld Fld.SEQ_BELL_ORIGIN_ORIGIN v.toNat).schedule v.toNat).setFld Fld.SEQ_BELL_NUM_NUMBER
        (((s.setFld Fld.SEQ_BELL_ORIGIN_ORIGIN v.toNat).schedule v.toNat).time.nextNum - 1)) := by
  show Host.Outcome.next (s.wrBellOrigin who v).st = _
  rw [State.wrBellOrigin, State.stoppedWrite, hb]
  rfl

theorem seqBellOriginWrite_idle (s : State) (who : Requester) (v : Word) (hb : s.anyBusy = false) :
    ∃ t, exec (.seqBellOriginWrite who v) s = .next t ∧ t.fld Fld.SEQ_BELL_ORIGIN_ORIGIN = v.toNat ∧
      t = { s with regs := t.regs, time := { s.time with nextBell := t.time.nextBell, nextNum := t.time.nextNum } } ∧
      (s.now < v.toNat → t.time.nextBell = v.toNat ∧ t.time.nextNum = 0) ∧
      (v.toNat ≤ s.now → 0 < s.fld Fld.SEQ_BELL_PERIOD → s.now < t.time.nextBell ∧
        t.time.nextBell ≤ s.now + s.fld Fld.SEQ_BELL_PERIOD * 10000 ∧
        t.time.nextBell = v.toNat + t.time.nextNum * (s.fld Fld.SEQ_BELL_PERIOD * 10000)) := by
  let u := s.setFld Fld.SEQ_BELL_ORIGIN_ORIGIN v.toNat
  obtain ⟨a, b, e⟩ := u.schedule_frame v.toNat
  have period : u.periodNs = s.fld Fld.SEQ_BELL_PERIOD * 10000 := by
    rw [State.periodNs, Nat.mul_comm, s.fld_setFld_ne _ _ _ _ _ _ _ (by decide)]
  refine ⟨_, exec_seqBellOriginWrite_idle s who v hb, ?_, ?_, u.schedule_later v.toNat, fun h pos => ?_⟩
  · rw [State.fld_setFld_ne _ _ _ _ _ _ _ _ (by decide), e]
    exact (s.fld_setFld_self Fld.SEQ_BELL_ORIGIN_ORIGIN v.toNat 0 0 (by decide)).trans (Nat.mod_eq_of_lt v.isLt)
  · rw [e]
    rfl
  · rw [← period]
    exact u.schedule_earlier v.toNat h (by rw [period]; omega)

/-- Settles O54: the registers with a command of their own by their place in the tables, the others by the access codes of their fields. -/
theorem registersAreWritten : Obligations.RegistersAreWritten := by
  unfold Obligations.RegistersAreWritten
  intro who v s
  have command {off : BitVec 24} {d : RegDef} {i j : Nat} {t : Host.Outcome State Fault Refusal} (h : regAt off.toNat = some (d, i, j))
      (fitted : d.reg.fitted s.variant i = true) (own : d.reg.shared = false)
      (same : Host.Outcome.next (s.wrReg who d.reg off.toNat i j v).st = t) : exec (.regWrite who off v) s = t :=
    (exec_regWrite_at s who v h fitted own).trans same
  exact ⟨exec_regWrite_nowhere s who v, command rfl rfl rfl rfl, command rfl rfl rfl rfl, command rfl rfl rfl rfl, command rfl rfl rfl rfl,
    command rfl rfl rfl rfl, command rfl rfl rfl rfl, command rfl rfl rfl rfl, command rfl rfl rfl rfl, command rfl rfl rfl rfl,
    command rfl rfl rfl rfl, command rfl rfl rfl rfl, command rfl rfl rfl rfl, exec_regWrite_ident s who v, regWrite_cause s who v,
    regWrite_interval s who v, regWrite_canary s who v, regWrite_decl s who v, regWrite_window s who v, regWrite_token s who v,
    ⟨seqBellWrite_taken s who v, seqBellWrite_refused s who v⟩, seqBellOriginWrite_busy s who v, seqBellOriginWrite_idle s who v⟩

end Sys2Proof.Machine
end

section
/-! What the actions of a bell leave as they found it: time, clocks and resets, the cells of the register file that decide what a bell
does, and, where an action says so, the contexts and the events. -/

namespace Sys2Proof.Machine

/-! ### The watched cells -/

/-- The fields that decide what a bell does to a context, or that tell what it did. -/
def watchedFields : List Fld :=
  [Fld.SFC_PROFILE_SEAM, Fld.SEQ_BELL_PERIOD, Fld.SEQ_BELL_NUM_NUMBER, Fld.SEQ_CTX_CFG_SEAM, Fld.SEQ_CTX_CFG_JOIN, Fld.SEQ_CTX_CFG_SLIP_EN,
    Fld.SEQ_CTX_CFG_SCAN_EN, Fld.SEQ_CTX_SEED_SEED, Fld.SEQ_CTX_SUBBASE_DEPTH, Fld.SEQ_CTX_SUBBASE_BASE, Fld.SEQ_CTX_SUBSEQ_NEXT_SEQ,
    Fld.SEQ_CTX_SUBSEQ_TAKEN, Fld.SEQ_CTX_SEGSTAT_LAST, Fld.SEQ_CTX_CNT_OVERRUNS, Fld.SEQ_CTX_CNT_SLIPS, Fld.RLF_CFG_ROLE, Fld.DBG_TRIG_EN,
    Fld.DBG_SNAP_BELL_BELL, Fld.DBG_STOP_STAT_BELLS_SKIPPED, Fld.MEM_RGN_A_BASE, Fld.MEM_RGN_A_SIZE, Fld.MEM_RGN_B_STATE, Fld.MEM_RGN_B_CLASS,
    Fld.MEM_RGN_B_SEQ, Fld.MEM_RGN_B_CTX]

/-- A cell of one of these fields. No family has more than 256 registers. -/
def watched (k : Nat) : Prop := ∃ G ∈ watchedFields, ∃ a < 256, k = G.key a 0

/-- The cells of `F` with indices below `n` and `m` are none of those of `G`: another low bit, another place in the stride, or another
range of offsets. -/
def Fld.apart (F : Fld) (n m : Nat) (G : Fld) : Bool :=
  F.lo < 64 && G.lo < 64 && (F.lo != G.lo || (F.s1 == G.s1 && F.s2 == 0 && F.base % F.s1 != G.base % F.s1) ||
    decide (F.base + n * F.s1 + m * F.s2 < G.base) || decide (G.base + 255 * G.s1 < F.base))

theorem Fld.key_ne_of_apart {F G : Fld} {n m i j a : Nat} (h : F.apart n m G = true) (hi : i < n) (hj : j < m) (ha : a < 256) :
    F.key i j ≠ G.key a 0 := by
  simp only [Fld.apart, Bool.and_eq_true, Bool.or_eq_true, bne_iff_ne, ne_eq, beq_iff_eq, decide_eq_true_eq] at h
  obtain ⟨⟨lowF, lowG⟩, cases⟩ := h
  intro e
  simp only [Fld.key, Nat.zero_mul, Nat.add_zero] at e
  have low : F.lo = G.lo := by omega
  have off : F.base + i * F.s1 + j * F.s2 = G.base + a * G.s1 := by omega
  have boundI : i * F.s1 ≤ n * F.s1 := Nat.mul_le_mul_right _ (by omega)
  have boundJ : j * F.s2 ≤ m * F.s2 := Nat.mul_le_mul_right _ (by omega)
  have boundA : a * G.s1 ≤ 255 * G.s1 := Nat.mul_le_mul_right _ (by omega)
  rcases cases with ((other | ⟨⟨stride, flat⟩, place⟩) | below) | above
  · exact other low
  · rw [flat, Nat.mul_zero, Nat.add_zero, ← stride] at off
    exact place (by rw [← Nat.add_mul_mod_self_right F.base i F.s1, off, Nat.add_mul_mod_self_right])
  · omega
  · omega

/-- The cells of `F` below the bounds are not watched. -/
theorem not_watched {F : Fld} {i j : Nat} (n m : Nat) (h : watchedFields.all (F.apart n m) = true) (hi : i < n) (hj : j < m) :
    ¬ watched (F.key i j) := by
  rintro ⟨G, hG, a, ha, e⟩
  exact Fld.key_ne_of_apart (List.all_eq_true.mp h G hG) hi hj ha e

theorem watched_trig : watched (Fld.DBG_TRIG_EN.key 0 0) := ⟨_, by decide, 0, by decide, rfl⟩

theorem not_watched_event {k : Nat} (h : k ∈ eventCells) : ¬ watched k := by
  have all : ∀ F ∈ [Fld.LLX_EVT_CNT_MASKED, Fld.LLX_EVT_CNT_LOST, Fld.DBG_TRIG_FIRED, Fld.DBG_STOP_STAT_SCOPE, Fld.DBG_STOP_STAT_CAUSE,
    Fld.DBG_STOP_STAT_STOPS], watchedFields.all (F.apart 1 1) = true := by decide
  obtain ⟨F, hF, rfl⟩ := List.mem_map.mp h
  exact not_watched 1 1 (all F hF) (by decide) (by decide)

/-! ### What an action spares -/

/-- What an action is to leave beside time and resets: cells of the register file, the contexts, the events. -/
structure Spared where
  cells : Nat → Prop
  ctxs : Prop
  events : Prop

/-- Only watched cells are asked for. -/
def Spared.Ok (w : Spared) : Prop := ∀ k, w.cells k → watched k

/-- From `s` to `t` nothing of `w` changes, nor time, the shadows, resets, the relief under way, the counters' enable; an all-stop comes
only with the trigger. -/
structure State.Spares (w : Spared) (s t : State) : Prop where
  time : t.time = s.time
  shadow : t.shadow = s.shadow
  rst : t.rst = s.rst
  variant : t.variant = s.variant
  act : t.rlf.act = s.rlf.act
  pcOn : t.dbg.pcOn = s.dbg.pcOn
  pcPend : t.dbg.pcPend = s.dbg.pcPend
  trig : t.fld Fld.DBG_TRIG_EN = s.fld Fld.DBG_TRIG_EN
  stop : s.fld Fld.DBG_TRIG_EN ≠ 1 → t.dbg.stop = s.dbg.stop
  cells : ∀ (F : Fld) (i j : Nat), w.cells (F.key i j) → t.fld F i j = s.fld F i j
  ctxs : w.ctxs → t.ctxs = s.ctxs
  events : w.events → s.fld Fld.DBG_TRIG_EN ≠ 1 → t.llx = s.llx

/-- The parts of the state that every action of a bell leaves while no register is written. -/
def State.core (s : State) :
    Time × SMap (Option Word) × Rst × Variant × Option Activation × Bool × Option Bool × Option AllStop × SMap Word :=
  (s.time, s.shadow, s.rst, s.variant, s.rlf.act, s.dbg.pcOn, s.dbg.pcPend, s.dbg.stop, s.regs)

namespace State.Spares

variable {w : Spared} {s t u : State}

theorem of_core (h : t.core = s.core) (hc : w.ctxs → t.ctxs = s.ctxs) (hl : w.events → t.llx = s.llx) : Spares w s t := by
  simp only [State.core, Prod.mk.injEq] at h
  obtain ⟨time, shadow, rst, variant, act, pcOn, pcPend, stop, regs⟩ := h
  have fld (F : Fld) (i j : Nat) : t.fld F i j = s.fld F i j := by rw [State.fld, State.fld, regs, variant]
  exact ⟨time, shadow, rst, variant, act, pcOn, pcPend, fld _ _ _, fun _ => stop, fun F i j _ => fld F i j, hc, fun h _ => hl h⟩

theorem refl (w : Spared) (s : State) : Spares w s s := of_core rfl (fun _ => rfl) (fun _ => rfl)

theorem trans (h : Spares w s t) (k : Spares w t u) : Spares w s u where
  time := k.time.trans h.time
  shadow := k.shadow.trans h.shadow
  rst := k.rst.trans h.rst
  variant := k.variant.trans h.variant
  act := k.act.trans h.act
  pcOn := k.pcOn.trans h.pcOn
  pcPend := k.pcPend.trans h.pcPend
  trig := k.trig.trans h.trig
  stop q := (k.stop (by rwa [h.trig])).trans (h.stop q)
  cells F i j c := (k.cells F i j c).trans (h.cells F i j c)
  ctxs c := (k.ctxs c).trans (h.ctxs c)
  events e q := (k.events e (by rwa [h.trig])).trans (h.events e q)

theorem foldl {α : Type} (f : State → α → State) (l : List α) (h : ∀ t, ∀ a ∈ l, Spares w t (f t a)) (s : State) :
    Spares w s (l.foldl f s) := by
  induction l generalizing s with
  | nil => exact refl w s
  | cons a l ih =>
    exact (h s a (List.mem_cons_self ..)).trans (ih (fun t b hb => h t b (List.mem_cons_of_mem _ hb)) _)

theorem ite {c : Prop} [Decidable c] (h : c → Spares w s t) (k : ¬ c → Spares w s u) : Spares w s (if c then t else u) := by
  split
  · exact h ‹_›
  · exact k ‹_›

theorem ctx (h : Spares w s t) (hc : w.ctxs) (c : Cid) : t.ctx c = s.ctx c := by rw [State.ctx, State.ctx, h.ctxs hc]

end State.Spares

/-! ### Registers and counters -/

section
variable {w : Spared} (ok : w.Ok) (s : State)

theorem State.setFld_spares (F : Fld) (v i j : Nat) (hw : ¬ w.cells (F.key i j)) (ht : F.key i j ≠ Fld.DBG_TRIG_EN.key 0 0) :
    State.Spares w s (s.setFld F v i j) where
  time := rfl
  shadow := rfl
  rst := rfl
  variant := rfl
  act := rfl
  pcOn := rfl
  pcPend := rfl
  trig := s.fld_setFld_ne _ _ _ _ _ _ _ ht.symm
  stop _ := rfl
  cells _ _ _ c := s.fld_setFld_ne _ _ _ _ _ _ _ fun e => hw (e ▸ c)
  ctxs _ := rfl
  events _ _ := rfl

include ok in
/-- A write of a cell that is not watched. -/
theorem State.setFld_spares_of (F : Fld) (v i j : Nat) (h : ¬ watched (F.key i j)) : State.Spares w s (s.setFld F v i j) :=
  s.setFld_spares F v i j (fun c => h (ok _ c)) fun e => h (e ▸ watched_trig)

include ok in
theorem State.bump_spares_of (F : Fld) (n i j : Nat) (h : ¬ watched (F.key i j)) : State.Spares w s (s.bump F n i j) :=
  s.setFld_spares_of ok F _ i j h

theorem State.ao_spares (k n : Nat) : State.Spares w s (s.ao k n) := .of_core rfl (fun _ => rfl) (fun _ => rfl)
theorem State.cnt_spares (c : Cid) (k n : Nat) : State.Spares w s (s.cnt c k n) := .of_core rfl (fun _ => rfl) (fun _ => rfl)
theorem State.canary_spares (i n : Nat) : State.Spares w s (s.canary i n) := .of_core rfl (fun _ => rfl) (fun _ => rfl)
theorem State.takeFree_spares : State.Spares w s s.takeFree.2 := .of_core rfl (fun _ => rfl) (fun _ => rfl)

include ok in
theorem State.pcEvent_spares (ev unit n : Nat) : State.Spares w s (s.pcEvent ev unit n) := by
  unfold State.pcEvent
  refine .ite (fun _ => .refl w s) fun _ => .foldl _ _ (fun t i hi => ?_) s
  exact .ite (fun _ => t.bump_spares_of ok _ _ _ _ (not_watched 16 1 (by decide) (List.mem_range.mp hi) (by decide))) fun _ => .refl w t

/-! ### Units -/

theorem State.setStn_spares (i : StationId) (x : Station) : State.Spares w s (s.setStn i x) := .of_core rfl (fun _ => rfl) (fun _ => rfl)
theorem State.setHnd_spares (h : HandleId) (x : Handle) : State.Spares w s (s.setHnd h x) := .of_core rfl (fun _ => rfl) (fun _ => rfl)
theorem State.setQue_spares (h : HubId) (q : QueueId) (x : Queue) : State.Spares w s (s.setQue h q x) :=
  .of_core rfl (fun _ => rfl) (fun _ => rfl)
theorem State.setHub_spares (h : HubId) (x : Hub) : State.Spares w s (s.setHub h x) := .of_core rfl (fun _ => rfl) (fun _ => rfl)
theorem State.setSmp_spares (c : Cid) (x : Sampler) : State.Spares w s (s.setSmp c x) := .of_core rfl (fun _ => rfl) (fun _ => rfl)
theorem State.setStore_spares (k : Nat) (x : Store) : State.Spares w s (s.setStore k x) := .of_core rfl (fun _ => rfl) (fun _ => rfl)
theorem State.setMill_spares (m : Fin 2) (x : Mill) : State.Spares w s (s.setMill m x) := by
  unfold State.setMill
  exact .ite (fun _ => .of_core rfl (fun _ => rfl) (fun _ => rfl)) fun _ => .of_core rfl (fun _ => rfl) (fun _ => rfl)

theorem State.setCtx_spares (hc : ¬ w.ctxs) (c : Cid) (x : Ctx) : State.Spares w s (s.setCtx c x) :=
  .of_core rfl (fun h => absurd h hc) (fun _ => rfl)

theorem State.modBoth_spares (hc : ¬ w.ctxs) (c : Cid) (f : Ctx → Ctx) : State.Spares w s (s.modBoth c f) := by
  unfold State.modBoth
  exact .ite (fun _ => (s.setCtx_spares hc _ _).trans (State.setCtx_spares _ hc _ _)) fun _ => s.setCtx_spares hc _ _

theorem State.stopCtx_spares (hc : ¬ w.ctxs) (c : Cid) (code : BitVec 16) : State.Spares w s (s.stopCtx c code) := s.modBoth_spares hc c _

/-! ### Events and trace -/

/-- A trigger that is not enabled does nothing. -/
theorem State.trigger_off (h : s.fld Fld.DBG_TRIG_EN ≠ 1) (src : Src) (c : Option Cid) (typ : Nat) : s.trigger src c typ = s := by
  have off : s.flag Fld.DBG_TRIG_EN = false := by rw [State.flag, beq_eq_false_iff_ne]; exact h
  simp [State.trigger, off]

/-- What leaves the register file to the events' cells and the contexts alone. -/
theorem State.Spares.of_events {t : State} (ok : w.Ok) (h : s.KeepsFlds t)
    (core : ∃ l r h x, t = { s with llx := l, regs := r, hubs := h, dbg := { s.dbg with stop := x } })
    (stop : s.fld Fld.DBG_TRIG_EN ≠ 1 → t.dbg.stop = s.dbg.stop) (events : w.events → s.fld Fld.DBG_TRIG_EN ≠ 1 → t.llx = s.llx) :
    State.Spares w s t := by
  obtain ⟨l, r, x, d, rfl⟩ := core
  exact ⟨rfl, rfl, rfl, rfl, rfl, rfl, rfl, h _ _ _ (fun m => not_watched_event m watched_trig), stop,
    fun F i j c => h F i j fun m => not_watched_event m (ok _ c), fun _ => rfl, events⟩

include ok in
theorem State.raise_spares (he : ¬ w.events) (code : BitVec 16) (src : Src) (c : Option Cid) (d : Nat) :
    State.Spares w s (s.raise code src c d) := by
  refine .of_events s ok (s.raise_keepsFlds code src c d) (s.raise_frame code src c d) (fun h => ?_) fun h => absurd h he
  obtain ⟨l, r, x, e⟩ := s.raise0_frame code src c d
  have off : (s.raise0 code src c d).fld Fld.DBG_TRIG_EN ≠ 1 := by
    rwa [s.raise0_keepsFlds code src c d _ _ _ fun m => not_watched_event m watched_trig]
  rw [State.raise, State.trigger_off _ off, e]

include ok in
theorem State.trace_spares (src : Src) (c : Option Cid) (typ : Nat) (p : List Byte) : State.Spares w s (s.trace src c typ p) := by
  have quiet (h : s.fld Fld.DBG_TRIG_EN ≠ 1) : ∃ x, s.trace src c typ p = { s with hubs := x } := by
    obtain ⟨x, e⟩ := s.traceRec_frame src c typ p
    have off : (s.traceRec src c typ p).fld Fld.DBG_TRIG_EN ≠ 1 := by
      rwa [s.traceRec_keepsFlds src c typ p _ _ _ fun m => not_watched_event m watched_trig]
    exact ⟨x, by rw [State.trace, State.trigger_off _ off, e]⟩
  refine .of_events s ok (s.trace_keepsFlds src c typ p) (s.trace_frame src c typ p) (fun h => ?_) fun _ h => ?_
  all_goals
    obtain ⟨x, e⟩ := quiet h
    rw [e]

end

end Sys2Proof.Machine
end

section
/-! The parts of a bell's actions that leave the watched cells: device memory, pushes, draws, aborted and cancelled work. -/

namespace Sys2Proof.Machine

section
variable {w : Spared} (ok : w.Ok) (s : State)

/-! ### Device memory (R310, R693) -/

include ok in
theorem State.memLines_spares (a n : Nat) (rd : Bool) : State.Spares w s (s.memLines a n rd) := by
  have counted : State.Spares w s (if a < stkBase then s.ao 4 (lineCount a n) else s.ao 5 (lineCount a n)) :=
    .ite (fun _ => s.ao_spares _ _) fun _ => s.ao_spares _ _
  exact .ite (fun _ => counted.trans (State.pcEvent_spares ok _ _ _ _)) fun _ => counted

theorem State.setMemBits_spares (x : Bits72) : State.Spares w s (s.setMemBits x) := .of_core rfl (fun _ => rfl) (fun _ => rfl)

/-- The unit of an assigned address is one of the six of R304. -/
theorem memUnit_lt {v : Variant} {a u o : Nat} (h : memUnit v a = some (u, o)) : u < 6 := by
  unfold memUnit at h
  dsimp only at h
  split at h
  · split at h
    · next inside =>
      rw [Bool.and_eq_true, decide_eq_true_eq, decide_eq_true_eq] at inside
      have unit := congrArg Prod.fst (Option.some.inj h)
      dsimp only at unit
      omega
    · cases h
  · split at h
    · next inside =>
      rw [Bool.and_eq_true, Bool.and_eq_true, decide_eq_true_eq, decide_eq_true_eq] at inside
      have unit := congrArg Prod.fst (Option.some.inj h)
      dsimp only at unit
      omega
    · cases h

/-- There are 14 memory controllers (R305). -/
theorem memCtrl_lt (v : Variant) (a : Nat) : memCtrl v a < 14 := by
  unfold memCtrl memPart
  cases h : memUnit v a with
  | none => simp
  | some p =>
    obtain ⟨u, o⟩ := p
    have unit := memUnit_lt h
    have stack : o / 4096 % v.stacks < 3 := by
      cases v <;> simp only [Variant.stacks] <;> omega
    dsimp only
    split
    · omega
    · omega

include ok in
theorem State.memError_spares (scrub : Bool) (p : Nat × Ecc) : State.Spares w s (s.memError scrub p) := by
  have ctrl := memCtrl_lt s.variant (8 * p.1)
  have free (F : Fld) (h : watchedFields.all (F.apart 14 1) = true) : ¬ watched (F.key (memCtrl s.variant (8 * p.1)) 0) :=
    not_watched 14 1 h ctrl (by decide)
  have note (t : State) (pos : Nat) (ue : Bool) := ((((State.setFld_spares_of ok t Fld.MEM_HC_ERRADDR_ADDR (8 * p.1) _ 0 (free _ (by decide))).trans
    (State.setFld_spares_of ok _ Fld.MEM_HC_ERRADDR_POSITION pos _ 0 (free _ (by decide)))).trans
    (State.setFld_spares_of ok _ Fld.MEM_HC_ERRADDR_UE ue.toNat _ 0 (free _ (by decide)))).trans
    (State.setFld_spares_of ok _ Fld.MEM_HC_ERRADDR_SCRUB scrub.toNat _ 0 (free _ (by decide))))
  unfold State.memError
  dsimp only
  split
  · exact .refl w s
  · refine .trans ?_ (State.canary_spares _ _ _)
    refine .trans (.trans ((s.setMemBits_spares (s.memBits.fix p.1)).trans ?_) (note _ _ _)) (State.ao_spares _ _ _)
    exact .ite (fun _ => State.bump_spares_of ok _ _ _ _ _ (free _ (by decide))) fun _ => State.bump_spares_of ok _ _ _ _ _ (free _ (by decide))
  · exact ((State.bump_spares_of ok _ _ _ _ _ (free _ (by decide))).trans (note _ _ _)).trans (State.ao_spares _ _ _)

include ok in
theorem State.memRead_spares (a n : Nat) : State.Spares w s (s.memRead a n).st :=
  (s.memLines_spares ok a n true).trans (.foldl _ _ (fun t p _ => t.memError_spares ok false p) _)

include ok in
theorem State.inject_spares (k lo n : Nat) : State.Spares w s (s.inject k lo n) := by
  have armed : State.Spares w s (s.setFld Fld.DBG_PT_ECC_B_ARMED 0) :=
    s.setFld_spares_of ok _ _ _ _ (not_watched 1 1 (by decide) (by decide) (by decide))
  unfold State.inject
  split
  · exact .refl w s
  · split
    · dsimp only
      split <;> exact armed.trans (.of_core rfl (fun _ => rfl) (fun _ => rfl))
    · exact .refl w s

include ok in
theorem State.memWrite_spares (he : ¬ w.events) (a : Nat) (bs : List Byte) : State.Spares w s (s.memWrite a bs) := by
  have found (l : List (Nat × Ecc)) (t : State) : State.Spares w t (l.foldl (fun s p =>
      let s := s.memError false p
      if p.2 == .ue then s.raise Ev.MEM_UE (srcHbm (memCtrl s.variant (8 * p.1))) else s) t) :=
    .foldl _ _ (fun t p _ => (t.memError_spares ok false p).trans
      (.ite (fun _ => State.raise_spares ok _ he _ _ _ _) fun _ => .refl w _)) t
  unfold State.memWrite
  refine .ite (fun _ => .refl w s) fun _ => .trans ?_ (State.inject_spares ok _ _ _ _)
  exact ((found _ s).trans (State.memLines_spares ok _ a bs.length false)).trans (State.setMemBits_spares _ _)

/-! ### Pushes (R314) -/

include ok in
theorem State.pushMissed_spares (k : Nat) (hk : k < 16) (f : PushFate) : State.Spares w s (s.pushMissed k f) := by
  cases f
  · exact s.bump_spares_of ok _ _ _ _ (not_watched 16 1 (by decide) hk (by decide))
  · exact s.bump_spares_of ok _ _ _ _ (not_watched 1 1 (by decide) (by decide) (by decide))
  · exact s.bump_spares_of ok _ _ _ _ (not_watched 16 1 (by decide) hk (by decide))
  · exact .refl w s

theorem State.takeSlot_spares (k : Nat) : State.Spares w s (s.takeSlot k) := s.setStore_spares k _

include ok in
theorem State.pushEnd_spares (he : ¬ w.events) (k : Nat) (weight : BitVec 16) : State.Spares w s (s.pushEnd k weight) :=
  (State.Spares.ite (fun _ => s.memWrite_spares ok he _ _) fun _ => .refl w s).trans (State.takeSlot_spares _ k)

theorem State.setPushes_spares (he : ¬ w.events) (l : List Push) : State.Spares w s (s.setPushes l) :=
  .of_core rfl (fun _ => rfl) fun h => absurd h he

theorem State.freeSlot_spares (p : Push) : State.Spares w s (s.freeSlot p) :=
  .ite (fun _ => s.setStore_spares _ _) fun _ => .ite (fun _ => s.setStore_spares _ _) fun _ => .refl w s

include ok in
theorem State.badPush_spares (he : ¬ w.events) (p : Push) : State.Spares w s (s.badPush p) :=
  ((s.freeSlot_spares p).trans (State.setPushes_spares _ he _)).trans
    (State.bump_spares_of ok _ _ _ _ _ (not_watched 1 1 (by decide) (by decide) (by decide)))

include ok in
theorem State.purgedPush_spares (he : ¬ w.events) (p : Push) : State.Spares w s (s.purgedPush p) :=
  ((s.freeSlot_spares p).trans (State.setPushes_spares _ he _)).trans
    (State.bump_spares_of ok _ _ _ _ _ (not_watched 1 1 (by decide) (by decide) (by decide)))

include ok in
theorem State.denyWrite_spares (he : ¬ w.events) (a : Nat) : State.Spares w s (s.denyWrite a) := by
  refine .trans (State.bump_spares_of ok s Fld.LLX_WR_CNT_DENIED 1 0 0 (not_watched 1 1 (by decide) (by decide) (by decide))) ?_
  refine .ite (fun _ => .refl w _) fun _ => .trans ?_ (State.raise_spares ok _ he _ _ _ _)
  exact .of_core rfl (fun _ => rfl) fun h => absurd h he

include ok in
theorem State.pushPut_spares (he : ¬ w.events) (p : Push) (d : List Byte) : State.Spares w s (s.pushPut p d) := by
  unfold State.pushPut
  refine .ite (fun _ => s.purgedPush_spares ok he p) fun _ => .ite (fun _ => s.badPush_spares ok he p) fun _ => .ite (fun _ => ?_) fun _ => ?_
  · exact ((s.freeSlot_spares p).trans (State.setPushes_spares _ he _)).trans (State.denyWrite_spares ok _ he _)
  · refine .trans (s.memWrite_spares ok he _ d) (.ite (fun _ => State.setPushes_spares _ he _) fun _ => ?_)
    exact (State.Spares.ite (fun _ => State.memWrite_spares ok _ he _ _) fun _ => .refl w _).trans (State.setPushes_spares _ he _)

include ok in
theorem State.releaseLalux_spares (he : ¬ w.events) (p : Push) : State.Spares w s (s.releaseLalux p) := by
  unfold State.releaseLalux
  split
  · exact .ite (fun _ => (s.takeSlot_spares _).trans (State.setPushes_spares _ he _)) fun _ =>
      (s.takeSlot_spares _).trans (State.pushPut_spares ok _ he _ _)
  · exact s.purgedPush_spares ok he p
  · exact s.badPush_spares ok he p

include ok in
theorem State.releasePush_spares (he : ¬ w.events) (k : Nat) (hk : k < 16) (h : HeldPush) : State.Spares w s (s.releasePush k h) := by
  unfold State.releasePush
  cases h with
  | whole x d =>
    dsimp only
    split
    · exact (s.memWrite_spares ok he _ _).trans (State.pushEnd_spares ok _ he _ _)
    · exact s.pushMissed_spares ok k hk _
  | lalux t =>
    dsimp only
    split
    · exact .refl w s
    · exact s.releaseLalux_spares ok he _
  | come p => exact (s.releaseLalux_spares ok he p).trans (State.setPushes_spares _ he _)

include ok in
theorem State.releaseHeld_spares (he : ¬ w.events) (k : Nat) (hk : k < 16) (n : Nat) : State.Spares w s (State.releaseHeld k n s) := by
  induction n generalizing s with
  | zero => exact .refl w s
  | succ n ih =>
    unfold State.releaseHeld
    split
    · exact .refl w s
    · refine .ite (fun _ => .refl w s) fun _ => ?_
      exact ((s.setStore_spares k _).trans (State.releasePush_spares ok _ he k hk _)).trans (ih _)

/-- A store as the bell publishes it (R314). -/
def State.publishHead (s : State) (k : Nat) : State :=
  if s.ssValid k then (s.setFld Fld.MEM_SS_HEAD_HEAD (s.pubHead k) k).setStore k { s.store k with since := 0 } else s

theorem State.publish_eq :
    s.publish = (List.range 16).foldl (fun s k => State.releaseHeld k ((s.publishHead k).store k).held.length (s.publishHead k)) s := rfl

include ok in
theorem State.publishHead_spares (k : Nat) (hk : k < 16) : State.Spares w s (s.publishHead k) :=
  .ite (fun _ => (s.setFld_spares_of ok _ _ _ _ (not_watched 16 1 (by decide) hk (by decide))).trans (State.setStore_spares _ _ _))
    fun _ => .refl w s

include ok in
theorem State.publish_spares (he : ¬ w.events) : State.Spares w s s.publish := by
  rw [State.publish_eq]
  exact .foldl _ _ (fun t k hk => (t.publishHead_spares ok k (List.mem_range.mp hk)).trans
    (State.releaseHeld_spares ok _ he k (List.mem_range.mp hk) _)) s

theorem State.publishHead_held (k l : Nat) : ((s.publishHead k).store l).held = (s.store l).held := by
  unfold State.publishHead
  split
  · by_cases h : l = k
    · subst h; simp
    · rw [State.store_setStore_ne _ _ _ _ h, State.store_setFld]
  · rfl

include ok in
/-- Where no push is held back a publication raises no event. -/
theorem State.publish_quiet (h : ∀ k, (s.store k).held = []) : State.Spares w s s.publish := by
  have one (t : State) (k : Nat) (hk : k < 16) (held : ∀ l, (t.store l).held = []) :
      State.releaseHeld k ((t.publishHead k).store k).held.length (t.publishHead k) = t.publishHead k := by
    rw [State.publishHead_held, held k]
    rfl
  have all (l : List Nat) (hl : ∀ k ∈ l, k < 16) (t : State) (held : ∀ l, (t.store l).held = []) :
      State.Spares w t (l.foldl (fun s k => State.releaseHeld k ((s.publishHead k).store k).held.length (s.publishHead k)) t) := by
    induction l generalizing t with
    | nil => exact .refl w t
    | cons k l ih =>
      have hk := hl k (List.mem_cons_self ..)
      rw [List.foldl_cons, one t k hk held]
      exact (t.publishHead_spares ok k hk).trans
        (ih (fun j hj => hl j (List.mem_cons_of_mem _ hj)) _ fun j => (t.publishHead_held k j).trans (held j))
  rw [State.publish_eq]
  exact all _ (fun k hk => List.mem_range.mp hk) s h

/-! ### Draws (R316 to R322) -/

theorem drawPerm_spares (key : RngKey) (p : DataPos) : State.Spares w s (drawPerm key s p).st := by
  unfold drawPerm
  dsimp only
  split <;> split <;> exact .refl w s

include ok in
theorem drawWeighted_spares (key : RngKey) (k n : Nat) (p : DataPos) (ue : Bool) : State.Spares w s (drawWeighted key k n s p ue).st := by
  induction n generalizing s p ue with
  | zero => exact .refl w s
  | succ n ih =>
    simp only [drawWeighted]
    split
    · exact s.memRead_spares ok _ _
    · exact (s.memRead_spares ok _ _).trans (ih _ _ _)

include ok in
theorem State.draw_spares (c : Cid) (eval : Bool) (key : RngKey) (p : DataPos) : State.Spares w s (s.draw c eval key p).st := by
  unfold State.draw
  dsimp only
  split
  · exact drawPerm_spares s key p
  · split
    · split
      · exact .refl w s
      · exact drawWeighted_spares ok s _ _ _ _ _
    · exact .refl w s

include ok in
theorem State.drawRows_spares (c : Cid) (eval : Bool) (key : RngKey) (n : Nat) : State.Spares w s (s.drawRows c eval key n).2.1 := by
  have count (t : State) (F : Fld) (h : watchedFields.all (F.apart 8 1) = true) : State.Spares w t (t.bump F 1 c.val) :=
    t.bump_spares_of ok F 1 c.val 0 (not_watched 8 1 h c.isLt (by decide))
  induction n with
  | zero => exact .refl w s
  | succ n ih =>
    simp only [State.drawRows]
    split
    · refine .trans ?_ (count _ Fld.MEM_SMP_CNT_EMPTY (by decide))
      refine .trans ?_ (.ite (fun _ => count _ Fld.MEM_SMP_CNT_EPOCHS (by decide)) fun _ => .refl w _)
      exact (ih.trans (State.draw_spares ok _ c eval key _)).trans (State.setSmp_spares _ _ _)
    · refine .trans ?_ (.ite (fun _ => count _ Fld.MEM_SMP_CNT_STALE (by decide)) fun _ => .refl w _)
      refine .trans ?_ (.ite (fun _ => count _ Fld.MEM_SMP_CNT_EPOCHS (by decide)) fun _ => .refl w _)
      exact (ih.trans (State.draw_spares ok _ c eval key _)).trans (State.setSmp_spares _ _ _)

include ok in
theorem State.drawFor_spares (r : Stream) (b : List Word) : State.Spares w s (s.drawFor r b).2.1 := by
  unfold State.drawFor
  dsimp only
  split
  · exact .refl w s
  · exact s.drawRows_spares ok _ _ _ _

end

end Sys2Proof.Machine
end

section
/-! Segments that end (R63, R125, R128, R134, R163): what the aborts, cancellations and commits of a bell leave. -/

namespace Sys2Proof.Machine

section
variable {w : Spared} (ok : w.Ok) (s : State)

/-! ### Streams, passes and handles -/

theorem State.Spares.foldl_fst {α β : Type} (f : State × β → α → State × β) (l : List α) (h : ∀ p a, State.Spares w p.1 (f p a).1) (p : State × β) :
    
    State.Spares w p.1 (l.foldl f p).1 := by
  induction l generalizing p with
  | nil => exact .refl w p.1
  | cons a l ih => exact (h p a).trans (ih _)

theorem State.dropNo_spares (no : Nat) : State.Spares w s (s.dropNo no) := .of_core rfl (fun _ => rfl) (fun _ => rfl)

theorem State.settleProv_spares : State.Spares w s s.settleProv := by
  obtain ⟨h, e⟩ := s.settleProv_frame
  rw [e]
  exact .of_core rfl (fun _ => rfl) (fun _ => rfl)

theorem State.startPurge_spares (h : HandleId) (keep : Bool) : State.Spares w s (s.startPurge h keep) :=
  .of_core rfl (fun _ => rfl) (fun _ => rfl)

theorem State.freeHandle_spares (h : HandleId) : State.Spares w s (s.freeHandle h) := by
  obtain ⟨x, q, e⟩ := s.freeHandle_frame h
  rw [e]
  exact .of_core rfl (fun _ => rfl) (fun _ => rfl)

include ok in
theorem State.bump_queue_spares (F : Fld) (h : HubId) (q : QueueId) (apart : watchedFields.all (F.apart 4 16) = true) :
    State.Spares w s (s.bump F 1 h.val q.val) :=
  s.bump_spares_of ok F 1 _ _ (not_watched 4 16 apart h.isLt q.isLt)

include ok in
theorem State.bump_hub_spares (F : Fld) (h : HubId) (apart : watchedFields.all (F.apart 4 1) = true) : State.Spares w s (s.bump F 1 h.val) :=
  s.bump_spares_of ok F 1 _ _ (not_watched 4 1 apart h.isLt (by decide))

include ok in
theorem State.dropStream_spares (h : HubId) (q : QueueId) : State.Spares w s (s.dropStream h q) := by
  unfold State.dropStream
  dsimp only
  split
  · exact .refl w s
  · refine .trans ?_ (State.bump_hub_spares ok _ _ h (by decide))
    refine .trans ?_ (State.bump_queue_spares ok _ _ h q (by decide))
    refine .trans ?_ (State.bump_queue_spares ok _ _ h q (by decide))
    exact ((s.setQue_spares h q _).trans (State.setHub_spares _ h _)).trans (State.dropNo_spares _ _)

include ok in
theorem State.dropShadow_spares (h : HubId) (q : QueueId) : State.Spares w s (s.dropShadow h q) := by
  unfold State.dropShadow
  dsimp only
  split
  · exact .refl w s
  · refine .trans ?_ (State.bump_hub_spares ok _ _ h (by decide))
    refine .trans ?_ (State.bump_queue_spares ok _ _ h q (by decide))
    refine .trans ?_ (State.bump_queue_spares ok _ _ h q (by decide))
    exact (s.setQue_spares h q _).trans (State.dropNo_spares _ _)

include ok in
theorem State.dropStreams_spares (c : Cid) (p : Stream → Bool) : State.Spares w s (s.dropStreams c p) := by
  refine .foldl _ _ (fun t q _ => ?_) s
  have shadow (b : Bool) : State.Spares w t (if b then t.dropShadow q.1 q.2 else t) :=
    .ite (fun _ => t.dropShadow_spares ok _ _) fun _ => .refl w t
  exact (shadow _).trans (.ite (fun _ => State.dropStream_spares ok _ _ _) fun _ => .refl w _)

include ok in
theorem State.passCut_spares (p : Pass) (words : Nat) : State.Spares w s (s.passCut p words) := by
  refine State.Spares.foldl_fst (w := w) _ _ (fun x n => ?_) (s, words)
  have count (t : State) (k : Nat) : State.Spares w t (t.laneWords k n) :=
    .ite (fun _ => t.bump_spares_of ok _ _ _ _ (not_watched 96 1 (by decide) n.1.isLt (by decide))) fun _ =>
      t.bump_spares_of ok _ _ _ _ (not_watched 96 1 (by decide) n.1.isLt (by decide))
  exact x.1.takeFree_spares.trans (count _ _)

/-! ### Aborts and cancellations (R63, R134, R163) -/

/-- What an abort takes from a context's own state. -/
def Ctx.aborted (x : Ctx) : Ctx :=
  { x with
    wait := .none, lds := [], ldsOrd := 0, ldsPeer := [], flagWait := [], flagOrd := 0, flagPeer := [], stores := [], barriers := [], barOrd := 0
    unbound := [] }

include ok in
/-- An abort of a context: the units' work, then the context's own. -/
theorem State.abortCtx_split (c : Cid) : ∃ t, State.Spares w s t ∧ s.abortCtx c = t.modBoth c Ctx.aborted := by
  unfold State.abortCtx
  extract_lets nos s1 s2 lds s3 s4 goneR goneC goneM gone m0 m1 fab s5
  have passes : State.Spares w s s1 := by
    refine .foldl _ _ (fun t e _ => ?_) s
    split
    · exact .ite (fun _ => t.passCut_spares ok _ _) fun _ => .refl w t
    · exact .refl w t
  have banks : State.Spares w s1 s2 := .foldl _ _ (fun t i _ => t.setStn_spares i _) s1
  have lists : State.Spares w s2 s3 := .of_core rfl (fun _ => rfl) (fun _ => rfl)
  have streams : State.Spares w s3 s4 := s3.dropStreams_spares ok c _
  have units : State.Spares w s4 s5 := by
    clear_value s4
    exact .of_core rfl (fun _ => rfl) (fun _ => rfl)
  exact ⟨s5, (((passes.trans banks).trans lists).trans streams).trans units, rfl⟩

include ok in
theorem State.abortCtx_spares (hc : ¬ w.ctxs) (c : Cid) : State.Spares w s (s.abortCtx c) := by
  obtain ⟨t, h, e⟩ := s.abortCtx_split ok c
  rw [e]
  exact h.trans (t.modBoth_spares hc c _)

include ok in
theorem State.cancelAhead_split (c : Cid) :
    ∃ t, State.Spares w s t ∧ s.cancelAhead c = t.modBoth c fun x => { x with provH := [] } := by
  refine ⟨_, ?_, rfl⟩
  refine State.Spares.trans ?_ (State.setSmp_spares _ _ _)
  refine State.Spares.trans ?_ (State.bump_spares_of ok _ _ _ _ _ (not_watched 8 1 (by decide) (s.lead c).isLt (by decide)))
  refine State.Spares.trans (s.dropStreams_spares ok c _) (.foldl _ _ (fun t p _ => ?_) _)
  exact (t.setHnd_spares _ _).trans (State.startPurge_spares _ _ _)

include ok in
theorem State.cancelAhead_spares (hc : ¬ w.ctxs) (c : Cid) : State.Spares w s (s.cancelAhead c) := by
  obtain ⟨t, h, e⟩ := s.cancelAhead_split ok c
  rw [e]
  exact h.trans (t.modBoth_spares hc c _)

theorem State.endFlight_spares (z : Securing) : State.Spares w s (s.endFlight z) := by
  have ended : State.Spares w s (s.endNo z.no) := (s.dropNo_spares _).trans (State.settleProv_spares _)
  unfold State.endFlight
  exact .ite (fun _ => ended.trans (.of_core rfl (fun _ => rfl) (fun _ => rfl))) fun _ => ended.trans (.of_core rfl (fun _ => rfl) (fun _ => rfl))

include ok in
theorem State.secureDrop_spares (c : Cid) : State.Spares w s (s.secureDrop c) := by
  unfold State.secureDrop
  split
  · refine .ite (fun _ => ?_) fun _ => .refl w s
    exact (s.endFlight_spares _).trans (State.bump_spares_of ok _ _ _ _ _ (not_watched 1 1 (by decide) (by decide) (by decide)))
  · exact .refl w s

theorem State.coefDrop_spares (c : Cid) : State.Spares w s (s.coefDrop c) := .of_core rfl (fun _ => rfl) (fun _ => rfl)

/-- Whether a segment that ends is over its budget (R122). -/
def State.overBudget (s : State) (c : Cid) : Bool :=
  let x := s.ctx (s.lead c)
  x.st == .running && x.inSeg && x.faulted.isNone && !x.overBudget && x.budget != 0 && 64 * x.budget.toNat < s.seqCyc - x.segStart

theorem State.checkBudget_within (c : Cid) (h : s.overBudget c = false) : s.checkBudget c = s := if_neg (Bool.eq_false_iff.mp h)

theorem State.checkBudget_over (c : Cid) (h : s.overBudget c = true) :
    s.checkBudget c = ((s.bump Fld.SEQ_CTX_CNT_OVER_BUDGET 1 (s.lead c).val).raise Ev.SEG_BUDGET (srcSeq (s.lead c)) (some (s.lead c))).modBoth c
      fun x => { x with overBudget := true } := if_pos h

include ok in
theorem State.bump_budget_spares (c : Cid) : State.Spares w s (s.bump Fld.SEQ_CTX_CNT_OVER_BUDGET 1 c.val) :=
  s.bump_spares_of ok _ _ _ _ (not_watched 8 1 (by decide) c.isLt (by decide))

include ok in
theorem State.checkBudget_spares (hc : ¬ w.ctxs) (he : ¬ w.events) (c : Cid) : State.Spares w s (s.checkBudget c) := by
  cases h : s.overBudget c with
  | false => rw [s.checkBudget_within c h]; exact .refl w s
  | true =>
    rw [s.checkBudget_over c h]
    exact ((s.bump_budget_spares ok _).trans (State.raise_spares ok _ he _ _ _ _)).trans (State.modBoth_spares _ hc c _)

include ok in
theorem State.dropSegment_spares (hc : ¬ w.ctxs) (he : ¬ w.events) (c : Cid) : State.Spares w s (s.dropSegment c) :=
  ((((s.checkBudget_spares ok hc he c).trans (State.abortCtx_spares ok _ hc c)).trans (State.cancelAhead_spares ok _ hc c)).trans
    (State.secureDrop_spares ok _ c)).trans (State.coefDrop_spares _ c)

theorem State.stopWith_spares (hc : ¬ w.ctxs) (c : Cid) (code : BitVec 16) : State.Spares w s (s.stopWith c code) :=
  (s.stopCtx_spares hc c code).trans (State.modBoth_spares _ hc c _)

include ok in
theorem State.traceEnd_spares (c : Cid) (len outcome : Nat) : State.Spares w s (s.traceEnd c len outcome) := s.trace_spares ok _ _ _ _

include ok in
theorem State.traceCut_spares (c : Cid) (outcome : Nat) : State.Spares w s (s.traceCut c outcome) :=
  s.takeFree_spares.trans (State.traceEnd_spares ok _ _ _ _)

/-! ### Commits (R125, R133) -/

include ok in
theorem State.flushStores_split (he : ¬ w.events) (c : Cid) :
    ∃ t, State.Spares w s t ∧ s.flushStores c = t.modCtx (s.lead c) fun x => { x with stores := [] } :=
  ⟨_, .foldl _ _ (fun t _ _ => t.memWrite_spares ok he _ _) s, rfl⟩

include ok in
theorem State.lateDraws_spares (c : Cid) : State.Spares w s (s.lateDraws c) := by
  refine .foldl _ _ (fun t p _ => ?_) s
  exact .ite (fun _ => .refl w t) fun _ => (t.drawFor_spares ok _ _).trans (State.setQue_spares _ _ _ _)

theorem State.commitDraws_spares (c : Cid) : State.Spares w s (s.commitDraws c) := s.setSmp_spares c _

theorem State.commitAhead_split (c : Cid) :
    ∃ t, State.Spares w s t ∧ s.commitAhead c = t.modBoth c fun x => { x with provH := [] } := by
  unfold State.commitAhead
  extract_lets mine s1 nos s2 real s3
  have handles : State.Spares w s s1 := .foldl _ _ (fun t p _ => t.setHnd_spares _ _) s
  have accesses : State.Spares w s1 s2 := .of_core rfl (fun _ => rfl) (fun _ => rfl)
  have queues : State.Spares w s2 s3 := .foldl _ _ (fun t p _ => t.setQue_spares _ _ _) s2
  exact ⟨s3, (handles.trans accesses).trans queues, rfl⟩

theorem State.secureCommit_spares (c : Cid) (bell : Nat) : State.Spares w s (s.secureCommit c bell) := by
  unfold State.secureCommit
  split
  · exact .ite (fun _ => .of_core rfl (fun _ => rfl) (fun _ => rfl)) fun _ => .refl w s
  · exact .refl w s

theorem State.coefPut_spares (tgt buf entry field : Nat) (v : Word) : State.Spares w s (s.coefPut tgt buf entry field v) :=
  .of_core rfl (fun _ => rfl) (fun _ => rfl)

theorem State.coefWrite_spares (x : CoefWrite) : State.Spares w s (s.coefWrite x) := by
  unfold State.coefWrite
  refine .ite (fun _ => s.coefPut_spares _ _ _ _ _) fun _ => .ite (fun _ => ?_) fun _ => s.coefPut_spares _ _ _ _ _
  exact .foldl _ _ (fun t f _ => t.coefPut_spares _ _ _ _ _) s

theorem State.coefBell_spares (c : Cid) : State.Spares w s (s.coefBell c) := by
  unfold State.coefBell
  extract_lets mine s1 late
  have swaps : State.Spares w s s1 := by
    refine .foldl _ _ (fun t k _ => ?_) s
    exact .of_core rfl (fun _ => rfl) (fun _ => rfl)
  have writes : State.Spares w s1 (late.foldl State.coefWrite s1) := .foldl _ _ (fun t x _ => t.coefWrite_spares x) s1
  exact (swaps.trans writes).trans (.of_core rfl (fun _ => rfl) (fun _ => rfl))

/-- The context after HALT has committed. -/
def Ctx.gone (x : Ctx) : Ctx := { x with st := .idle, owner := false }

theorem State.halted_split (c : Cid) : ∃ t, State.Spares w s t ∧ s.halted c = t.modBoth c Ctx.gone :=
  ⟨_, .foldl _ _ (fun t _ _ => t.freeHandle_spares _) s, rfl⟩

end

end Sys2Proof.Machine
end

section
/-! The actions of a bell (R30), each as the whole: what it leaves of time, resets and the watched cells. -/

namespace Sys2Proof.Machine

/-- The cells of a context's registers are not the trigger's. -/
theorem segstat_ne_trig (c : Cid) : Fld.SEQ_CTX_SEGSTAT_LAST.key c.val 0 ≠ Fld.DBG_TRIG_EN.key 0 0 := by revert c; decide
theorem overruns_ne_trig (c : Cid) : Fld.SEQ_CTX_CNT_OVERRUNS.key c.val 0 ≠ Fld.DBG_TRIG_EN.key 0 0 := by revert c; decide
theorem slips_ne_trig (c : Cid) : Fld.SEQ_CTX_CNT_SLIPS.key c.val 0 ≠ Fld.DBG_TRIG_EN.key 0 0 := by revert c; decide
theorem seed_ne_trig (c : Cid) : Fld.SEQ_CTX_SEED_SEED.key c.val 0 ≠ Fld.DBG_TRIG_EN.key 0 0 := by revert c; decide
theorem nextSeq_ne_trig (c : Cid) : Fld.SEQ_CTX_SUBSEQ_NEXT_SEQ.key c.val 0 ≠ Fld.DBG_TRIG_EN.key 0 0 := by revert c; decide
theorem taken_ne_trig (c : Cid) : Fld.SEQ_CTX_SUBSEQ_TAKEN.key c.val 0 ≠ Fld.DBG_TRIG_EN.key 0 0 := by revert c; decide
theorem rgnState_ne_trig (r : Nat) (h : r < 256) : Fld.MEM_RGN_B_STATE.key r 0 ≠ Fld.DBG_TRIG_EN.key 0 0 := by
  simp only [Fld.key]
  omega

/-- The cells that the judgement of a context writes although they are watched (R125, R128, R129). -/
def judgedCells (c : Cid) : List Nat :=
  [Fld.SEQ_CTX_SEGSTAT_LAST.key c.val 0, Fld.SEQ_CTX_CNT_OVERRUNS.key c.val 0, Fld.SEQ_CTX_CNT_SLIPS.key c.val 0]

/-- The cells that the scan of a context's slot writes although they are watched (R141). -/
def scannedCells (c : Cid) : List Nat :=
  [Fld.SEQ_CTX_SEED_SEED.key c.val 0, Fld.SEQ_CTX_SUBSEQ_NEXT_SEQ.key c.val 0, Fld.SEQ_CTX_SUBSEQ_TAKEN.key c.val 0]

section
variable {w : Spared} (ok : w.Ok) (hc : ¬ w.ctxs) (he : ¬ w.events) (s : State)

theorem State.bump_spares (F : Fld) (n i j : Nat) (hw : ¬ w.cells (F.key i j)) (ht : F.key i j ≠ Fld.DBG_TRIG_EN.key 0 0) :
    State.Spares w s (s.bump F n i j) := s.setFld_spares F _ i j hw ht

/-! ### Action 1: judgement -/

/-- The context's own state as its segment commits (R125). -/
def Ctx.committed (x : Ctx) : Ctx :=
  let p := if x.evalEnded then { x.prog with evalCnt := x.prog.evalCnt + 1 } else x.prog
  { x with
    prog := p, image := p, tagImage := x.tags, pastReturn := false, millUe := false, slipped := false, inSeg := false
    atStart := false, newstep := false, evalEnded := false, ended := false, halting := false, emptySeg := false }

/-- A commit, part by part: the segment's results, the context's own state, its registers and counts, a halt. -/
theorem State.commitCtx_eq (c : Cid) :
    s.commitCtx c =
      let t := ((s.flushStores c).lateDraws c).commitDraws c |>.commitAhead c
      let y := t.ctx c
      let u := (t.modBoth c Ctx.committed).setFld Fld.SEQ_CTX_SEGSTAT_LAST y.segLen c.val
      let v := u.setFld Fld.SEQ_CTX_SEGSTAT_MAX (max y.segLen (u.fld Fld.SEQ_CTX_SEGSTAT_MAX c.val)) c.val
      let z := ((((v.secureCommit c v.bellNow).coefBell c).ao 10 1).cnt c 5 1).traceEnd c y.segLen 0
      if y.halting then z.halted c else z := rfl

include ok he in
/-- The results of a segment become visible (R133). -/
theorem State.commitResults_split (c : Cid) :
    ∃ t u, State.Spares w s t ∧ State.Spares w (t.modCtx (s.lead c) fun x => { x with stores := [] }) u ∧
      (((s.flushStores c).lateDraws c).commitDraws c).commitAhead c = u.modBoth c fun x => { x with provH := [] } := by
  obtain ⟨t, flushed, e⟩ := s.flushStores_split ok he c
  obtain ⟨u, ahead, e2⟩ := (((s.flushStores c).lateDraws c).commitDraws c).commitAhead_split c
  refine ⟨t, u, flushed, ?_, e2⟩
  rw [← e]
  exact ((State.lateDraws_spares ok _ c).trans (State.commitDraws_spares _ c)).trans ahead

include ok in
theorem State.segMax_spares (v : Nat) (c : Cid) : State.Spares w s (s.setFld Fld.SEQ_CTX_SEGSTAT_MAX v c.val) :=
  s.setFld_spares_of ok _ _ _ _ (not_watched 8 1 (by decide) c.isLt (by decide))

include ok in
/-- What a commit does past the context's own state and SEGSTAT. -/
theorem State.commitCounts_spares (c : Cid) (n bell len : Nat) :
    State.Spares w s ((((((s.setFld Fld.SEQ_CTX_SEGSTAT_MAX n c.val).secureCommit c bell).coefBell c).ao 10 1).cnt c 5 1).traceEnd c len 0) :=
  (((((s.segMax_spares ok n c).trans (State.secureCommit_spares _ c _)).trans (State.coefBell_spares _ c)).trans (State.ao_spares _ _ _)).trans
    (State.cnt_spares _ _ _ _)).trans (State.traceEnd_spares ok _ c _ _)

include ok hc he in
theorem State.commitCtx_spares (c : Cid) (seg : ¬ w.cells (Fld.SEQ_CTX_SEGSTAT_LAST.key c.val 0)) : State.Spares w s (s.commitCtx c) := by
  obtain ⟨t, u, h1, h2, e⟩ := s.commitResults_split ok he c
  have results : State.Spares w s ((((s.flushStores c).lateDraws c).commitDraws c).commitAhead c) := by
    rw [e]
    exact (h1.trans ((t.setCtx_spares hc _ _).trans h2)).trans (State.modBoth_spares _ hc c _)
  have noted := (results.trans (State.modBoth_spares _ hc c Ctx.committed)).trans
    (State.setFld_spares _ Fld.SEQ_CTX_SEGSTAT_LAST (((((s.flushStores c).lateDraws c).commitDraws c).commitAhead c).ctx c).segLen c.val 0 seg
      (segstat_ne_trig c))
  rw [State.commitCtx_eq]
  refine (noted.trans (State.commitCounts_spares ok _ c _ _ _)).trans (.ite (fun _ => ?_) fun _ => .refl w _)
  obtain ⟨v, h, e⟩ := State.halted_split (w := w) _ c
  rw [e]
  exact h.trans (State.modBoth_spares _ hc c _)

include ok hc he in
theorem State.stopFaulted_spares (c : Cid) (code : BitVec 16) : State.Spares w s (s.stopFaulted c code) := by
  unfold State.stopFaulted
  refine .ite (fun _ => s.modBoth_spares hc c _) fun _ => ?_
  exact (((s.dropSegment_spares ok hc he c).trans (State.ao_spares _ _ _)).trans (State.traceCut_spares ok _ c _)).trans
    (State.stopWith_spares _ hc c _)

include ok hc he in
theorem State.overrun_spares (c : Cid) (count : ¬ w.cells (Fld.SEQ_CTX_CNT_OVERRUNS.key c.val 0)) : State.Spares w s (s.overrun c) := by
  have counted := (s.dropSegment_spares ok hc he c).trans (State.bump_spares _ Fld.SEQ_CTX_CNT_OVERRUNS 1 c.val 0 count (overruns_ne_trig c))
  have raised := counted.trans (State.raise_spares ok _ he Ev.SEG_OVERRUN (srcSeq c) (some c) 0)
  exact (((raised.trans (State.ao_spares _ _ _)).trans (State.traceCut_spares ok _ c _)).trans (State.stopWith_spares _ hc c _)).trans
    (State.modBoth_spares _ hc c _)

include ok hc he in
theorem State.slip_spares (c : Cid) (slips : ¬ w.cells (Fld.SEQ_CTX_CNT_SLIPS.key c.val 0)) : State.Spares w s (s.slip c) := by
  have counted := (s.modBoth_spares hc c fun x => { x with slipped := true }).trans
    (State.bump_spares _ Fld.SEQ_CTX_CNT_SLIPS 1 c.val 0 slips (slips_ne_trig c))
  exact ((counted.trans (State.raise_spares ok _ he Ev.SEG_SLIP (srcSeq c) (some c) 0)).trans (State.ao_spares _ _ _)).trans
    (State.traceCut_spares ok _ c _)

include ok hc he in
theorem State.judge_spares (c : Cid) (free : ∀ k ∈ judgedCells c, ¬ w.cells k) : State.Spares w s (s.judge c) := by
  unfold State.judge
  dsimp only
  split
  · exact s.stopFaulted_spares ok hc he c _
  · refine .ite (fun _ => s.commitCtx_spares ok hc he c (free _ (by simp [judgedCells]))) fun _ => .ite (fun _ => .refl w s) fun _ => ?_
    exact .ite (fun _ => s.slip_spares ok hc he c (free _ (by simp [judgedCells]))) fun _ =>
      s.overrun_spares ok hc he c (free _ (by simp [judgedCells]))

/-! ### Action 3: resets, commands, ownership -/

theorem State.purgeRegion_spares (r : Nat) (hr : r < 256) (free : ¬ w.cells (Fld.MEM_RGN_B_STATE.key r 0)) :
    State.Spares w s (s.purgeRegion r) := by
  have pending : State.Spares w s (s.setFld Fld.MEM_RGN_B_STATE 2 r) := s.setFld_spares _ _ _ _ free (rgnState_ne_trig r hr)
  unfold State.purgeRegion
  dsimp only
  split
  · exact pending.trans (.of_core rfl (fun _ => rfl) (fun _ => rfl))
  · exact pending.trans (State.setMill_spares _ _ _)

theorem State.purgeRegions_spares (c : Cid) (free : ∀ r < 256, ¬ w.cells (Fld.MEM_RGN_B_STATE.key r 0)) :
    State.Spares w s (s.purgeRegions c) := by
  refine .foldl _ _ (fun t r hr => ?_) s
  have inside := List.mem_range.mp hr
  exact .ite (fun _ => t.purgeRegion_spares r inside (free r inside)) fun _ => .refl w t

theorem State.dropVus_spares (gone : Update → Bool) : State.Spares w s (s.dropVus gone) := by
  unfold State.dropVus
  extract_lets nos s1
  have queues : State.Spares w s s1 := .foldl _ _ (fun t u _ =>
    .ite (fun _ => .foldl _ _ (fun t i _ => t.setStn_spares i _) t) fun _ => .refl w t) s
  exact queues.trans (.of_core rfl (fun _ => rfl) (fun _ => rfl))

/-- The context's own state after KILL. -/
def Ctx.killed (e : BitVec 16) (x : Ctx) : Ctx :=
  { x with st := .purging, owner := false, stopEvent := e, cmd := 0, tags := [], tagImage := [], pastReturn := false }

/-- KILL: the segment is dropped, the units' work follows, then the context's own state. -/
theorem State.killCtx_split (c : Cid) (free : ∀ r < 256, ¬ w.cells (Fld.MEM_RGN_B_STATE.key r 0)) :
    ∃ t e, State.Spares w (s.dropSegment c) t ∧ s.killCtx c = (t.stopCtx c 0).modBoth c (Ctx.killed e) := by
  unfold State.killCtx
  extract_lets l s1 mine gone m0 m1 fab s2 hs s3 s4
  clear_value (dropped : s1 = s.dropSegment c)
  have updates : State.Spares w s1 s2 := by
    refine .trans ?_ (State.dropVus_spares _ gone)
    exact .of_core rfl (fun _ => rfl) (fun _ => rfl)
  clear_value s2
  have accesses : State.Spares w s2 s3 := .of_core rfl (fun _ => rfl) (fun _ => rfl)
  have handles : State.Spares w s3 s4 :=
    .foldl _ _ (fun t p _ => .ite (fun _ => .refl w t) fun _ => t.startPurge_spares _ _) s3
  have purged : State.Spares w s4 (s4.purgeRegions l) := s4.purgeRegions_spares l free
  have units : State.Spares w s1 s4 := (updates.trans accesses).trans handles
  rw [← dropped]
  exact ⟨s4.purgeRegions l, (s4.ctx l).stopEvent, units.trans purged, rfl⟩

end

end Sys2Proof.Machine
end

section
/-! The actions of a bell after the judgement (R30), each as the whole: what it leaves of time, resets and the watched cells. -/

namespace Sys2Proof.Machine

section
variable {w : Spared} (ok : w.Ok) (hc : ¬ w.ctxs) (he : ¬ w.events) (s : State)

/-! ### Action 3: resets, commands, ownership -/

include ok hc he in
theorem State.killCtx_spares (c : Cid) (free : ∀ r < 256, ¬ w.cells (Fld.MEM_RGN_B_STATE.key r 0)) : State.Spares w s (s.killCtx c) := by
  obtain ⟨t, e, units, eq⟩ := s.killCtx_split c free
  rw [eq]
  exact (((s.dropSegment_spares ok hc he c).trans units).trans (t.stopCtx_spares hc c 0)).trans (State.modBoth_spares _ hc c _)

include ok hc he in
theorem State.resetCtx_spares (c : Cid) (free : ∀ r < 256, ¬ w.cells (Fld.MEM_RGN_B_STATE.key r 0)) : State.Spares w s (s.resetCtx c) := by
  unfold State.resetCtx
  extract_lets set x s1 here s2 s3
  have killed : State.Spares w s s1 := .ite (fun _ => .refl w s) fun _ => s.killCtx_spares ok hc he c free
  clear_value s1
  have lists : State.Spares w s1 s2 := .of_core rfl (fun _ => rfl) (fun _ => rfl)
  have stations : State.Spares w s2 s3 := .foldl _ _ (fun t i _ => t.setStn_spares i _) s2
  exact ((killed.trans lists).trans stations).trans (s3.modBoth_spares hc c _)

include hc in
theorem State.stopCmd_spares (c : Cid) : State.Spares w s (s.stopCmd c) :=
  (s.takeFree_spares.trans (State.stopWith_spares _ hc c _)).trans (State.modBoth_spares _ hc c _)

include ok hc he in
theorem State.resume_spares (act : s.rlf.act = none) (c : Cid) : State.Spares w s (s.resume c) := by
  unfold State.resume
  refine .ite (fun _ => s.raise_spares ok he _ _ _ _) fun _ => ?_
  have ready := s.modBoth_spares hc c fun x => { x with st := .ready }
  have none' : (s.modBoth c fun x => { x with st := .ready }).rlf.act = none := ready.act.trans act
  simp only [none']
  exact ready

include ok hc he in
theorem State.preempt_spares (c d : Cid) : State.Spares w s (s.preempt c d) := by
  unfold State.preempt
  extract_lets slips n e s1 s2
  have dropped : State.Spares w s s1 := by
    refine .ite (fun _ => ?_) fun _ => .refl w s
    exact ((s.dropSegment_spares ok hc he c).trans (State.stopWith_spares _ hc c _)).trans (State.modBoth_spares _ hc c _)
  exact (dropped.trans (s1.modBoth_spares hc c _)).trans (s2.modBoth_spares hc d _)

include ok hc he in
theorem State.takeCmd_spares (act : s.rlf.act = none) (c : Cid) (free : ∀ r < 256, ¬ w.cells (Fld.MEM_RGN_B_STATE.key r 0)) :
    State.Spares w s (s.takeCmd c) := by
  unfold State.takeCmd
  extract_lets x s1 bad active
  have taken : State.Spares w s s1 := s.modBoth_spares hc c _
  have refused : State.Spares w s1 bad := s1.raise_spares ok he _ _ _ _
  refine taken.trans ?_
  split
  · exact .refl w s1
  · exact .ite (fun _ => s1.stopCmd_spares hc c) fun _ => refused
  · exact .ite (fun _ => s1.resume_spares ok hc he (taken.act.trans act) c) fun _ => refused
  · exact .ite (fun _ => refused) fun _ => s1.killCtx_spares ok hc he c free
  · exact .ite (fun _ => s1.preempt_spares ok hc he c _) fun _ => refused
  · exact refused

include ok hc he in
theorem State.badSeam_spares (c : Cid) : State.Spares w s (s.badSeam c) := by
  unfold State.badSeam
  refine .ite (fun _ => ?_) fun _ => .refl w s
  exact ((s.stopWith_spares hc c _).trans (State.modBoth_spares _ hc c _)).trans (State.raise_spares ok _ he _ _ _ _)

include hc in
theorem State.settle_spares (keep : Bool) (c : Cid) : State.Spares w s (s.settle keep c) := by
  unfold State.settle
  extract_lets own free s1
  have left : State.Spares w s s1 := by
    unfold s1
    clear_value own
    cases own with
    | none => exact .refl w s
    | some d => exact s.modBoth_spares hc d _
  exact .ite (fun _ => left.trans (s1.modBoth_spares hc c _)) fun _ => .refl w s

/-- Where no domain reset waited none is done. -/
theorem State.assertForced_none (h : s.rst.forced = []) : s.assertForced = s := by
  have same : { s.rst with forced := [] } = s.rst := by rw [← h]
  rw [State.assertForced, h, List.foldl_nil, same]

include ok hc he in
theorem State.settleAll_spares (act : s.rlf.act = none) (forced : s.rst.forced = [])
    (free : ∀ r < 256, ¬ w.cells (Fld.MEM_RGN_B_STATE.key r 0)) : State.Spares w s s.settleAll := by
  have commands (l : List Cid) (t : State) (act : t.rlf.act = none) : State.Spares w t (l.foldl State.takeCmd t) := by
    induction l generalizing t with
    | nil => exact .refl w t
    | cons c l ih =>
      have one := t.takeCmd_spares ok hc he act c free
      exact one.trans (ih _ (one.act.trans act))
  unfold State.settleAll
  extract_lets cs s1 s2 s3
  have resets : State.Spares w s s1 := .foldl _ _ (fun t c _ => .ite (fun _ => t.resetCtx_spares ok hc he c free) fun _ => .refl w t) s
  have taken : State.Spares w s1 s2 := commands cs s1 (resets.act.trans act)
  have seams : State.Spares w s2 s3 := .foldl _ _ (fun t c _ => t.badSeam_spares ok hc he c) s2
  have owners : State.Spares w s3 (cs.foldl (fun s c => s.settle false c) s3) := .foldl _ _ (fun t c _ => t.settle_spares hc false c) s3
  have whole := ((resets.trans taken).trans seams).trans owners
  rw [State.assertForced_none _ ((congrArg Rst.forced whole.rst).trans forced)]
  exact whole

/-! ### Action 4: heartbeats, offset, the anchor -/

theorem State.fab_spares (f : Fabric) : State.Spares w s { s with fab := f } := .of_core rfl (fun _ => rfl) (fun _ => rfl)
theorem State.token_spares (t : Token) : State.Spares w s { s with token := t } := .of_core rfl (fun _ => rfl) (fun _ => rfl)
theorem State.hold_spares (b : Bool) : State.Spares w s { s with rlf := { s.rlf with hold := b } } := .of_core rfl (fun _ => rfl) (fun _ => rfl)
theorem State.ownCounts_spares (x : SMap Nat) : State.Spares w s { s with dbg := { s.dbg with cnt := x } } :=
  .of_core rfl (fun _ => rfl) (fun _ => rfl)

theorem State.queueAt_spares (p : PortId) (m : FMsg) (cls : BitVec 2) (own : Option Cid) : State.Spares w s (s.queueAt p m cls own) :=
  s.fab_spares _

theorem State.sendHeartbeats_spares (k : Nat) : State.Spares w s (s.sendHeartbeats k) := by
  unfold State.sendHeartbeats
  extract_lets parent w5
  exact .foldl _ _ (fun t p _ => t.queueAt_spares _ _ _ _) s

theorem State.countMissed_spares (k : Nat) : State.Spares w s (s.countMissed k) := by
  unfold State.countMissed
  extract_lets s1
  have counted : State.Spares w s s1 := by
    refine .foldl _ _ (fun t dir _ => .ite (fun _ => .refl w t) fun _ => .ite (fun _ => ?_) fun _ => ?_) s
    · exact t.fab_spares _
    · exact (t.canary_spares 7 1).trans (State.fab_spares _ _)
  exact counted.trans (s1.fab_spares _)

theorem State.rejoinBell_none (act : s.rlf.act = none) : s.rejoinBell = s := by rw [State.rejoinBell, act]

theorem State.linkBell_spares (act : s.rlf.act = none) (k : Nat) :
    State.Spares w s ((s.sendHeartbeats k).countMissed k).countOffset.rejoinBell := by
  have links : State.Spares w s ((s.sendHeartbeats k).countMissed k).countOffset :=
    ((s.sendHeartbeats_spares k).trans (State.countMissed_spares _ k)).trans (State.fab_spares _ _)
  rw [State.rejoinBell_none _ (links.act.trans act)]
  exact links

/-! ### Actions 5 and 6: new work, segments -/

include hc in
theorem State.takeWork_spares (c : Cid) (h : List Byte) (free : ∀ k ∈ scannedCells c, ¬ w.cells k) : State.Spares w s (s.takeWork c h) := by
  unfold State.takeWork
  extract_lets st s1 s2 s3
  have fresh : State.Spares w s s1 := s.modBoth_spares hc c _
  have numbered : State.Spares w s1 s2 := by
    refine State.Spares.trans ?_ (State.setFld_spares _ Fld.SEQ_CTX_SUBSEQ_NEXT_SEQ _ c.val 0 (free _ (by simp [scannedCells])) (nextSeq_ne_trig c))
    exact s1.setFld_spares _ _ _ _ (free _ (by simp [scannedCells])) (seed_ne_trig c)
  have counted : State.Spares w s2 s3 := s2.bump_spares _ _ _ _ (free _ (by simp [scannedCells])) (taken_ne_trig c)
  exact ((fresh.trans numbered).trans counted).trans (s3.ownCounts_spares _)

include ok hc he in
theorem State.scan_spares (c : Cid) (free : ∀ k ∈ scannedCells c, ¬ w.cells k) : State.Spares w s (s.scan c) := by
  unfold State.scan
  extract_lets x seq s1
  have used : State.Spares w s s1 := s.modBoth_spares hc c _
  split
  · exact used
  · refine used.trans (.ite (fun _ => .refl w s1) fun _ =>
      .ite (fun _ => s1.takeWork_spares hc c _ free) fun _ => .ite (fun _ => .refl w s1) fun _ => ?_)
    exact (s1.modBoth_spares hc c _).trans (State.raise_spares ok _ he _ _ _ _)

include ok hc he in
theorem State.begin_spares (c : Cid) : State.Spares w s (s.begin c) := by
  unfold State.begin
  extract_lets x s1 tok s2 rlf s3
  refine .ite (fun _ => .refl w s) fun _ => .ite (fun _ => ?_) fun _ => .ite (fun _ => s.modBoth_spares hc c _) fun _ => ?_
  · exact ((s.stopWith_spares hc c _).trans (State.modBoth_spares _ hc c _)).trans (State.raise_spares ok _ he _ _ _ _)
  · have own : State.Spares w s s1 := s.modBoth_spares hc c _
    clear_value s1
    have token : State.Spares w s1 s2 := .ite (fun _ => s1.token_spares _) fun _ => .refl w s1
    clear_value s2
    have hold : State.Spares w s2 s3 := .ite (fun _ => s2.hold_spares _) fun _ => .refl w s2
    clear_value s3
    exact ((own.trans token).trans hold).trans (s3.trace_spares ok _ _ _ _)

/-! ### Action 1, first part: the counters' copies -/

include ok in
/-- The copies of the counters, then their number (R636). -/
theorem State.snapCounters_split : ∃ t, State.Spares w s t ∧ s.snapCounters = t.setFld Fld.DBG_SNAP_BELL_BELL t.bellNow := by
  unfold State.snapCounters
  extract_lets live s1 own s2
  have device : State.Spares w s s1 := .foldl _ _ (fun t k hk =>
    t.setFld_spares_of ok _ _ _ _ (not_watched 12 1 (by decide) (List.mem_range.mp hk) (by decide))) s
  have contexts : State.Spares w s1 s2 := .foldl _ _ (fun t c hc => .foldl _ _ (fun t k hk =>
    t.setFld_spares_of ok _ _ _ _ (not_watched 8 6 (by decide) (List.mem_range.mp hc) (List.mem_range.mp hk))) t) s1
  exact ⟨s2, device.trans contexts, rfl⟩

include ok in
theorem State.snapCounters_spares (snap : ¬ w.cells (Fld.DBG_SNAP_BELL_BELL.key 0 0)) : State.Spares w s s.snapCounters := by
  obtain ⟨t, copied, e⟩ := s.snapCounters_split ok
  rw [e]
  exact copied.trans (t.setFld_spares _ _ _ _ snap (by decide))

end

end Sys2Proof.Machine
end

section
/-! The time that passes before a bell (R558): counts and clocks, and no watched cell. -/

namespace Sys2Proof.Machine

/-- Time has passed from `s` to `t`: the registers beside the watched cells, live counters, stations' counts, the clocks and the surge
credit may differ, nothing else. -/
structure State.Ages (s t : State) : Prop where
  form : ∃ g a c x n y z p, t = { s with
    regs := g, stations := x, dbg := { s.dbg with ao := a, cnt := c }, time := { s.time with ns := n, cyc := y, strCyc := z }
    pwr := { s.pwr with credit := p } }
  cells : ∀ (F : Fld) (i j : Nat), watched (F.key i j) → t.fld F i j = s.fld F i j

namespace State.Ages

variable {s t u : State}

theorem refl (s : State) : Ages s s := ⟨⟨_, _, _, _, _, _, _, _, rfl⟩, fun _ _ _ _ => rfl⟩

theorem trans (h : Ages s t) (k : Ages t u) : Ages s u := by
  obtain ⟨⟨g, a, c, x, n, y, z, p, e⟩, kept⟩ := h
  obtain ⟨⟨g', a', c', x', n', y', z', p', e'⟩, kept'⟩ := k
  exact ⟨⟨g', a', c', x', n', y', z', p', by rw [e', e]⟩, fun F i j w => (kept' F i j w).trans (kept F i j w)⟩

theorem foldl {α : Type} (f : State → α → State) (l : List α) (h : ∀ t, ∀ a ∈ l, Ages t (f t a)) (s : State) : Ages s (l.foldl f s) := by
  induction l generalizing s with
  | nil => exact refl s
  | cons a l ih => exact (h s a (List.mem_cons_self ..)).trans (ih (fun t b hb => h t b (List.mem_cons_of_mem _ hb)) _)

theorem ite {c : Prop} [Decidable c] (h : c → Ages s t) (k : ¬ c → Ages s u) : Ages s (if c then t else u) := by
  split
  · exact h ‹_›
  · exact k ‹_›

end State.Ages

section
variable (s : State)

theorem State.bump_ages (F : Fld) (n i j : Nat) (h : ¬ watched (F.key i j)) : s.Ages (s.bump F n i j) :=
  ⟨⟨_, s.dbg.ao, s.dbg.cnt, s.stations, s.time.ns, s.time.cyc, s.time.strCyc, s.pwr.credit, rfl⟩,
    fun _ _ _ w => s.fld_setFld_ne _ _ _ _ _ _ _ fun e => h (e ▸ w)⟩

theorem State.ao_ages (k n : Nat) : s.Ages (s.ao k n) :=
  ⟨⟨s.regs, _, s.dbg.cnt, s.stations, s.time.ns, s.time.cyc, s.time.strCyc, s.pwr.credit, rfl⟩, fun _ _ _ _ => rfl⟩

theorem State.cnt_ages (c : Cid) (k n : Nat) : s.Ages (s.cnt c k n) :=
  ⟨⟨s.regs, s.dbg.ao, _, s.stations, s.time.ns, s.time.cyc, s.time.strCyc, s.pwr.credit, rfl⟩, fun _ _ _ _ => rfl⟩

theorem State.modStn_ages (i : StationId) (f : Station → Station) : s.Ages (s.modStn i f) :=
  ⟨⟨s.regs, s.dbg.ao, s.dbg.cnt, _, s.time.ns, s.time.cyc, s.time.strCyc, s.pwr.credit, rfl⟩, fun _ _ _ _ => rfl⟩

theorem State.clock_ages (n : Word) (y z : SMap Nat) : s.Ages { s with time := { s.time with ns := n, cyc := y, strCyc := z } } :=
  ⟨⟨s.regs, s.dbg.ao, s.dbg.cnt, s.stations, n, y, z, s.pwr.credit, rfl⟩, fun _ _ _ _ => rfl⟩

theorem State.credit_ages (p : Nat) : s.Ages { s with pwr := { s.pwr with credit := p } } :=
  ⟨⟨s.regs, s.dbg.ao, s.dbg.cnt, s.stations, s.time.ns, s.time.cyc, s.time.strCyc, p, rfl⟩, fun _ _ _ _ => rfl⟩

theorem State.pcEvent_ages (ev unit n : Nat) : s.Ages (s.pcEvent ev unit n) := by
  unfold State.pcEvent
  refine .ite (fun _ => .refl s) fun _ => .foldl _ _ (fun t i hi => ?_) s
  exact .ite (fun _ => t.bump_ages _ _ _ _ (not_watched 16 1 (by decide) (List.mem_range.mp hi) (by decide))) fun _ => .refl t

theorem State.countUse_ages (u : Nat) (i : StationId) : s.Ages (State.countUse u i s) := by
  unfold State.countUse
  split
  · exact (s.ao_ages 1 u).trans (State.cnt_ages _ _ 1 u)
  · exact s.ao_ages 1 u

theorem State.countHead_ages (u : Nat) (i : StationId) : s.Ages (State.countHead u i s) := by
  unfold State.countHead
  split
  · refine .ite (fun _ => .refl s) fun _ => ?_
    have waited (w : Nat) (c : Cid) : s.Ages ((s.modStn i fun y => { y with headWait := w + u }).cnt c 2 u) :=
      (s.modStn_ages i _).trans (State.cnt_ages _ _ 2 u)
    exact .ite (fun _ => (waited _ _).trans (State.pcEvent_ages _ _ _ _)) fun _ => waited _ _
  · exact .refl s

theorem State.holdUnits_ages (u : Nat) (i : StationId) (h : HoldCause) : s.Ages (State.holdUnits u i s h) := by
  have held (t : Nat) : s.Ages ((s.modStn i fun x => { x with holdCyc := t % 5000 }).ao 3 (t / 5000)) :=
    (s.modStn_ages i _).trans (State.ao_ages _ 3 _)
  cases h
  case throttle => exact (held _).trans (State.bump_ages _ _ _ _ _ (not_watched 96 1 (by decide) i.isLt (by decide)))
  case crossing => exact (held _).trans (State.bump_ages _ _ _ _ _ (not_watched 96 1 (by decide) i.isLt (by decide)))
  case debug => exact held _

theorem State.countHold_ages (u g : Nat) (i : StationId) : s.Ages (State.countHold u g i s) := by
  unfold State.countHold
  split
  · exact .ite (fun _ => .refl s) fun _ => s.holdUnits_ages g i _
  · exact s.holdUnits_ages u i _

theorem State.countStn_ages (u g k : Nat) : s.Ages (State.countStn u g s k) :=
  ((s.countUse_ages u _).trans (State.countHead_ages _ u _)).trans (State.countHold_ages _ u g _)

theorem State.countRegion_ages (u r : Nat) : s.Ages (State.countRegion u r s) := by
  unfold State.countRegion
  extract_lets fb time t v
  have cycles : s.Ages t := s.clock_ages s.time.ns _ _
  have fallbacks : t.Ages v := .ite (fun _ => .refl t) fun _ => t.pcEvent_ages _ _ _
  refine (cycles.trans fallbacks).trans (.ite (fun _ => v.pcEvent_ages _ _ _) fun _ => ?_)
  exact .ite (fun _ => v.pcEvent_ages _ _ _) fun _ => .refl v

theorem advRegion_ages (dns r : Nat) : s.Ages (advRegion dns s r) := by
  unfold advRegion
  refine .ite (fun _ => .refl s) fun _ => .ite (fun _ => s.countRegion_ages _ r) fun _ => ?_
  exact ((s.countRegion_ages _ r).trans (State.countStn_ages _ _ _ _)).trans (State.countStn_ages _ _ _ _)

theorem State.advance_ages (dns : Nat) : s.Ages (s.advance dns) := by
  unfold State.advance
  extract_lets t cr
  refine .ite (fun _ => .refl s) fun _ => ?_
  have counted : s.Ages t := .foldl _ _ (fun t r _ => advRegion_ages t dns r) s
  exact (counted.trans (t.clock_ages (t.time.ns + BitVec.ofNat 64 dns) t.time.cyc t.time.strCyc)).trans (State.credit_ages _ cr)

theorem State.advanceTo_ages (n : Nat) : s.Ages (s.advanceTo n) := s.advance_ages _

end

end Sys2Proof.Machine
end

section
/-! The bell as the whole (R27, R30): the state in which it comes, its actions in three parts, and what the registers that latch at it
take (R15, R154, R549, R638). -/

namespace Sys2Proof.Machine

section
variable (s : State)

/-! ### The bell has come -/

/-- The time after a bell that takes no action. -/
def State.past (s : State) : Time :=
  { (s.advanceTo s.time.nextBell).time with nextBell := s.time.nextBell + s.periodNs, nextNum := s.time.nextNum + 1 }

/-- The state in which the actions of the next bell begin. -/
def State.rung (s : State) : State := ((s.advanceTo s.time.nextBell).setFld Fld.SEQ_BELL_NUM_NUMBER s.time.nextNum).clearGiven

theorem State.rung_form : ∃ g a c x n y z p, s.rung = State.clearGiven { s with
    regs := g, stations := x, dbg := { s.dbg with ao := a, cnt := c }, time := { s.time with ns := n, cyc := y, strCyc := z }
    pwr := { s.pwr with credit := p } } := by
  obtain ⟨g, a, c, x, n, y, z, p, e⟩ := (s.advanceTo_ages s.time.nextBell).form
  exact ⟨_, a, c, x, n, y, z, p, by rw [State.rung, e]; rfl⟩

theorem State.rung_fld (F : Fld) (i j : Nat) (h : watched (F.key i j)) (other : F.key i j ≠ Fld.SEQ_BELL_NUM_NUMBER.key 0 0) :
    s.rung.fld F i j = s.fld F i j :=
  ((s.advanceTo _).fld_setFld_ne _ _ _ _ _ _ _ other).trans ((s.advanceTo_ages _).cells F i j h)

theorem State.rung_number : s.rung.fld Fld.SEQ_BELL_NUM_NUMBER = s.time.nextNum % 2 ^ 64 :=
  (s.advanceTo s.time.nextBell).fld_setFld_self Fld.SEQ_BELL_NUM_NUMBER s.time.nextNum 0 0 (by decide)

theorem State.rung_ctxs : s.rung.ctxs = s.ctxs := by obtain ⟨g, a, c, x, n, y, z, p, e⟩ := s.rung_form; rw [e]; rfl
theorem State.rung_shadow : s.rung.shadow = s.shadow := by obtain ⟨g, a, c, x, n, y, z, p, e⟩ := s.rung_form; rw [e]; rfl
theorem State.rung_mem : s.rung.mem = s.mem := by obtain ⟨g, a, c, x, n, y, z, p, e⟩ := s.rung_form; rw [e]; rfl
theorem State.rung_rst : s.rung.rst = s.rst := by obtain ⟨g, a, c, x, n, y, z, p, e⟩ := s.rung_form; rw [e]; rfl
theorem State.rung_act : s.rung.rlf.act = s.rlf.act := by obtain ⟨g, a, c, x, n, y, z, p, e⟩ := s.rung_form; rw [e]; rfl
theorem State.rung_stop : s.rung.dbg.stop = s.dbg.stop := by obtain ⟨g, a, c, x, n, y, z, p, e⟩ := s.rung_form; rw [e]; rfl
theorem State.rung_pcPend : s.rung.dbg.pcPend = s.dbg.pcPend := by obtain ⟨g, a, c, x, n, y, z, p, e⟩ := s.rung_form; rw [e]; rfl
theorem State.rung_nextBell : s.rung.time.nextBell = s.time.nextBell := by obtain ⟨g, a, c, x, n, y, z, p, e⟩ := s.rung_form; rw [e]; rfl
theorem State.rung_stores : s.rung.stores = s.stores := by obtain ⟨g, a, c, x, n, y, z, p, e⟩ := s.rung_form; rw [e]; rfl
theorem State.rung_evNo : s.rung.llx.evNo = s.llx.evNo := by obtain ⟨g, a, c, x, n, y, z, p, e⟩ := s.rung_form; rw [e]; rfl
theorem State.advanceTo_rst (n : Nat) : (s.advanceTo n).rst = s.rst := by
  obtain ⟨⟨g, a, c, x, n, y, z, p, e⟩, -⟩ := s.advanceTo_ages n; rw [e]
theorem State.advanceTo_stop (n : Nat) : (s.advanceTo n).dbg.stop = s.dbg.stop := by
  obtain ⟨⟨g, a, c, x, n, y, z, p, e⟩, -⟩ := s.advanceTo_ages n; rw [e]
theorem State.advanceTo_nextNum (n : Nat) : (s.advanceTo n).time.nextNum = s.time.nextNum := by
  obtain ⟨⟨g, a, c, x, n, y, z, p, e⟩, -⟩ := s.advanceTo_ages n; rw [e]
theorem State.advanceTo_nextBell (n : Nat) : (s.advanceTo n).time.nextBell = s.time.nextBell := by
  obtain ⟨⟨g, a, c, x, n, y, z, p, e⟩, -⟩ := s.advanceTo_ages n; rw [e]

theorem watched_period : watched (Fld.SEQ_BELL_PERIOD.key 0 0) := ⟨_, by decide, 0, by decide, rfl⟩

theorem State.advanceTo_periodNs (n : Nat) : (s.advanceTo n).periodNs = s.periodNs :=
  congrArg (10000 * ·) ((s.advanceTo_ages n).cells _ _ _ watched_period)

/-! ### Bells that do not act (R648) -/

theorem exec_bell_still (h : s.time.counting = false) : exec .bell s = .next s ∧ exec .slotPreread s = .next s :=
  ⟨by show execBell s = _; simp [execBell, h], by show execSlotPreread s = _; simp [execSlotPreread, h]⟩

/-- A bell that comes: by what holds it back. -/
theorem exec_bell_comes (h : s.time.counting = true) :
    exec .bell s = .next (
      if s.held 48 then { s.advanceTo s.time.nextBell with time := s.past }
      else
        let t := if s.dbg.stop.isSome then s.rung.bump Fld.DBG_STOP_STAT_BELLS_SKIPPED else s.rung
        if t.stopDevice then { t with time := s.past } else t.bellActions s.time.nextNum) := by
  have held : (s.advanceTo s.time.nextBell).held 48 = s.held 48 := by rw [State.held, State.held, s.advanceTo_rst]
  have past : { (s.advanceTo s.time.nextBell).time with
      nextBell := (s.advanceTo s.time.nextBell).time.nextBell + (s.advanceTo s.time.nextBell).periodNs, nextNum := s.time.nextNum + 1 } = s.past := by
    rw [State.past, s.advanceTo_periodNs, s.advanceTo_nextBell]
  have stop : ((s.advanceTo s.time.nextBell).setFld Fld.SEQ_BELL_NUM_NUMBER s.time.nextNum).clearGiven.dbg.stop = s.dbg.stop :=
    s.advanceTo_stop s.time.nextBell
  show execBell s = _
  simp only [execBell, h, Bool.not_true, Bool.false_eq_true, if_false, held, s.advanceTo_nextNum, past, stop]
  rfl

theorem exec_bell_held (h : s.time.counting = true) (held : s.held 48 = true) :
    exec .bell s = .next { s.advanceTo s.time.nextBell with time := s.past } ∧ exec .slotPreread s = .next s := by
  refine ⟨?_, by show execSlotPreread s = _; simp [execSlotPreread, held]⟩
  rw [exec_bell_comes s h, if_pos held]

/-- A bell during an all-stop of the device is counted. -/
theorem exec_bell_skipped (h : s.time.counting = true) (held : s.held 48 = false) (stop : s.stopDevice = true) :
    exec .slotPreread s = .next s ∧ ∃ t, exec .bell s = .next t ∧ t.time = s.past ∧
      t.fld Fld.SEQ_BELL_NUM_NUMBER = s.time.nextNum % 2 ^ 64 ∧
      (s.advanceTo s.time.nextBell).Counted t Fld.DBG_STOP_STAT_BELLS_SKIPPED 1 ∧ t.ctxs = s.ctxs ∧ t.mem = s.mem := by
  have some' : s.dbg.stop.isSome = true := by
    unfold State.stopDevice at stop
    cases e : s.dbg.stop with
    | none => simp [e] at stop
    | some a => rfl
  have still : (s.rung.bump Fld.DBG_STOP_STAT_BELLS_SKIPPED).stopDevice = true := by
    have same : (s.rung.bump Fld.DBG_STOP_STAT_BELLS_SKIPPED).dbg.stop = s.dbg.stop := s.rung_stop
    rw [State.stopDevice, same]
    exact stop
  refine ⟨by show execSlotPreread s = _; simp [execSlotPreread, stop], _, exec_bell_comes s h, ?_⟩
  rw [if_neg (by simp [held])]
  rw [if_pos some', if_pos still]
  have number : (s.rung.bump Fld.DBG_STOP_STAT_BELLS_SKIPPED).fld Fld.SEQ_BELL_NUM_NUMBER = s.rung.fld Fld.SEQ_BELL_NUM_NUMBER :=
    s.rung.fld_setFld_ne _ _ _ _ _ _ _ (by decide)
  have before : s.rung.fld Fld.DBG_STOP_STAT_BELLS_SKIPPED = (s.advanceTo s.time.nextBell).fld Fld.DBG_STOP_STAT_BELLS_SKIPPED :=
    (s.advanceTo s.time.nextBell).fld_setFld_ne _ _ _ _ _ _ _ (by decide)
  refine ⟨rfl, number.trans s.rung_number, ?_, s.rung_ctxs, s.rung_mem⟩
  rw [State.Counted, ← before]
  exact s.rung.fld_setFld_self Fld.DBG_STOP_STAT_BELLS_SKIPPED (s.rung.fld Fld.DBG_STOP_STAT_BELLS_SKIPPED + 1) 0 0 (by decide)

theorem exec_bell_acts (h : s.time.counting = true) (held : s.held 48 = false) (stop : s.dbg.stop = none) :
    exec .bell s = .next (s.rung.bellActions s.time.nextNum) := by
  have going : s.rung.stopDevice = false := by rw [State.stopDevice, s.rung_stop, stop]
  rw [exec_bell_comes s h, if_neg (by simp [held])]
  simp [stop, going]

/-! ### The actions in three parts -/

/-- Actions up to the judgement: the counters' copies, the publications, the judgement. -/
def State.bellJudged (s : State) : State := s.bellCtxs.foldl State.judge s.snapCounters.publish

/-- Action 2: what latches at a bell, and when the next one is. -/
def State.bellLatched (s : State) (k : Nat) : State :=
  { s.latchAll with time := { s.latchAll.time with nextBell := s.latchAll.time.nextBell + s.latchAll.periodNs, nextNum := k + 1 } }

/-- Actions 5 and 6. -/
def State.bellFilled (s : State) : State :=
  s.bellCtxs.foldl State.begin
    (s.bellCtxs.foldl (fun s c => s.settle true c) (s.bellCtxs.foldl State.badSeam (s.bellCtxs.foldl State.scan s)))

/-- Actions 3 to 6. -/
def State.bellBegun (s : State) (k : Nat) : State :=
  (((s.settleAll.sendHeartbeats k).countMissed k).countOffset.rejoinBell).bellFilled

theorem State.bellActions_eq (k : Nat) : s.bellActions k = (s.bellJudged.bellLatched k).bellBegun k := (rfl)

section
variable {w : Spared} (ok : w.Ok) (hc : ¬ w.ctxs) (he : ¬ w.events)
include ok hc he

theorem State.bellFilled_spares (free : ∀ c, ∀ k ∈ scannedCells c, ¬ w.cells k) : State.Spares w s s.bellFilled :=
  (((State.Spares.foldl (w := w) State.scan s.bellCtxs (fun t c _ => t.scan_spares ok hc he c (free c)) s).trans
    (.foldl _ _ (fun t c _ => t.badSeam_spares ok hc he c) _)).trans (.foldl _ _ (fun t c _ => t.settle_spares hc true c) _)).trans
    (.foldl _ _ (fun t c _ => t.begin_spares ok hc he c) _)

theorem State.bellBegun_spares (act : s.rlf.act = none) (forced : s.rst.forced = []) (rgn : ∀ r < 256, ¬ w.cells (Fld.MEM_RGN_B_STATE.key r 0))
    (free : ∀ c, ∀ k ∈ scannedCells c, ¬ w.cells k) (k : Nat) : State.Spares w s (s.bellBegun k) := by
  have settled := s.settleAll_spares ok hc he act forced rgn
  exact (settled.trans (State.linkBell_spares _ (settled.act.trans act) k)).trans (State.bellFilled_spares _ ok hc he free)

end

/-! ### Shadows, the crossings and the counters' enable -/

/-- One shadow's value takes its place. -/
def State.latchOne (s : State) (p : Nat × Option Word) : State :=
  match p.2, regAt (p.1 / 64) with
  | some v, some (d, _) =>
    match d.fields.find? fun f => f.lo == p.1 % 64 with
    | some f => s.setCell (p.1 / 64) f v.toNat
    | none => s
  | _, _ => s

theorem State.latch_eq : s.latch = s.shadow.foldl State.latchOne { s with shadow := [] } := rfl

theorem regAt_bell : regAt 0x308000 = some (⟨.SEQ_BELL, 0x308000, 0, 1, 0, 1, [⟨0, 7, .rwb, 5⟩]⟩, 0, 0) := rfl

/-- SEQ_BELL has one field, the period. -/
theorem State.latchOne_bell (v : Word) : s.latchOne (0x308000 * 64, some v) = s.setCell 0x308000 ⟨0, 7, .rwb, 5⟩ v.toNat := by
  have place : 0x308000 * 64 / 64 = 0x308000 := by decide
  simp only [State.latchOne, place, regAt_bell]
  rfl

theorem State.latch_none (h : s.shadow = []) : s.latch = s := by
  have same : { s with shadow := [] } = s := by rw [← h]
  rw [State.latch_eq, h, List.foldl_nil, same]

/-- The one value that latches is the bell period. -/
theorem State.latch_period (p : Word) (h : s.shadow = [(0x308000 * 64, some p)]) :
    s.latch = { s with shadow := [] }.setCell 0x308000 ⟨0, 7, .rwb, 5⟩ p.toNat := by
  rw [State.latch_eq, h, List.foldl_cons, State.latchOne_bell, List.foldl_nil]

/-- A write of the register file that changes no field but the bell period. -/
def State.WritesPeriod (s t : State) : Prop :=
  (∃ g, t = { s with regs := g }) ∧ ∀ (F : Fld) (i j : Nat), F.key i j ≠ Fld.SEQ_BELL_PERIOD.key 0 0 → t.fld F i j = s.fld F i j

theorem State.latchOne_writesPeriod (p : Nat × Option Word) (h : p.1 = 0x308000 * 64) : s.WritesPeriod (s.latchOne p) := by
  obtain ⟨n, v⟩ := p
  subst h
  cases v with
  | none => exact ⟨⟨s.regs, rfl⟩, fun _ _ _ _ => rfl⟩
  | some v =>
    rw [State.latchOne_bell]
    exact ⟨⟨_, rfl⟩, fun F i j other => s.fld_setCell_ne 0x308000 ⟨0, 7, .rwb, 5⟩ v.toNat F i j other⟩

/-- Where only the bell period waits, no other field changes. -/
theorem State.latch_writesPeriod (h : ∀ p ∈ s.shadow, p.1 = 0x308000 * 64) : State.WritesPeriod { s with shadow := [] } s.latch := by
  have all (l : List (Nat × Option Word)) (hl : ∀ p ∈ l, p.1 = 0x308000 * 64) (t : State) : t.WritesPeriod (l.foldl State.latchOne t) := by
    induction l generalizing t with
    | nil => exact ⟨⟨t.regs, rfl⟩, fun _ _ _ _ => rfl⟩
    | cons p l ih =>
      obtain ⟨⟨g, e⟩, one⟩ := t.latchOne_writesPeriod p (hl p (List.mem_cons_self ..))
      obtain ⟨⟨g', e'⟩, rest⟩ := ih (fun q hq => hl q (List.mem_cons_of_mem _ hq)) (t.latchOne p)
      exact ⟨⟨g', by rw [List.foldl_cons, e', e]⟩, fun F i j other => (rest F i j other).trans (one F i j other)⟩
  exact all _ h _

/-! ### Action 2 as the whole -/

/-- The state past the shadows and the crossings' re-alignment. -/
theorem State.realign_form : ∃ g, s.realign = { s with regs := g, time := { s.time with allFallback := false, fallback := [] } } ∧
    ∀ (F : Fld) (i j : Nat), watched (F.key i j) → s.realign.fld F i j = s.fld F i j := by
  unfold State.realign
  split
  next crossings =>
    refine ⟨_, rfl, fun F i j h => s.fld_setFld_ne _ _ _ _ _ _ _ fun e => ?_⟩
    exact not_watched (F := Fld.CLK_XING_CNT_REALIGNS) (i := 0) (j := 0) 1 1 (by decide) (by decide) (by decide) (e ▸ h)
  next none' =>
    obtain ⟨all, list⟩ : s.time.allFallback = false ∧ s.time.fallback = [] := by simpa using none'
    refine ⟨s.regs, ?_, fun _ _ _ _ => rfl⟩
    rw [← all, ← list]

/-- The counters' enable takes the value that waits (R638). -/
def State.latchEnable (s : State) : State :=
  match s.dbg.pcPend with
  | some b => { s.setFld Fld.DBG_PC_CTL_EN b.toNat with dbg := { s.dbg with pcOn := b, pcPend := none } }
  | none => s

theorem State.latchAll_eq : s.latchAll = s.latch.realign.latchEnable := rfl

theorem Dbg.enable_none (d : Dbg) (h : d.pcPend = none) : { d with pcOn := d.pcPend.getD d.pcOn, pcPend := none } = d := by
  cases d
  cases h
  rfl

theorem State.latchEnable_form :
    ∃ g, s.latchEnable = { s with regs := g, dbg := { s.dbg with pcOn := s.dbg.pcPend.getD s.dbg.pcOn, pcPend := none } } ∧
      ∀ (F : Fld) (i j : Nat), watched (F.key i j) → s.latchEnable.fld F i j = s.fld F i j := by
  cases b : s.dbg.pcPend with
  | none =>
    have idle : s.latchEnable = s := by rw [State.latchEnable, b]
    have same := s.dbg.enable_none b
    rw [b] at same
    exact ⟨s.regs, by rw [idle, same], fun _ _ _ _ => by rw [idle]⟩
  | some v =>
    have taken : s.latchEnable = { s.setFld Fld.DBG_PC_CTL_EN v.toNat with dbg := { s.dbg with pcOn := v, pcPend := none } } := by
      rw [State.latchEnable, b]
    refine ⟨_, taken, fun F i j h => ?_⟩
    rw [taken]
    refine s.fld_setFld_ne _ _ _ _ _ _ _ fun e => ?_
    exact not_watched (F := Fld.DBG_PC_CTL_EN) (i := 0) (j := 0) 1 1 (by decide) (by decide) (by decide) (e ▸ h)

end

end Sys2Proof.Machine
end

section
/-! A bell with contexts of whatever kind at work (R30, R154, R549, R636, R638): its number, the copies' number, what latches. -/

namespace Sys2Proof.Machine

section
variable (s : State)

/-- What action 2 leaves where at most the bell period waits in a shadow. -/
theorem State.bellLatched_form (h : ∀ p ∈ s.shadow, p.1 = 0x308000 * 64) (k : Nat) :
    ∃ g, s.bellLatched k = { s with
      shadow := [], regs := g, dbg := { s.dbg with pcOn := s.dbg.pcPend.getD s.dbg.pcOn, pcPend := none }
      time := { s.time with
        allFallback := false, fallback := [], nextBell := s.time.nextBell + s.latchAll.periodNs, nextNum := k + 1 } } := by
  obtain ⟨⟨g, e⟩, -⟩ := s.latch_writesPeriod h
  obtain ⟨g', e', -⟩ := s.latch.realign_form
  obtain ⟨g'', e'', -⟩ := s.latch.realign.latchEnable_form
  refine ⟨g'', ?_⟩
  have time : s.latchAll.time.nextBell = s.time.nextBell := by rw [State.latchAll_eq, e'', e', e]
  rw [State.bellLatched, time, State.latchAll_eq, e'', e', e]

theorem State.latchAll_fld (F : Fld) (i j : Nat) (h : watched (F.key i j)) : s.latchAll.fld F i j = s.latch.fld F i j := by
  obtain ⟨_, -, realigned⟩ := s.latch.realign_form
  obtain ⟨_, -, enabled⟩ := s.latch.realign.latchEnable_form
  exact (enabled F i j h).trans (realigned F i j h)

theorem State.bellLatched_fld (h : ∀ p ∈ s.shadow, p.1 = 0x308000 * 64) (k : Nat) (F : Fld) (i j : Nat) (hw : watched (F.key i j))
    (other : F.key i j ≠ Fld.SEQ_BELL_PERIOD.key 0 0) : (s.bellLatched k).fld F i j = s.fld F i j :=
  (s.latchAll_fld F i j hw).trans ((s.latch_writesPeriod h).2 F i j other)

/-- The period that waited is the period from this bell on (R154). -/
theorem State.latchAll_period (p : Word) (h : s.shadow = [(0x308000 * 64, some p)]) : s.latchAll.fld Fld.SEQ_BELL_PERIOD = p.toNat % 128 := by
  have place : Fld.SEQ_BELL_PERIOD.At s.variant 0 0x308000 ⟨0, 7, .rwb, 5⟩ := Fld.at_plain _ _ _ _ _ rfl rfl (by decide) (by decide)
  rw [s.latchAll_fld _ _ _ watched_period, s.latch_period p h]
  exact State.fld_setCell_self { s with shadow := [] } _ ⟨0, 7, .rwb, 5⟩ p.toNat Fld.SEQ_BELL_PERIOD 0 place (by decide)

/-! ### The numbers of a bell -/

/-- The cells whose values a bell tells: its number, the number of its copies, its period. -/
def bellCells (k : Nat) : Prop :=
  k = Fld.SEQ_BELL_NUM_NUMBER.key 0 0 ∨ k = Fld.DBG_SNAP_BELL_BELL.key 0 0 ∨ k = Fld.SEQ_BELL_PERIOD.key 0 0

theorem bellCells_watched {k : Nat} (h : bellCells k) : watched k := by
  rcases h with rfl | rfl | rfl
  · exact ⟨Fld.SEQ_BELL_NUM_NUMBER, by decide, 0, by decide, rfl⟩
  · exact ⟨Fld.DBG_SNAP_BELL_BELL, by decide, 0, by decide, rfl⟩
  · exact watched_period

/-- Those and no others; contexts and events may change. -/
def bellSpared : Spared := ⟨bellCells, False, False⟩

theorem bellSpared_ok : bellSpared.Ok := fun _ => bellCells_watched

/-- The cells that an action may write are none of the bell's. -/
theorem judgedCells_not_bell (c : Cid) : ∀ k ∈ judgedCells c, ¬ bellCells k := by
  unfold bellCells
  revert c
  decide

theorem scannedCells_not_bell (c : Cid) : ∀ k ∈ scannedCells c, ¬ bellCells k := by
  unfold bellCells
  revert c
  decide

theorem rgnState_not_bell (r : Nat) (h : r < 256) : ¬ bellCells (Fld.MEM_RGN_B_STATE.key r 0) := by
  simp only [bellCells, Fld.key]
  omega

/-- The copies bear the bell's number (R636). -/
theorem State.snapCounters_bell : s.snapCounters.fld Fld.DBG_SNAP_BELL_BELL = s.fld Fld.SEQ_BELL_NUM_NUMBER % 2 ^ 64 := by
  obtain ⟨t, copied, e⟩ := s.snapCounters_split bellSpared_ok
  rw [e, t.fld_setFld_self _ _ _ _ (by decide), State.bellNow, copied.cells Fld.SEQ_BELL_NUM_NUMBER 0 0 (.inl rfl)]

theorem State.snapCounters_number : s.snapCounters.fld Fld.SEQ_BELL_NUM_NUMBER = s.fld Fld.SEQ_BELL_NUM_NUMBER := by
  obtain ⟨t, copied, e⟩ := s.snapCounters_split bellSpared_ok
  rw [e, t.fld_setFld_ne _ _ _ _ _ _ _ (by decide), copied.cells Fld.SEQ_BELL_NUM_NUMBER 0 0 (.inl rfl)]

/-- From the copies to the end of action 1. -/
theorem State.publish_judge_spares : State.Spares bellSpared s.snapCounters s.bellJudged :=
  (State.publish_spares bellSpared_ok s.snapCounters id).trans
    (.foldl _ _ (fun t c _ => t.judge_spares bellSpared_ok id id c (judgedCells_not_bell c)) _)

theorem State.bellBegun_bellSpares (act : s.rlf.act = none) (forced : s.rst.forced = []) (k : Nat) : State.Spares bellSpared s (s.bellBegun k) :=
  s.bellBegun_spares bellSpared_ok id id act forced rgnState_not_bell scannedCells_not_bell k

/-- What the actions of a bell leave of its own matters, whatever contexts are at work. -/
theorem State.bellActions_tells (act : s.rlf.act = none) (forced : s.rst.forced = []) (shadow : ∀ p ∈ s.shadow, p.1 = 0x308000 * 64) (k : Nat) :
    (s.bellActions k).fld Fld.SEQ_BELL_NUM_NUMBER = s.fld Fld.SEQ_BELL_NUM_NUMBER ∧
      (s.bellActions k).fld Fld.DBG_SNAP_BELL_BELL = s.fld Fld.SEQ_BELL_NUM_NUMBER % 2 ^ 64 ∧
      (s.bellActions k).time.nextNum = k + 1 ∧ (s.bellActions k).time.fallback = [] ∧ (s.bellActions k).time.allFallback = false ∧
      (s.bellActions k).shadow = [] ∧
      (∀ p, s.shadow = [(0x308000 * 64, some p)] → (s.bellActions k).fld Fld.SEQ_BELL_PERIOD = p.toNat % 128 ∧
        (s.bellActions k).time.nextBell = s.time.nextBell + p.toNat % 128 * 10000) ∧
      (∀ b, s.dbg.pcPend = some b → (s.bellActions k).dbg.pcOn = b ∧ (s.bellActions k).dbg.pcPend = none) := by
  have copied : State.Spares ⟨fun _ => False, False, False⟩ s s.snapCounters := s.snapCounters_spares (fun _ h => absurd h id) id
  have judged := s.publish_judge_spares
  have shadows : s.bellJudged.shadow = s.shadow := judged.shadow.trans copied.shadow
  have only : ∀ p ∈ s.bellJudged.shadow, p.1 = 0x308000 * 64 := by rwa [shadows]
  obtain ⟨g, latched⟩ := s.bellJudged.bellLatched_form only k
  have begun := (s.bellJudged.bellLatched k).bellBegun_bellSpares
    (by rw [latched]; exact (judged.act.trans copied.act).trans act)
    (by rw [latched]; exact (congrArg Rst.forced (judged.rst.trans copied.rst)).trans forced) k
  rw [State.bellActions_eq]
  refine ⟨?_, ?_, ?_, ?_, ?_, ?_, fun p one => ?_, fun b pend => ?_⟩
  · rw [begun.cells _ _ _ (.inl rfl), State.bellLatched_fld _ only k _ _ _ (bellCells_watched (.inl rfl)) (by decide), judged.cells _ _ _ (.inl rfl),
      s.snapCounters_number]
  · rw [begun.cells _ _ _ (.inr (.inl rfl)), State.bellLatched_fld _ only k _ _ _ (bellCells_watched (.inr (.inl rfl))) (by decide),
      judged.cells _ _ _ (.inr (.inl rfl)), s.snapCounters_bell]
  · rw [begun.time, latched]
  · rw [begun.time, latched]
  · rw [begun.time, latched]
  · rw [begun.shadow, latched]
  · have period := s.bellJudged.latchAll_period p (shadows.trans one)
    refine ⟨(begun.cells _ _ _ (.inr (.inr rfl))).trans period, ?_⟩
    rw [begun.time, latched]
    show s.bellJudged.time.nextBell + s.bellJudged.latchAll.periodNs = _
    rw [State.periodNs, period, judged.time, copied.time, Nat.mul_comm]
  · have waits : s.bellJudged.dbg.pcPend = some b := (judged.pcPend.trans copied.pcPend).trans pend
    refine ⟨?_, ?_⟩
    · rw [begun.pcOn, latched, waits]
      rfl
    · rw [begun.pcPend, latched]

theorem exec_bell_tells (h : s.time.counting = true) (held : s.held 48 = false) (stop : s.dbg.stop = none) (forced : s.rst.forced = [])
    (act : s.rlf.act = none) (shadow : ∀ p ∈ s.shadow, p.1 = 0x308000 * 64) :
    ∃ t, exec .bell s = .next t ∧ t.fld Fld.SEQ_BELL_NUM_NUMBER = s.time.nextNum % 2 ^ 64 ∧
      t.fld Fld.DBG_SNAP_BELL_BELL = s.time.nextNum % 2 ^ 64 ∧
      t.time.nextNum = s.time.nextNum + 1 ∧ t.time.fallback = [] ∧ t.time.allFallback = false ∧ t.shadow = [] ∧
      (∀ p, s.shadow = [(0x308000 * 64, some p)] → t.fld Fld.SEQ_BELL_PERIOD = p.toNat % 128 ∧
        t.time.nextBell = s.time.nextBell + p.toNat % 128 * 10000) ∧
      (∀ b, s.dbg.pcPend = some b → t.dbg.pcOn = b ∧ t.dbg.pcPend = none) := by
  have told := s.rung.bellActions_tells (s.rung_act.trans act) ((congrArg Rst.forced s.rung_rst).trans forced) (by rwa [s.rung_shadow]) s.time.nextNum
  rw [s.rung_number, Nat.mod_mod, s.rung_shadow, s.rung_nextBell, s.rung_pcPend] at told
  exact ⟨_, exec_bell_acts s h held stop, told⟩

end

end Sys2Proof.Machine
end

section
/-! What the watched cells decide (R115, R117, R307, R475), and the pre-read of submission slots (R141, R142). -/

namespace Sys2Proof.Machine

/-! ### The watched cells as a whole -/

/-- All watched cells; contexts and events may change. -/
def watchSpared : Spared := ⟨watched, False, False⟩

theorem watchSpared_ok : watchSpared.Ok := fun _ => id

/-- A context's cell of a field. -/
theorem watched_ctx {F : Fld} (h : F ∈ watchedFields) (c : Cid) : watched (F.key c.val 0) := ⟨F, h, c.val, by omega, rfl⟩

/-- The fields that say which seam a context has and whether it is joined. -/
def seamFields : List Fld := [Fld.SFC_PROFILE_SEAM, Fld.SEQ_CTX_CFG_SEAM, Fld.SEQ_CTX_CFG_JOIN]

/-- Two states with the same seams. -/
def State.SameSeams (s t : State) : Prop := ∀ F ∈ seamFields, ∀ i < 8, t.fld F i = s.fld F i

section
variable {s t u : State}

theorem State.SameSeams.layout (h : s.SameSeams t) : t.layout = s.layout := h Fld.SFC_PROFILE_SEAM (by decide) 0 (by decide)

theorem State.SameSeams.joined (h : s.SameSeams t) (c : Cid) : t.joined c = s.joined c := by
  have seam (d : Cid) := h Fld.SEQ_CTX_CFG_SEAM (by decide) d.val d.isLt
  have join (d : Cid) : t.flag Fld.SEQ_CTX_CFG_JOIN d.val = s.flag Fld.SEQ_CTX_CFG_JOIN d.val := by
    rw [State.flag, State.flag, h Fld.SEQ_CTX_CFG_JOIN (by decide) d.val d.isLt]
  simp only [State.joined, h.layout, seam, join]

theorem State.SameSeams.lead (h : s.SameSeams t) (c : Cid) : t.lead c = s.lead c := by rw [State.lead, State.lead, h.joined]

theorem State.SameSeams.seamOk (h : s.SameSeams t) (c : Cid) : t.seamOk c = s.seamOk c := by
  have join : t.flag Fld.SEQ_CTX_CFG_JOIN c.val = s.flag Fld.SEQ_CTX_CFG_JOIN c.val := by
    rw [State.flag, State.flag, h Fld.SEQ_CTX_CFG_JOIN (by decide) c.val c.isLt]
  simp only [State.seamOk, State.seamOf, join, h.layout, h.joined, h Fld.SEQ_CTX_CFG_SEAM (by decide) c.val c.isLt]
  rfl

/-- Equal watched cells are equal seams. -/
theorem State.SameSeams.of_cells (h : ∀ F ∈ watchedFields, ∀ i < 256, t.fld F i = s.fld F i) : s.SameSeams t := by
  intro F hF i hi
  refine h F ?_ i (by omega)
  simp only [seamFields, List.mem_cons, List.not_mem_nil, or_false] at hF
  rcases hF with rfl | rfl | rfl <;> decide

end

/-! ### Joined pairs -/

theorem mem_allCids (c : Cid) : c ∈ allCids := List.mem_finRange c

theorem west_east_pair (c : Cid) : west (west c) = west c ∧ east (west c) = east c ∧ west (east c) = west c ∧ east (east c) = east c := by
  revert c
  decide

/-- A context that is not joined is neither of a joined pair. -/
theorem State.not_of_pair (s : State) {c d : Cid} (hc : s.joined c = false) (hd : s.joined d = true) : c ≠ west d ∧ c ≠ east d := by
  have pair : s.joined (west d) = s.joined d ∧ s.joined (east d) = s.joined d := by
    obtain ⟨ww, ew, we, ee⟩ := west_east_pair d
    simp only [State.joined, ww, ew, we, ee, and_self]
  obtain ⟨w, e⟩ := pair
  refine ⟨?_, ?_⟩
  all_goals
    rintro rfl
    simp_all

/-- A change of other contexts. -/
theorem State.ctx_modBoth_ne (s : State) {c d : Cid} (f : Ctx → Ctx) (hc : s.joined c = false) (h : c ≠ d) : (s.modBoth d f).ctx c = s.ctx c := by
  unfold State.modBoth
  split
  next joined =>
    obtain ⟨w, e⟩ := s.not_of_pair hc joined
    rw [State.modCtx, State.ctx_setCtx_ne _ _ _ _ e, State.modCtx, State.ctx_setCtx_ne _ _ _ _ w]
  next => exact s.ctx_setCtx_ne d c _ h

theorem State.ctx_modBoth_self (s : State) {c : Cid} (f : Ctx → Ctx) (hc : s.joined c = false) : (s.modBoth c f).ctx c = f (s.ctx c) := by
  rw [s.modBoth_one c f hc, State.ctx_setCtx_self]

/-! ### The pre-read of a slot -/

/-- A read where no word is stored with an error: the bytes, and counts. -/
theorem State.memRead_clean (s : State) (a n : Nat) (h : s.memErr = []) :
    (s.memRead a n).data = (List.range n).map (fun j => s.memByte (a + j)) ∧ (s.memRead a n).ue = false ∧
      ∃ d r, (s.memRead a n).st = { s with dbg := d, regs := r } := by
  have clean : s.memBits.found a n = [] := by simp [Bits72.found, State.memBits, h]
  have bytes (b : Nat) : s.memByte b = SMap.val s.mem 0 b := by simp [State.memByte, Bits72.byteAt, State.memBits, h]
  obtain ⟨d, r, e⟩ := s.memLines_frame a n true
  refine ⟨?_, ?_, d, r, ?_⟩
  · simp only [State.memRead, Bits72.read, clean, List.isEmpty_nil, if_true, SMap.vals, bytes]
    rfl
  · simp [State.memRead, clean]
  · simp [State.memRead, clean, e]

/-- What a pre-read of other contexts' slots leaves for that of `c`. -/
structure State.SlotAsBefore (s t : State) (c : Cid) (h : List Byte) : Prop where
  cells : ∀ F ∈ watchedFields, ∀ i < 256, t.fld F i = s.fld F i
  variant : t.variant = s.variant
  mem : t.mem = s.mem
  memErr : t.memErr = s.memErr
  ctx : { t.ctx c with preread := some h } = { s.ctx c with preread := some h }

theorem State.Spares.watchedFlds {s t : State} (h : State.Spares watchSpared s t) : ∀ F ∈ watchedFields, ∀ i < 256, t.fld F i = s.fld F i :=
  fun F hF i hi => h.cells F i 0 ⟨F, hF, i, hi, rfl⟩

section
variable {s t : State} {c : Cid} {h : List Byte} (same : s.SlotAsBefore t c h)
include same

theorem State.SlotAsBefore.slotAddr (d : Cid) : t.slotAddr d = s.slotAddr d := by
  have at_ (F : Fld) (hF : F ∈ watchedFields) := same.cells F hF d.val (by omega)
  simp only [State.slotAddr, at_ Fld.SEQ_CTX_SUBBASE_DEPTH (by decide), at_ Fld.SEQ_CTX_SUBBASE_BASE (by decide),
    at_ Fld.SEQ_CTX_SUBSEQ_NEXT_SEQ (by decide)]

theorem State.SlotAsBefore.rgnPurging (a n : Nat) : t.rgnPurging a n = s.rgnPurging a n := by
  have one : ∀ r ∈ List.range 256, (t.rgnState r == 2 && t.rgnBase r < a + n && a < t.rgnBase r + t.rgnSize r) =
      (s.rgnState r == 2 && s.rgnBase r < a + n && a < s.rgnBase r + s.rgnSize r) := by
    intro r hr
    have at_ (F : Fld) (hF : F ∈ watchedFields) := same.cells F hF r (List.mem_range.mp hr)
    simp only [State.rgnState, State.rgnBase, State.rgnSize, at_ Fld.MEM_RGN_B_STATE (by decide), at_ Fld.MEM_RGN_A_BASE (by decide),
      at_ Fld.MEM_RGN_A_SIZE (by decide)]
    rfl
  rw [State.rgnPurging, State.rgnPurging, Bool.eq_iff_iff, List.any_eq_true, List.any_eq_true]
  exact exists_congr fun r => and_congr_right fun hr => by rw [one r hr]

theorem State.SlotAsBefore.memByte (a : Nat) : t.memByte a = s.memByte a := by
  rw [State.memByte, State.memByte, State.memBits, State.memBits, same.mem, same.memErr]

theorem State.SlotAsBefore.seams : s.SameSeams t := .of_cells same.cells

theorem State.SlotAsBefore.trans {u : State} (k : t.SlotAsBefore u c h) : s.SlotAsBefore u c h :=
  ⟨fun F hF i hi => (k.cells F hF i hi).trans (same.cells F hF i hi), k.variant.trans same.variant, k.mem.trans same.mem,
    k.memErr.trans same.memErr, k.ctx.trans same.ctx⟩

end

theorem State.readSlot_spares (s : State) (c : Cid) : State.Spares watchSpared s (s.readSlot c) := by
  unfold State.readSlot
  extract_lets a r
  refine .ite (fun _ => .refl _ s) fun _ => .ite (fun _ => s.modBoth_spares id c _) fun _ => ?_
  exact (s.memRead_spares watchSpared_ok a 32).trans (State.modBoth_spares _ id c _)

/-- A pre-read reads memory and changes its context. -/
theorem State.readSlot_form (s : State) (d : Cid) (clean : s.memErr = []) :
    (s.readSlot d).mem = s.mem ∧ (s.readSlot d).memErr = s.memErr ∧
      ∀ c, s.joined c = false → c ≠ d → (s.readSlot d).ctx c = s.ctx c := by
  obtain ⟨-, -, g, r, read⟩ := s.memRead_clean (s.slotAddr d) 32 clean
  have seams : (s.memRead (s.slotAddr d) 32).st.joined = s.joined :=
    funext (State.SameSeams.of_cells (s.memRead_spares watchSpared_ok (s.slotAddr d) 32).watchedFlds).joined
  have other (t : State) (f : Ctx → Ctx) (mem : t.mem = s.mem) (err : t.memErr = s.memErr) (pairs : t.joined = s.joined)
      (ctxs : t.ctxs = s.ctxs) : (t.modBoth d f).mem = s.mem ∧ (t.modBoth d f).memErr = s.memErr ∧
        ∀ c, s.joined c = false → c ≠ d → (t.modBoth d f).ctx c = s.ctx c := by
    obtain ⟨x, e⟩ := t.modBoth_frame d f
    refine ⟨by rw [e]; exact mem, by rw [e]; exact err, fun c single ne => ?_⟩
    rw [t.ctx_modBoth_ne f (by rwa [pairs]) ne, State.ctx, State.ctx, ctxs]
  unfold State.readSlot
  extract_lets a rd
  split
  · exact ⟨rfl, rfl, fun _ _ _ => rfl⟩
  · split
    · exact other s _ rfl rfl rfl rfl
    · exact other _ _ (by rw [read]) (by rw [read]) seams (by rw [read])

section
variable (s : State) (c : Cid) (single : s.joined c = false) (clean : s.memErr = [])

/-- The header that a pre-read finds. -/
def State.slotHead (s : State) (c : Cid) : List Byte := (List.range 32).map fun j => s.memByte (s.slotAddr c + j)

include clean in
theorem State.readSlot_other (h : List Byte) (single : s.joined c = false) (d : Cid) (ne : c ≠ d) : s.SlotAsBefore (s.readSlot d) c h := by
  have spares := s.readSlot_spares d
  obtain ⟨mem, err, ctx⟩ := s.readSlot_form d clean
  exact ⟨spares.watchedFlds, spares.variant, mem, err, by rw [ctx c single ne]⟩

include clean single in
theorem State.readSlot_self (scan : s.fld Fld.SEQ_CTX_CFG_SCAN_EN c.val = 1) (there : assigned s.variant (s.slotAddr c) 32 = true)
    (below : s.slotAddr c < stkBase) (calm : s.rgnPurging (s.slotAddr c) 32 = false) :
    (s.readSlot c).ctx c = { s.ctx c with preread := some (s.slotHead c) } := by
  obtain ⟨data, ue, g, r, read⟩ := s.memRead_clean (s.slotAddr c) 32 clean
  have seams : (s.memRead (s.slotAddr c) 32).st.joined = s.joined :=
    funext (State.SameSeams.of_cells (s.memRead_spares watchSpared_ok (s.slotAddr c) 32).watchedFlds).joined
  have on : s.flag Fld.SEQ_CTX_CFG_SCAN_EN c.val = true := by rw [State.flag, scan]; rfl
  have ctx : (s.memRead (s.slotAddr c) 32).st.ctx c = s.ctx c := by rw [read]; rfl
  have room : (decide (stkBase ≤ s.slotAddr c)) = false := by simpa using below
  simp only [State.readSlot, on, there, room, calm, Bool.not_true, Bool.or_false, Bool.false_eq_true, if_false]
  rw [State.ctx_modBoth_self _ _ (by rwa [seams]), ctx, ue, data]
  rfl

end

/-- Every context's slot is read ahead, whatever the others read. -/
theorem State.readSlots_ctx (s : State) (c : Cid) (single : s.joined c = false) (clean : s.memErr = [])
    (scan : s.fld Fld.SEQ_CTX_CFG_SCAN_EN c.val = 1) (there : assigned s.variant (s.slotAddr c) 32 = true)
    (below : s.slotAddr c < stkBase) (calm : s.rgnPurging (s.slotAddr c) 32 = false) (l : List Cid) (t : State)
    (same : s.SlotAsBefore t c (s.slotHead c)) :
    s.SlotAsBefore (l.foldl State.readSlot t) c (s.slotHead c) ∧
      (c ∈ l ∨ t.ctx c = { s.ctx c with preread := some (s.slotHead c) } →
        (l.foldl State.readSlot t).ctx c = { s.ctx c with preread := some (s.slotHead c) }) := by
  induction l generalizing t with
  | nil => exact ⟨same, fun h => h.resolve_left (by simp)⟩
  | cons d l ih =>
    have alone : t.joined c = false := (same.seams.joined c).trans single
    have fine : t.memErr = [] := same.memErr.trans clean
    by_cases h : c = d
    · subst h
      have head : t.slotHead c = s.slotHead c := by
        simp only [State.slotHead, same.slotAddr, same.memByte]
      have read := t.readSlot_self c alone fine ((same.cells _ (by decide) _ (by omega)).trans scan) (by rwa [same.variant, same.slotAddr])
        (by rwa [same.slotAddr]) (by rwa [same.slotAddr, same.rgnPurging])
      have now : (t.readSlot c).ctx c = { s.ctx c with preread := some (s.slotHead c) } := by rw [read, head, same.ctx]
      have spares := t.readSlot_spares c
      obtain ⟨mem, err, -⟩ := t.readSlot_form c fine
      have next : t.SlotAsBefore (t.readSlot c) c (s.slotHead c) := ⟨spares.watchedFlds, spares.variant, mem, err, by rw [now, same.ctx]⟩
      obtain ⟨kept, told⟩ := ih (t.readSlot c) (same.trans next)
      exact ⟨kept, fun _ => told (.inr now)⟩
    · have next := t.readSlot_other c fine (s.slotHead c) alone d h
      obtain ⟨-, -, ctx⟩ := t.readSlot_form d fine
      obtain ⟨kept, told⟩ := ih (t.readSlot d) (same.trans next)
      refine ⟨kept, fun k => told (k.imp (fun m => ?_) fun e => ?_)⟩
      · exact (List.mem_cons.mp m).resolve_left h
      · rw [ctx c alone h, e]

theorem exec_slotPreread_reads (s : State) (counting : s.time.counting = true) (held : s.held 48 = false) (stop : s.dbg.stop = none) :
    ∃ t, exec .slotPreread s = .next t ∧ ∀ c : Cid, s.joined c = false → s.fld Fld.SEQ_CTX_CFG_SCAN_EN c.val = 1 → s.memErr = [] →
      assigned s.variant (s.slotAddr c) 32 = true → s.slotAddr c < stkBase → s.rgnPurging (s.slotAddr c) 32 = false →
      t.ctx c = { s.ctx c with preread := some ((List.range 32).map fun j => s.memByte (s.slotAddr c + j)) } := by
  let u := s.advanceTo (s.time.nextBell - 2000)
  have going : s.stopDevice = false := by rw [State.stopDevice, stop]
  refine ⟨u.bellCtxs.foldl State.readSlot u, ?_, fun c single scan clean there below calm => ?_⟩
  · show execSlotPreread s = _
    simp [execSlotPreread, counting, held, going, u]
  · have aged := s.advanceTo_ages (s.time.nextBell - 2000)
    have same : s.SlotAsBefore u c (s.slotHead c) := by
      obtain ⟨⟨g, a, n, x, m, y, z, p, e⟩, cells⟩ := aged
      have ctx : u.ctx c = s.ctx c := by simp only [u, e]; rfl
      exact ⟨fun F hF i hi => cells F i 0 ⟨F, hF, i, hi, rfl⟩, by simp only [u, e], by simp only [u, e], by simp only [u, e], by rw [ctx]⟩
    have mem : c ∈ u.bellCtxs := by
      have lead : u.lead c = c := by rw [same.seams.lead, State.lead, single]; rfl
      have free : u.ctxStopped c = false := by rw [State.ctxStopped, s.advanceTo_stop, stop]
      simp [State.bellCtxs, lead, free, mem_allCids]
    exact (s.readSlots_ctx c single clean scan there below calm _ u same).2 (.inl mem)

end Sys2Proof.Machine
end

section
/-! A context that is alone at work (R30): what a state keeps of it, and what an action does to it while the others stay as at reset. -/

namespace Sys2Proof.Machine

/-! ### One context at work -/

/-- The context `c` may use its seam and is not joined, the others are as at reset, no relief, all-stop, trigger or domain reset is under
way, no value waits in a shadow. -/
structure State.Lone (s : State) (c : Cid) : Prop where
  split : s.layout ≠ 0
  seam : s.seamOk c = true
  act : s.rlf.act = none
  forced : s.rst.forced = []
  stop : s.dbg.stop = none
  trig : s.fld Fld.DBG_TRIG_EN ≠ 1
  shadow : s.shadow = []
  others : ∀ d, d ≠ c → s.ctx d = {}

/-- What is spared holds a context's seam and the contexts. -/
structure Spared.Lonely (w : Spared) : Prop where
  ok : w.Ok
  ctxs : w.ctxs
  seams : ∀ F ∈ seamFields, ∀ i < 8, w.cells (F.key i 0)

/-- From `s` to `t` the context `c` comes to be `y` and stays alone; of the rest, `w` is left. -/
structure State.Turns (w : Spared) (c : Cid) (s t : State) (y : Ctx) : Prop where
  lone : t.Lone c
  cells : ∀ (F : Fld) (i j : Nat), w.cells (F.key i j) → t.fld F i j = s.fld F i j
  events : w.events → t.llx.recent = s.llx.recent ∧ t.llx.evNo = s.llx.evNo
  ctx : t.ctx c = y

/-- Everything that is watched. -/
def allSpared : Spared := ⟨watched, True, True⟩

theorem allSpared_lonely : allSpared.Lonely where
  ok _ := id
  ctxs := trivial
  seams F hF i hi := by
    simp only [seamFields, List.mem_cons, List.not_mem_nil, or_false] at hF
    rcases hF with rfl | rfl | rfl
    · exact ⟨Fld.SFC_PROFILE_SEAM, by decide, i, by omega, rfl⟩
    · exact ⟨Fld.SEQ_CTX_CFG_SEAM, by decide, i, by omega, rfl⟩
    · exact ⟨Fld.SEQ_CTX_CFG_JOIN, by decide, i, by omega, rfl⟩

/-- Everything that is watched but some cells; the events where it says so. -/
def sparedBut (free : Nat → Prop) (events : Prop) : Spared := ⟨fun k => watched k ∧ ¬ free k, True, events⟩

theorem sparedBut_lonely {free : Nat → Prop} {events : Prop} (h : ∀ F ∈ seamFields, ∀ i < 8, ¬ free (F.key i 0)) :
    (sparedBut free events).Lonely :=
  ⟨fun _ k => k.1, trivial, fun F hF i hi => ⟨allSpared_lonely.seams F hF i hi, h F hF i hi⟩⟩

section
variable {w : Spared} {c : Cid} {s t u : State} {y z : Ctx}

theorem State.Lone.joined (h : s.Lone c) (d : Cid) : s.joined d = false := by
  have split : (s.layout == 0) = false := by simpa using h.split
  simp [State.joined, split]

theorem State.Lone.lead (h : s.Lone c) (d : Cid) : s.lead d = d := by simp [State.lead, h.joined]

theorem State.Lone.modBoth (h : s.Lone c) (d : Cid) (f : Ctx → Ctx) : s.modBoth d f = s.setCtx d (f (s.ctx d)) := s.modBoth_one d f (h.joined d)

/-- The bell acts on every context. -/
theorem State.Lone.bellCtxs (h : s.Lone c) : s.bellCtxs = allCids := by
  have free (d : Cid) : s.ctxStopped d = false := by rw [State.ctxStopped, h.stop]
  simp [State.bellCtxs, h.lead, free]

theorem State.Lone.of_spares (h : s.Lone c) (lw : w.Lonely) (k : State.Spares w s t) : t.Lone c where
  split := by
    have seams : s.SameSeams t := fun F hF i hi => k.cells F i 0 (lw.seams F hF i hi)
    rw [seams.layout]
    exact h.split
  seam := by
    have seams : s.SameSeams t := fun F hF i hi => k.cells F i 0 (lw.seams F hF i hi)
    rw [seams.seamOk]
    exact h.seam
  act := k.act.trans h.act
  forced := (congrArg Rst.forced k.rst).trans h.forced
  stop := (k.stop h.trig).trans h.stop
  trig := by rw [k.trig]; exact h.trig
  shadow := k.shadow.trans h.shadow
  others d hd := (k.ctx lw.ctxs d).trans (h.others d hd)

theorem State.Lone.setCtx (h : s.Lone c) (x : Ctx) : (s.setCtx c x).Lone c :=
  ⟨h.split, h.seam, h.act, h.forced, h.stop, h.trig, h.shadow, fun d hd => (s.ctx_setCtx_ne c d x hd).trans (h.others d hd)⟩

/-- A context as at reset that is written again as at reset. -/
theorem State.Lone.setOther (h : s.Lone c) {d : Cid} (hd : d ≠ c) : State.Turns allSpared c s (s.setCtx d {}) (s.ctx c) where
  lone := by
    refine ⟨h.split, h.seam, h.act, h.forced, h.stop, h.trig, h.shadow, fun e he => ?_⟩
    rw [State.ctx_setCtx]
    split
    · rfl
    · exact h.others e he
  cells _ _ _ _ := rfl
  events _ := ⟨rfl, rfl⟩
  ctx := s.ctx_setCtx_ne d c _ hd.symm

theorem State.Lone.turns (h : s.Lone c) (lw : w.Lonely) (k : State.Spares w s t) : State.Turns w c s t (s.ctx c) where
  lone := h.of_spares lw k
  cells := k.cells
  events e := by rw [k.events e h.trig]; exact ⟨rfl, rfl⟩
  ctx := k.ctx lw.ctxs c

theorem State.Lone.refl (h : s.Lone c) (w : Spared) : State.Turns w c s s (s.ctx c) := ⟨h, fun _ _ _ _ => rfl, fun _ => ⟨rfl, rfl⟩, rfl⟩

theorem State.Turns.trans (h : State.Turns w c s t y) (k : State.Turns w c t u z) : State.Turns w c s u z where
  lone := k.lone
  cells F i j q := (k.cells F i j q).trans (h.cells F i j q)
  events e := ⟨(k.events e).1.trans (h.events e).1, (k.events e).2.trans (h.events e).2⟩
  ctx := k.ctx

/-- Less is left too. -/
theorem State.Turns.mono {v : Spared} (h : State.Turns w c s t y) (cells : ∀ k, v.cells k → w.cells k) (events : v.events → w.events) :
    State.Turns v c s t y := ⟨h.lone, fun F i j q => h.cells F i j (cells _ q), fun e => h.events (events e), h.ctx⟩

theorem State.Turns.weaken {free : Nat → Prop} {events : Prop} (h : State.Turns allSpared c s t y) : State.Turns (sparedBut free events) c s t y :=
  h.mono (fun _ q => q.1) fun _ => trivial

theorem State.Turns.spares (h : State.Turns w c s t y) (lw : w.Lonely) (k : State.Spares w t u) : State.Turns w c s u y := by
  have next := h.trans (h.lone.turns lw k)
  rwa [h.ctx] at next

theorem State.Turns.set (h : State.Turns w c s t y) (x : Ctx) : State.Turns w c s (t.setCtx c x) x where
  lone := h.lone.setCtx x
  cells := h.cells
  events := h.events
  ctx := t.ctx_setCtx_self c x

theorem State.Turns.modBoth (h : State.Turns w c s t y) (f : Ctx → Ctx) : State.Turns w c s (t.modBoth c f) (f y) := by
  rw [h.lone.modBoth c f, h.ctx]
  exact h.set _

theorem State.Turns.to (h : State.Turns w c s t y) (e : y = z) : State.Turns w c s t z := e ▸ h

/-! ### Every context in turn -/

/-- An action that does nothing to a context as at reset. -/
def Quiet (c : Cid) (f : State → Cid → State) : Prop := ∀ u : State, u.Lone c → ∀ d, d ≠ c → State.Turns allSpared c u (f u d) (u.ctx c)

theorem Quiet.foldl {f : State → Cid → State} (quiet : Quiet c f) (l : List Cid) (hl : c ∉ l) (h : s.Lone c) :
    State.Turns allSpared c s (l.foldl f s) (s.ctx c) := by
  induction l generalizing s with
  | nil => exact h.refl _
  | cons d l ih =>
    have one := quiet s h d fun e => hl (e ▸ List.mem_cons_self ..)
    exact (one.trans (ih (fun m => hl (List.mem_cons_of_mem _ m)) one.lone)).to one.ctx

/-- In a round over all contexts the turn of `c` comes in a state like the first one, and the rest leaves what it did. -/
theorem Quiet.round {f : State → Cid → State} (quiet : Quiet c f) (h : s.Lone c) :
    ∃ u, State.Turns allSpared c s u (s.ctx c) ∧ ((f u c).Lone c → State.Turns allSpared c (f u c) (allCids.foldl f s) ((f u c).ctx c)) := by
  obtain ⟨l, r, e⟩ := List.append_of_mem (mem_allCids c)
  have once : allCids.Nodup := List.nodup_finRange 8
  rw [e, List.nodup_append, List.nodup_cons] at once
  obtain ⟨-, ⟨right, -⟩, apart⟩ := once
  have left : c ∉ l := fun m => apart c m c (List.mem_cons_self ..) rfl
  refine ⟨l.foldl f s, quiet.foldl l left h, fun alone => ?_⟩
  rw [e, List.foldl_append, List.foldl_cons]
  exact quiet.foldl r right alone

/-- A round of an action that is known for `c`. -/
theorem Quiet.turns {f : State → Cid → State} (quiet : Quiet c f) (h : s.Lone c) (y : Ctx)
    (self : ∀ u, State.Turns allSpared c s u (s.ctx c) → State.Turns allSpared c u (f u c) y) :
    State.Turns allSpared c s (allCids.foldl f s) y := by
  obtain ⟨u, before, after⟩ := quiet.round h
  have turn := self u before
  exact ((before.trans turn).trans (after turn.lone)).to turn.ctx

end

end Sys2Proof.Machine
end

section
/-! The judgement of a context that is alone at work (R125, R128, R129, R163). -/

namespace Sys2Proof.Machine

/-! ### What happens to the context's own state -/

/-- The segment is dropped; `late` says whether it was found over its budget. -/
def Ctx.dropped (late : Bool) (x : Ctx) : Ctx := { (if late then { x with overBudget := true } else x).aborted with provH := [] }

/-- STOPPED with the last-bell image. -/
def Ctx.stopped (code : BitVec 16) (x : Ctx) : Ctx :=
  { x with
    st := .stopped, prog := x.image, stopEvent := code, faulted := none, inSeg := false, atStart := false, newstep := false
    evalEnded := false, ended := false, halting := false, waitBells := 0, emptySeg := false, slipped := false, wait := .none }

/-- The same with its tags fallen back. -/
def Ctx.stoppedBy (code : BitVec 16) (x : Ctx) : Ctx := { x.stopped code with tags := x.tagImage }

/-- The segment's results are out. -/
def Ctx.flushed (x : Ctx) : Ctx := { x with stores := [], provH := [] }

/-- The segment has committed, with HALT or without. -/
def Ctx.commits (x : Ctx) : Ctx := if x.halting then x.flushed.committed.gone else x.flushed.committed

/-- The segment goes on past a bell. -/
def Ctx.slips (x : Ctx) : Ctx := { x with slipped := true }

/-- The segment has overrun. -/
def Ctx.overran (late : Bool) (x : Ctx) : Ctx :=
  let y := (x.dropped late).stoppedBy Ev.SEG_OVERRUN
  { y with cmd := if y.cmd == 1 then 0 else y.cmd }

section
variable {w : Spared} (lw : w.Lonely) {c : Cid} {s t : State} {y : Ctx}

/-! ### Raises while the trigger is off -/

theorem State.raise_evNo (s : State) (trig : s.fld Fld.DBG_TRIG_EN ≠ 1) (code : BitVec 16) (src : Src) (d : Option Cid) (n : Nat) :
    (s.raise code src d n).llx.evNo = s.llx.evNo + 1 := by
  have off : (s.raise0 code src d n).fld Fld.DBG_TRIG_EN ≠ 1 := by
    rwa [s.raise0_keepsFlds code src d n _ _ _ fun m => not_watched_event m watched_trig]
  obtain ⟨f, -, -, -, -, -, -, number⟩ := s.enqueue_recent code src d n 0
  rw [State.raise, State.trigger_off _ off, State.raise0_llx, number]

/-- The event `code` of a context stands among the raises last shown, numbered `n` or the next. -/
def State.Notes (t : State) (n : BitVec 32) (code : BitVec 16) (src : Src) : Prop :=
  ∃ f ∈ t.llx.recent, f.code = code ∧ (f.number = n ∨ f.number = n + 1) ∧ f.source = BitVec.ofNat 8 src.source ∧
    f.unit = BitVec.ofNat 8 src.unit ∧ f.detail = BitVec.ofNat 64 0

theorem State.Notes.raised {n : BitVec 32} {code : BitVec 16} {src : Src} (h : t.Notes n code src) (e : n = s.llx.evNo) : s.Raised t code src := by
  obtain ⟨f, mem, hc, hn, hs, hu, hd⟩ := h
  exact ⟨f, mem, hc, by rwa [← e], hs, hu, hd⟩

theorem State.Notes.mono {n : BitVec 32} {code : BitVec 16} {src : Src} {u : State} (h : t.Notes n code src) (e : u.llx.recent = t.llx.recent) :
    u.Notes n code src := by rwa [State.Notes, e]

theorem State.raise_notes (s : State) (code : BitVec 16) (src : Src) (d : Option Cid) (n : BitVec 32)
    (h : s.llx.evNo = n ∨ s.llx.evNo = n + 1) : (s.raise code src d).Notes n code src := by
  obtain ⟨f, shown, hc, hn, hs, hu, hd⟩ := s.raise_shows code src d 0
  exact ⟨f, List.mem_of_mem_take shown, hc, h.imp hn.trans hn.trans, hs, hu, hd⟩

/-! ### Parts of the judgement -/

theorem State.Turns.stopWith (h : State.Turns w c s t y) (code : BitVec 16) : State.Turns w c s (t.stopWith c code) (y.stoppedBy code) :=
  (h.modBoth _).modBoth _

include lw in
/-- The look at the budget: at most one event. -/
theorem State.checkBudget_turns (he : ¬ w.events) (h : s.Lone c) :
    ∃ late : Bool, State.Turns w c s (s.checkBudget c) (if late then { s.ctx c with overBudget := true } else s.ctx c) ∧
      ((s.checkBudget c).llx.evNo = s.llx.evNo ∨ (s.checkBudget c).llx.evNo = s.llx.evNo + 1) := by
  cases late : s.overBudget c with
  | false =>
    rw [s.checkBudget_within c late]
    exact ⟨false, h.refl w, .inl rfl⟩
  | true =>
    rw [s.checkBudget_over c late, h.lead]
    have counted := (h.refl w).spares lw (s.bump_budget_spares lw.ok c)
    have raised := counted.spares lw (State.raise_spares lw.ok _ he Ev.SEG_BUDGET (srcSeq c) (some c) 0)
    refine ⟨true, raised.modBoth _, .inr ?_⟩
    rw [raised.lone.modBoth]
    exact State.raise_evNo (s.bump Fld.SEQ_CTX_CNT_OVER_BUDGET 1 c.val) counted.lone.trig Ev.SEG_BUDGET (srcSeq c) (some c) 0

/-- The rest of a dropped segment raises nothing. -/
theorem State.dropRest_turns (h : (s.checkBudget c).Lone c) :
    State.Turns allSpared c (s.checkBudget c) (s.dropSegment c) { ((s.checkBudget c).ctx c).aborted with provH := [] } := by
  have la := allSpared_lonely
  obtain ⟨t, aborts, e⟩ := (s.checkBudget c).abortCtx_split la.ok c
  obtain ⟨u, cancels, e'⟩ := ((s.checkBudget c).abortCtx c).cancelAhead_split la.ok c
  have aborted := ((h.refl allSpared).spares la aborts).modBoth Ctx.aborted
  rw [← e] at aborted
  have cancelled := (aborted.spares la cancels).modBoth fun x => { x with provH := [] }
  rw [← e'] at cancelled
  exact (cancelled.spares la (State.secureDrop_spares la.ok _ c)).spares la (State.coefDrop_spares _ c)

include lw in
theorem State.dropSegment_turns (he : ¬ w.events) (h : s.Lone c) :
    ∃ late : Bool, State.Turns w c s (s.dropSegment c) ((s.ctx c).dropped late) ∧
      ((s.dropSegment c).llx.evNo = s.llx.evNo ∨ (s.dropSegment c).llx.evNo = s.llx.evNo + 1) := by
  obtain ⟨late, budget, number⟩ := s.checkBudget_turns lw he h
  have rest := State.dropRest_turns budget.lone
  refine ⟨late, (budget.trans (rest.mono (fun k q => lw.ok k q) fun _ => trivial)).to ?_, ?_⟩
  · rw [budget.ctx, Ctx.dropped]
  · rwa [(rest.events trivial).2]

/-! ### The commit (R125, R133) -/

include lw in
/-- The results of the segment. -/
theorem State.results_turns (he : ¬ w.events) (h : s.Lone c) :
    State.Turns w c s ((((s.flushStores c).lateDraws c).commitDraws c).commitAhead c) (s.ctx c).flushed := by
  obtain ⟨t, u, stores, draws, e⟩ := s.commitResults_split lw.ok he c
  have written := (h.refl w).spares lw stores
  have emptied : State.Turns w c s (t.modCtx (s.lead c) fun x => { x with stores := [] }) { s.ctx c with stores := [] } := by
    rw [h.lead, State.modCtx_eq, written.ctx]
    exact written.set _
  rw [e]
  exact (emptied.spares lw draws).modBoth _

include lw in
/-- A commit: the context's own state, and the segment's length as SEGSTAT tells it. -/
theorem State.commitCtx_turns (he : ¬ w.events) (h : s.Lone c) (seg : ¬ w.cells (Fld.SEQ_CTX_SEGSTAT_LAST.key c.val 0)) :
    State.Turns w c s (s.commitCtx c) (s.ctx c).commits ∧
      (s.commitCtx c).fld Fld.SEQ_CTX_SEGSTAT_LAST c.val = (s.ctx c).segLen % 2 ^ Fld.SEQ_CTX_SEGSTAT_LAST.width := by
  have la := allSpared_lonely
  have results := s.results_turns lw he h
  rw [State.commitCtx_eq]
  extract_lets t y u v z
  have own : y = (s.ctx c).flushed := results.ctx
  have noted : State.Turns w c s u (s.ctx c).flushed.committed :=
    (results.modBoth Ctx.committed).spares lw (State.setFld_spares _ _ _ _ _ seg (segstat_ne_trig c))
  have length : u.fld Fld.SEQ_CTX_SEGSTAT_LAST c.val = (s.ctx c).segLen % 2 ^ Fld.SEQ_CTX_SEGSTAT_LAST.width := by
    have told : u.fld Fld.SEQ_CTX_SEGSTAT_LAST c.val = y.segLen % 2 ^ Fld.SEQ_CTX_SEGSTAT_LAST.width :=
      (t.modBoth c Ctx.committed).fld_setFld_self Fld.SEQ_CTX_SEGSTAT_LAST y.segLen c.val 0 (by decide)
    rw [told, own]
    rfl
  have counts : State.Spares allSpared u z := u.commitCounts_spares la.ok c _ _ _
  have counted : State.Turns allSpared c u z (s.ctx c).flushed.committed := ((noted.lone.refl allSpared).spares la counts).to noted.ctx
  have ended : State.Turns allSpared c u (if y.halting then z.halted c else z) (s.ctx c).commits := by
    rw [own, Ctx.commits]
    obtain ⟨g, frees, e⟩ := State.halted_split (w := allSpared) z c
    have halting : (s.ctx c).flushed.halting = (s.ctx c).halting := rfl
    rw [halting]
    split
    · rw [e]
      exact (counted.spares la frees).modBoth _
    · exact counted
  refine ⟨(noted.trans (ended.mono (fun k q => lw.ok k q) fun _ => trivial)), ?_⟩
  rw [ended.cells _ _ _ (watched_ctx (by decide) c), length]

end

/-! ### Overrun, slip and stop (R128, R129, R163) -/

/-- The watched cells and the contexts, not the events. -/
def cellSpared : Spared := ⟨watched, True, False⟩

theorem cellSpared_lonely : cellSpared.Lonely := ⟨fun _ => id, trivial, allSpared_lonely.seams⟩

/-- What the judgement of `c` leaves. -/
def judgeSpared (c : Cid) : Spared := sparedBut (· ∈ judgedCells c) False

theorem seams_not_judged (c : Cid) : ∀ F ∈ seamFields, ∀ i < 8, F.key i 0 ∉ judgedCells c := by
  revert c
  decide

theorem judgeSpared_lonely (c : Cid) : (judgeSpared c).Lonely := sparedBut_lonely (seams_not_judged c)

theorem not_judgeSpared {c : Cid} {k : Nat} (h : k ∈ judgedCells c) : ¬ (judgeSpared c).cells k := fun q => q.2 h

section
variable {c : Cid} {s t : State} {y : Ctx}

theorem State.Turns.judged (h : State.Turns cellSpared c s t y) : State.Turns (judgeSpared c) c s t y := h.mono (fun _ q => q.1) id
theorem State.Turns.judgedQuiet (h : State.Turns allSpared c s t y) : State.Turns (judgeSpared c) c s t y := h.mono (fun _ q => q.1) fun _ => trivial

/-- What follows the raise of an overrun or a slip: a count, a trace record. -/
theorem State.Turns.cut (h : State.Turns allSpared c s t y) (outcome : Nat) : State.Turns allSpared c s ((t.ao 11 1).traceCut c outcome) y :=
  (h.spares allSpared_lonely (t.ao_spares 11 1)).spares allSpared_lonely (State.traceCut_spares allSpared_lonely.ok _ c outcome)

/-- What an overrun leaves past its event. -/
def State.overrunRest (s : State) (c : Cid) : State :=
  (((s.ao 11 1).traceCut c 1).stopWith c Ev.SEG_OVERRUN).modBoth c fun x => { x with cmd := if x.cmd == 1 then 0 else x.cmd }

theorem State.overrun_eq (s : State) (c : Cid) :
    s.overrun c = (((s.dropSegment c).bump Fld.SEQ_CTX_CNT_OVERRUNS 1 c.val).raise Ev.SEG_OVERRUN (srcSeq c) (some c)).overrunRest c := rfl

theorem State.overrunRest_turns (h : t.Lone c) :
    State.Turns allSpared c t (t.overrunRest c)
      { (t.ctx c).stoppedBy Ev.SEG_OVERRUN with cmd := if (t.ctx c).cmd == 1 then 0 else (t.ctx c).cmd } :=
  (((h.refl allSpared).cut 1).stopWith Ev.SEG_OVERRUN).modBoth _

/-- A raise after a count leaves the count. -/
theorem State.counted_raise (F : Fld) (i : Nat) (code : BitVec 16) (src : Src) (d : Option Cid) (width : F.width ≤ 64) (hw : watched (F.key i 0)) :
    ((s.bump F 1 i).raise code src d).fld F i = (s.fld F i + 1) % 2 ^ F.width := by
  rw [State.raise_keepsFlds _ _ _ _ _ _ _ _ fun m => not_watched_event m hw]
  exact s.fld_setFld_self F _ i 0 width

theorem State.counted_raise_notes (F : Fld) (i : Nat) (code : BitVec 16) (src : Src) (d : Option Cid) (n : BitVec 32)
    (h : s.llx.evNo = n ∨ s.llx.evNo = n + 1) : ((s.bump F 1 i).raise code src d).Notes n code src :=
  State.raise_notes (s.bump F 1 i) code src d n h

theorem State.overrun_turns (h : s.Lone c) :
    ∃ late, State.Turns (judgeSpared c) c s (s.overrun c) ((s.ctx c).overran late) ∧ s.Counted (s.overrun c) Fld.SEQ_CTX_CNT_OVERRUNS 1 c.val ∧
      (s.overrun c).Notes s.llx.evNo Ev.SEG_OVERRUN (srcSeq c) := by
  have lj := judgeSpared_lonely c
  obtain ⟨late, dropped, number⟩ := s.dropSegment_turns cellSpared_lonely id h
  have counted := dropped.judged.spares lj
    (State.bump_spares _ Fld.SEQ_CTX_CNT_OVERRUNS 1 c.val 0 (not_judgeSpared (by simp [judgedCells])) (overruns_ne_trig c))
  have raised := counted.spares lj (State.raise_spares lj.ok _ id Ev.SEG_OVERRUN (srcSeq c) (some c) 0)
  have rest := State.overrunRest_turns raised.lone
  rw [raised.ctx] at rest
  have cell : watched (Fld.SEQ_CTX_CNT_OVERRUNS.key c.val 0) := watched_ctx (by decide) c
  rw [State.overrun_eq]
  refine ⟨late, raised.trans rest.judgedQuiet, ?_, ?_⟩
  · rw [State.Counted, rest.cells _ _ _ cell, State.counted_raise _ _ _ _ _ (by decide) cell, dropped.cells _ _ _ cell]
  · exact (State.counted_raise_notes Fld.SEQ_CTX_CNT_OVERRUNS c.val _ _ (some c) _ number).mono (rest.events trivial).1

theorem State.slip_eq (s : State) (c : Cid) :
    s.slip c = ((((s.modBoth c Ctx.slips).bump Fld.SEQ_CTX_CNT_SLIPS 1 c.val).raise Ev.SEG_SLIP (srcSeq c) (some c)).ao
      11 1).traceCut c 2 := rfl

theorem State.slip_turns (h : s.Lone c) :
    State.Turns (judgeSpared c) c s (s.slip c) (s.ctx c).slips ∧ s.Counted (s.slip c) Fld.SEQ_CTX_CNT_SLIPS 1 c.val ∧
      (s.slip c).Notes s.llx.evNo Ev.SEG_SLIP (srcSeq c) := by
  have lj := judgeSpared_lonely c
  have marked : State.Turns allSpared c s (s.modBoth c Ctx.slips) (s.ctx c).slips :=
    (h.refl allSpared).modBoth _
  have counted := marked.judgedQuiet.spares lj
    (State.bump_spares _ Fld.SEQ_CTX_CNT_SLIPS 1 c.val 0 (not_judgeSpared (by simp [judgedCells])) (slips_ne_trig c))
  have raised := counted.spares lj (State.raise_spares lj.ok _ id Ev.SEG_SLIP (srcSeq c) (some c) 0)
  have rest := (raised.lone.refl allSpared).cut 2
  rw [raised.ctx] at rest
  have cell : watched (Fld.SEQ_CTX_CNT_SLIPS.key c.val 0) := watched_ctx (by decide) c
  rw [State.slip_eq]
  refine ⟨raised.trans rest.judgedQuiet, ?_, ?_⟩
  · rw [State.Counted, rest.cells _ _ _ cell, State.counted_raise _ _ _ _ _ (by decide) cell, marked.cells _ _ _ cell]
  · exact (State.counted_raise_notes Fld.SEQ_CTX_CNT_SLIPS c.val _ _ (some c) _ (.inl (marked.events trivial).2)).mono (rest.events trivial).1

theorem State.stopFaulted_turns (h : s.Lone c) (f : BitVec 16) (st : (s.ctx c).st = .running ∨ (s.ctx c).st = .waiting) :
    ∃ late, State.Turns (judgeSpared c) c s (s.stopFaulted c f) (((s.ctx c).dropped late).stoppedBy f) := by
  obtain ⟨late, dropped, -⟩ := s.dropSegment_turns cellSpared_lonely id h
  have rest := ((dropped.lone.refl allSpared).cut 3).stopWith f
  rw [dropped.ctx] at rest
  have stops : s.stopFaulted c f = (((s.dropSegment c).ao 11 1).traceCut c 3).stopWith c f := by
    rcases st with st | st <;> simp [State.stopFaulted, st]
  rw [stops]
  exact ⟨late, dropped.judged.trans rest.judgedQuiet⟩

/-! ### The judgement by what the context does (R30) -/

theorem State.judge_faulted {f : BitVec 16} (h : (s.ctx c).faulted = some f) : s.judge c = s.stopFaulted c f := by simp [State.judge, h]

theorem State.judge_waiting (h : (s.ctx c).faulted = none) (st : (s.ctx c).st = .waiting) : s.judge c = s.commitCtx c := by simp [State.judge, h, st]

theorem State.judge_rests (h : (s.ctx c).faulted = none) (waiting : (s.ctx c).st ≠ .waiting) (running : (s.ctx c).st ≠ .running) :
    s.judge c = s := by
  simp [State.judge, h, waiting, running]

theorem State.judge_running (h : (s.ctx c).faulted = none) (st : (s.ctx c).st = .running) :
    s.judge c = if s.flag Fld.SEQ_CTX_CFG_SLIP_EN c.val && !(s.ctx c).slipped && (s.ctx c).cmd != 1 then s.slip c else s.overrun c := by
  simp only [State.judge, h, st]
  rfl

theorem State.judge_slips (h : (s.ctx c).faulted = none) (st : (s.ctx c).st = .running) (en : s.fld Fld.SEQ_CTX_CFG_SLIP_EN c.val = 1)
    (fresh : (s.ctx c).slipped = false) (cmd : (s.ctx c).cmd ≠ 1) : s.judge c = s.slip c := by
  have yes : (s.flag Fld.SEQ_CTX_CFG_SLIP_EN c.val && !(s.ctx c).slipped && (s.ctx c).cmd != 1) = true := by
    simp only [State.flag, en, fresh, bne_iff_ne.mpr cmd]
    rfl
  rw [State.judge_running h st, if_pos yes]

theorem State.judge_overruns (h : (s.ctx c).faulted = none) (st : (s.ctx c).st = .running)
    (again : s.fld Fld.SEQ_CTX_CFG_SLIP_EN c.val ≠ 1 ∨ (s.ctx c).slipped = true ∨ (s.ctx c).cmd = 1) : s.judge c = s.overrun c := by
  have no : (s.flag Fld.SEQ_CTX_CFG_SLIP_EN c.val && !(s.ctx c).slipped && (s.ctx c).cmd != 1) = false := by
    rcases again with again | again | again <;> simp [State.flag, again]
  rw [State.judge_running h st, if_neg (Bool.eq_false_iff.mp no)]

theorem judge_quiet (c : Cid) : Quiet c State.judge := by
  intro u alone d ne
  have reset := alone.others d ne
  rw [State.judge_rests (by rw [reset]) (by rw [reset]; decide) (by rw [reset]; decide)]
  exact alone.refl _

end

end Sys2Proof.Machine
end

section
/-! The rounds of actions 3, 5 and 6 over the contexts where one is alone at work (R116, R124, R127, R136, R137, R141). -/

namespace Sys2Proof.Machine

/-- Its command is taken. -/
def Ctx.cleared (x : Ctx) : Ctx := { x with cmd := 0 }

/-- The seam is its own. -/
def Ctx.claims (x : Ctx) : Ctx := { x with owner := true }

/-- A READY context has its seam. -/
def Ctx.owns (x : Ctx) : Ctx := if x.st = .ready then x.claims else x

/-- Its slot's header is used up. -/
def Ctx.unread (x : Ctx) : Ctx := { x with preread := none }

/-- An empty segment of a BELLWAIT. -/
def Ctx.waits (no : Nat) (x : Ctx) : Ctx := { x with st := .waiting, emptySeg := true, waitBells := x.waitBells - 1, segLen := 0, segNo := no }

/-- A segment begins. -/
def Ctx.runs (no : Nat) (x : Ctx) : Ctx :=
  { x with st := .running, emptySeg := false, segNo := no, ldsOrd := 0, ldsPeer := [], flagOrd := 0, flagPeer := [], barOrd := 0 }

/-- What action 6 makes of a context that may use its seam. -/
def Ctx.begins (no : Nat) (x : Ctx) : Ctx :=
  if x.owner = true ∧ (x.st = .ready ∨ x.st = .waiting) then (if x.waitBells = 0 then x.runs no else x.waits no) else x

section
variable {c : Cid} {s t u v : State} {y : Ctx}

/-! ### Resets, commands, seams -/

theorem resets_quiet (c : Cid) : Quiet c fun s d => if (s.ctx d).resetReq then s.resetCtx d else s := by
  intro u alone d ne
  have calm : (u.ctx d).resetReq = false := by rw [alone.others d ne]
  simp only [calm, Bool.false_eq_true, if_false]
  exact alone.refl _

theorem State.takeCmd_zero (h : (s.ctx c).cmd = 0) : s.takeCmd c = s.modBoth c Ctx.cleared := by
  simp only [State.takeCmd, h]
  rfl

theorem takeCmd_quiet (c : Cid) : Quiet c State.takeCmd := by
  intro u alone d ne
  have reset := alone.others d ne
  rw [State.takeCmd_zero (by rw [reset]), alone.modBoth, reset]
  exact alone.setOther ne

/-- A seam that is well named is no bad seam. -/
theorem State.badSeam_ok (h : s.seamOk c = true) : s.badSeam c = s := by simp [State.badSeam, h]

theorem badSeam_quiet (c : Cid) : Quiet c State.badSeam := by
  intro u alone d ne
  have same : u.badSeam d = u := by simp [State.badSeam, alone.others d ne]
  rw [same]
  exact alone.refl _

theorem State.badSeam_turns (h : s.Lone c) : State.Turns allSpared c s (s.badSeam c) (s.ctx c) := by
  rw [State.badSeam_ok h.seam]
  exact h.refl _

/-- Only a READY context takes a seam. -/
theorem State.settle_not_ready (keep : Bool) (h : (s.ctx c).st ≠ .ready) : s.settle keep c = s := by simp [State.settle, h]

theorem settle_quiet (keep : Bool) (c : Cid) : Quiet c fun s d => s.settle keep d := by
  intro u alone d ne
  have same : u.settle keep d = u := State.settle_not_ready keep (by rw [alone.others d ne]; decide)
  simp only [same]
  exact alone.refl _

/-- The owner of its seam can be no context but itself. -/
theorem State.Lone.owner (h : s.Lone c) {d : Cid} (own : (s.ctx d).owner = true) : d = c := by
  by_contra ne
  rw [h.others d ne] at own
  exact absurd own (by decide)

theorem Ctx.claims_owner (x : Ctx) (h : x.owner = true) : x.claims = x := by
  cases x
  cases h
  rfl

theorem State.settle_turns (keep : Bool) (h : s.Lone c) : State.Turns allSpared c s (s.settle keep c) (s.ctx c).owns := by
  by_cases ready : (s.ctx c).st = .ready
  · rw [Ctx.owns, if_pos ready, State.settle]
    cases own : allCids.find? fun d => s.lead d == d && (s.ctx d).owner && s.sameSeam c d with
    | none =>
      dsimp only
      rw [if_pos (by simp [ready, h.seam])]
      exact (h.refl _).modBoth _
    | some d =>
      have owner : (s.ctx d).owner = true := by
        have found := List.find?_some own
        simp only [Bool.and_eq_true] at found
        exact found.1.2
      obtain rfl := h.owner owner
      dsimp only
      rw [if_neg (by simp [ready]), Ctx.claims_owner _ owner]
      exact h.refl _
  · rw [Ctx.owns, if_neg ready, State.settle_not_ready keep ready]
    exact h.refl _

theorem State.settleAll_turns (h : s.Lone c) (calm : (s.ctx c).resetReq = false) :
    ∃ u, State.Turns allSpared c s u (s.ctx c) ∧
      ((u.takeCmd c).Lone c → State.Turns allSpared c (u.takeCmd c) s.settleAll ((u.takeCmd c).ctx c).owns) := by
  unfold State.settleAll
  rw [h.bellCtxs]
  extract_lets cs s1 s2 s3
  have resets : State.Turns allSpared c s s1 (s.ctx c) := by
    refine (resets_quiet c).turns h _ fun u before => ?_
    have none' : (u.ctx c).resetReq = false := by rw [before.ctx, calm]
    simp only [none', Bool.false_eq_true, if_false]
    exact (before.lone.refl _).to before.ctx
  obtain ⟨u, before, after⟩ := (takeCmd_quiet c).round resets.lone
  refine ⟨u, (resets.trans before).to resets.ctx, fun alone => ?_⟩
  have commands : State.Turns allSpared c (u.takeCmd c) s2 ((u.takeCmd c).ctx c) := after alone
  have seams : State.Turns allSpared c s2 s3 (s2.ctx c) := (badSeam_quiet c).turns commands.lone _ fun v before =>
    (State.badSeam_turns before.lone).to before.ctx
  have owners : State.Turns allSpared c s3 (allCids.foldl (fun s c => s.settle false c) s3) (s3.ctx c).owns :=
    (settle_quiet false c).turns seams.lone _ fun v before => (State.settle_turns false before.lone).to (by rw [before.ctx])
  rw [State.assertForced_none _ owners.lone.forced]
  exact ((commands.trans seams).trans owners).to (by rw [seams.ctx, commands.ctx])

/-! ### New work and segments -/

/-- Where no header was read ahead, or the context is not IDLE, the scan only uses the header up. -/
theorem State.scan_none (h : (s.ctx c).preread = none ∨ (s.ctx c).st ≠ .idle) : s.scan c = s.modBoth c Ctx.unread := by
  unfold State.scan
  cases head : (s.ctx c).preread with
  | none => simp only [head]; rfl
  | some b =>
    have busy : (s.ctx c).st ≠ .idle := h.resolve_left (by simp [head])
    simp only [head, bne_iff_ne.mpr busy, Bool.true_or, if_true]
    rfl

theorem scan_quiet (c : Cid) : Quiet c State.scan := by
  intro u alone d ne
  have reset := alone.others d ne
  rw [State.scan_none (.inl (by rw [reset])), alone.modBoth, reset]
  exact alone.setOther ne

theorem State.begin_rests (h : ¬ ((s.ctx c).owner = true ∧ ((s.ctx c).st = .ready ∨ (s.ctx c).st = .waiting))) : s.begin c = s := by
  have no : (!(s.ctx c).owner || !((s.ctx c).st == .ready || (s.ctx c).st == .waiting)) = true := by
    simpa [Bool.or_eq_true, imp_iff_not_or] using h
  simp only [State.begin, no, if_true]

theorem begin_quiet (c : Cid) : Quiet c State.begin := by
  intro u alone d ne
  rw [State.begin_rests (by rw [alone.others d ne]; decide)]
  exact alone.refl _

theorem State.begin_turns (h : s.Lone c) : ∃ no, State.Turns allSpared c s (s.begin c) ((s.ctx c).begins no) := by
  refine ⟨s.dispNo, ?_⟩
  by_cases may : (s.ctx c).owner = true ∧ ((s.ctx c).st = .ready ∨ (s.ctx c).st = .waiting)
  · have go : (!(s.ctx c).owner || !((s.ctx c).st == .ready || (s.ctx c).st == .waiting)) = false := by
      obtain ⟨own, st⟩ := may
      rcases st with st | st <;> simp [own, st]
    rw [Ctx.begins, if_pos may]
    unfold State.begin
    extract_lets x s1 tok s2 rlf s3
    rw [if_neg (Bool.eq_false_iff.mp go), if_neg (by simp [h.seam])]
    by_cases left : (s.ctx c).waitBells = 0
    · rw [if_pos left, if_neg (by simp [x, left])]
      have own : State.Turns allSpared c s s1 ((s.ctx c).runs s.dispNo) := (h.refl _).modBoth _
      clear_value s1
      have token : State.Spares allSpared s1 s2 := .ite (fun _ => s1.token_spares _) fun _ => .refl _ s1
      clear_value s2
      have hold : State.Spares allSpared s2 s3 := .ite (fun _ => s2.hold_spares _) fun _ => .refl _ s2
      clear_value s3
      exact own.spares allSpared_lonely ((token.trans hold).trans (s3.trace_spares allSpared_lonely.ok _ _ _ _))
    · rw [if_neg left, if_pos (by simpa [x] using left)]
      exact (h.refl _).modBoth _
  · rw [Ctx.begins, if_neg may, State.begin_rests may]
    exact h.refl _

theorem State.bellFilled_turns (h : s.Lone c) :
    ∃ u, State.Turns allSpared c s u (s.ctx c) ∧
      ((u.scan c).Lone c → ∃ no, State.Turns allSpared c (u.scan c) s.bellFilled (((u.scan c).ctx c).owns.begins no)) := by
  unfold State.bellFilled
  rw [h.bellCtxs]
  obtain ⟨u, before, after⟩ := (scan_quiet c).round h
  refine ⟨u, before, fun alone => ?_⟩
  have scanned := after alone
  have seams : State.Turns allSpared c _ (allCids.foldl State.badSeam (allCids.foldl State.scan s)) _ :=
    (badSeam_quiet c).turns scanned.lone _ fun v before => (State.badSeam_turns before.lone).to before.ctx
  have owners := (settle_quiet true c).turns seams.lone _ fun v before =>
    (State.settle_turns true before.lone).to (by rw [before.ctx, seams.ctx, scanned.ctx])
  obtain ⟨v, start, rest⟩ := (begin_quiet c).round owners.lone
  obtain ⟨no, begun⟩ := State.begin_turns start.lone
  refine ⟨no, ?_⟩
  exact ((((scanned.trans seams).trans owners).trans (start.trans begun)).trans (rest begun.lone)).to (by rw [begun.ctx, start.ctx, owners.ctx])

theorem State.linkBell_turns (h : s.Lone c) (k : Nat) :
    State.Turns allSpared c s ((s.sendHeartbeats k).countMissed k).countOffset.rejoinBell (s.ctx c) :=
  h.turns allSpared_lonely (s.linkBell_spares h.act k)

end

end Sys2Proof.Machine
end

section
/-! The commands and new work of a context that is alone at work (R136, R137, R141, R475), and its whole bell. -/

namespace Sys2Proof.Machine

/-! ### The context's own state -/

/-- STOP with what is left of a BELLWAIT. -/
def Ctx.haltedBy (code : BitVec 16) (x : Ctx) : Ctx := { x.cleared.stoppedBy code with waitBells := x.waitBells }

/-- RESUME. -/
def Ctx.resumes (x : Ctx) : Ctx := { x.cleared with st := .ready }

/-- New work from the header `h`. -/
def Ctx.works (h : List Byte) (x : Ctx) : Ctx :=
  let p : ProgState := { pc := BitVec.ofNat 64 (leAt h 8 8), step := BitVec.ofNat 63 (leAt h 24 8), evalCnt := x.prog.evalCnt }
  { x with
    st := .ready, prog := p, image := p, tags := [], tagImage := [], takenStep := BitVec.ofNat 63 (leAt h 24 8), pastReturn := false, millUe := false
    waitBells := 0, faulted := none }

/-- From its command to the end of a bell that brings no new work. -/
def Ctx.ends (no : Nat) (x : Ctx) : Ctx := x.owns.unread.owns.begins no

section
variable {c : Cid} {s t u v : State} {y : Ctx}

/-! ### Commands -/

/-- STOP. -/
theorem State.takeCmd_stop (cmd : (s.ctx c).cmd = 1) (st : (s.ctx c).st = .running ∨ (s.ctx c).st = .waiting) :
    s.takeCmd c = (s.modBoth c Ctx.cleared).stopCmd c := by
  have active : (((s.ctx c).st == .running || (s.ctx c).st == .waiting) || (s.ctx c).st == .ready) = true := by
    rcases st with st | st <;> rw [st] <;> rfl
  simp only [State.takeCmd, cmd]
  exact if_pos active

theorem State.stopCmd_turns (h : s.Lone c) :
    ∃ code, State.Turns allSpared c s (s.stopCmd c) { (s.ctx c).stoppedBy code with waitBells := (s.ctx c).waitBells } :=
  ⟨_, (((h.refl _).spares allSpared_lonely s.takeFree_spares).stopWith _).modBoth _⟩

theorem State.takeCmd_stop_turns (h : s.Lone c) (cmd : (s.ctx c).cmd = 1) (st : (s.ctx c).st = .running ∨ (s.ctx c).st = .waiting) :
    ∃ code, State.Turns allSpared c s (s.takeCmd c) ((s.ctx c).haltedBy code) := by
  have cleared : State.Turns allSpared c s (s.modBoth c Ctx.cleared) (s.ctx c).cleared := (h.refl _).modBoth _
  obtain ⟨code, stopped⟩ := State.stopCmd_turns cleared.lone
  rw [State.takeCmd_stop cmd st]
  exact ⟨code, (cleared.trans stopped).to (by rw [cleared.ctx]; rfl)⟩

/-- RESUME. -/
theorem State.takeCmd_resume (cmd : (s.ctx c).cmd = 2) (st : (s.ctx c).st = .stopped) :
    s.takeCmd c = (s.modBoth c Ctx.cleared).resume c := by
  simp only [State.takeCmd, cmd, st]
  rfl

theorem State.takeCmd_resume_turns (h : s.Lone c) (cmd : (s.ctx c).cmd = 2) (st : (s.ctx c).st = .stopped)
    (may : (s.ctx c).pastReturn = false ∧ (s.ctx c).millUe = false) : State.Turns allSpared c s (s.takeCmd c) (s.ctx c).resumes := by
  have cleared : State.Turns allSpared c s (s.modBoth c Ctx.cleared) (s.ctx c).cleared := (h.refl _).modBoth _
  have ready : State.Turns allSpared c s ((s.modBoth c Ctx.cleared).modBoth c fun x => { x with st := .ready }) (s.ctx c).resumes := cleared.modBoth _
  have no : (((s.modBoth c Ctx.cleared).ctx c).pastReturn || ((s.modBoth c Ctx.cleared).ctx c).millUe) = false := by
    rw [cleared.ctx]
    simp [Ctx.cleared, may]
  rw [State.takeCmd_resume cmd st, State.resume]
  dsimp only
  rw [if_neg (Bool.eq_false_iff.mp no), ready.lone.act]
  exact ready

/-- A context past a RETURN, or with an uncorrectable word, may not resume. -/
theorem State.takeCmd_refused_turns (h : s.Lone c) (cmd : (s.ctx c).cmd = 2) (st : (s.ctx c).st = .stopped)
    (may : (s.ctx c).pastReturn = true ∨ (s.ctx c).millUe = true) :
    State.Turns cellSpared c s (s.takeCmd c) (s.ctx c).cleared ∧ (s.takeCmd c).Notes s.llx.evNo Ev.SEQ_NO_RESTART (srcSeq c) := by
  have cleared : State.Turns allSpared c s (s.modBoth c Ctx.cleared) (s.ctx c).cleared := (h.refl _).modBoth _
  have yes : (((s.modBoth c Ctx.cleared).ctx c).pastReturn || ((s.modBoth c Ctx.cleared).ctx c).millUe) = true := by
    rw [cleared.ctx]
    simpa [Ctx.cleared] using may
  have refuses : s.takeCmd c = (s.modBoth c Ctx.cleared).raise Ev.SEQ_NO_RESTART (srcSeq c) (some c) := by
    rw [State.takeCmd_resume cmd st, State.resume]
    exact if_pos yes
  rw [refuses]
  refine ⟨?_, State.raise_notes _ _ _ _ _ (.inl (cleared.events trivial).2)⟩
  exact (cleared.mono (v := cellSpared) (fun _ q => q) fun e => e.elim).spares cellSpared_lonely
    (State.raise_spares cellSpared_lonely.ok _ id _ _ _ _)

/-- What KILL leaves. -/
def killSpared : Spared := sparedBut (fun k => ∃ r < 256, k = Fld.MEM_RGN_B_STATE.key r 0) False

theorem killSpared_lonely : killSpared.Lonely := by
  refine sparedBut_lonely fun F hF i hi => ?_
  rintro ⟨r, hr, e⟩
  simp only [seamFields, List.mem_cons, List.not_mem_nil, or_false] at hF
  rcases hF with rfl | rfl | rfl
  all_goals
    simp only [Fld.key] at e
    omega

theorem State.killCtx_turns (h : s.Lone c) :
    ∃ late e, State.Turns killSpared c s (s.killCtx c) ((((s.ctx c).dropped late).stopped 0).killed e) := by
  obtain ⟨late, dropped, -⟩ := s.dropSegment_turns killSpared_lonely id h
  obtain ⟨t, e, units, eq⟩ := s.killCtx_split (w := killSpared) c fun r hr q => q.2 ⟨r, hr, rfl⟩
  rw [eq]
  exact ⟨late, e, ((dropped.spares killSpared_lonely units).modBoth _).modBoth _⟩

theorem State.takeCmd_kill_turns (h : s.Lone c) (cmd : (s.ctx c).cmd = 3) (st : (s.ctx c).st = .waiting) :
    ∃ late e, State.Turns killSpared c s (s.takeCmd c) ((((s.ctx c).cleared.dropped late).stopped 0).killed e) := by
  have cleared : State.Turns allSpared c s (s.modBoth c Ctx.cleared) (s.ctx c).cleared := (h.refl _).modBoth _
  have kills : s.takeCmd c = (s.modBoth c Ctx.cleared).killCtx c := by
    have active : ((s.ctx c).st == .idle || (s.ctx c).st == .purging) = false := by rw [st]; rfl
    simp only [State.takeCmd, cmd]
    exact if_neg (Bool.eq_false_iff.mp active)
  obtain ⟨late, e, killed⟩ := State.killCtx_turns cleared.lone
  rw [cleared.ctx] at killed
  rw [kills]
  exact ⟨late, e, (cleared.weaken (free := fun k => ∃ r < 256, k = Fld.MEM_RGN_B_STATE.key r 0) (events := False)).trans killed⟩

/-! ### New work (R141, R475) -/

/-- What new work leaves. -/
def scanSpared (c : Cid) : Spared := sparedBut (· ∈ scannedCells c) True

theorem seams_not_scanned (c : Cid) : ∀ F ∈ seamFields, ∀ i < 8, F.key i 0 ∉ scannedCells c := by
  revert c
  decide

theorem scanSpared_lonely (c : Cid) : (scanSpared c).Lonely := sparedBut_lonely (seams_not_scanned c)

theorem not_scanSpared {k : Nat} (h : k ∈ scannedCells c) : ¬ (scanSpared c).cells k := fun q => q.2 h

theorem scanned_apart (c : Cid) :
    Fld.SEQ_CTX_SUBSEQ_NEXT_SEQ.key c.val 0 ≠ Fld.SEQ_CTX_SEED_SEED.key c.val 0 ∧
      Fld.SEQ_CTX_SEED_SEED.key c.val 0 ≠ Fld.SEQ_CTX_SUBSEQ_NEXT_SEQ.key c.val 0 ∧
      Fld.SEQ_CTX_SEED_SEED.key c.val 0 ≠ Fld.SEQ_CTX_SUBSEQ_TAKEN.key c.val 0 ∧
      Fld.SEQ_CTX_SUBSEQ_NEXT_SEQ.key c.val 0 ≠ Fld.SEQ_CTX_SUBSEQ_TAKEN.key c.val 0 ∧
      Fld.SEQ_CTX_SUBSEQ_TAKEN.key c.val 0 ≠ Fld.SEQ_CTX_SEED_SEED.key c.val 0 ∧
      Fld.SEQ_CTX_SUBSEQ_TAKEN.key c.val 0 ≠ Fld.SEQ_CTX_SUBSEQ_NEXT_SEQ.key c.val 0 := by
  revert c
  decide

theorem ofBytes_lt (l : List Byte) : ofBytes l < 256 ^ l.length := by
  induction l with
  | nil => decide
  | cons b l ih =>
    have byte := b.isLt
    rw [ofBytes, List.length_cons, Nat.pow_succ]
    omega

theorem leAt_lt (l : List Byte) (lo : Nat) : leAt l lo 8 < 2 ^ 64 := by
  have bound := ofBytes_lt (sliceB l lo 8)
  have length : (sliceB l lo 8).length = 8 := by simp [sliceB]
  rw [length] at bound
  exact bound

/-- Where the header says seed and step, and the number of the next slot. -/
def State.numberWork (s : State) (c : Cid) (b : List Byte) : State :=
  ((s.setFld Fld.SEQ_CTX_SEED_SEED (leAt b 16 8) c.val).setFld Fld.SEQ_CTX_SUBSEQ_NEXT_SEQ (s.fld Fld.SEQ_CTX_SUBSEQ_NEXT_SEQ c.val + 1) c.val).bump
    Fld.SEQ_CTX_SUBSEQ_TAKEN 1 c.val

/-- The context's own counters begin anew. -/
def State.clearOwn (s : State) (c : Cid) : State := { s with dbg := { s.dbg with cnt := SMap.clear s.dbg.cnt (8 * c.val) 8 } }

theorem State.takeWork_eq (s : State) (c : Cid) (b : List Byte) : s.takeWork c b = ((s.modBoth c (Ctx.works b)).numberWork c b).clearOwn c := rfl

theorem State.clearOwn_spares {w : Spared} (s : State) (c : Cid) : State.Spares w s (s.clearOwn c) := s.ownCounts_spares _

theorem State.clearOwn_fld (s : State) (c : Cid) (F : Fld) (i j : Nat) : (s.clearOwn c).fld F i j = s.fld F i j := rfl

theorem State.numberWork_spares (s : State) (c : Cid) (b : List Byte) : State.Spares (scanSpared c) s (s.numberWork c b) :=
  ((s.setFld_spares _ _ _ _ (not_scanSpared (by simp [scannedCells])) (seed_ne_trig c)).trans
    (State.setFld_spares _ Fld.SEQ_CTX_SUBSEQ_NEXT_SEQ _ _ _ (not_scanSpared (by simp [scannedCells])) (nextSeq_ne_trig c))).trans
    (State.bump_spares _ Fld.SEQ_CTX_SUBSEQ_TAKEN _ _ _ (not_scanSpared (by simp [scannedCells])) (taken_ne_trig c))

theorem State.numberWork_flds (s : State) (c : Cid) (b : List Byte) :
    (s.numberWork c b).fld Fld.SEQ_CTX_SEED_SEED c.val = leAt b 16 8 ∧
      s.Counted (s.numberWork c b) Fld.SEQ_CTX_SUBSEQ_NEXT_SEQ 1 c.val ∧ s.Counted (s.numberWork c b) Fld.SEQ_CTX_SUBSEQ_TAKEN 1 c.val := by
  obtain ⟨seqSeed, seedSeq, seedTaken, seqTaken, takenSeed, takenSeq⟩ := scanned_apart c
  unfold State.numberWork
  refine ⟨?_, ?_, ?_⟩
  · rw [State.bump, State.fld_setFld_ne _ _ _ _ _ _ _ _ seedTaken,
      State.fld_setFld_ne _ _ _ _ _ _ _ _ seedSeq, State.fld_setFld_self _ _ _ _ _ (by decide)]
    exact Nat.mod_eq_of_lt (leAt_lt b 16)
  · rw [State.Counted, State.bump, State.fld_setFld_ne _ _ _ _ _ _ _ _ seqTaken, State.fld_setFld_self _ _ _ _ _ (by decide)]
  · rw [State.Counted, State.bump, State.fld_setFld_self _ _ _ _ _ (by decide), State.fld_setFld_ne _ _ _ _ _ _ _ _ takenSeq,
      State.fld_setFld_ne _ _ _ _ _ _ _ _ takenSeed]

theorem State.takeWork_turns (h : s.Lone c) (b : List Byte) :
    State.Turns (scanSpared c) c s (s.takeWork c b) ((s.ctx c).works b) ∧ (s.takeWork c b).fld Fld.SEQ_CTX_SEED_SEED c.val = leAt b 16 8 ∧
      s.Counted (s.takeWork c b) Fld.SEQ_CTX_SUBSEQ_NEXT_SEQ 1 c.val ∧ s.Counted (s.takeWork c b) Fld.SEQ_CTX_SUBSEQ_TAKEN 1 c.val := by
  have fresh : State.Turns (scanSpared c) c s (s.modBoth c (Ctx.works b)) ((s.ctx c).works b) := (h.refl _).modBoth _
  have regs (F : Fld) (i j : Nat) : (s.modBoth c (Ctx.works b)).fld F i j = s.fld F i j := by rw [h.modBoth]; rfl
  have numbered := fresh.spares (scanSpared_lonely c) (State.numberWork_spares _ c b)
  have told := State.numberWork_flds (s.modBoth c (Ctx.works b)) c b
  simp only [State.Counted, regs] at told
  rw [State.takeWork_eq]
  simp only [State.Counted, State.clearOwn_fld]
  exact ⟨numbered.spares (scanSpared_lonely c) (State.clearOwn_spares _ c), told⟩

end

end Sys2Proof.Machine
end

section
/-! A whole bell where one context is alone at work (R30): its turns one after another. -/

namespace Sys2Proof.Machine

section
variable {c : Cid} {s t u v : State} {y : Ctx}

/-! ### The scan that brings work -/

/-- The fields that say which entry points fit. -/
def entryFields : List Fld :=
  [Fld.SFC_PROFILE_SEAM, Fld.SEQ_CTX_CFG_SEAM, Fld.SEQ_CTX_CFG_JOIN, Fld.MEM_RGN_A_BASE, Fld.MEM_RGN_A_SIZE, Fld.MEM_RGN_B_STATE,
    Fld.MEM_RGN_B_CLASS, Fld.MEM_RGN_B_SEQ, Fld.MEM_RGN_B_CTX]

theorem State.entryFits_congr (h : ∀ F ∈ entryFields, ∀ i < 256, t.fld F i = s.fld F i) (c : Cid) (a : Nat) :
    t.entryFits c a = s.entryFits c a := by
  have both : ∀ F ∈ seamFields, F ∈ entryFields := by decide
  have seams : s.SameSeams t := fun F hF i hi => h F (both F hF) i (by omega)
  have lead : t.lead c = s.lead c := seams.lead c
  have one (r : Nat) (hr : r < 256) : t.rgnState r = s.rgnState r ∧ t.rgnBase r = s.rgnBase r ∧ t.rgnSize r = s.rgnSize r ∧
      t.rgnOfCtx c r = s.rgnOfCtx c r := by
    have at_ (F : Fld) (hF : F ∈ entryFields) := h F hF r hr
    simp only [State.rgnOfCtx, State.rgnOwned, State.rgnOwner, State.rgnState, State.rgnBase, State.rgnSize, State.rgnClass, lead,
      at_ Fld.MEM_RGN_B_STATE (by decide), at_ Fld.MEM_RGN_A_BASE (by decide), at_ Fld.MEM_RGN_A_SIZE (by decide),
      at_ Fld.MEM_RGN_B_CLASS (by decide), at_ Fld.MEM_RGN_B_SEQ (by decide), at_ Fld.MEM_RGN_B_CTX (by decide), and_self]
  have found : t.rgnFor c a 8 = s.rgnFor c a 8 := by
    refine List.find?_congr fun r hr => ?_
    obtain ⟨state, base, size, own⟩ := one r (List.mem_range.mp hr)
    simp only [State.rgnHolds, state, base, size, own]
  unfold State.entryFits
  rw [found]
  cases at_ : s.rgnFor c a 8 with
  | none => rfl
  | some r =>
    obtain ⟨state, base, -⟩ := one r (List.mem_range.mp (List.mem_of_find?_eq_some at_))
    simp only [state, base]

/-- A good header of the next slot brings work. -/
theorem State.scan_takes (h : s.Lone c) (idle : (s.ctx c).st = .idle) (b : List Byte) (head : (s.ctx c).preread = some b)
    (en : s.fld Fld.SEQ_CTX_CFG_SCAN_EN c.val = 1) (role : s.fld Fld.RLF_CFG_ROLE ≠ 1)
    (seq : leAt b 0 4 = s.fld Fld.SEQ_CTX_SUBSEQ_NEXT_SEQ c.val) (crc : leAt b 4 4 = (crc32c (sliceB b 0 4 ++ sliceB b 8 24)).toNat)
    (fits : s.entryFits c (leAt b 8 8) = true) : s.scan c = (s.modBoth c Ctx.unread).takeWork c b := by
  have regs (F : Fld) (i j : Nat) : (s.modBoth c Ctx.unread).fld F i j = s.fld F i j := by rw [h.modBoth]; rfl
  have fits' : (s.modBoth c Ctx.unread).entryFits c (leAt b 8 8) = true := by
    rw [State.entryFits_congr fun F _ i _ => regs F i 0]
    exact fits
  unfold State.scan
  extract_lets x seq' s1
  have same (F : Fld) (i j : Nat) : s1.fld F i j = s.fld F i j := regs F i j
  have taken : ¬ (x.st != .idle || !s1.flag Fld.SEQ_CTX_CFG_SCAN_EN c.val || s1.flag Fld.RLF_CFG_ROLE || leAt b 0 4 != seq') := by
    have st : x.st = .idle := idle
    have scan : s1.flag Fld.SEQ_CTX_CFG_SCAN_EN c.val = true := by rw [State.flag, same, en]; rfl
    have device : s1.flag Fld.RLF_CFG_ROLE = false := by rw [State.flag, same]; simpa using role
    have number : leAt b 0 4 = seq' := seq
    simp [st, scan, device, number]
  have good : (leAt b 4 4 == (crc32c (sliceB b 0 4 ++ sliceB b 8 24)).toNat && s1.entryFits c (leAt b 8 8)) = true := by
    rw [Bool.and_eq_true, beq_iff_eq]
    exact ⟨crc, fits'⟩
  have pre : x.preread = some b := head
  simp only [pre]
  rw [if_neg taken, if_pos good]
  rfl

/-! ### The bell up to the judgement, and what latches -/

/-- What the counters' copies and the publications leave; the events where no push was held back. -/
def startSpared (quiet : Prop) : Spared :=
  sparedBut (fun k => k = Fld.SEQ_BELL_NUM_NUMBER.key 0 0 ∨ k = Fld.DBG_SNAP_BELL_BELL.key 0 0) quiet

theorem startSpared_lonely (quiet : Prop) : (startSpared quiet).Lonely := by
  refine sparedBut_lonely ?_
  decide

theorem State.foldl_stores {α : Type} (f : State → α → State) (l : List α) (h : ∀ t a, (f t a).stores = t.stores) (s : State) :
    (l.foldl f s).stores = s.stores := by
  induction l generalizing s with
  | nil => rfl
  | cons a l ih => rw [List.foldl_cons, ih, h]

/-- The copies are registers. -/
theorem State.snapCounters_stores (s : State) : s.snapCounters.stores = s.stores := by
  unfold State.snapCounters
  dsimp only
  rw [State.setFld_stores, State.foldl_stores _ _ fun t c => State.foldl_stores _ _ (fun t k => State.setFld_stores t _ _ _ _) t,
    State.foldl_stores _ _ fun t k => State.setFld_stores t _ _ _ _]

theorem State.publish_turns (h : s.Lone c) :
    State.Turns (startSpared (∀ k, (s.store k).held = [])) c s s.snapCounters.publish (s.ctx c) := by
  let w := startSpared (∀ k, (s.store k).held = [])
  have lw : w.Lonely := startSpared_lonely _
  have copied : State.Spares w s s.snapCounters := s.snapCounters_spares lw.ok fun q => q.2 (.inr rfl)
  have stores (k : Nat) : s.snapCounters.store k = s.store k := by rw [State.store, State.store, s.snapCounters_stores]
  refine h.turns lw (copied.trans ?_)
  by_cases held : ∀ k, (s.store k).held = []
  · exact State.publish_quiet lw.ok _ fun k => by rw [stores, held k]
  · exact State.publish_spares lw.ok _ held

theorem State.bellLatched_turns (h : s.Lone c) (k : Nat) : State.Turns allSpared c s (s.bellLatched k) (s.ctx c) := by
  obtain ⟨g, e⟩ := s.bellLatched_form (by rw [h.shadow]; simp) k
  have cells (F : Fld) (i j : Nat) (q : watched (F.key i j)) : (s.bellLatched k).fld F i j = s.fld F i j :=
    (s.latchAll_fld F i j q).trans (by rw [s.latch_none h.shadow])
  have seams : s.SameSeams (s.bellLatched k) := fun F hF i hi => cells F i 0 (allSpared_lonely.seams F hF i hi)
  have ctxs : (s.bellLatched k).ctxs = s.ctxs := by rw [e]
  have own (d : Cid) : (s.bellLatched k).ctx d = s.ctx d := by rw [State.ctx, State.ctx, ctxs]
  refine ⟨⟨?_, ?_, ?_, ?_, ?_, ?_, ?_, fun d hd => (own d).trans (h.others d hd)⟩, cells, fun _ => ?_, own c⟩
  · rw [seams.layout]; exact h.split
  · rw [seams.seamOk]; exact h.seam
  · rw [e]; exact h.act
  · rw [e]; exact h.forced
  · rw [e]; exact h.stop
  · rw [cells _ _ _ watched_trig]; exact h.trig
  · rw [e]
  · rw [e]; exact ⟨rfl, rfl⟩

/-- The bell has come. -/
theorem State.rung_turns (h : s.Lone c) (quiet : Prop) : State.Turns (startSpared quiet) c s s.rung (s.ctx c) := by
  have cells (F : Fld) (i j : Nat) (q : (startSpared quiet).cells (F.key i j)) : s.rung.fld F i j = s.fld F i j :=
    s.rung_fld F i j q.1 fun e => q.2 (.inl e)
  have seams : s.SameSeams s.rung := fun F hF i hi => cells F i 0 ((startSpared_lonely quiet).seams F hF i hi)
  have own (d : Cid) : s.rung.ctx d = s.ctx d := by rw [State.ctx, State.ctx, s.rung_ctxs]
  refine ⟨⟨?_, ?_, s.rung_act.trans h.act, ?_, s.rung_stop.trans h.stop, ?_, s.rung_shadow.trans h.shadow,
    fun d hd => (own d).trans (h.others d hd)⟩, cells, fun _ => ⟨?_, s.rung_evNo⟩, own c⟩
  · rw [seams.layout]; exact h.split
  · rw [seams.seamOk]; exact h.seam
  · rw [s.rung_rst]; exact h.forced
  · rw [s.rung_fld _ _ _ watched_trig (by decide)]; exact h.trig
  · obtain ⟨g, a, c, x, n, y, z, p, e⟩ := s.rung_form; rw [e]; rfl

/-! ### The turns of `c` -/

/-- The judgement of `c` has its turn in `u`, on the way from `s` to what is latched at the bell numbered `k`. -/
structure State.Judges (s : State) (c : Cid) (k : Nat) (u : State) : Prop where
  start : State.Turns (startSpared (∀ k, (s.store k).held = [])) c s u (s.ctx c)
  latched : (u.judge c).Lone c → State.Turns allSpared c (u.judge c) (s.rung.bellJudged.bellLatched k) ((u.judge c).ctx c)

theorem State.bell_judged (h : s.Lone c) (k : Nat) : ∃ u, s.Judges c k u := by
  have rung := s.rung_turns h (∀ k, (s.store k).held = [])
  have stores (k : Nat) : s.rung.store k = s.store k := by rw [State.store, State.store, s.rung_stores]
  have published := State.publish_turns rung.lone
  simp only [stores] at published
  obtain ⟨u, before, after⟩ := (judge_quiet c).round published.lone
  refine ⟨u, ((rung.trans published).trans before.weaken).to (by rw [published.ctx, rung.ctx]), fun alone => ?_⟩
  have rest := after alone
  have judged : State.Turns allSpared c (u.judge c) s.rung.bellJudged ((u.judge c).ctx c) := by
    rw [State.bellJudged, rung.lone.bellCtxs]
    exact rest
  exact (judged.trans (State.bellLatched_turns judged.lone k)).to judged.ctx

/-- From its command to its slot's header. -/
theorem State.bell_commands (h : s.Lone c) (calm : (s.ctx c).resetReq = false) (k : Nat) :
    ∃ u, State.Turns allSpared c s u (s.ctx c) ∧ ((u.takeCmd c).Lone c →
      ∃ v, State.Turns allSpared c (u.takeCmd c) v ((u.takeCmd c).ctx c).owns ∧ ((v.scan c).Lone c →
        ∃ no, State.Turns allSpared c (v.scan c) (s.bellBegun k) (((v.scan c).ctx c).owns.begins no))) := by
  obtain ⟨u, before, after⟩ := State.settleAll_turns h calm
  refine ⟨u, before, fun alone => ?_⟩
  have settled := after alone
  have linked := State.linkBell_turns settled.lone k
  obtain ⟨v, start, rest⟩ := State.bellFilled_turns linked.lone
  exact ⟨v, ((settled.trans linked).trans start).to (by rw [linked.ctx, settled.ctx]), rest⟩

/-- A bell that brings no work: from the command on. -/
theorem State.bell_ends (h : s.Lone c) (calm : (s.ctx c).resetReq = false) (k : Nat) :
    ∃ u, State.Turns allSpared c s u (s.ctx c) ∧ ∀ z, (u.takeCmd c).Lone c → (u.takeCmd c).ctx c = z →
      z.preread = none ∨ z.st ≠ .idle → ∃ no, State.Turns allSpared c (u.takeCmd c) (s.bellBegun k) (z.ends no) := by
  obtain ⟨u, before, after⟩ := State.bell_commands h calm k
  refine ⟨u, before, fun z alone own none' => ?_⟩
  obtain ⟨v, start, rest⟩ := after alone
  have empty : (v.ctx c).preread = none ∨ (v.ctx c).st ≠ .idle := by
    rw [start.ctx, own, Ctx.owns]
    split <;> exact none'
  have scanned : State.Turns allSpared c v (v.scan c) ((u.takeCmd c).ctx c).owns.unread := by
    rw [State.scan_none empty, ← start.ctx]
    exact (start.lone.refl _).modBoth _
  obtain ⟨no, begun⟩ := rest scanned.lone
  exact ⟨no, ((start.trans scanned).trans begun).to (by rw [scanned.ctx, own]; rfl)⟩

/-- Where no command waits. -/
theorem State.bell_rests (h : s.Lone c) (calm : (s.ctx c).resetReq = false) (cmd : (s.ctx c).cmd = 0)
    (none' : (s.ctx c).preread = none ∨ (s.ctx c).st ≠ .idle) (k : Nat) :
    ∃ no, State.Turns allSpared c s (s.bellBegun k) ((s.ctx c).cleared.ends no) := by
  obtain ⟨u, before, after⟩ := State.bell_ends h calm k
  have commanded : State.Turns allSpared c u (u.takeCmd c) (s.ctx c).cleared := by
    rw [State.takeCmd_zero (by rw [before.ctx, cmd]), ← before.ctx]
    exact (before.lone.refl _).modBoth _
  obtain ⟨no, ends⟩ := after _ commanded.lone commanded.ctx none'
  exact ⟨no, (before.trans commanded).trans ends⟩

end

end Sys2Proof.Machine
end

section
/-! What a bell does to the one context at work (R124 to R129, R136, R137, R141, R163), case by case. -/

namespace Sys2Proof.Machine

/-! ### What an overrun leaves of the context's own state -/

theorem Ctx.overran_keeps (late : Bool) (x : Ctx) : (x.overran late).prog = x.image ∧ (x.overran late).resetReq = x.resetReq ∧
    (x.overran late).cmd = if x.cmd == 1 then 0 else x.cmd := by
  cases late <;> exact ⟨rfl, rfl, rfl⟩

/-! ### Ends of a bell that brings no work -/

section
variable (no : Nat) (x : Ctx)

theorem Ctx.cleared_none (h : x.cmd = 0) : x.cleared = x := by
  cases x
  cases h
  rfl

/-- A context that neither is READY nor owns a seam it waits for stays as it is. -/
theorem Ctx.ends_rests (ready : x.st ≠ .ready) (waiting : x.owner = false ∨ x.st ≠ .waiting) : x.ends no = x.unread := by
  have owns : x.owns = x := if_neg ready
  have owns' : x.unread.owns = x.unread := if_neg ready
  rw [Ctx.ends, owns, owns', Ctx.begins, if_neg]
  rintro ⟨own, st⟩
  rcases waiting with none' | busy
  · exact absurd own (by simp [Ctx.unread, none'])
  · exact st.elim ready busy

theorem Ctx.ends_stopped (st : x.st = .stopped) : x.ends no = x.unread :=
  x.ends_rests no (by rw [st]; decide) (.inr (by rw [st]; decide))

theorem Ctx.ends_waiting (st : x.st = .waiting) (own : x.owner = true) :
    x.ends no = if x.waitBells = 0 then x.unread.runs no else x.unread.waits no := by
  have ready : x.st ≠ .ready := by rw [st]; decide
  have owns : x.owns = x := if_neg ready
  have owns' : x.unread.owns = x.unread := if_neg ready
  rw [Ctx.ends, owns, owns', Ctx.begins, if_pos ⟨own, .inr st⟩]
  rfl

theorem Ctx.ends_ready (st : x.st = .ready) (left : x.waitBells = 0) : x.ends no = x.unread.claims.runs no := by
  have owns : x.owns = x.claims := if_pos st
  have owns' : x.claims.unread.owns = x.unread.claims := if_pos st
  rw [Ctx.ends, owns, owns', Ctx.begins, if_pos ⟨rfl, .inl st⟩]
  exact if_pos left

end

section
variable {c : Cid} {s : State} (h : s.Lone c) (calm : (s.ctx c).resetReq = false) (k : Nat)

/-- The fields of a context that its judgement and its scan look at or count in. -/
def ctxFields : List Fld :=
  [Fld.SEQ_CTX_CFG_SLIP_EN, Fld.SEQ_CTX_CFG_SCAN_EN, Fld.SEQ_CTX_SUBSEQ_NEXT_SEQ, Fld.SEQ_CTX_SUBSEQ_TAKEN, Fld.SEQ_CTX_CNT_OVERRUNS,
    Fld.SEQ_CTX_CNT_SLIPS]

theorem ctxFields_apart (c : Cid) : ∀ F ∈ ctxFields, F ∈ watchedFields ∧ F.key c.val 0 ≠ Fld.SEQ_BELL_NUM_NUMBER.key 0 0 ∧
    F.key c.val 0 ≠ Fld.DBG_SNAP_BELL_BELL.key 0 0 := by
  revert c
  decide

theorem entryFields_apart : ∀ F ∈ entryFields, ∀ i < 256, watched (F.key i 0) ∧
    ¬ (F.key i 0 = Fld.SEQ_BELL_NUM_NUMBER.key 0 0 ∨ F.key i 0 = Fld.DBG_SNAP_BELL_BELL.key 0 0) := by
  have listed : ∀ F ∈ entryFields, F ∈ watchedFields := by decide
  intro F hF i hi
  refine ⟨⟨F, listed F hF, i, hi, rfl⟩, ?_⟩
  simp only [entryFields, List.mem_cons, List.not_mem_nil, or_false] at hF
  rcases hF with rfl | rfl | rfl | rfl | rfl | rfl | rfl | rfl | rfl
  all_goals
    simp only [Fld.key]
    omega

/-- The state after the bell numbered `k`. -/
def State.belled (s : State) (k : Nat) : State := (s.rung.bellJudged.bellLatched k).bellBegun k

theorem exec_bell_belled (s : State) (counting : s.time.counting = true) (held : s.held 48 = false) (stop : s.dbg.stop = none) :
    exec .bell s = .next (s.belled s.time.nextNum) := by
  rw [exec_bell_acts s counting held stop, State.bellActions_eq, State.belled]

section
variable {u : State} (j : s.Judges c k u) {w : Spared} {y : Ctx}
include j

/-- A field of the context that the bell's own numbers leave is as before. -/
theorem State.Judges.fld {F : Fld} (hF : F ∈ ctxFields) : u.fld F c.val = s.fld F c.val := by
  obtain ⟨mem, number, copies⟩ := ctxFields_apart c F hF
  exact j.start.cells F c.val 0 ⟨watched_ctx mem c, fun q => q.elim number copies⟩

/-- A judgement after which no command waits and no work comes. -/
theorem State.Judges.rests (turn : State.Turns w c u (u.judge c) y) (calm : y.resetReq = false) (cmd : y.cmd = 0)
    (none' : y.preread = none ∨ y.st ≠ .idle) : ∃ no, State.Turns allSpared c (u.judge c) (s.belled k) (y.cleared.ends no) := by
  have latched := j.latched turn.lone
  have own := latched.ctx.trans turn.ctx
  obtain ⟨no, ends⟩ := State.bell_rests latched.lone (by rw [own, calm]) (by rw [own, cmd]) (by rwa [own]) k
  exact ⟨no, (latched.trans ends).to (by rw [own])⟩

/-- A judgement after which the command is taken in the state `v`. -/
theorem State.Judges.commands (turn : State.Turns w c u (u.judge c) y) (calm : y.resetReq = false) :
    ∃ v, State.Turns allSpared c (u.judge c) v y ∧ ∀ v' z, State.Turns v' c v (v.takeCmd c) z → z.preread = none ∨ z.st ≠ .idle →
      ∃ no, State.Turns allSpared c (v.takeCmd c) (s.belled k) (z.ends no) := by
  have latched := j.latched turn.lone
  have own := latched.ctx.trans turn.ctx
  obtain ⟨v, before, after⟩ := State.bell_ends latched.lone (by rw [own, calm]) k
  exact ⟨v, (latched.trans before).to own, fun _ z cmd none' => after z cmd.lone cmd.ctx none'⟩

/-- An event of the judgement or of a command is shown after the bell. -/
theorem State.Judges.raised {t : State} {code : BitVec 16} (notes : t.Notes u.llx.evNo code (srcSeq c))
    (recent : (s.belled k).llx.recent = t.llx.recent) (held : ∀ k, (s.store k).held = []) : s.Raised (s.belled k) code (srcSeq c) :=
  (notes.mono recent).raised (j.start.events held).2

end

/-! ### A waiting context (R124, R125, R127) -/

section
variable (faulted : (s.ctx c).faulted = none) (st : (s.ctx c).st = .waiting)
include h calm faulted st

/-- The commit of a waiting context, and the end of its bell where no command waits. -/
theorem State.bell_commits (cmd : (s.ctx c).cmd = 0) (none' : (s.ctx c).commits.preread = none ∨ (s.ctx c).commits.st ≠ .idle) :
    ∃ no, (s.belled k).ctx c = (s.ctx c).commits.cleared.ends no ∧
      (s.belled k).fld Fld.SEQ_CTX_SEGSTAT_LAST c.val = (s.ctx c).segLen % 2 ^ Fld.SEQ_CTX_SEGSTAT_LAST.width := by
  obtain ⟨u, j⟩ := State.bell_judged h k
  have own := j.start.ctx
  obtain ⟨turn, length⟩ := State.commitCtx_turns (judgeSpared_lonely c) id j.start.lone (not_judgeSpared (by simp [judgedCells]))
  rw [← State.judge_waiting (by rw [own, faulted]) (by rw [own, st]), own] at turn length
  have kept : (s.ctx c).commits.resetReq = (s.ctx c).resetReq ∧ (s.ctx c).commits.cmd = (s.ctx c).cmd := by
    rw [Ctx.commits]
    split <;> exact ⟨rfl, rfl⟩
  obtain ⟨no, ends⟩ := j.rests k turn (kept.1.trans calm) (kept.2.trans cmd) none'
  exact ⟨no, ends.ctx, (ends.cells _ _ _ (watched_ctx (by decide) c)).trans length⟩

theorem State.bell_begins (cmd : (s.ctx c).cmd = 0) (halting : (s.ctx c).halting = false) (own : (s.ctx c).owner = true)
    (left : (s.ctx c).waitBells = 0) :
    ((s.belled k).ctx c).st = .running ∧ ((s.belled k).ctx c).inSeg = false ∧ ((s.belled k).ctx c).prog = ((s.belled k).ctx c).image ∧
      ((s.belled k).ctx c).image = (if (s.ctx c).evalEnded then { (s.ctx c).prog with evalCnt := (s.ctx c).prog.evalCnt + 1 } else (s.ctx c).prog) ∧
      ((s.belled k).ctx c).stores = [] ∧
      (s.belled k).fld Fld.SEQ_CTX_SEGSTAT_LAST c.val = (s.ctx c).segLen % 2 ^ Fld.SEQ_CTX_SEGSTAT_LAST.width := by
  have commits : (s.ctx c).commits = (s.ctx c).flushed.committed := if_neg (Bool.eq_false_iff.mp halting)
  have waiting : (s.ctx c).commits.st = .waiting := by rw [commits]; exact st
  obtain ⟨no, ctx, length⟩ := State.bell_commits h calm k faulted st cmd (.inr (by rw [waiting]; decide))
  rw [commits, Ctx.ends_waiting no (s.ctx c).flushed.committed.cleared st own] at ctx
  rw [ctx]
  have go : (s.ctx c).flushed.committed.cleared.waitBells = 0 := left
  rw [if_pos go]
  exact ⟨rfl, rfl, rfl, rfl, rfl, length⟩

theorem State.bell_waits (cmd : (s.ctx c).cmd = 0) (halting : (s.ctx c).halting = false) (own : (s.ctx c).owner = true)
    (left : 0 < (s.ctx c).waitBells) :
    ((s.belled k).ctx c).st = .waiting ∧ ((s.belled k).ctx c).waitBells = (s.ctx c).waitBells - 1 ∧ ((s.belled k).ctx c).emptySeg = true := by
  have commits : (s.ctx c).commits = (s.ctx c).flushed.committed := if_neg (Bool.eq_false_iff.mp halting)
  have waiting : (s.ctx c).commits.st = .waiting := by rw [commits]; exact st
  obtain ⟨no, ctx, -⟩ := State.bell_commits h calm k faulted st cmd (.inr (by rw [waiting]; decide))
  have stay : (s.ctx c).flushed.committed.cleared.waitBells ≠ 0 := Nat.pos_iff_ne_zero.mp left
  rw [ctx, commits, Ctx.ends_waiting no (s.ctx c).flushed.committed.cleared st own, if_neg stay]
  exact ⟨rfl, rfl, rfl⟩

theorem State.bell_halts (cmd : (s.ctx c).cmd = 0) (halting : (s.ctx c).halting = true) (none' : (s.ctx c).preread = none) :
    ((s.belled k).ctx c).st = .idle ∧ ((s.belled k).ctx c).owner = false := by
  have commits : (s.ctx c).commits = (s.ctx c).flushed.committed.gone := if_pos halting
  obtain ⟨no, ctx, -⟩ := State.bell_commits h calm k faulted st cmd (.inl (by rw [commits]; exact none'))
  rw [ctx, commits, Ctx.ends_rests no (s.ctx c).flushed.committed.gone.cleared (by show CtxSt.idle ≠ .ready; decide) (.inl rfl)]
  exact ⟨rfl, rfl⟩

end

/-! ### A running context (R128, R129) -/

section
variable (faulted : (s.ctx c).faulted = none) (st : (s.ctx c).st = .running) (cmd : (s.ctx c).cmd = 0)
include h calm faulted st cmd

theorem State.bell_overruns (again : s.fld Fld.SEQ_CTX_CFG_SLIP_EN c.val ≠ 1 ∨ (s.ctx c).slipped = true) :
    ((s.belled k).ctx c).st = .stopped ∧ ((s.belled k).ctx c).stopEvent = 0x0201 ∧ ((s.belled k).ctx c).prog = (s.ctx c).image ∧
      ((s.belled k).ctx c).inSeg = false ∧ s.Counted (s.belled k) Fld.SEQ_CTX_CNT_OVERRUNS 1 c.val ∧
      ((∀ k, (s.store k).held = []) → s.Raised (s.belled k) 0x0201 (srcSeq c)) := by
  obtain ⟨u, j⟩ := State.bell_judged h k
  have own := j.start.ctx
  have en := j.fld k (F := Fld.SEQ_CTX_CFG_SLIP_EN) (by decide)
  have overruns := State.judge_overruns (s := u) (c := c) (by rw [own, faulted]) (by rw [own, st]) (by rw [en, own]; exact again.imp id .inl)
  obtain ⟨late, turn, counted, notes⟩ := State.overrun_turns j.start.lone
  rw [← overruns, own] at turn
  rw [← overruns] at counted notes
  obtain ⟨image, reset, command⟩ := (s.ctx c).overran_keeps late
  obtain ⟨no, ends⟩ := j.rests k turn (reset.trans calm) (command.trans (by rw [cmd]; rfl)) (.inr (by show CtxSt.stopped ≠ .idle; decide))
  have cell : watched (Fld.SEQ_CTX_CNT_OVERRUNS.key c.val 0) := watched_ctx (by decide) c
  rw [ends.ctx, Ctx.ends_stopped no ((s.ctx c).overran late).cleared rfl]
  refine ⟨rfl, rfl, image, rfl, ?_, j.raised k notes (ends.events trivial).1⟩
  rw [State.Counted, ends.cells _ _ _ cell, counted, j.fld k (by decide)]

theorem State.bell_slips (en : s.fld Fld.SEQ_CTX_CFG_SLIP_EN c.val = 1) (fresh : (s.ctx c).slipped = false) :
    (s.belled k).ctx c = { s.ctx c with slipped := true, preread := none } ∧ s.Counted (s.belled k) Fld.SEQ_CTX_CNT_SLIPS 1 c.val ∧
      ((∀ k, (s.store k).held = []) → s.Raised (s.belled k) 0x0202 (srcSeq c)) := by
  obtain ⟨u, j⟩ := State.bell_judged h k
  have own := j.start.ctx
  have slips := State.judge_slips (s := u) (c := c) (by rw [own, faulted]) (by rw [own, st])
    (by rw [j.fld k (F := Fld.SEQ_CTX_CFG_SLIP_EN) (by decide), en]) (by rw [own, fresh]) (by rw [own, cmd]; decide)
  obtain ⟨turn, counted, notes⟩ := State.slip_turns j.start.lone
  rw [← slips, own] at turn
  rw [← slips] at counted notes
  obtain ⟨no, ends⟩ := j.rests k turn calm cmd (.inr (by show (s.ctx c).st ≠ .idle; rw [st]; decide))
  have cell : watched (Fld.SEQ_CTX_CNT_SLIPS.key c.val 0) := watched_ctx (by decide) c
  have rests := Ctx.ends_rests no (s.ctx c).slips.cleared (by show (s.ctx c).st ≠ .ready; rw [st]; decide)
    (.inr (by show (s.ctx c).st ≠ .waiting; rw [st]; decide))
  refine ⟨?_, ?_, j.raised k notes (ends.events trivial).1⟩
  · rw [ends.ctx, rests, Ctx.cleared_none (s.ctx c).slips cmd]
    rfl
  · rw [State.Counted, ends.cells _ _ _ cell, counted, j.fld k (by decide)]

end

/-! ### A faulted context (R163) -/

include h calm in
theorem State.bell_stops (f : BitVec 16) (faulted : (s.ctx c).faulted = some f) (st : (s.ctx c).st = .running ∨ (s.ctx c).st = .waiting)
    (cmd : (s.ctx c).cmd = 0) :
    ((s.belled k).ctx c).st = .stopped ∧ ((s.belled k).ctx c).stopEvent = f ∧ ((s.belled k).ctx c).faulted = none ∧
      ((s.belled k).ctx c).prog = (s.ctx c).image := by
  obtain ⟨u, j⟩ := State.bell_judged h k
  have own := j.start.ctx
  obtain ⟨late, turn⟩ := State.stopFaulted_turns j.start.lone f (by rwa [own])
  rw [← State.judge_faulted (by rw [own, faulted]), own] at turn
  have kept : (((s.ctx c).dropped late).stoppedBy f).resetReq = (s.ctx c).resetReq ∧ (((s.ctx c).dropped late).stoppedBy f).cmd = (s.ctx c).cmd ∧
      (((s.ctx c).dropped late).stoppedBy f).prog = (s.ctx c).image := by
    cases late <;> exact ⟨rfl, rfl, rfl⟩
  obtain ⟨reset, command, image⟩ := kept
  obtain ⟨no, ends⟩ := j.rests k turn (reset.trans calm) (command.trans cmd) (.inr (by show CtxSt.stopped ≠ .idle; decide))
  rw [ends.ctx, Ctx.ends_stopped no (((s.ctx c).dropped late).stoppedBy f).cleared rfl]
  exact ⟨rfl, rfl, rfl, image⟩

/-! ### Commands (R126, R136, R137) -/

section
variable (faulted : (s.ctx c).faulted = none)
include h calm faulted

/-- A context that is neither WAITING nor RUNNING comes to its command as it is. -/
theorem State.bell_commanded (waiting : (s.ctx c).st ≠ .waiting) (running : (s.ctx c).st ≠ .running) :
    ∃ v, State.Turns (startSpared (∀ k, (s.store k).held = [])) c s v (s.ctx c) ∧ ∀ w z, State.Turns w c v (v.takeCmd c) z →
      z.preread = none ∨ z.st ≠ .idle → ∃ no, State.Turns allSpared c (v.takeCmd c) (s.belled k) (z.ends no) := by
  obtain ⟨u, j⟩ := State.bell_judged h k
  have own := j.start.ctx
  have same := State.judge_rests (s := u) (c := c) (by rw [own, faulted]) (by rwa [own]) (by rwa [own])
  have turn : State.Turns allSpared c u (u.judge c) (s.ctx c) := by
    rw [same, ← own]
    exact j.start.lone.refl _
  obtain ⟨v, before, after⟩ := j.commands k turn calm
  rw [same] at before
  exact ⟨v, j.start.trans before.weaken, after⟩

section
variable (st : (s.ctx c).st = .stopped) (cmd : (s.ctx c).cmd = 2)
include st cmd

theorem State.bell_resumes (left : (s.ctx c).waitBells = 0) (may : (s.ctx c).pastReturn = false ∧ (s.ctx c).millUe = false) :
    ((s.belled k).ctx c).st = .running ∧ ((s.belled k).ctx c).owner = true ∧ ((s.belled k).ctx c).prog = (s.ctx c).prog ∧
      ((s.belled k).ctx c).cmd = 0 := by
  obtain ⟨v, start, after⟩ := State.bell_commanded h calm k faulted (by rw [st]; decide) (by rw [st]; decide)
  have own := start.ctx
  have turn := State.takeCmd_resume_turns start.lone (by rw [own, cmd]) (by rw [own, st]) (by rwa [own])
  rw [own] at turn
  obtain ⟨no, ends⟩ := after _ _ turn (.inr (by show CtxSt.ready ≠ .idle; decide))
  rw [ends.ctx, Ctx.ends_ready no (s.ctx c).resumes rfl left]
  exact ⟨rfl, rfl, rfl, rfl⟩

theorem State.bell_refuses (may : (s.ctx c).pastReturn = true ∨ (s.ctx c).millUe = true) :
    ((s.belled k).ctx c).st = .stopped ∧ ((s.belled k).ctx c).cmd = 0 ∧
      ((∀ k, (s.store k).held = []) → s.Raised (s.belled k) 0x0207 (srcSeq c)) := by
  obtain ⟨v, start, after⟩ := State.bell_commanded h calm k faulted (by rw [st]; decide) (by rw [st]; decide)
  have own := start.ctx
  obtain ⟨turn, notes⟩ := State.takeCmd_refused_turns start.lone (by rw [own, cmd]) (by rw [own, st]) (by rwa [own])
  rw [own] at turn
  obtain ⟨no, ends⟩ := after _ _ turn (.inr (by show (s.ctx c).st ≠ .idle; rw [st]; decide))
  rw [ends.ctx, Ctx.ends_stopped no (s.ctx c).cleared st]
  exact ⟨st, rfl, fun held => (notes.mono (ends.events trivial).1).raised (start.events held).2⟩

end

/-- A waiting context comes to its command with its segment committed. -/
theorem State.bell_committed (st : (s.ctx c).st = .waiting) (halting : (s.ctx c).halting = false) :
    ∃ v, v.Lone c ∧ v.ctx c = (s.ctx c).flushed.committed ∧ ∀ w z, State.Turns w c v (v.takeCmd c) z →
      z.preread = none ∨ z.st ≠ .idle → ∃ no, State.Turns allSpared c (v.takeCmd c) (s.belled k) (z.ends no) := by
  obtain ⟨u, j⟩ := State.bell_judged h k
  have own := j.start.ctx
  obtain ⟨turn, -⟩ := State.commitCtx_turns (judgeSpared_lonely c) id j.start.lone (not_judgeSpared (by simp [judgedCells]))
  have commits : (s.ctx c).commits = (s.ctx c).flushed.committed := if_neg (Bool.eq_false_iff.mp halting)
  rw [← State.judge_waiting (by rw [own, faulted]) (by rw [own, st]), own, commits] at turn
  obtain ⟨v, before, after⟩ := j.commands k turn calm
  exact ⟨v, before.lone, before.ctx, after⟩

/-- STOP: a waiting context commits first, a running one has overrun and stops with that. -/
theorem State.bell_halted (st : (s.ctx c).st = .running ∨ (s.ctx c).st = .waiting) (cmd : (s.ctx c).cmd = 1) (halting : (s.ctx c).halting = false) :
    ((s.belled k).ctx c).st = .stopped ∧ ((s.belled k).ctx c).cmd = 0 := by
  rcases st with st | st
  case inl =>
    obtain ⟨u, j⟩ := State.bell_judged h k
    have own := j.start.ctx
    have overruns := State.judge_overruns (s := u) (c := c) (by rw [own, faulted]) (by rw [own, st]) (by rw [own]; exact .inr (.inr cmd))
    obtain ⟨late, turn, -⟩ := State.overrun_turns j.start.lone
    rw [← overruns, own] at turn
    obtain ⟨-, reset, command⟩ := (s.ctx c).overran_keeps late
    obtain ⟨no, ends⟩ := j.rests k turn (reset.trans calm) (command.trans (by rw [cmd]; rfl)) (.inr (by show CtxSt.stopped ≠ .idle; decide))
    rw [ends.ctx, Ctx.ends_stopped no ((s.ctx c).overran late).cleared rfl]
    exact ⟨rfl, rfl⟩
  case inr =>
    obtain ⟨v, alone, own, after⟩ := State.bell_committed h calm k faulted st halting
    obtain ⟨code, turn⟩ := State.takeCmd_stop_turns alone (by rw [own]; exact cmd) (.inr (by rw [own]; exact st))
    obtain ⟨no, ends⟩ := after _ _ turn (.inr (by show CtxSt.stopped ≠ .idle; decide))
    rw [ends.ctx, Ctx.ends_stopped no _ rfl]
    exact ⟨rfl, rfl⟩

/-- KILL of a waiting context, whose segment commits first. -/
theorem State.bell_kills (st : (s.ctx c).st = .waiting) (cmd : (s.ctx c).cmd = 3) (halting : (s.ctx c).halting = false) :
    ((s.belled k).ctx c).st = .purging ∧ ((s.belled k).ctx c).owner = false := by
  obtain ⟨v, alone, own, after⟩ := State.bell_committed h calm k faulted st halting
  obtain ⟨late, e, turn⟩ := State.takeCmd_kill_turns alone (by rw [own]; exact cmd) (by rw [own]; exact st)
  obtain ⟨no, ends⟩ := after _ _ turn (.inr (by show CtxSt.purging ≠ .idle; decide))
  rw [ends.ctx, Ctx.ends_rests no _ (by show CtxSt.purging ≠ .ready; decide) (.inl rfl)]
  exact ⟨rfl, rfl⟩

/-- From the judgement to the scan of an IDLE context without a command. -/
theorem State.bell_scans (st : (s.ctx c).st = .idle) (cmd : (s.ctx c).cmd = 0) :
    ∃ v, State.Turns (startSpared (∀ k, (s.store k).held = [])) c s v (s.ctx c) ∧ ((v.scan c).Lone c →
      ∃ no, State.Turns allSpared c (v.scan c) (s.belled k) (((v.scan c).ctx c).owns.begins no)) := by
  obtain ⟨u, j⟩ := State.bell_judged h k
  have own := j.start.ctx
  have same := State.judge_rests (s := u) (c := c) (by rw [own, faulted]) (by rw [own, st]; decide) (by rw [own, st]; decide)
  have latched := j.latched (by rw [same]; exact j.start.lone)
  rw [same, own] at latched
  obtain ⟨v, before, after⟩ := State.bell_commands latched.lone (by rw [latched.ctx, calm]) k
  have uncommanded : State.Turns allSpared c v (v.takeCmd c) (s.ctx c) := by
    have none' : (v.ctx c).cmd = 0 := by rw [before.ctx, latched.ctx, cmd]
    rw [State.takeCmd_zero none']
    refine ((before.lone.refl _).modBoth _).to ?_
    rw [Ctx.cleared_none _ none', before.ctx, latched.ctx]
  obtain ⟨q, start, rest⟩ := after uncommanded.lone
  refine ⟨q, (j.start.trans (((latched.trans before).trans uncommanded).trans start).weaken).to ?_, rest⟩
  have idle : (s.ctx c).owns = s.ctx c := if_neg (by rw [st]; decide)
  rw [uncommanded.ctx, idle]

/-- An IDLE context takes the work of its slot (R141). -/
theorem State.bell_works (st : (s.ctx c).st = .idle) (cmd : (s.ctx c).cmd = 0) (en : s.fld Fld.SEQ_CTX_CFG_SCAN_EN c.val = 1)
    (role : s.fld Fld.RLF_CFG_ROLE ≠ 1) (b : List Byte) (head : (s.ctx c).preread = some b)
    (seq : leAt b 0 4 = s.fld Fld.SEQ_CTX_SUBSEQ_NEXT_SEQ c.val) (crc : leAt b 4 4 = (crc32c (sliceB b 0 4 ++ sliceB b 8 24)).toNat)
    (fits : s.entryFits c (leAt b 8 8) = true) :
    ((s.belled k).ctx c).st = .running ∧ ((s.belled k).ctx c).owner = true ∧ ((s.belled k).ctx c).prog.pc.toNat = leAt b 8 8 ∧
      ((s.belled k).ctx c).prog.step.toNat = leAt b 24 8 % 2 ^ 63 ∧ (s.belled k).fld Fld.SEQ_CTX_SEED_SEED c.val = leAt b 16 8 ∧
      s.Counted (s.belled k) Fld.SEQ_CTX_SUBSEQ_NEXT_SEQ 1 c.val ∧ s.Counted (s.belled k) Fld.SEQ_CTX_SUBSEQ_TAKEN 1 c.val := by
  obtain ⟨v, start, after⟩ := State.bell_scans h calm k faulted st cmd
  have own := start.ctx
  have fld (F : Fld) (hF : F ∈ ctxFields) : v.fld F c.val = s.fld F c.val := by
    obtain ⟨mem, number, copies⟩ := ctxFields_apart c F hF
    exact start.cells F c.val 0 ⟨watched_ctx mem c, fun q => q.elim number copies⟩
  have entries : ∀ F ∈ entryFields, ∀ i < 256, v.fld F i = s.fld F i := by
    intro F hF i hi
    obtain ⟨mem, apart⟩ := entryFields_apart F hF i hi
    exact start.cells F i 0 ⟨mem, apart⟩
  have device : v.fld Fld.RLF_CFG_ROLE = s.fld Fld.RLF_CFG_ROLE :=
    start.cells _ _ _ ⟨⟨Fld.RLF_CFG_ROLE, by decide, 0, by decide, rfl⟩, by decide⟩
  have takes := State.scan_takes start.lone (by rw [own, st]) b (by rw [own, head]) ((fld _ (by decide)).trans en) (by rw [device]; exact role)
    (seq.trans (fld _ (by decide)).symm) crc ((State.entryFits_congr entries c _).trans fits)
  have unread : State.Turns allSpared c v (v.modBoth c Ctx.unread) (s.ctx c).unread := ((start.lone.refl _).modBoth _).to (by rw [own])
  obtain ⟨turn, seed, number, count⟩ := State.takeWork_turns unread.lone b
  rw [← takes] at turn seed number count
  obtain ⟨no, ends⟩ := after turn.lone
  have ctx : (s.belled k).ctx c = ((s.ctx c).unread.works b).claims.runs no := by
    have ready : ((s.ctx c).unread.works b).owns = ((s.ctx c).unread.works b).claims := if_pos rfl
    rw [ends.ctx, turn.ctx, unread.ctx, ready, Ctx.begins, if_pos ⟨rfl, .inl rfl⟩]
    exact if_pos rfl
  have kept (F : Fld) (hF : F ∈ watchedFields) : (s.belled k).fld F c.val = (v.scan c).fld F c.val := ends.cells _ _ _ (watched_ctx hF c)
  have before (F : Fld) (hF : F ∈ ctxFields) : (v.modBoth c Ctx.unread).fld F c.val = s.fld F c.val :=
    (unread.cells F c.val 0 (watched_ctx (ctxFields_apart c F hF).1 c)).trans (fld F hF)
  rw [ctx]
  refine ⟨rfl, rfl, ?_, ?_, (kept Fld.SEQ_CTX_SEED_SEED (by decide)).trans seed, ?_, ?_⟩
  · exact Nat.mod_eq_of_lt (leAt_lt b 8)
  · exact BitVec.toNat_ofNat _ _
  · rw [State.Counted, kept _ (by decide), number, before _ (by decide)]
  · rw [State.Counted, kept _ (by decide), count, before _ (by decide)]

end

end

end Sys2Proof.Machine
end

section
/-! The bell's obligation (R27, R30, R113, R124 to R129, R136, R137, R141, R163). -/

namespace Sys2Proof.Machine

/-- A context that may use a seam of its own is alone where the others are as at reset. -/
theorem State.Lone.of_idle {s : State} {c : Cid} (single : s.joined c = false) (seam : s.seamOk c = true) (act : s.rlf.act = none)
    (forced : s.rst.forced = []) (stop : s.dbg.stop = none) (trig : s.fld Fld.DBG_TRIG_EN ≠ 1) (shadow : s.shadow = [])
    (others : ∀ d, d ≠ c → s.ctx d = {}) : s.Lone c where
  split e := by
    rw [State.seamOk, if_pos e, single] at seam
    exact absurd seam (by decide)
  seam := seam
  act := act
  forced := forced
  stop := stop
  trig := trig
  shadow := shadow
  others := others

/-- Settles O55: a bell that does not act by its conditions, one that acts with whatever contexts by what its actions leave of its own matters,
and one with a single context at work by that context's turns through the actions. -/
theorem bellActs : Obligations.BellActs := by
  unfold Obligations.BellActs
  intro s
  refine ⟨exec_bell_still s, fun counting => ⟨exec_bell_held s counting, exec_bell_skipped s counting, fun held stop =>
    ⟨exec_slotPreread_reads s counting held stop, fun trig forced act => ⟨exec_bell_tells s counting held stop forced act, ?_⟩⟩⟩⟩
  intro shadow c single seam calm others x raised
  have alone := State.Lone.of_idle single seam act forced stop trig shadow others
  refine ⟨s.belled s.time.nextNum, exec_bell_belled s counting held stop, ?_⟩
  exact ⟨fun faulted st cmd halting own left => State.bell_begins alone calm _ faulted st cmd halting own left,
    fun faulted st cmd halting own left => State.bell_waits alone calm _ faulted st cmd halting own left,
    fun faulted st cmd halting none' => State.bell_halts alone calm _ faulted st cmd halting none',
    fun faulted st cmd again => State.bell_overruns alone calm _ faulted st cmd again,
    fun faulted st cmd en fresh => State.bell_slips alone calm _ faulted st cmd en fresh,
    fun f faulted st cmd => State.bell_stops alone calm _ f faulted st cmd,
    fun faulted st cmd left ret ue => State.bell_resumes alone calm _ faulted st cmd left ⟨ret, ue⟩,
    fun faulted st cmd may => State.bell_refuses alone calm _ faulted st cmd may,
    fun faulted st cmd halting => State.bell_halted alone calm _ faulted st cmd halting,
    fun faulted st cmd halting => State.bell_kills alone calm _ faulted st cmd halting,
    fun faulted st cmd en role b head seq crc fits => State.bell_works alone calm _ faulted st cmd en role b head seq crc fits⟩

end Sys2Proof.Machine
end

section
/-! What the work of the ring leaves: banks written, instructions and passes that end (R44, R45, R221, R222), reads of a bunker without
stored errors (R225), and the context that a fault stops (R163). -/

namespace Sys2Proof.Machine

/-! ### Banks and station sets -/

@[simp] theorem Station.bank_setBank (x : Station) (b : Fin 2) (y : Bank) : (x.setBank b y).bank b = y := by
  by_cases h : b = 0
  · simp [Station.bank, Station.setBank, h]
  · simp [Station.bank, Station.setBank, h]

@[simp] theorem Station.setBank_queue (x : Station) (b : Fin 2) (y : Bank) : (x.setBank b y).queue = x.queue := by
  unfold Station.setBank; split <;> rfl

@[simp] theorem Station.setBank_replay (x : Station) (b : Fin 2) (y : Bank) : (x.setBank b y).replay = x.replay := by
  unfold Station.setBank; split <;> rfl

theorem State.setBank_eq (s : State) (i : StationId) (b : Fin 2) (y : Bank) : s.setBank i b y = s.setStn i ((s.stn i).setBank b y) := rfl

@[simp] theorem State.bank_setBank_self (s : State) (i : StationId) (b : Fin 2) (y : Bank) : ((s.setBank i b y).stn i).bank b = y := by
  simp [State.setBank_eq]

theorem State.stn_setBank_ne (s : State) (i : StationId) (b : Fin 2) (y : Bank) {j : StationId} (h : j ≠ i) :
    (s.setBank i b y).stn j = s.stn j := s.stn_setStn_ne i j _ h

theorem has_single (i : StationId) : has (single i) i = true := by
  simp [has, single, i.isLt]

/-- A set without the station does not have it. -/
theorem has_without (m : StationSet) (i : StationId) : has (m &&& ~~~single i) i = false := by
  rw [has, BitVec.getLsbD_and, BitVec.getLsbD_not, show (single i).getLsbD i.val = true from has_single i, Bool.not_true, Bool.and_false,
    Bool.and_false]

/-- A part of a set has no more stations. -/
theorem has_and_left {m : StationSet} (k : StationSet) {i : StationId} (h : has m i = false) : has (m &&& k) i = false := by
  rw [has, BitVec.getLsbD_and, show m.getLsbD i.val = false from h, Bool.false_and]

/-! ### Cells of the events -/

/-- The fields of the events' cells. -/
def eventFields : List Fld :=
  [Fld.LLX_EVT_CNT_MASKED, Fld.LLX_EVT_CNT_LOST, Fld.DBG_TRIG_FIRED, Fld.DBG_STOP_STAT_SCOPE, Fld.DBG_STOP_STAT_CAUSE,
    Fld.DBG_STOP_STAT_STOPS]

theorem eventCells_eq : eventCells = eventFields.map (·.key 0 0) := rfl

/-- The cells of `F` below the bounds are not among the events' cells. -/
theorem not_event {F : Fld} {i j : Nat} (n m : Nat) (h : eventFields.all (F.apart n m) = true) (hi : i < n) (hj : j < m) :
    F.key i j ∉ eventCells := by
  rw [eventCells_eq, List.mem_map]
  rintro ⟨G, hG, e⟩
  exact Fld.key_ne_of_apart (List.all_eq_true.mp h G hG) hi hj (by decide) e.symm

/-! ### What the end of work leaves (R44, R221, R222) -/

/-- From `s` to `t` work has ended: its instructions, passes, holds and records. Device memory, bunkers, contexts and stations stay, no
access gets a station that it had not, FILL stays, and so does every register field outside the events' cells. -/
structure State.Ends (s t : State) : Prop where
  mem : t.mem = s.mem
  bunk : t.bunk = s.bunk
  ctxs : t.ctxs = s.ctxs
  stations : t.stations = s.stations
  flds : s.KeepsFlds t
  accs : ∀ a ∈ t.accs, ∃ b ∈ s.accs, b.no = a.no ∧ ∀ i, has b.set i = false → has a.set i = false
  fills : ∀ h, (t.hnd h).fill = (s.hnd h).fill

namespace State.Ends

variable {s t u : State}

/-- A change of neither these parts nor of accesses or handles. -/
theorem of_frame (hm : t.mem = s.mem) (hb : t.bunk = s.bunk) (hc : t.ctxs = s.ctxs) (hs : t.stations = s.stations) (hf : s.KeepsFlds t)
    (ha : t.accs = s.accs) (hh : t.handles = s.handles) : s.Ends t where
  mem := hm
  bunk := hb
  ctxs := hc
  stations := hs
  flds := hf
  accs a h := ⟨a, ha ▸ h, rfl, fun _ => id⟩
  fills h := by rw [State.hnd, State.hnd, hh]

theorem refl (s : State) : s.Ends s := of_frame rfl rfl rfl rfl (.refl s) rfl rfl

theorem trans (h : s.Ends t) (k : t.Ends u) : s.Ends u where
  mem := k.mem.trans h.mem
  bunk := k.bunk.trans h.bunk
  ctxs := k.ctxs.trans h.ctxs
  stations := k.stations.trans h.stations
  flds := h.flds.trans k.flds
  accs a ha := by
    obtain ⟨b, hb, noB, setB⟩ := k.accs a ha
    obtain ⟨d, hd, noD, setD⟩ := h.accs b hb
    exact ⟨d, hd, noD.trans noB, fun i hi => setB i (setD i hi)⟩
  fills x := (k.fills x).trans (h.fills x)

theorem stn (h : s.Ends t) (i : StationId) : t.stn i = s.stn i := by rw [State.stn, State.stn, h.stations]

/-- An instruction without an access at a station has none there later. -/
theorem released (h : s.Ends t) {no : Nat} {i : StationId} (hs : ∀ a ∈ s.accs, a.no = no → has a.set i = false) :
    ∀ a ∈ t.accs, a.no = no → has a.set i = false := by
  intro a ha e
  obtain ⟨b, hb, noB, setB⟩ := h.accs a ha
  exact setB i (hs b hb (noB.trans e))

end State.Ends

section
variable (s : State)

theorem State.trace_ends (src : Src) (c : Option Cid) (typ : Nat) (p : List Byte) : s.Ends (s.trace src c typ p) := by
  have keeps := s.trace_keepsFlds src c typ p
  obtain ⟨l, r, h, x, e⟩ := s.trace_frame src c typ p
  rw [e] at keeps ⊢
  exact .of_frame rfl rfl rfl rfl keeps rfl rfl

theorem State.traceDone_ends (i : StationId) (x : SInst) : s.Ends (s.traceDone i x) := s.trace_ends _ _ _ _

theorem State.setInst_ends (no : Nat) (x : Option SInst) : s.Ends (s.setInst no x) :=
  .of_frame rfl rfl rfl rfl (State.keepsFlds_of_regs rfl rfl) rfl rfl

theorem State.setPass_ends (no : Nat) (x : Option Pass) : s.Ends (s.setPass no x) :=
  .of_frame rfl rfl rfl rfl (State.keepsFlds_of_regs rfl rfl) rfl rfl

theorem State.instDone_ends (i : StationId) (no : Nat) : s.Ends (s.instDone i no) := by
  unfold State.instDone
  split
  · exact .refl s
  · exact (s.traceDone_ends i _).trans (State.setInst_ends _ no _)

/-- A handle whose provisional fill becomes effective keeps its FILL. -/
theorem State.settleProv_fill (h : HandleId) : (s.settleProv.hnd h).fill = (s.hnd h).fill := by
  refine foldl_proj (fun t : State => (t.hnd h).fill) _ _ s fun t a => ?_
  simp only [State.modHnd_eq, State.hnd_setHnd]
  split
  next same => subst same; split <;> rfl
  next => rfl

theorem State.settleProv_ends : s.Ends s.settleProv := by
  have fill := s.settleProv_fill
  obtain ⟨h, e⟩ := s.settleProv_frame
  rw [e] at fill ⊢
  exact ⟨rfl, rfl, rfl, rfl, State.keepsFlds_of_regs rfl rfl, fun a ha => ⟨a, ha, rfl, fun _ => id⟩, fill⟩

/-- An access that ends at a set of stations if `p` selects it. -/
def Access.cut (p : Access → Bool) (set : StationSet) (a : Access) : Access := if p a then { a with set := a.set &&& ~~~set } else a

theorem State.endAccs_accs (p : Access → Bool) (set : StationSet) :
    (s.endAccs p set).accs = (s.accs.map (Access.cut p set)).filter fun a => a.set != 0 := by
  rw [State.endAccs, (State.settleProv_frame _).choose_spec]; rfl

theorem Access.cut_no (p : Access → Bool) (set : StationSet) (a : Access) : (a.cut p set).no = a.no := by
  unfold Access.cut; split <;> rfl

theorem Access.cut_set (p : Access → Bool) (set : StationSet) (a : Access) (i : StationId) (h : has a.set i = false) :
    has (a.cut p set).set i = false := by
  unfold Access.cut
  split
  · exact has_and_left _ h
  · exact h

theorem State.endAccs_ends (p : Access → Bool) (set : StationSet) : s.Ends (s.endAccs p set) := by
  refine State.Ends.trans (t := { s with accs := (s.accs.map (Access.cut p set)).filter fun a => a.set != 0 }) ?_ (State.settleProv_ends _)
  refine ⟨rfl, rfl, rfl, rfl, State.keepsFlds_of_regs rfl rfl, fun a ha => ?_, fun _ => rfl⟩
  obtain ⟨b, hb, rfl⟩ := List.mem_map.mp (List.mem_filter.mp ha).1
  exact ⟨b, hb, (b.cut_no p set).symm, b.cut_set p set⟩

theorem State.endAt_ends (no : Nat) (i : StationId) : s.Ends (s.endAt no i) := s.endAccs_ends _ _

/-- The accesses of an instruction at a station are over (R221). -/
theorem State.endAt_released (no : Nat) (i : StationId) : ∀ a ∈ (s.endAt no i).accs, a.no = no → has a.set i = false := by
  intro a ha e
  rw [State.endAt, State.endAccs_accs] at ha
  obtain ⟨b, -, rfl⟩ := List.mem_map.mp (List.mem_filter.mp ha).1
  rw [Access.cut_no] at e
  rw [Access.cut, if_pos (beq_iff_eq.mpr e)]
  exact has_without _ _

theorem State.endNo_accs (no : Nat) : (s.endNo no).accs = s.accs.filter fun a => a.no != no := by
  rw [State.endNo, (State.settleProv_frame _).choose_spec]; rfl

theorem State.endNo_ends (no : Nat) : s.Ends (s.endNo no) := by
  have drop : s.Ends (s.dropNo no) :=
    ⟨rfl, rfl, rfl, rfl, State.keepsFlds_of_regs rfl rfl, fun a ha => ⟨a, (List.mem_filter.mp ha).1, rfl, fun _ => id⟩, fun _ => rfl⟩
  exact drop.trans (State.settleProv_ends _)

/-- A pass that lets its source and its tag go (R44). -/
theorem State.tryRelease_ends (no : Nat) : s.Ends (s.tryRelease no) := by
  unfold State.tryRelease
  split
  · split
    · exact ((s.setPass_ends no none).trans (State.endNo_ends _ no)).trans (State.instDone_ends _ _ no)
    · exact .refl s
  · exact .refl s

theorem State.passMember_ends (ord : Nat) (c : Cid) (i : StationId) : s.Ends (s.passMember ord c i) := by
  unfold State.passMember
  dsimp only
  split
  · exact .refl s
  · exact (s.setPass_ends _ _).trans (State.tryRelease_ends _ _)

end

/-! ### Reads of a bunker without stored errors (R225) -/

section
variable {s : State} (data : s.bunkErr = []) (side : s.sideErr = [])

include data in
theorem State.bunkRead_clean (i : StationId) (a n : Nat) : (s.bunkRead i a n).st = s ∧ (s.bunkRead i a n).ue = false := by
  simp [State.bunkRead, Bits72.found, State.bunkBits, data]

include side in
theorem State.sideRead_clean (i : StationId) (a n : Nat) : (s.sideRead i a n).st = s ∧ (s.sideRead i a n).ue = false := by
  simp [State.sideRead, Bits72.found, State.sideBits, side]

include data side in
theorem State.rowVals_clean (h : Handle) (i : StationId) (r : Nat) (rowBlocks : Bool) : (s.rowVals h i r rowBlocks).2 = (s, false) := by
  obtain ⟨st, ue⟩ := State.bunkRead_clean data i (h.rowAt r) h.rowSize
  unfold State.rowVals
  dsimp only [State.rowRead]
  rw [st, ue]
  split
  · rw [(State.sideRead_clean side i _ _).1, (State.sideRead_clean side i _ _).2]; rfl
  · rfl

include data side in
/-- The rows of an ACCLOAD are read and nothing else happens. -/
theorem State.loadRows_clean (i : StationId) (l : LoadSrc) : (s.loadRows i l).2 = (s, false) := by
  unfold State.loadRows
  dsimp only
  split
  · rfl
  · refine foldl_inv (fun p : List (List Val) × State × Bool => p.2 = (s, false)) _ _ _ (fun p r hp => ?_) rfl
    obtain ⟨rows, rest⟩ := p
    subst hp
    simp only [State.rowVals_clean data side, Bool.or_self]

include data side in
/-- Slices are read; where a row is too short for 128 elements, free values stand in (log entry 22). -/
theorem State.readSlices_clean (h : Handle) (i : StationId) (fmt r0 k : Nat) :
    ∃ n, (s.readSlices h i fmt r0 k).2 = ({ s with freeCtr := n }, false) := by
  have elements := foldl_inv (fun p : List (List Nat) × State × Bool => ∃ n, p.2 = ({ s with freeCtr := n }, false))
    (fun acc j =>
      let r := acc.2.1.bunkRead i (h.rowAt (r0 + j)) h.rowSize
      (acc.1 ++ [sliceEls (fmtBits fmt) acc.2.1.freeCtr r.data],
        if h.rowSize * 8 < 128 * fmtBits fmt then { r.st with freeCtr := r.st.freeCtr + 128 } else r.st, acc.2.2 || r.ue))
    (List.range k) ([], s, false)
    (by
      rintro ⟨els, rest⟩ j ⟨n, rfl⟩
      obtain ⟨st, ue⟩ := State.bunkRead_clean (s := { s with freeCtr := n }) data i (h.rowAt (r0 + j)) h.rowSize
      dsimp only
      rw [st, ue]
      split <;> exact ⟨_, rfl⟩)
    ⟨s.freeCtr, rfl⟩
  obtain ⟨n, e⟩ := elements
  unfold State.readSlices
  dsimp only at e ⊢
  split
  · refine foldl_inv (fun p : List (List Byte) × State × Bool => ∃ n, p.2 = ({ s with freeCtr := n }, false)) _ _ _ ?_ ⟨n, by rw [e]⟩
    rintro ⟨scales, rest⟩ b ⟨n, rfl⟩
    obtain ⟨st, ue⟩ := State.sideRead_clean (s := { s with freeCtr := n }) side i (h.scaleAt (128 * (r0 / 32 + b))) 128
    exact ⟨n, by dsimp only; rw [st, ue]; rfl⟩
  · exact ⟨n, e⟩

end

/-! ### Words on the lanes (R76) -/

theorem State.passWords_frame (s : State) (p : Pass) (words : Nat) : ∃ r, s.passWords p words = { s with regs := r } := by
  refine s.foldl_regs _ _ fun t n => ?_
  unfold State.laneWords
  split <;> exact ⟨_, rfl⟩

/-! ### What streams of slices leave (R33, R35, R71) -/

/-- From `s` to `t` slices have been read, forwarded or consumed at station `i`: registers and counts, free values, records of the trace
and the station's own counts of cycles have changed, nothing else of what the ring works on. -/
structure State.Streams (i : StationId) (s t : State) : Prop where
  mem : t.mem = s.mem
  bunk : t.bunk = s.bunk
  data : t.bunkErr = s.bunkErr
  side : t.sideErr = s.sideErr
  insts : t.insts = s.insts
  passes : t.passes = s.passes
  seams : s.SameSeams t
  bank : ∀ b, (t.stn i).bank b = (s.stn i).bank b
  queue : (t.stn i).queue = (s.stn i).queue
  others : ∀ j, j ≠ i → t.stn j = s.stn j

/-- What leaves the watched cells leaves the seams. -/
theorem State.SameSeams.of_spares {s t : State} (h : State.Spares watchSpared s t) : s.SameSeams t :=
  .of_cells fun F hF i hi => h.cells F i 0 ⟨F, hF, i, hi, rfl⟩

namespace State.Streams

variable {i : StationId} {s t u : State}

/-- A change that leaves the units as they are. -/
theorem of_frame (hm : t.mem = s.mem) (hb : t.bunk = s.bunk) (hd : t.bunkErr = s.bunkErr) (hs : t.sideErr = s.sideErr)
    (hi : t.insts = s.insts) (hp : t.passes = s.passes) (hst : t.stations = s.stations) (seams : s.SameSeams t) : Streams i s t := by
  have stn (j : StationId) : t.stn j = s.stn j := by rw [State.stn, State.stn, hst]
  exact ⟨hm, hb, hd, hs, hi, hp, seams, fun b => by rw [stn], by rw [stn], fun j _ => stn j⟩

theorem trans (h : Streams i s t) (k : Streams i t u) : Streams i s u where
  mem := k.mem.trans h.mem
  bunk := k.bunk.trans h.bunk
  data := k.data.trans h.data
  side := k.side.trans h.side
  insts := k.insts.trans h.insts
  passes := k.passes.trans h.passes
  seams F hF j hj := (k.seams F hF j hj).trans (h.seams F hF j hj)
  bank b := (k.bank b).trans (h.bank b)
  queue := k.queue.trans h.queue
  others j hj := (k.others j hj).trans (h.others j hj)

end State.Streams

section
variable {s : State} (data : s.bunkErr = []) (side : s.sideErr = []) (i : StationId)

theorem State.pcEvent_streams (s : State) (ev unit n : Nat) : State.Streams i s (s.pcEvent ev unit n) := by
  have spares : State.Spares watchSpared s (s.pcEvent ev unit n) := s.pcEvent_spares watchSpared_ok ev unit n
  obtain ⟨r, e⟩ := s.pcEvent_frame ev unit n
  rw [e] at spares ⊢
  exact .of_frame rfl rfl rfl rfl rfl rfl rfl (.of_spares spares)

theorem State.trace_streams (s : State) (src : Src) (c : Option Cid) (typ : Nat) (p : List Byte) :
    State.Streams i s (s.trace src c typ p) := by
  have spares : State.Spares watchSpared s (s.trace src c typ p) := s.trace_spares watchSpared_ok src c typ p
  obtain ⟨l, r, h, x, e⟩ := s.trace_frame src c typ p
  rw [e] at spares ⊢
  exact .of_frame rfl rfl rfl rfl rfl rfl rfl (.of_spares spares)

theorem State.passWords_streams (s : State) (p : Pass) (words : Nat) : State.Streams i s (s.passWords p words) := by
  have count (t : State) (n : StationId × Bool) : State.Spares watchSpared t (State.laneWords words t n) :=
    .ite (fun _ => t.bump_spares_of watchSpared_ok _ _ _ _ (not_watched 96 1 (by decide) n.1.isLt (by decide))) fun _ =>
      t.bump_spares_of watchSpared_ok _ _ _ _ (not_watched 96 1 (by decide) n.1.isLt (by decide))
  have spares : State.Spares watchSpared s (s.passWords p words) := .foldl _ _ (fun t n _ => count t n) s
  obtain ⟨r, e⟩ := s.passWords_frame p words
  rw [e] at spares ⊢
  exact .of_frame rfl rfl rfl rfl rfl rfl rfl (.of_spares spares)

include data side in
theorem State.readSlices_streams (h : Handle) (j : StationId) (fmt r0 k : Nat) :
    State.Streams i s (s.readSlices h j fmt r0 k).2.1 ∧ (s.readSlices h j fmt r0 k).2.2 = false := by
  obtain ⟨n, e⟩ := State.readSlices_clean data side h j fmt r0 k
  rw [e]
  exact ⟨.of_frame rfl rfl rfl rfl rfl rfl rfl fun _ _ _ _ => rfl, rfl⟩

theorem State.ao_streams (s : State) (k n : Nat) : State.Streams i s (s.ao k n) :=
  .of_frame rfl rfl rfl rfl rfl rfl rfl fun _ _ _ _ => rfl

theorem State.cnt_streams (s : State) (c : Cid) (k n : Nat) : State.Streams i s (s.cnt c k n) :=
  .of_frame rfl rfl rfl rfl rfl rfl rfl fun _ _ _ _ => rfl

/-- A change of the station's own counts. -/
theorem State.modStn_streams (s : State) (f : Station → Station) (bank : ∀ y b, (f y).bank b = y.bank b) (queue : ∀ y, (f y).queue = y.queue) :
    State.Streams i s (s.modStn i f) where
  mem := rfl
  bunk := rfl
  data := rfl
  side := rfl
  insts := rfl
  passes := rfl
  seams _ _ _ _ := rfl
  bank b := by rw [State.modStn_eq, State.stn_setStn_self, bank]
  queue := by rw [State.modStn_eq, State.stn_setStn_self, queue]
  others j hj := s.stn_setStn_ne i j _ hj

theorem State.countMma_streams (s : State) (c : Cid) (t words gated : Nat) : State.Streams i s (s.countMma c i t words gated) := by
  unfold State.countMma
  extract_lets y t fin cyc g s1 s2
  have cycles : State.Streams i s s1 := by
    refine .of_frame rfl rfl rfl rfl rfl rfl rfl (.of_spares ?_)
    exact (s.bump_spares_of watchSpared_ok _ _ _ _ (not_watched 96 1 (by decide) i.isLt (by decide))).trans
      (State.bump_spares_of watchSpared_ok _ _ _ _ _ (not_watched 96 1 (by decide) i.isLt (by decide)))
  clear_value s1
  have station : State.Streams i s1 s2 := s1.modStn_streams i _ (fun _ _ => rfl) fun _ => rfl
  clear_value s2
  have active := ((s2.ao_streams i 0 cyc).trans (State.ao_streams i _ 2 (g / 128))).trans (State.cnt_streams i _ c 0 cyc)
  exact ((cycles.trans station).trans active).trans (State.pcEvent_streams i _ _ _ _)

include data side in
/-- An MMA's stream without stored errors gives its result. -/
theorem State.runMma_streams (a : Slices) (x : SInst) (d : Nat) (init : SMap (BitVec 40)) :
    ∃ res t, s.runMma a x i d init = (some res, t) ∧ State.Streams i s t := by
  obtain ⟨read, clean⟩ := State.readSlices_streams data side i (s.hnd (x.w.h 22)) i (x.w.f 37 34) x.off a.els.length
  unfold State.runMma
  dsimp only
  rw [if_neg (by rw [clean]; exact Bool.false_ne_true)]
  exact ⟨_, _, rfl, read.trans (State.countMma_streams i _ _ _ _ _)⟩

end

/-! ### A fault of a context (R163) -/

theorem west_ne_east (c : Cid) : west c ≠ east c := by
  revert c
  decide

/-- The copy that controls a context is among those that are changed. -/
theorem State.ctx_modBoth_lead (s : State) (c : Cid) (f : Ctx → Ctx) : (s.modBoth c f).ctx (s.lead c) = f (s.ctx (s.lead c)) := by
  unfold State.modBoth State.lead
  split
  · rw [State.modCtx, State.ctx_setCtx_ne _ _ _ _ (west_ne_east c), State.modCtx, State.ctx_setCtx_self]
  · exact s.ctx_setCtx_self c _

/-- A context that had no fault has this one then. -/
theorem State.faultCtx_faulted (s : State) (c : Cid) (code : BitVec 16) (src : Src) (d : Nat) (h : (s.ctx (s.lead c)).faulted = none) :
    ((s.faultCtx c code src d).ctx (s.lead c)).faulted = some code := by
  have spares : State.Spares watchSpared s (((s.raise code src (some c) d).checkBudget c).abortCtx c) :=
    ((s.raise_spares watchSpared_ok id code src (some c) d).trans (State.checkBudget_spares watchSpared_ok _ id id c)).trans
      (State.abortCtx_spares watchSpared_ok _ id c)
  rw [s.faultCtx_first c code src d h, ← (State.SameSeams.of_spares spares).lead c, State.ctx_modBoth_lead]

end Sys2Proof.Machine
end

section
/-! The residue check (R61, R62, R66): outcomes, replays and the pass that a replay puts on its lane again. -/

namespace Sys2Proof.Machine

section
variable (s : State) (st : StationId) (bank : Fin 2)

/-! ### The holds of an MMA end (R44, R66) -/

theorem State.mmaEnds_ends (b : Bank) (m : Nat) : s.Ends (s.mmaEnds st b m) := by
  have load : s.Ends (match b.mmaLoad with | some l => s.endAt l.no st | none => s) := by
    split
    · exact s.endAt_ends _ st
    · exact .refl s
  unfold State.mmaEnds
  extract_lets t
  have done : t.Ends (match t.inst m with
      | some x => ((t.endAt m st).instDone st m).passMember x.ord x.cid st
      | none => t) := by
    split
    · exact ((t.endAt_ends m st).trans (State.instDone_ends _ st m)).trans (State.passMember_ends _ _ _ st)
    · exact .refl t
  exact load.trans done

theorem State.endAt_inst (no m : Nat) : (s.endAt no st).inst m = s.inst m := by
  obtain ⟨h, x, e⟩ := s.endAccs_frame (fun a => a.no == no) (single st)
  rw [State.endAt, e]; rfl

/-- The MMA has no access at the station any more. -/
theorem State.mmaEnds_released (b : Bank) (m : Nat) (h : (s.inst m).isSome = true) :
    ∀ a ∈ (s.mmaEnds st b m).accs, a.no = m → has a.set st = false := by
  unfold State.mmaEnds
  extract_lets t
  have inst : t.inst m = s.inst m := by
    unfold t
    split
    · exact s.endAt_inst st _ m
    · rfl
  obtain ⟨x, hx⟩ := Option.isSome_iff_exists.mp h
  rw [inst, hx]
  exact ((State.instDone_ends _ st m).trans (State.passMember_ends _ x.ord x.cid st)).released (t.endAt_released m st)

/-! ### A clean outcome (R45, R61, R66) -/

/-- What a clean outcome leaves of a bank that computed and has not drained. -/
def Bank.settled (b : Bank) : Bank :=
  { b with st := .done, mma := none, mmaLoad := none, res := [], init := [], drained := none }

theorem State.mmaClean_computing {m : Nat} (hm : ((s.stn st).bank bank).mma = some m)
    (computing : ((s.stn st).bank bank).st = .computing) (drained : ((s.stn st).bank bank).drained = none) :
    s.mmaClean st bank = (s.mmaEnds st ((s.stn st).bank bank) m).setBank st bank ((s.stn st).bank bank).settled := by
  simp [State.mmaClean, hm, computing, drained, Bank.settled]

theorem State.mmaClean_replay {m : Nat} (hm : ((s.stn st).bank bank).mma = some m) (replay : ((s.stn st).bank bank).st = .replay)
    (drained : ((s.stn st).bank bank).drained = none) (later : ((s.stn st).bank bank).later = none) :
    s.mmaClean st bank =
      (((s.mmaEnds st ((s.stn st).bank bank) m).bump Fld.RING_RESIDUE_REPLAYS 1 st.val).modStn st fun y =>
        { y with replay := (y.bank (1 - bank)).st == .replay }).setBank st bank { st := .done, acc := ((s.stn st).bank bank).res } := by
  simp [State.mmaClean, State.replayEnds, hm, replay, drained, later]

/-! ### A mismatch (R61, R62, R74) -/

/-- The count and the place of a mismatch. -/
def State.residueNoted (row col : Fin 128) : State :=
  (((s.bump Fld.RING_RESIDUE_FAULTS 1 st.val).setFld Fld.RING_RESIDUE_LAST_ROW row.val st.val).setFld
    Fld.RING_RESIDUE_LAST_COL col.val st.val).canary 3 1

variable (row col : Fin 128)

theorem State.residueNoted_frame : ∃ r k, s.residueNoted st row col = { s with regs := r, rlf := { s.rlf with cur := k } } := ⟨_, _, rfl⟩

theorem State.residueNoted_counted : s.Counted (s.residueNoted st row col) Fld.RING_RESIDUE_FAULTS 1 st.val := by
  have other {F G : Fld} (h : F.lo < 64 ∧ G.lo < 64 ∧ F.lo ≠ G.lo) : F.key st.val 0 ≠ G.key st.val 0 := by
    simp only [Fld.key]; omega
  refine Eq.trans ?_ (s.bump_counted Fld.RING_RESIDUE_FAULTS 1 st.val 0 (by decide))
  exact (State.fld_setFld_ne _ Fld.RING_RESIDUE_LAST_COL Fld.RING_RESIDUE_FAULTS _ _ _ _ _ (other (by decide))).trans
    (State.fld_setFld_ne _ Fld.RING_RESIDUE_LAST_ROW Fld.RING_RESIDUE_FAULTS _ _ _ _ _ (other (by decide)))

theorem State.residueNoted_row : (s.residueNoted st row col).fld Fld.RING_RESIDUE_LAST_ROW st.val = row.val := by
  refine (State.fld_setFld_ne _ Fld.RING_RESIDUE_LAST_COL Fld.RING_RESIDUE_LAST_ROW _ _ _ _ _ ?_).trans
    ((State.fld_setFld_self _ Fld.RING_RESIDUE_LAST_ROW _ _ _ (by decide)).trans (Nat.mod_eq_of_lt row.isLt))
  simp only [Fld.key]
  omega

theorem State.residueNoted_col : (s.residueNoted st row col).fld Fld.RING_RESIDUE_LAST_COL st.val = col.val :=
  (State.fld_setFld_self _ Fld.RING_RESIDUE_LAST_COL _ _ _ (by decide)).trans (Nat.mod_eq_of_lt col.isLt)

theorem State.residueNoted_spares : State.Spares watchSpared s (s.residueNoted st row col) :=
  (((s.bump_spares_of watchSpared_ok _ _ _ _ (not_watched 96 1 (by decide) st.isLt (by decide))).trans
    (State.setFld_spares_of watchSpared_ok _ _ _ _ _ (not_watched 96 1 (by decide) st.isLt (by decide)))).trans
    (State.setFld_spares_of watchSpared_ok _ _ _ _ _ (not_watched 96 1 (by decide) st.isLt (by decide)))).trans
    (State.canary_spares _ _ _)

/-- The first mismatch of an MMA puts its bank in REPLAY. -/
theorem State.residueFault_first {m : Nat} (hm : ((s.stn st).bank bank).mma = some m) (first : ((s.stn st).bank bank).replayed = false) :
    ∃ y b, s.residueFault st bank row col = ((s.residueNoted st row col).setStn st y).setBank st bank b ∧ y.replay = true ∧ b.st = .replay := by
  unfold State.residueFault
  simp only [hm, first, Bool.false_eq_true, if_false]
  exact ⟨_, _, rfl, rfl, rfl⟩

/-- A mismatch in the replay stops the context. -/
theorem State.residueFault_again {m : Nat} {x : SInst} (hm : ((s.stn st).bank bank).mma = some m)
    (again : ((s.stn st).bank bank).replayed = true) (hx : s.inst m = some x) :
    s.residueFault st bank row col =
      ((s.residueNoted st row col).bump Fld.RING_RESIDUE_HARD 1 st.val).faultCtx x.cid Ev.RING_RESIDUE_HARD (srcStn st) := by
  have inst : ((s.residueNoted st row col).bump Fld.RING_RESIDUE_HARD 1 st.val).inst m = some x := hx
  unfold State.residueFault
  simp only [hm, again, if_true]
  show (match ((s.residueNoted st row col).bump Fld.RING_RESIDUE_HARD 1 st.val).inst m with
    | some x => ((s.residueNoted st row col).bump Fld.RING_RESIDUE_HARD 1 st.val).faultCtx x.cid Ev.RING_RESIDUE_HARD (srcStn st)
    | none => (s.residueNoted st row col).bump Fld.RING_RESIDUE_HARD 1 st.val) = _
  rw [inst]

end

/-! ### The commands -/

section
variable {s : State} {st : StationId} {bank : Fin 2} {m : Nat} (hm : ((s.stn st).bank bank).mma = some m)
  (running : ((s.stn st).bank bank).restoring = false) (free : s.stnFree st = true) (row col : Fin 128)

include hm running free in
theorem exec_mmaResidueOutcome (clean : Bool) : exec (.mmaResidueOutcome st bank clean row col) s =
    .next (if clean then s.mmaClean st bank else s.residueFault st bank row col) := by
  show execMmaResidueOutcome st bank clean row col s = _
  simp [execMmaResidueOutcome, hm, running, free]

include running free in
theorem exec_residueFault : exec (.residueFault st bank row col) s = .next (s.residueFault st bank row col) := by
  show execResidueFault st bank row col s = _
  simp [execResidueFault, running, free]

include hm running free in
/-- A clean outcome of a computing bank. -/
theorem exec_outcome_computing (computing : ((s.stn st).bank bank).st = .computing) (drained : ((s.stn st).bank bank).drained = none) :
    ∃ t, exec (.mmaResidueOutcome st bank true row col) s = .next t ∧ ((t.stn st).bank bank).st = .done ∧
      ((t.stn st).bank bank).mma = none ∧ ((t.stn st).bank bank).acc = ((s.stn st).bank bank).acc ∧ t.mem = s.mem ∧ t.bunk = s.bunk ∧
      ((s.inst m).isSome = true → ∀ a ∈ t.accs, a.no = m → has a.set st = false) := by
  have ends := s.mmaEnds_ends st ((s.stn st).bank bank) m
  refine ⟨_, exec_mmaResidueOutcome hm running free row col true, ?_⟩
  rw [if_pos rfl, s.mmaClean_computing st bank hm computing drained, State.bank_setBank_self]
  exact ⟨rfl, rfl, rfl, ends.mem, ends.bunk, s.mmaEnds_released st _ m⟩

include hm running free in
/-- A clean outcome of a replay. -/
theorem exec_outcome_replay (replay : ((s.stn st).bank bank).st = .replay) (drained : ((s.stn st).bank bank).drained = none)
    (later : ((s.stn st).bank bank).later = none) :
    ∃ t, exec (.mmaResidueOutcome st bank true row col) s = .next t ∧
      (t.stn st).bank bank = { st := .done, acc := ((s.stn st).bank bank).res } ∧
      (t.stn st).replay = (((s.stn st).bank (1 - bank)).st == .replay) ∧ s.Counted t Fld.RING_RESIDUE_REPLAYS 1 st.val ∧
      t.mem = s.mem ∧ t.bunk = s.bunk := by
  have ends := s.mmaEnds_ends st ((s.stn st).bank bank) m
  have station : ((s.mmaEnds st ((s.stn st).bank bank) m).bump Fld.RING_RESIDUE_REPLAYS 1 st.val).stn st = s.stn st := ends.stn st
  have before := ends.flds Fld.RING_RESIDUE_REPLAYS st.val 0 (not_event 96 1 (by decide) st.isLt (by decide))
  refine ⟨_, exec_mmaResidueOutcome hm running free row col true, ?_⟩
  rw [if_pos rfl, s.mmaClean_replay st bank hm replay drained later, State.bank_setBank_self]
  refine ⟨rfl, ?_, ?_, ends.mem, ends.bunk⟩
  · rw [State.setBank_eq, State.stn_setStn_self, Station.setBank_replay, State.modStn_eq, State.stn_setStn_self, station]
  · have counted := State.bump_counted (s.mmaEnds st ((s.stn st).bank bank) m) Fld.RING_RESIDUE_REPLAYS 1 st.val 0 (by decide)
    rw [State.Counted, before] at counted
    exact counted

include hm running free in
/-- The first mismatch of an MMA. -/
theorem exec_residueFault_first (first : ((s.stn st).bank bank).replayed = false) :
    ∃ t, exec (.residueFault st bank row col) s = .next t ∧ ((t.stn st).bank bank).st = .replay ∧ (t.stn st).replay = true ∧
      s.Counted t Fld.RING_RESIDUE_FAULTS 1 st.val ∧ t.fld Fld.RING_RESIDUE_LAST_ROW st.val = row.val ∧
      t.fld Fld.RING_RESIDUE_LAST_COL st.val = col.val ∧ t.mem = s.mem ∧ t.bunk = s.bunk ∧ (∀ i, i ≠ st → t.stn i = s.stn i) := by
  obtain ⟨y, b, fault, pending, replay⟩ := s.residueFault_first st bank row col hm first
  refine ⟨_, exec_residueFault running free row col, ?_⟩
  rw [fault]
  refine ⟨by rw [State.bank_setBank_self, replay], ?_, s.residueNoted_counted st row col, s.residueNoted_row st row col,
    s.residueNoted_col st row col, rfl, rfl, fun i h => ?_⟩
  · rw [State.setBank_eq, State.stn_setStn_self, Station.setBank_replay, State.stn_setStn_self, pending]
  · rw [State.stn_setBank_ne _ _ _ _ h, State.stn_setStn_ne _ _ _ _ h]
    rfl

include hm running free in
/-- A mismatch in the replay of the same MMA (R62). -/
theorem exec_residueFault_again (again : ((s.stn st).bank bank).replayed = true) {x : SInst} (hx : s.inst m = some x)
    (sound : (s.ctx (s.lead x.cid)).faulted = none) :
    ∃ t, exec (.residueFault st bank row col) s = .next t ∧ (t.ctx (s.lead x.cid)).faulted = some 0x0303 := by
  have spares := (s.residueNoted_spares st row col).trans (State.bump_spares_of watchSpared_ok _ Fld.RING_RESIDUE_HARD 1 st.val 0
    (not_watched 96 1 (by decide) st.isLt (by decide)))
  have lead := (State.SameSeams.of_spares spares).lead x.cid
  refine ⟨_, exec_residueFault running free row col, ?_⟩
  rw [s.residueFault_again st bank row col hm again hx, ← lead]
  exact State.faultCtx_faulted _ _ _ _ _ (by rw [lead]; exact sound)

end

/-! ### The pass of a replay (R61) -/

section
variable {s : State} {st : StationId} {bank : Fin 2} {m : Nat} {x : SInst} {p : Pass}
  (waiting : ((s.stn st).bank bank).restoring = true) (free : s.stnFree st = true) (hm : ((s.stn st).bank bank).mma = some m)
  (hx : s.inst m = some x)

include waiting free hm hx in
theorem exec_replayPassIssue_none (h : s.passOfMma x st = none) : exec (.replayPassIssue st bank) s = .next s := by
  show execReplayPassIssue st bank s = _
  simp [execReplayPassIssue, waiting, free, hm, hx, h]

include waiting free hm hx in
theorem exec_replayPassIssue_held (h : s.passOfMma x st = some p) (held : s.stnFree p.orig = false) :
    exec (.replayPassIssue st bank) s = .next s := by
  show execReplayPassIssue st bank s = _
  simp [execReplayPassIssue, waiting, free, hm, hx, h, held]

/-- The set that a replay begins from: what its ACCLOAD's source gives, or what the bank began from. -/
def State.replaySet (s : State) (st : StationId) (b : Bank) : SMap (BitVec 40) :=
  match b.mmaLoad with
  | some l => (s.loadRows st l).1
  | none => b.init

/-- The pass whose slices a replay forwards and consumes again. -/
def State.replayWords (s : State) (p : Pass) : State :=
  (s.readSlices (s.hnd p.hs) p.orig p.fmt.toNat p.soff p.k).2.1.passWords p (ceilDiv p.k (wordSlices p.fmt.toNat))

include waiting free hm hx in
/-- Without stored errors the command runs the MMA on its pass again. -/
theorem exec_replayPassIssue_eq (h : s.passOfMma x st = some p) (orig : s.stnFree p.orig = true) (data : s.bunkErr = [])
    (side : s.sideErr = []) {res : SMap (BitVec 40)} {t : State}
    (run : (s.replayWords p).runMma (s.readSlices (s.hnd p.hs) p.orig p.fmt.toNat p.soff p.k).1 x st
      ((s.replayWords p).memberDist p x.w st) (s.replaySet st ((s.stn st).bank bank)) = (some res, t)) :
    exec (.replayPassIssue st bank) s =
      .next (t.setBank st bank { (s.stn st).bank bank with acc := res, res := res, replayed := true }) := by
  have read := (State.readSlices_streams data side st (s.hnd p.hs) p.orig p.fmt.toNat p.soff p.k).2
  have load (l : LoadSrc) := State.loadRows_clean data side st l
  unfold State.replayWords at run
  unfold State.replaySet at run
  show execReplayPassIssue st bank s = _
  unfold execReplayPassIssue
  cases source : ((s.stn st).bank bank).mmaLoad with
  | none =>
    rw [source] at run
    simp [waiting, free, orig, hm, hx, h, source, read, run]
  | some l =>
    rw [source] at run
    simp [waiting, free, orig, hm, hx, h, source, load, read, run]

include waiting free hm hx in
/-- The pass is on its lane again, and the bank computes from the set it began with. -/
theorem exec_replayPassIssue_runs (h : s.passOfMma x st = some p) (orig : s.stnFree p.orig = true) (data : s.bunkErr = [])
    (side : s.sideErr = []) :
    ∃ t res, exec (.replayPassIssue st bank) s = .next t ∧
      (t.stn st).bank bank = { (s.stn st).bank bank with acc := res, res := res, replayed := true } ∧
      (∀ i, i ≠ st → t.stn i = s.stn i) ∧ t.mem = s.mem ∧ t.bunk = s.bunk := by
  have words : State.Streams st s (s.replayWords p) :=
    (State.readSlices_streams data side st _ _ _ _ _).1.trans (State.passWords_streams st _ p _)
  obtain ⟨res, t, run, streams⟩ := State.runMma_streams (words.data.trans data) (words.side.trans side) st
    (s.readSlices (s.hnd p.hs) p.orig p.fmt.toNat p.soff p.k).1 x ((s.replayWords p).memberDist p x.w st)
    (s.replaySet st ((s.stn st).bank bank))
  have whole := words.trans streams
  refine ⟨_, res, exec_replayPassIssue_eq waiting free hm hx h orig data side run, State.bank_setBank_self _ _ _ _, fun i hi => ?_,
    whole.mem, whole.bunk⟩
  rw [State.stn_setBank_ne _ _ _ _ hi, whole.others i hi]

end

/-- Settles O12: a clean outcome and a mismatch by what each leaves of the bank, its MMA's holds and the counts; the pass of a replay by what a
stream of slices leaves. -/
theorem residueDecidesAndReplays : Obligations.ResidueDecidesAndReplays := by
  unfold Obligations.ResidueDecidesAndReplays
  refine ⟨fun st bank row col s m hm running free => ⟨fun computing drained => ?_, fun replay drained later => ?_, ?_, fun first => ?_,
    fun again x hx sound => ?_⟩, fun st bank s m x p waiting free hm hx => ⟨?_, fun h => ⟨?_, ?_⟩⟩⟩
  · exact exec_outcome_computing hm running free row col computing drained
  · exact exec_outcome_replay hm running free row col replay drained later
  · rw [exec_mmaResidueOutcome hm running free, exec_residueFault running free]
    rfl
  · exact exec_residueFault_first hm running free row col first
  · exact exec_residueFault_again hm running free row col again hx sound
  · exact exec_replayPassIssue_none waiting free hm hx
  · exact exec_replayPassIssue_held waiting free hm hx h
  · exact exec_replayPassIssue_runs waiting free hm hx h

end Sys2Proof.Machine
end

section
/-! Passes that retire (R44, R52, R58) and captures that end (R53, R183, R222). -/

namespace Sys2Proof.Machine

section
variable (s : State)

/-! ### Instructions and passes that are over -/

theorem State.instDone_frame (i : StationId) (no : Nat) :
    ∃ l r h x n, s.instDone i no = { s with llx := l, regs := r, hubs := h, dbg := { s.dbg with stop := x }, insts := n } := by
  unfold State.instDone
  split
  · exact ⟨s.llx, s.regs, s.hubs, s.dbg.stop, s.insts, rfl⟩
  · next y _ =>
    obtain ⟨l, r, h, x, e⟩ : ∃ l r h x, s.traceDone i y = { s with llx := l, regs := r, hubs := h, dbg := { s.dbg with stop := x } } :=
      s.trace_frame _ _ _ _
    dsimp only
    rw [e]
    exact ⟨l, r, h, x, _, rfl⟩

/-- An instruction that has now finished at every station of its mask is gone. -/
theorem State.instDone_gone {x : SInst} (i : StationId) (no : Nat) (hx : s.inst no = some x)
    (last : subset x.mask (x.done ||| single i) = true) : (s.instDone i no).instGone no = true := by
  have e : s.instDone i no = (s.traceDone i x).setInst no none := by simp [State.instDone, hx, last]
  rw [e, State.instGone, State.inst_setInst_self]
  rfl

/-- A pass of which something is awaited stays. -/
theorem State.tryRelease_awaited {p : Pass} (no : Nat) (hp : s.pass no = some p) (awaited : p.awaiting ≠ []) : s.tryRelease no = s := by
  simp [State.tryRelease, hp, awaited]

/-- A retired pass of which nothing is awaited is released. -/
theorem State.tryRelease_over {p : Pass} (no : Nat) (hp : s.pass no = some p) (retired : p.retired = true) (ended : p.awaiting = []) :
    s.tryRelease no = ((s.setPass no none).endNo no).instDone p.orig no := by
  simp [State.tryRelease, hp, retired, ended]

/-- A released pass has no tag and holds no handle. -/
theorem State.tryRelease_released {p : Pass} (no : Nat) (hp : s.pass no = some p) (retired : p.retired = true) (ended : p.awaiting = []) :
    (s.tryRelease no).pass no = none ∧ ∀ a ∈ (s.tryRelease no).accs, a.no ≠ no := by
  rw [s.tryRelease_over no hp retired ended]
  constructor
  · obtain ⟨l, r, h, x, n, done⟩ := ((s.setPass no none).endNo no).instDone_frame p.orig no
    obtain ⟨hs, as, dropped⟩ := (s.setPass no none).endNo_frame no
    rw [done, dropped]
    exact s.pass_setPass_self no none
  · intro a ha
    obtain ⟨b, hb, same, -⟩ := (State.instDone_ends _ p.orig no).accs a ha
    rw [State.endNo_accs, List.mem_filter, bne_iff_ne] at hb
    rw [← same]
    exact hb.2

end

/-! ### PASS_RETIRE -/

section
variable {s : State} {c : Cid} {tag : Fin 16} {no : Nat} {p : Pass} (hp : s.passOf c tag = some (no, p)) (running : p.retired = false)

include hp in
theorem exec_passRetire_held (held : s.stnFree (s.passEnd p) = false) : exec (.passRetire c tag) s = .next s := by
  show execPassRetire c tag s = _
  simp [execPassRetire, hp, held]

/-- The pass's words are forwarded and it stands as retired. -/
def State.retire (s : State) (no : Nat) (p : Pass) : State :=
  (s.passWords p (ceilDiv p.k (wordSlices p.fmt.toNat))).setPass no (some { p with retired := true })

include hp running in
theorem exec_passRetire_free (free : s.stnFree (s.passEnd p) = true) :
    exec (.passRetire c tag) s = .next ((s.retire no p).tryRelease no) := by
  show execPassRetire c tag s = _
  simp [execPassRetire, hp, running, free, State.retire]

theorem State.retire_frame (s : State) (no : Nat) (p : Pass) : ∃ r q, s.retire no p = { s with regs := r, passes := q } := by
  obtain ⟨r, e⟩ := s.passWords_frame p (ceilDiv p.k (wordSlices p.fmt.toNat))
  rw [State.retire, e]
  exact ⟨r, _, rfl⟩

include hp running in
/-- A pass retires: it is released, or it waits for what is awaited of it. -/
theorem exec_passRetire_retires (free : s.stnFree (s.passEnd p) = true) :
    ∃ t, exec (.passRetire c tag) s = .next t ∧ t.mem = s.mem ∧ t.bunk = s.bunk ∧ t.ctxs = s.ctxs ∧
      (p.awaiting ≠ [] → t.pass no = some { p with retired := true } ∧ t.accs = s.accs) ∧
      (p.awaiting = [] → t.pass no = none ∧ ∀ a ∈ t.accs, a.no ≠ no) := by
  have stands : (s.retire no p).pass no = some { p with retired := true } := State.pass_setPass_self _ _ _
  have ends := (s.retire no p).tryRelease_ends no
  have released := (s.retire no p).tryRelease_released no stands rfl
  have waits := (s.retire no p).tryRelease_awaited no stands
  obtain ⟨r, q, e⟩ := s.retire_frame no p
  refine ⟨_, exec_passRetire_free hp running free, ?_, ?_, ?_, fun awaited => ?_, released⟩
  · rw [ends.mem, e]
  · rw [ends.bunk, e]
  · rw [ends.ctxs, e]
  · rw [waits awaited]
    exact ⟨stands, by rw [e]⟩

end

/-! ### Writes of a bunker without stored errors (R693) -/

section
variable {s : State} (idle : s.injectWord = none)

include idle in
theorem State.bunkWrite_clean (data : s.bunkErr = []) (i : StationId) (a : Nat) (bs : List Byte) :
    ∃ b, s.bunkWrite i a bs = { s with bunk := b } := by
  have found (n : Nat) : s.bunkBits.found (slice i + a) n = [] := by simp [Bits72.found, State.bunkBits, data]
  unfold State.bunkWrite
  split
  · exact ⟨s.bunk, rfl⟩
  · dsimp only
    rw [found, Bits72.write, found]
    exact ⟨_, State.inject_none _ _ _ _ idle⟩

include idle in
theorem State.sideWrite_clean (side : s.sideErr = []) (i : StationId) (a : Nat) (bs : List Byte) :
    ∃ d, s.sideWrite i a bs = { s with side := d } := by
  have found (n : Nat) : s.sideBits.found (sideSlice i + a) n = [] := by simp [Bits72.found, State.sideBits, side]
  unfold State.sideWrite
  split
  · exact ⟨s.side, rfl⟩
  · dsimp only
    rw [found, Bits72.write, found]
    exact ⟨_, State.inject_none _ _ _ _ idle⟩

include idle in
/-- Slices go into the rows of their destination and the sideband of its lines, and nowhere else. -/
theorem State.writeSlices_clean (data : s.bunkErr = []) (side : s.sideErr = []) (h : Handle) (i : StationId) (off : Nat) (a : Slices) :
    ∃ b d, s.writeSlices h i off a = { s with bunk := b, side := d } := by
  unfold State.writeSlices
  obtain ⟨b, rows⟩ := foldl_inv (fun t : State => ∃ b, t = { s with bunk := b })
    (fun (s : State) (p : List Nat × Nat) => s.rowWrite h i (off + p.2) (p.1.take h.colsN)) (a.els.zip (List.range a.els.length)) s
    (by
      rintro t p ⟨b, rfl⟩
      obtain ⟨b2, e⟩ := State.bunkWrite_clean (s := { s with bunk := b }) idle data i (h.rowAt (off + p.2))
        (packRow h.width (max h.strideB h.rowSize) (p.1.take h.colsN))
      exact ⟨b2, e⟩)
    ⟨s.bunk, rfl⟩
  dsimp only
  rw [rows]
  refine foldl_inv (fun t : State => ∃ b d, t = { s with bunk := b, side := d }) _ _ _ ?_ ⟨b, s.side, rfl⟩
  rintro t p ⟨b, d, rfl⟩
  obtain ⟨d2, e⟩ := State.sideWrite_clean (s := { s with bunk := b, side := d }) idle side i (h.scaleAt (128 * (off / 32 + p.2)))
    (p.1.take h.colsN)
  exact ⟨b, d2, e⟩

end

/-! ### RINGRET_CAPTURE_END -/

theorem State.addFill_fill (s : State) (h : HandleId) (n : Nat) :
    ((s.addFill h n).hnd h).fill.toNat = min (2 ^ 21 - 1) ((s.hnd h).fill.toNat + n) := by
  rw [State.addFill, State.setFill, State.modHnd_eq, State.hnd_setHnd_self]
  exact Nat.mod_eq_of_lt (by omega)

/-- A capture is over at a station: its accesses end there, it is done there, and at the last station FILL advances by the pass's K. -/
def State.captured (s : State) (st : StationId) (p : Pass) (no : Nat) (x : SInst) : State :=
  let t := (s.endAt no st).instDone st no
  (if t.instGone no then t.addFill (x.w.h 31) p.k else t).passMember x.ord x.cid st

section
variable {s : State} {st : StationId} {p : Pass} {no : Nat} {x : SInst}

theorem State.captured_keeps (s : State) (st : StationId) (p : Pass) (no : Nat) (x : SInst) :
    (s.captured st p no x).mem = s.mem ∧ (s.captured st p no x).bunk = s.bunk ∧ (s.captured st p no x).ctxs = s.ctxs ∧
      ∀ a ∈ (s.captured st p no x).accs, a.no = no → has a.set st = false := by
  unfold State.captured
  extract_lets t
  have first : s.Ends t := (s.endAt_ends no st).trans (State.instDone_ends _ st no)
  have ended : ∀ a ∈ t.accs, a.no = no → has a.set st = false := (State.instDone_ends _ st no).released (s.endAt_released no st)
  clear_value t
  obtain ⟨u, hu, mem, bunk, ctxs, accs⟩ : ∃ u, (if t.instGone no = true then t.addFill (x.w.h 31) p.k else t) = u ∧ u.mem = t.mem ∧
      u.bunk = t.bunk ∧ u.ctxs = t.ctxs ∧ u.accs = t.accs := by
    split
    · exact ⟨_, rfl, rfl, rfl, rfl, rfl⟩
    · exact ⟨_, rfl, rfl, rfl, rfl, rfl⟩
  have last := u.passMember_ends x.ord x.cid st
  rw [hu, last.mem, last.bunk, last.ctxs, mem, bunk, ctxs]
  exact ⟨first.mem, first.bunk, first.ctxs, last.released (by rw [accs]; exact ended)⟩

theorem State.captured_fill (s : State) (st : StationId) (p : Pass) (hx : s.inst no = some x)
    (last : subset x.mask (x.done ||| single st) = true) :
    ((s.captured st p no x).hnd (x.w.h 31)).fill.toNat = min (2 ^ 21 - 1) ((s.hnd (x.w.h 31)).fill.toNat + p.k) := by
  have gone := (s.endAt no st).instDone_gone st no ((s.endAt_inst st no no).trans hx) last
  have first := (s.endAt_ends no st).trans (State.instDone_ends _ st no)
  unfold State.captured
  dsimp only
  rw [if_pos gone, (State.passMember_ends _ _ _ _).fills, State.addFill_fill, first.fills]

/-- The slices of the pass, read at its origin, are written at the capturing station. -/
def State.captureWrite (s : State) (st : StationId) (p : Pass) (x : SInst) : State :=
  (s.readSlices (s.hnd p.hs) p.orig p.fmt.toNat p.soff p.k).2.1.writeSlices (s.hnd (x.w.h 31)) st x.off
    (s.readSlices (s.hnd p.hs) p.orig p.fmt.toNat p.soff p.k).1

theorem State.captureWrite_clean (data : s.bunkErr = []) (side : s.sideErr = []) (idle : s.injectWord = none) (st : StationId) (p : Pass)
    (x : SInst) : ∃ n b d, s.captureWrite st p x = { s with freeCtr := n, bunk := b, side := d } := by
  obtain ⟨n, read⟩ := State.readSlices_clean data side (s.hnd p.hs) p.orig p.fmt.toNat p.soff p.k
  unfold State.captureWrite
  rw [read]
  obtain ⟨b, d, write⟩ := State.writeSlices_clean (s := { s with freeCtr := n }) idle data side (s.hnd (x.w.h 31)) st x.off
    (s.readSlices (s.hnd p.hs) p.orig p.fmt.toNat p.soff p.k).1
  exact ⟨n, b, d, write⟩

variable {tag : Fin 16} (hc : s.captureOf st tag = some (p, no, x)) (free : s.stnFree st = true)

include hc free in
theorem exec_ringretCaptureEnd_clean (clean : (s.readSlices (s.hnd p.hs) p.orig p.fmt.toNat p.soff p.k).2.2 = false) :
    exec (.ringretCaptureEnd st tag) s = .next ((s.captureWrite st p x).captured st p no x) := by
  show execRingretCaptureEnd st tag s = _
  unfold execRingretCaptureEnd
  simp only [hc, free, clean, Bool.not_true, Bool.false_eq_true, if_false]
  rfl

include hc free in
/-- A capture that ends has written the slices of its pass. -/
theorem exec_ringretCaptureEnd_writes (hx : s.inst no = some x) (data : s.bunkErr = []) (side : s.sideErr = [])
    (idle : s.injectWord = none) :
    ∃ t, exec (.ringretCaptureEnd st tag) s = .next t ∧ t.mem = s.mem ∧ t.ctxs = s.ctxs ∧ t.bunk = (s.captureWrite st p x).bunk ∧
      (∀ a ∈ t.accs, a.no = no → has a.set st = false) ∧
      (subset x.mask (x.done ||| single st) = true →
        (t.hnd (x.w.h 31)).fill.toNat = min (2 ^ 21 - 1) ((s.hnd (x.w.h 31)).fill.toNat + p.k)) := by
  have clean := (State.readSlices_streams data side st (s.hnd p.hs) p.orig p.fmt.toNat p.soff p.k).2
  obtain ⟨mem, bunk, ctxs, accs⟩ := (s.captureWrite st p x).captured_keeps st p no x
  have fill := (s.captureWrite st p x).captured_fill (no := no) (x := x) st p
  obtain ⟨n, b, d, e⟩ := State.captureWrite_clean data side idle st p x
  refine ⟨_, exec_ringretCaptureEnd_clean hc free clean, by rw [mem, e], by rw [ctxs, e], bunk, accs, fun last => ?_⟩
  rw [fill (by rw [e]; exact hx) last, e]
  rfl

end

end Sys2Proof.Machine
end

section
/-! Station holds (R58, R59), and the obligation on passes and holds. -/

namespace Sys2Proof.Machine

/-! ### The stations of a hold -/

theorem mem_holdSet (st i : StationId) (cause : HoldCause) :
    i ∈ holdSet st cause ↔ if cause = .throttle then i.val / 4 = st.val / 4 else i = st := by
  unfold holdSet
  split
  · simp [List.mem_filter]
  · simp

theorem holdSet_nodup (st : StationId) (cause : HoldCause) : (holdSet st cause).Nodup := by
  unfold holdSet
  split
  · exact (List.nodup_finRange 96).filter _
  · exact List.nodup_singleton st

/-- Stations changed one after another: each of them once, and nothing else. -/
theorem State.foldl_modStn (f : Station → Station) (l : List StationId) (nodup : l.Nodup) (s : State) :
    (∀ i ∈ l, (l.foldl (fun s i => s.modStn i f) s).stn i = f (s.stn i)) ∧
    (∀ i, i ∉ l → (l.foldl (fun s i => s.modStn i f) s).stn i = s.stn i) ∧
    l.foldl (fun s i => s.modStn i f) s = { s with stations := (l.foldl (fun s i => s.modStn i f) s).stations } := by
  induction l generalizing s with
  | nil => exact ⟨fun _ h => absurd h (List.not_mem_nil), fun _ _ => rfl, rfl⟩
  | cons a l ih =>
    obtain ⟨fresh, rest⟩ := List.nodup_cons.mp nodup
    obtain ⟨inside, outside, frame⟩ := ih rest (s.modStn a f)
    have other {i : StationId} (h : i ≠ a) : (s.modStn a f).stn i = s.stn i := s.stn_setStn_ne a i _ h
    refine ⟨fun i hi => ?_, fun i hi => ?_, frame⟩
    · rcases List.mem_cons.mp hi with rfl | hi
      · exact (outside i fresh).trans (s.stn_setStn_self i _)
      · rw [List.foldl_cons, inside i hi, other fun e => fresh (e ▸ hi)]
    · rw [List.mem_cons, not_or] at hi
      exact (outside i hi.2).trans (other hi.1)

theorem exec_stationHoldStart (st : StationId) (cause : HoldCause) (s : State) :
    ∃ t, exec (.stationHoldStart st cause) s = .next t ∧
      (∀ i ∈ holdSet st cause,
        t.stn i = { s.stn i with hold := if cause ∈ (s.stn i).hold then (s.stn i).hold else (s.stn i).hold ++ [cause] }) ∧
      (∀ i, i ∉ holdSet st cause → t.stn i = s.stn i) ∧ t = { s with stations := t.stations } := by
  obtain ⟨inside, outside, frame⟩ := State.foldl_modStn
    (fun y => if y.hold.contains cause then y else { y with hold := y.hold ++ [cause] }) _ (holdSet_nodup st cause) s
  refine ⟨_, rfl, fun i hi => ?_, outside, frame⟩
  rw [inside i hi]
  by_cases held : cause ∈ (s.stn i).hold
  · simp [held]
  · simp [held]

theorem exec_stationHoldEnd (st : StationId) (cause : HoldCause) (s : State) :
    ∃ t, exec (.stationHoldEnd ⟨st, cause⟩) s = .next t ∧
      (∀ i ∈ holdSet st cause, t.stn i = { s.stn i with hold := (s.stn i).hold.filter fun d => d ≠ cause }) ∧
      (∀ i, i ∉ holdSet st cause → t.stn i = s.stn i) ∧ t = { s with stations := t.stations } := by
  obtain ⟨inside, outside, frame⟩ := State.foldl_modStn (fun y => { y with hold := y.hold.filter (· != cause) }) _
    (holdSet_nodup st cause) s
  refine ⟨_, rfl, fun i hi => ?_, outside, frame⟩
  rw [inside i hi]
  congr 1
  exact List.filter_congr fun d _ => by simp [bne, beq_eq_decide]

/-! ### A held station runs nothing -/

section
variable {s : State} {st : StationId}

theorem State.stnFree_of_hold {cause : HoldCause} (h : cause ∈ (s.stn st).hold) : s.stnFree st = false := by
  have some' : (s.holdOf st).isNone = false := by
    unfold State.holdOf
    split
    · rfl
    · cases e : (s.stn st).hold with
      | nil => rw [e] at h; exact absurd h List.not_mem_nil
      | cons d l => rfl
  rw [State.stnFree, some', Bool.false_and]

variable (held : s.stnFree st = false)

include held in
theorem State.headInst_held : s.headInst st = none := by
  unfold State.headInst
  split
  · rfl
  · split
    · rw [held]; rfl
    · rfl

include held in
theorem exec_held (bank : Fin 2) (row col : Fin 128) (clean : Bool) (tag : Fin 16) :
    exec (.arrayIssue st) s = .next s ∧ exec (.vectorIssue st) s = .next s ∧ exec (.bankExchangeEnd st bank) s = .next s ∧
      exec (.ringretCaptureEnd st tag) s = .next s ∧ exec (.residueFault st bank row col) s = .next s ∧
      exec (.mmaResidueOutcome st bank clean row col) s = .next s ∧ exec (.replayPassIssue st bank) s = .next s := by
  have head := State.headInst_held held
  refine ⟨?_, ?_, ?_, ?_, ?_, ?_, ?_⟩
  · show execArrayIssue st s = _
    simp [execArrayIssue, head]
  · show execVectorIssue st s = _
    simp [execVectorIssue, head]
  · show execBankExchangeEnd st bank s = _
    simp [execBankExchangeEnd, held]
  · show execRingretCaptureEnd st tag s = _
    unfold execRingretCaptureEnd
    split
    · rfl
    · simp [held]
  · show execResidueFault st bank row col s = _
    simp [execResidueFault, held]
  · show execMmaResidueOutcome st bank clean row col s = _
    simp [execMmaResidueOutcome, held]
  · show execReplayPassIssue st bank s = _
    simp [execReplayPassIssue, held]

end

/-- Settles O13: a pass that retires is released or waits; a capture by its write and its end; holds station by station, and a held station by
`stnFree`. -/
theorem passesRetireAndHoldsStop : Obligations.PassesRetireAndHoldsStop := by
  unfold Obligations.PassesRetireAndHoldsStop
  refine ⟨fun c tag s no p hp running => ⟨exec_passRetire_held hp, exec_passRetire_retires hp running⟩,
    fun st tag s p no x hc hx free data side idle => exec_ringretCaptureEnd_writes hc free hx data side idle,
    fun st cause s => ?_⟩
  simp only [← mem_holdSet]
  exact ⟨exec_stationHoldStart st cause s, exec_stationHoldEnd st cause s, fun h bank row col clean tag =>
    exec_held (State.stnFree_of_hold h) bank row col clean tag⟩

end Sys2Proof.Machine
end

section
/-! Array instructions that issue (R36, R37, R38, R42) and exchanges that end (R36, R37, R40, R45). -/

namespace Sys2Proof.Machine

/-! ### An instruction leaves a station's queue -/

theorem State.modInst_frame (s : State) (no : Nat) (f : SInst → SInst) : ∃ n, s.modInst no f = { s with insts := n } := by
  unfold State.modInst
  split
  · exact ⟨_, rfl⟩
  · exact ⟨s.insts, rfl⟩

@[simp] theorem State.stn_modInst (s : State) (no : Nat) (f : SInst → SInst) (j : StationId) : (s.modInst no f).stn j = s.stn j := by
  obtain ⟨n, e⟩ := s.modInst_frame no f
  rw [e]; rfl

theorem State.inst_modInst (s : State) (no k : Nat) (f : SInst → SInst) :
    (s.modInst no f).inst k = if k = no then (s.inst no).map f else s.inst k := by
  unfold State.modInst
  split
  next x hx => rw [State.inst_setInst, hx]; rfl
  next none' =>
    rw [none']
    split
    next same => rw [same, none']; rfl
    next => rfl

section
variable (s : State) (i : StationId) (no : Nat)

/-- The record of the issue (R641). -/
def State.issueTraced : State :=
  match s.inst no with
  | some x => s.traceIssue i x
  | none => s

theorem State.issueTraced_streams : State.Streams i s (s.issueTraced i no) := by
  unfold State.issueTraced
  split
  · exact s.trace_streams i _ _ _ _
  · exact .of_frame rfl rfl rfl rfl rfl rfl rfl fun _ _ _ _ => rfl

theorem State.popInst_eq : s.popInst i no =
    ((s.issueTraced i no).modStn i fun y => { y with queue := y.queue.filter (· != no), headWait := 0 }).modInst no fun x =>
      { x with issued := x.issued ||| single i, issueCyc := SMap.put x.issueCyc 0 i.val ((s.issueTraced i no).stnCyc i) } := rfl

theorem State.popInst_stn : (s.popInst i no).stn i =
    { (s.issueTraced i no).stn i with queue := ((s.issueTraced i no).stn i).queue.filter (· != no), headWait := 0 } := by
  rw [State.popInst_eq, State.stn_modInst, State.modStn_eq, State.stn_setStn_self]

theorem State.popInst_bank (b : Fin 2) : ((s.popInst i no).stn i).bank b = (s.stn i).bank b := by
  rw [State.popInst_stn]
  exact (s.issueTraced_streams i no).bank b

theorem State.popInst_queue : ((s.popInst i no).stn i).queue = (s.stn i).queue.filter (· != no) := by
  rw [State.popInst_stn, ← (s.issueTraced_streams i no).queue]

theorem State.popInst_left : no ∉ ((s.popInst i no).stn i).queue := by
  simp [State.popInst_queue]

theorem State.popInst_others {j : StationId} (h : j ≠ i) : (s.popInst i no).stn j = s.stn j := by
  rw [State.popInst_eq, State.stn_modInst, State.modStn_eq, State.stn_setStn_ne _ _ _ _ h, (s.issueTraced_streams i no).others j h]

theorem State.popInst_bunk : (s.popInst i no).bunk = s.bunk := by
  obtain ⟨n, e⟩ := State.modInst_frame ((s.issueTraced i no).modStn i fun y => { y with queue := y.queue.filter (· != no), headWait := 0 }) no
    fun x => { x with issued := x.issued ||| single i, issueCyc := SMap.put x.issueCyc 0 i.val ((s.issueTraced i no).stnCyc i) }
  rw [State.popInst_eq, e]
  exact (s.issueTraced_streams i no).bunk

end

/-! ### ARRAY_ISSUE -/

section
variable {s : State} {st : StationId} {no : Nat} {x : SInst} (head : s.headInst st = some (no, x))

include head in
theorem exec_arrayIssue_accload (kind : x.kind = .accload) (empty : ((s.stn st).bank x.bankIx).st = .empty)
    (ready : x.w.f 48 46 = 0 ∨ s.complete (x.w.h 34) no st = true) :
    ∃ t, exec (.arrayIssue st) s = .next t ∧
      (t.stn st).bank x.bankIx = { (s.stn st).bank x.bankIx with st := .exchanging, exLoad := some no } ∧
      no ∉ (t.stn st).queue ∧ (∀ i, i ≠ st → t.stn i = s.stn i) ∧ t.mem = s.mem ∧ t.bunk = s.bunk := by
  have eq : exec (.arrayIssue st) s = .next ((s.setBank st x.bankIx
      { (s.stn st).bank x.bankIx with st := .exchanging, exLoad := some no }).popInst st no) := by
    show execArrayIssue st s = _
    simp [execArrayIssue, head, kind, empty, ready]
  refine ⟨_, eq, by rw [State.popInst_bank, State.bank_setBank_self], State.popInst_left _ st no, fun i hi => ?_, by simp,
    State.popInst_bunk _ st no⟩
  rw [State.popInst_others _ _ _ hi, State.stn_setBank_ne _ _ _ _ hi]

include head in
theorem exec_arrayIssue_loaded (kind : x.kind = .accload) (loaded : ((s.stn st).bank x.bankIx).st = .loaded) :
    exec (.arrayIssue st) s = .next (s.faultCtx x.cid 0x0302 (srcStn st)) := by
  show execArrayIssue st s = _
  simp [execArrayIssue, head, kind, loaded]

/-- A DRAIN that is not turned needs no corner-turn buffer (R40). -/
theorem State.turnNeeds_straight (straight : x.w.f 49 49 = 0) : s.turnNeeds x = (false, false) := by
  have bit : x.w.fb 49 = false := by
    have low : x.w.opnd.toNat / 2 ^ 49 % 2 = 0 := straight
    rw [NWords.fb, Machine.bit, BitVec.getLsbD, Nat.testBit_eq_decide_div_mod_eq, low]
    rfl
  simp [State.turnNeeds, bit]

include head in
theorem exec_arrayIssue_drain (kind : x.kind = .drain) (done : ((s.stn st).bank x.bankIx).st = .done)
    (dest : s.writable (x.w.h 34) no st = true) (straight : x.w.f 49 49 = 0) (fit : s.drainFault st x = none)
    (alone : s.fusedBehind st x = none) :
    ∃ t, exec (.arrayIssue st) s = .next t ∧
      (t.stn st).bank x.bankIx = { (s.stn st).bank x.bankIx with st := .exchanging, exDrain := some no, exLoad := none } ∧
      no ∉ (t.stn st).queue ∧ (∀ i, i ≠ st → t.stn i = s.stn i) ∧ t.mem = s.mem ∧ t.bunk = s.bunk := by
  have eq : exec (.arrayIssue st) s = .next (((s.setBank st x.bankIx
      { (s.stn st).bank x.bankIx with st := .exchanging, exDrain := some no, exLoad := none }).modStn st id).popInst st no) := by
    show execArrayIssue st s = _
    simp [execArrayIssue, head, kind, done, dest, State.turnNeeds_straight straight, fit, alone, State.modStn_eq]
  refine ⟨_, eq, by rw [State.popInst_bank, State.modStn_eq, State.stn_setStn_self, id, State.bank_setBank_self],
    State.popInst_left _ st no, fun i hi => ?_, by simp,
    State.popInst_bunk _ st no⟩
  rw [State.popInst_others _ _ _ hi, State.modStn_eq, State.stn_setStn_ne _ _ _ _ hi, State.stn_setBank_ne _ _ _ _ hi]

end

/-! ### BANK_EXCHANGE_END -/

section
variable {s : State} {st : StationId} {bank : Fin 2} (exchanging : ((s.stn st).bank bank).st = .exchanging) (free : s.stnFree st = true)

include exchanging free in
theorem exec_bankExchangeEnd_load {n : Nat} {y : SInst} (noDrain : ((s.stn st).bank bank).exDrain = none)
    (load : ((s.stn st).bank bank).exLoad = some n) (hy : s.inst n = some y) (clean : (s.loadRows st (y.loadSrc n)).2.2 = false) :
    ∃ t, exec (.bankExchangeEnd st bank) s = .next t ∧ ((t.stn st).bank bank).st = .loaded ∧
      ((t.stn st).bank bank).acc = (s.loadRows st (y.loadSrc n)).1 ∧ (y.w.f 48 46 = 0 → ((t.stn st).bank bank).acc = []) ∧
      ((t.stn st).bank bank).load = some (y.loadSrc n) ∧ t.mem = s.mem := by
  refine ⟨((s.loadRows st (y.loadSrc n)).2.1.setBank st bank { (s.stn st).bank bank with
    st := .loaded, acc := (s.loadRows st (y.loadSrc n)).1, load := some (y.loadSrc n), exDrain := none, exLoad := none
    drained := none }).instDone st n, ?_, ?_⟩
  · show execBankExchangeEnd st bank s = _
    simp [execBankExchangeEnd, exchanging, free, noDrain, load, hy, clean]
  · rw [(State.instDone_ends _ st n).stn, State.bank_setBank_self]
    refine ⟨rfl, rfl, fun zero => ?_, rfl, by simp⟩
    show (s.loadRows st (y.loadSrc n)).1 = []
    rw [State.loadRows, if_pos (show (y.loadSrc n).src = 0 from zero)]

/-- The rows of a drained bank are written; without an MMA whose outcome is awaited the DRAIN is finished (R40, R45). -/
def State.drainEnds (s : State) (st : StationId) (b : Bank) (d : Nat) (x : SInst) : State :=
  let t := (s.drainRows st x b.acc).modStn st fun y =>
    { y with turn0 := y.turn0 && !(s.turnNeeds x).1, turn1 := y.turn1 && !(s.turnNeeds x).2 }
  if b.mma.isNone then t.finishDrain st d else t

theorem State.drainEnds_mem (s : State) (st : StationId) (b : Bank) (d : Nat) (x : SInst) : (s.drainEnds st b d x).mem = s.mem := by
  simp [State.drainEnds, State.modStn_eq]

include exchanging free in
theorem exec_bankExchangeEnd_drain {d : Nat} (drain : ((s.stn st).bank bank).exDrain = some d)
    (noLoad : ((s.stn st).bank bank).exLoad = none) :
    ∃ t, exec (.bankExchangeEnd st bank) s = .next t ∧ ((t.stn st).bank bank).st = .empty ∧ ((t.stn st).bank bank).acc = [] ∧
      ((t.stn st).bank bank).drained = (if ((s.stn st).bank bank).mma.isSome then some d else none) ∧ t.mem = s.mem := by
  obtain ⟨t, eq, mem⟩ : ∃ t : State, exec (.bankExchangeEnd st bank) s = .next (t.setBank st bank { (s.stn st).bank bank with
      st := .empty, acc := [], load := none, exDrain := none
      drained := if ((s.stn st).bank bank).mma.isSome then some d else none }) ∧ t.mem = s.mem := by
    cases hd : s.inst d with
    | none =>
      refine ⟨s, ?_, rfl⟩
      show execBankExchangeEnd st bank s = _
      simp [execBankExchangeEnd, exchanging, free, drain, noLoad, hd]
    | some x =>
      refine ⟨s.drainEnds st ((s.stn st).bank bank) d x, ?_, s.drainEnds_mem _ _ _ _⟩
      show execBankExchangeEnd st bank s = _
      simp only [execBankExchangeEnd, exchanging, free, drain, noLoad, hd]
      rfl
  refine ⟨_, eq, ?_⟩
  rw [State.bank_setBank_self]
  exact ⟨rfl, rfl, rfl, by simp [mem]⟩

end

end Sys2Proof.Machine
end

section
/-! Groups that issue (R52, R55, R181): what every member's start leaves, and the bank of a single MMA. -/

namespace Sys2Proof.Machine

/-! ### What the starts of members leave -/

/-- From `s` to `t` instructions have left their queues and begun: device memory, bunkers, passes and seams stay, and no queue has got an
entry. -/
structure State.Starts (s t : State) : Prop where
  mem : t.mem = s.mem
  bunk : t.bunk = s.bunk
  data : t.bunkErr = s.bunkErr
  side : t.sideErr = s.sideErr
  passes : t.passes = s.passes
  seams : s.SameSeams t
  queues : ∀ i n, n ∉ (s.stn i).queue → n ∉ (t.stn i).queue

namespace State.Starts

variable {s t u : State}

theorem refl (s : State) : s.Starts s := ⟨rfl, rfl, rfl, rfl, rfl, fun _ _ _ _ => rfl, fun _ _ => id⟩

theorem trans (h : s.Starts t) (k : t.Starts u) : s.Starts u where
  mem := k.mem.trans h.mem
  bunk := k.bunk.trans h.bunk
  data := k.data.trans h.data
  side := k.side.trans h.side
  passes := k.passes.trans h.passes
  seams F hF j hj := (k.seams F hF j hj).trans (h.seams F hF j hj)
  queues i n hn := k.queues i n (h.queues i n hn)

theorem of_streams {i : StationId} (h : State.Streams i s t) : s.Starts t where
  mem := h.mem
  bunk := h.bunk
  data := h.data
  side := h.side
  passes := h.passes
  seams := h.seams
  queues j n hn := by
    by_cases same : j = i
    · rw [same, h.queue, ← same]; exact hn
    · rw [h.others j same]; exact hn

/-- A change of one station that adds nothing to its queue. -/
theorem of_setStn (s : State) (i : StationId) (y : Station) (h : ∀ n, n ∉ (s.stn i).queue → n ∉ y.queue) : s.Starts (s.setStn i y) where
  mem := rfl
  bunk := rfl
  data := rfl
  side := rfl
  passes := rfl
  seams _ _ _ _ := rfl
  queues j n hn := by
    rw [State.stn_setStn]
    split
    next same => exact h n (same ▸ hn)
    next => exact hn

end State.Starts

section
variable (s : State) (i : StationId) (no : Nat)

theorem State.popInst_starts : s.Starts (s.popInst i no) := by
  have queue : (s.issueTraced i no).Starts ((s.issueTraced i no).modStn i fun y =>
      { y with queue := y.queue.filter (· != no), headWait := 0 }) :=
    .of_setStn _ i _ fun n hn h => hn (List.mem_of_mem_filter h)
  refine ((State.Starts.of_streams (s.issueTraced_streams i no)).trans queue).trans ?_
  rw [State.popInst_eq, (State.modInst_frame _ _ _).choose_spec]
  exact ⟨rfl, rfl, rfl, rfl, rfl, fun _ _ _ _ => rfl, fun _ _ => id⟩

theorem State.setBank_starts (b : Fin 2) (y : Bank) : s.Starts (s.setBank i b y) :=
  .of_setStn s i _ fun n hn => by rw [Station.setBank_queue]; exact hn

variable {s} (data : s.bunkErr = []) (side : s.sideErr = []) (p : Pass) (a : Slices)

include data side in
/-- An MMA that begins leaves its bank COMPUTING (R33, R61). -/
theorem State.startMma_clean {x : SInst} (hx : s.inst no = some x) :
    s.Starts (s.startMma p a i no) ∧ (((s.startMma p a i no).stn i).bank x.bankIx).st = .computing := by
  obtain ⟨res, t, run, streams⟩ := State.runMma_streams data side i a x (s.memberDist p x.w i)
    (if ((s.stn i).bank x.bankIx).st = .empty then [] else ((s.stn i).bank x.bankIx).acc)
  have eq : s.startMma p a i no = (t.setBank i x.bankIx { (s.stn i).bank x.bankIx with
      st := .computing, acc := res, res := res
      init := if ((s.stn i).bank x.bankIx).st = .empty then [] else ((s.stn i).bank x.bankIx).acc
      mma := some no, mmaLoad := ((s.stn i).bank x.bankIx).load, load := none, replayed := false, drained := none }).popInst i no := by
    simp only [State.startMma, hx, run]
  rw [eq]
  refine ⟨((State.Starts.of_streams streams).trans (t.setBank_starts i _ _)).trans (State.popInst_starts _ i no), ?_⟩
  rw [State.popInst_bank, State.bank_setBank_self]

include data side in
theorem State.startMma_starts : s.Starts (s.startMma p a i no) := by
  cases hx : s.inst no with
  | none => simp only [State.startMma, hx]; exact .refl s
  | some x => exact (State.startMma_clean i no data side p a hx).1

end

/-! ### The RINGINJ of a group -/

/-- The station where a RINGINJ puts its pass on the lane (R182). -/
def SInst.origin (x : SInst) : StationId := Fin.ofNat 96 (x.w.f 53 47)

/-- The slices of a group's pass at its origin. -/
def State.groupSlices (s : State) (x : SInst) : Slices × State × Bool :=
  s.readSlices (s.hnd (x.w.h 16)) x.origin (x.w.f 31 28) x.off (x.w.x 19 0 + 1)

/-- The RINGINJ has issued: its pass is on the lane. -/
def State.injected (s : State) (tag : Fin 16) (no : Nat) (x : SInst) : State :=
  (((s.groupSlices x).2.1.setPass no (some (x.newPass tag))).popInst x.origin no).pcEvent 3 x.origin.val 1

section
variable {s : State} (data : s.bunkErr = []) (side : s.sideErr = []) (tag : Fin 16) (no : Nat) (x : SInst)

include data side in
theorem State.groupSlices_streams : State.Streams x.origin s (s.groupSlices x).2.1 ∧ (s.groupSlices x).2.2 = false :=
  State.readSlices_streams data side _ _ _ _ _ _

theorem State.injected_streams : State.Streams x.origin
    (((s.groupSlices x).2.1.setPass no (some (x.newPass tag))).popInst x.origin no) (s.injected tag no x) :=
  State.pcEvent_streams _ _ _ _ _

theorem State.injected_starts : ((s.groupSlices x).2.1.setPass no (some (x.newPass tag))).Starts (s.injected tag no x) :=
  (State.popInst_starts _ _ _).trans (.of_streams (State.injected_streams tag no x))

/-- It has left its queue. -/
theorem State.injected_left : no ∉ ((s.injected tag no x).stn x.origin).queue := by
  rw [(State.injected_streams tag no x).queue]
  exact State.popInst_left _ _ _

end

/-! ### A group as the whole -/

/-- A member of a group begins at a station. -/
def State.startMember (c : Cid) (p : Pass) (a : Slices) (s : State) (q : Member × StationId) : State :=
  match s.memberInst c q.1 q.2 with
  | none => s
  | some n => if q.1.kind = .mma then s.startMma p a q.2 n else s.popInst q.2 n

theorem State.startMember_starts {s : State} (data : s.bunkErr = []) (side : s.sideErr = []) (c : Cid) (p : Pass) (a : Slices)
    (q : Member × StationId) : s.Starts (s.startMember c p a q) := by
  unfold State.startMember
  split
  · exact .refl s
  · split
    · exact State.startMma_starts _ _ data side p a
    · exact s.popInst_starts _ _

theorem State.startMembers_starts {s : State} (data : s.bunkErr = []) (side : s.sideErr = []) (c : Cid) (p : Pass) (a : Slices)
    (l : List (Member × StationId)) : s.Starts (l.foldl (State.startMember c p a) s) :=
  foldl_inv (fun t => s.Starts t) _ l s
    (fun _ q h => h.trans (State.startMember_starts (h.data.trans data) (h.side.trans side) c p a q)) (.refl s)

section
variable {s : State} {c : Cid} {tag : Fin 16} {no : Nat} {x : SInst} (hg : s.groupOf c tag = some (no, x))

include hg in
theorem exec_ringGroupIssue_waits (h : s.groupReady c tag no x = false) : exec (.ringGroupIssue c tag) s = .next s := by
  show execRingGroupIssue c tag s = _
  simp [execRingGroupIssue, hg, h]

variable (ready : s.groupReady c tag no x = true)

include hg ready in
theorem exec_ringGroupIssue_faults {f : BitVec 16} (h : s.groupFault x = some f) :
    exec (.ringGroupIssue c tag) s = .next (s.faultCtx x.cid f (srcStn (Fin.ofNat 96 (x.w.f 53 47)))) := by
  show execRingGroupIssue c tag s = _
  simp [execRingGroupIssue, hg, ready, h]

include hg ready in
theorem exec_ringGroupIssue_asks {n : BitVec 32} (fit : s.groupFault x = none) (cross : x.cross = some n)
    (h : s.holdsToken x.cid = false) : exec (.ringGroupIssue c tag) s = .next (s.reqToken x.cid) := by
  show execRingGroupIssue c tag s = _
  simp [execRingGroupIssue, hg, ready, fit, cross, h]

include hg ready in
theorem exec_ringGroupIssue_eq (fit : s.groupFault x = none) (one : x.cross = none) (clean : (s.groupSlices x).2.2 = false) :
    exec (.ringGroupIssue c tag) s =
      .next (x.places.foldl (State.startMember c (x.newPass tag) (s.groupSlices x).1) (s.injected tag no x)) := by
  unfold State.groupSlices SInst.origin at clean
  show execRingGroupIssue c tag s = _
  simp only [execRingGroupIssue, hg, ready, fit, one, clean, Bool.not_true, Bool.false_eq_true, if_false]
  rfl

end

end Sys2Proof.Machine
end

section
/-! The group of a single MMA (R55, R181): where its instruction is the one in the queue, its bank computes. And the refutation of the
statement on exchanges and groups: a table of instructions may list one number twice. -/

namespace Sys2Proof.Machine

/-! ### The dispatched instruction of a member -/

/-- The number `k` stands for the dispatched instruction of a member. -/
def State.isMember (s : State) (c : Cid) (m : Member) (k : Nat) : Bool :=
  match s.inst k with
  | some x => s.lead x.cid == s.lead c && x.kind == m.kind && x.ord == m.ord
  | none => false

theorem State.memberInst_eq (s : State) (c : Cid) (m : Member) (i : StationId) :
    s.memberInst c m i = (s.stn i).queue.find? (s.isMember c m) := rfl

section
variable {s t : State} {c : Cid} {m : Member}

theorem State.isMember_congr (insts : t.insts = s.insts) (seams : s.SameSeams t) : t.isMember c m = s.isMember c m := by
  funext k
  simp only [State.isMember, State.inst, insts, seams.lead]

/-- What a member is known by does not change as its instruction proceeds. -/
theorem State.isMember_modInst (s : State) (no : Nat) (f : SInst → SInst)
    (hf : ∀ x, (f x).cid = x.cid ∧ (f x).kind = x.kind ∧ (f x).ord = x.ord) :
    (s.modInst no f).isMember c m = s.isMember c m := by
  funext k
  have lead (d : Cid) : (s.modInst no f).lead d = s.lead d := by
    obtain ⟨n, e⟩ := s.modInst_frame no f
    rw [e]; rfl
  simp only [State.isMember, lead, State.inst_modInst]
  by_cases same : k = no
  · subst same
    rw [if_pos rfl]
    cases s.inst k with
    | none => rfl
    | some x => simp [hf x]
  · rw [if_neg same]

theorem State.popInst_isMember (s : State) (i : StationId) (no : Nat) : (s.popInst i no).isMember c m = s.isMember c m := by
  have traced := s.issueTraced_streams i no
  rw [State.popInst_eq]
  refine (State.isMember_modInst _ _ _ ?_).trans ?_
  · exact fun _ => ⟨rfl, rfl, rfl⟩
  · exact State.isMember_congr traced.insts traced.seams

theorem State.popInst_inst_ne (s : State) (i : StationId) {no k : Nat} (h : k ≠ no) : (s.popInst i no).inst k = s.inst k := by
  rw [State.popInst_eq, State.inst_modInst, if_neg h]
  exact congrArg (SMap.val · none k) (s.issueTraced_streams i no).insts

end

section
variable {s : State} {c : Cid} {tag : Fin 16} {no : Nat} {x : SInst}

theorem State.groupOf_kind (hg : s.groupOf c tag = some (no, x)) : x.kind = .ringinj := by
  obtain ⟨e, -, he⟩ := List.exists_of_findSome?_eq_some hg
  split at he
  · split at he
    · next fits =>
      cases he
      simp only [Bool.and_eq_true, beq_iff_eq] at fits
      obtain ⟨⟨⟨kind, -⟩, -⟩, -⟩ := fits
      exact kind
    · cases he
  · cases he

/-- In a table whose numbers rise an entry is what its number reads as. -/
theorem SMap.val_of_mem {α : Type} {l : SMap α} {k : Nat} {v : α} (d : α) (rising : SMap.rising l = true) (h : (k, v) ∈ l) :
    SMap.val l d k = v := by
  induction l with
  | nil => cases h
  | cons e l ih =>
    obtain ⟨j, w⟩ := e
    obtain ⟨above, rest⟩ := (SMap.rising_cons j w l).1 rising
    rw [SMap.val_cons]
    rcases List.mem_cons.mp h with same | h
    · cases same
      exact if_pos rfl
    · rw [if_neg (Nat.ne_of_lt (above _ h)), ih rest h]

/-- A canonical table reads a group's RINGINJ at its number. -/
theorem State.groupOf_inst (hg : s.groupOf c tag = some (no, x)) (rising : SMap.rising s.insts = true) : s.inst no = some x := by
  obtain ⟨⟨k, v⟩, he, found⟩ := List.exists_of_findSome?_eq_some hg
  cases v with
  | none => cases found
  | some y =>
    dsimp only at found
    split at found
    · cases found
      exact SMap.val_of_mem none rising he
    · cases found

variable (hx : s.inst no = some x) (kind : x.kind = .ringinj) (data : s.bunkErr = []) (side : s.sideErr = [])

include hx kind data side in
/-- The issue of the RINGINJ leaves the dispatched instruction of an MMA member. -/
theorem State.injected_memberInst {m : Member} {n : Nat} {i : StationId} (mma : m.kind = .mma) (hn : s.memberInst c m i = some n) :
    (s.injected tag no x).memberInst c m i = some n ∧ (s.injected tag no x).inst n = s.inst n := by
  have notInj : s.isMember c m no = false := by simp [State.isMember, hx, kind, mma]
  have read := (State.groupSlices_streams data side x).1
  have counted := State.injected_streams (s := s) tag no x
  have same : (s.injected tag no x).isMember c m = s.isMember c m :=
    (State.isMember_congr counted.insts counted.seams).trans
      ((State.popInst_isMember _ _ _).trans (State.isMember_congr read.insts read.seams))
  have queue : ((s.injected tag no x).stn i).queue.find? (s.isMember c m) = (s.stn i).queue.find? (s.isMember c m) := by
    by_cases orig : i = x.origin
    · subst orig
      rw [counted.queue, State.popInst_queue, List.find?_filter]
      refine Eq.trans (congrArg _ read.queue) ?_
      congr 1
      funext k
      by_cases inj : k = no
      · rw [inj, notInj]; simp
      · simp [inj]
    · rw [counted.others i orig, State.popInst_others _ _ _ orig]
      exact congrArg (fun y : Station => y.queue.find? (s.isMember c m)) (read.others i orig)
  have member : s.isMember c m n = true := List.find?_some hn
  have other : n ≠ no := fun e => by rw [e, notInj] at member; cases member
  refine ⟨by rw [State.memberInst_eq, same, queue]; exact hn, ?_⟩
  refine Eq.trans (congrArg (SMap.val · none n) counted.insts) ((State.popInst_inst_ne _ _ other).trans ?_)
  exact congrArg (SMap.val · none n) read.insts

end

/-- A group that issues, where the table reads its RINGINJ at its number. -/
theorem exec_ringGroupIssue_runs {s : State} {c : Cid} {tag : Fin 16} {no : Nat} {x : SInst}
    (hg : s.groupOf c tag = some (no, x)) (hx : s.inst no = some x) (ready : s.groupReady c tag no x = true) (fit : s.groupFault x = none) (one : x.cross = none)
    (data : s.bunkErr = []) (side : s.sideErr = []) :
    ∃ t, exec (.ringGroupIssue c tag) s = .next t ∧ t.pass no = some (x.newPass tag) ∧
      no ∉ (t.stn (Fin.ofNat 96 (x.w.f 53 47))).queue ∧ t.mem = s.mem ∧ t.bunk = s.bunk ∧
      (∀ m i n y, x.members = [m] → stationsOf m.set = [i] → m.kind = .mma → s.memberInst c m i = some n → s.inst n = some y →
        ((t.stn i).bank y.bankIx).st = .computing) := by
  obtain ⟨read, clean⟩ := State.groupSlices_streams data side x
  have injected := State.injected_starts (s := s) tag no x
  have dataI := injected.data.trans (read.data.trans data)
  have sideI := injected.side.trans (read.side.trans side)
  have starts := State.startMembers_starts dataI sideI c (x.newPass tag) (s.groupSlices x).1 x.places
  refine ⟨_, exec_ringGroupIssue_eq hg ready fit one clean, ?_, starts.queues _ _ (State.injected_left tag no x),
    starts.mem.trans (injected.mem.trans read.mem), starts.bunk.trans (injected.bunk.trans read.bunk),
    fun m i n y members station mma hn hy => ?_⟩
  · have passes := starts.passes.trans injected.passes
    exact (congrArg (SMap.val · none no) passes).trans (State.pass_setPass_self _ no _)
  · obtain ⟨member, inst⟩ := State.injected_memberInst (tag := tag) hx (State.groupOf_kind hg) data side mma hn
    have places : x.places = [(m, i)] := by simp [SInst.places, members, station]
    rw [places, List.foldl_cons, List.foldl_nil, State.startMember, member]
    dsimp only
    rw [if_pos mma]
    exact (State.startMma_clean i n dataI sideI _ _ (inst.trans hy)).2

/-! ### A number that the table lists twice -/

namespace TwiceListed

/-- A device that runs with seams of 12 stations, context 0 in a segment, and handle 5 allocated at station 1. -/
def base : State :=
  ((({ State.reset with rst := { State.reset.rst with held := 0 }, pwr := { State.reset.pwr with dataOn := true } } : State).setFld
    Fld.SFC_PROFILE_SEAM 3).setCtx 0 { st := .running, inSeg := true, owner := true }).setHnd 5
    { st := .allocated, set := 2, rows := 1, fmt := 1, stride := 8 }

/-- An MMA on BF16 operands under tag 2, with its B operand in handle 5. -/
def mmaWords : NWords := ⟨0, BitVec.ofNat 54 (2 * 2 ^ 46 + 5 * 2 ^ 22 + 2 ^ 34 + 2 ^ 38), 0⟩

def member : Member := ⟨0, .mma, 2, 2, mmaWords, 0⟩
def mma : SInst := { cid := 0, kind := .mma, w := mmaWords, mask := 2 }

/-- A RINGINJ from station 1 under tag 2, of one BF16 slice from handle 5, with that member. -/
def inject : SInst :=
  { cid := 0, kind := .ringinj, w := ⟨1, BitVec.ofNat 54 (2 ^ 47 + 2 * 2 ^ 43 + 2 ^ 28 + 5 * 2 ^ 16), 0⟩, mask := 2, members := [member] }

/-- Number 4 stands in station 1's queue. The table gives the MMA for it and lists the RINGINJ behind, under the same number. -/
def state : State := { base.setStn 1 { base.stn 1 with queue := [4] } with insts := [(4, some mma), (4, some inject)] }

/-- The state of bank 0 of station 1 after a command. -/
def bankAfter (o : Host.Outcome State Fault Refusal) : Option BankSt :=
  match o with
  | .next t => some ((t.stn 1).bank 0).st
  | _ => none

theorem group : state.groupOf 0 2 = some (4, inject) := by decide +kernel
theorem ready : state.groupReady 0 2 4 inject = true := by decide +kernel
theorem fit : state.groupFault inject = none := by decide +kernel
theorem memberInst : state.memberInst 0 member 1 = some 4 := by decide +kernel

/-- The group issues under the one number, and the MMA does not begin: the entry has left the queue with the RINGINJ. -/
theorem idle : bankAfter (exec (.ringGroupIssue 0 2) state) = some .empty := by decide +kernel

end TwiceListed

/-- Refutes O11: nothing in the statement keeps the table of instructions from listing a number twice. `groupOf` then finds a RINGINJ
under the number that `inst` reads as its own MMA; the group issues, and the MMA's bank stays EMPTY. With the hypothesis
`s.inst no = some x`, which a canonical table gives (`State.groupOf_inst`), the clause on groups holds (`exec_ringGroupIssue_runs`), as do
the clauses on exchanges (`exec_arrayIssue_accload`, `exec_arrayIssue_loaded`, `exec_arrayIssue_drain`, `exec_bankExchangeEnd_load`,
`exec_bankExchangeEnd_drain`) and the other clauses on groups (`exec_ringGroupIssue_waits`, `exec_ringGroupIssue_faults`,
`exec_ringGroupIssue_asks`) as they stand. -/
theorem not_exchangesAndGroupsRun : ¬ Obligations.ExchangesAndGroupsRun := by
  unfold Obligations.ExchangesAndGroupsRun
  rintro ⟨-, groups, -⟩
  obtain ⟨-, issues⟩ := groups 0 2 TwiceListed.state 4 TwiceListed.inject TwiceListed.group
  obtain ⟨-, -, runs⟩ := issues TwiceListed.ready
  obtain ⟨t, next, -, -, -, -, computes⟩ := runs TwiceListed.fit rfl rfl rfl
  have computing : ((t.stn 1).bank 0).st = .computing :=
    computes TwiceListed.member 1 4 TwiceListed.mma rfl (by decide +kernel) rfl TwiceListed.memberInst rfl
  have empty := TwiceListed.idle
  rw [next, TwiceListed.bankAfter, computing] at empty
  cases empty

end Sys2Proof.Machine
end

section
/-! What a vector instruction's work at a station leaves (R98, R99, R105, R106, R110, R187, R189) where no bunker word has a stored error
and no injection is armed. -/

namespace Sys2Proof.Machine

/-! ### The work of a station -/

/-- No bunker word has a stored error, and no injection is armed (R225, R668). -/
structure State.Quiet (s : State) : Prop where
  data : s.bunkErr = []
  side : s.sideErr = []
  idle : s.injectWord = none

/-- From `s` to `t` a station has worked: bunkers, sidebands, registers and the stations' own parts may have changed. -/
structure State.Works (s t : State) : Prop where
  mem : t.mem = s.mem
  ctxs : t.ctxs = s.ctxs
  insts : t.insts = s.insts
  data : t.bunkErr = s.bunkErr
  side : t.sideErr = s.sideErr
  inject : t.injectWord = s.injectWord

namespace State.Works

variable {s t u : State}

theorem refl (s : State) : s.Works s := ⟨rfl, rfl, rfl, rfl, rfl, rfl⟩

theorem trans (h : s.Works t) (k : t.Works u) : s.Works u where
  mem := k.mem.trans h.mem
  ctxs := k.ctxs.trans h.ctxs
  insts := k.insts.trans h.insts
  data := k.data.trans h.data
  side := k.side.trans h.side
  inject := k.inject.trans h.inject

theorem quiet (h : s.Works t) (k : s.Quiet) : t.Quiet := ⟨h.data.trans k.data, h.side.trans k.side, h.inject.trans k.idle⟩

/-- Steps that work one after another, on a value with a state in it. -/
theorem foldl {α β : Type} (g : β → State) (f : β → α → β) (h : ∀ b a, (g b).Quiet → (g b).Works (g (f b a))) (l : List α) (b : β)
    (quiet : (g b).Quiet) : (g b).Works (g (l.foldl f b)) := by
  induction l generalizing b with
  | nil => exact refl _
  | cons a l ih => exact (h b a quiet).trans (ih _ ((h b a quiet).quiet quiet))

theorem foldl_fst {α γ : Type} {f : State × γ → α → State × γ} (h : ∀ (b : State × γ) a, b.1.Quiet → b.1.Works (f b a).1) (l : List α)
    (c : γ) (quiet : s.Quiet) : s.Works (l.foldl f (s, c)).1 := foldl Prod.fst f h l (s, c) quiet

theorem modStn (s : State) (i : StationId) (f : Station → Station) : s.Works (s.modStn i f) := ⟨rfl, rfl, rfl, rfl, rfl, rfl⟩

end State.Works

section
variable {s : State} (quiet : s.Quiet) (i : StationId)

/-! ### Rows read -/

include quiet in
theorem State.readTensor_clean (h : Handle) (n : Nat) (rowBlocks : Bool) : (s.readTensor h i n rowBlocks).2 = (s, false) := by
  refine foldl_inv (fun p : List (List Val) × State × Bool => p.2 = (s, false)) _ _ _ (fun p r hp => ?_) rfl
  obtain ⟨rows, rest⟩ := p
  subst hp
  simp only [State.rowVals_clean quiet.data quiet.side, Bool.or_self]

include quiet in
theorem State.readIn_clean (h : Handle) (n : Nat) (rowBlocks : Bool) : (s.readIn h i n rowBlocks).2 = (s, false) :=
  State.readTensor_clean quiet i h n rowBlocks

include quiet in
/-- An operand that an operation does not take is not read. -/
theorem State.readIn_if {p : List (List Val) × State × Bool} (read : p.2 = (s, false)) (h : Handle) (n : Nat) (takes : Bool) :
    (if takes then p.2.1.readIn h i n else ([], p.2.1, false)).2 = (s, false) := by
  rw [read]
  cases takes
  · rfl
  · exact State.readIn_clean quiet i h n false

/-! ### Rows written -/

include quiet in
theorem State.bunkWrite_works (a : Nat) (bs : List Byte) : s.Works (s.bunkWrite i a bs) := by
  obtain ⟨b, e⟩ := State.bunkWrite_clean quiet.idle quiet.data i a bs
  rw [e]
  exact ⟨rfl, rfl, rfl, rfl, rfl, rfl⟩

include quiet in
theorem State.sideWrite_works (a : Nat) (bs : List Byte) : s.Works (s.sideWrite i a bs) := by
  obtain ⟨d, e⟩ := State.sideWrite_clean quiet.idle quiet.side i a bs
  rw [e]
  exact ⟨rfl, rfl, rfl, rfl, rfl, rfl⟩

include quiet in
theorem State.rowWrite_works (h : Handle) (r : Nat) (es : List Nat) : s.Works (s.rowWrite h i r es) := State.bunkWrite_works quiet i _ _

include quiet in
/-- Rows go to the bunker, their scales to the sideband: row by row, or block by block (R98, R217). -/
theorem State.writeRows_works (h : Handle) (r0 : Nat) (rows : List (List Val)) (k : Conv) : s.Works (s.writeRows h i r0 rows k).1 := by
  unfold State.writeRows
  dsimp only
  split
  · exact State.Works.foldl_fst (fun b a q => State.rowWrite_works q i _ _ _) _ _ quiet
  · split
    · refine State.Works.foldl_fst (fun b a q => ?_) _ _ quiet
      have row := State.rowWrite_works q i h (r0 + a.2)
      exact (row _).trans (State.sideWrite_works ((row _).quiet q) i _ _)
    · refine State.Works.foldl_fst (fun b a q => ?_) _ _ quiet
      have block (es : Nat → List Nat) := State.Works.foldl id (fun (s : State) j => s.rowWrite h i (r0 + 32 * a.2 + j) (es j))
        (fun t j q => State.rowWrite_works q i h _ _) (List.range a.1.length) b.1 q
      exact (block _).trans (State.sideWrite_works ((block _).quiet q) i _ _)

/-! ### Operations and tables (R99, R106, R110) -/

include quiet in
theorem State.runVop_works (x : SInst) : s.Works (s.runVop i x).st := by
  unfold State.runVop
  extract_lets w op sol d a rows ta tb tc td p key out q
  have hta : ta.2 = (s, false) := State.readIn_clean quiet i a _ _
  have htb : tb.2 = (s, false) := State.readIn_if quiet i hta _ _ _
  have htc : tc.2 = (s, false) := State.readIn_if quiet i htb _ _ _
  have htd : td.2 = (s, false) := by
    simp only [td, htc]
    exact State.readIn_clean quiet i d _ _
  have accumulated : s.Works (s.writeRows d i 0 [p.1] {}).1 := State.writeRows_works quiet i d 0 _ _
  have stored : s.Works q.1 := by
    simp only [q, htc]
    exact State.writeRows_works quiet i d 0 _ _
  rw [hta, htb, htc, htd]
  rw [Bool.or_self, Bool.or_self, if_neg Bool.false_ne_true]
  split
  · rw [if_neg Bool.false_ne_true]
    exact accumulated
  · exact stored

include quiet in
theorem State.runLut_works (x : SInst) (back : Bool) : s.Works (s.runLut i x back).st := by
  unfold State.runLut
  extract_lets w z d rows ta tb tab out
  have hta : ta.2 = (s, false) := State.readTensor_clean quiet i _ _ _
  have htb : tb.2 = (s, false) := by
    simp only [tb, hta]
    cases back
    · rfl
    · exact State.readTensor_clean quiet i _ _ _
  split
  · exact .refl s
  · rw [hta, htb, Bool.or_self, if_neg Bool.false_ne_true]
    exact State.writeRows_works quiet i d 0 _ _

include quiet in
theorem State.runVrng_works (x : SInst) : s.Works (s.runVrng i x).st :=
  State.Works.foldl id _ (fun _ _ q => State.rowWrite_works q i _ _ _) _ s quiet

/-! ### Reductions (R100, R101) -/

/-- The fields of an armed injection (R668). -/
def injectFields : List Fld := [Fld.DBG_PT_ECC_A_ADDR, Fld.DBG_PT_ECC_A_TARGET, Fld.DBG_PT_ECC_B_ARMED]

theorem State.injectWord_congr {s t : State} (h : ∀ F ∈ injectFields, t.fld F = s.fld F) : t.injectWord = s.injectWord := by
  rw [State.injectWord, State.injectWord, State.flag, State.flag, h Fld.DBG_PT_ECC_A_ADDR (by decide),
    h Fld.DBG_PT_ECC_A_TARGET (by decide), h Fld.DBG_PT_ECC_B_ARMED (by decide)]

/-- A station's count arms no injection. -/
theorem State.bump_works (s : State) (F : Fld) (n : Nat) (apart : injectFields.all (F.apart 96 1) = true) : s.Works (s.bump F n i.val) where
  mem := rfl
  ctxs := rfl
  insts := rfl
  data := rfl
  side := rfl
  inject := State.injectWord_congr fun G hG => s.fld_bump_ne F G n _ _ _ _ fun e =>
    Fld.key_ne_of_apart (List.all_eq_true.mp apart G hG) i.isLt (by decide) (by decide) e.symm

theorem State.laneWords_works (s : State) (words : Nat) (n : StationId × Bool) : s.Works (State.laneWords words s n) := by
  unfold State.laneWords
  split
  · exact State.bump_works n.1 s _ _ (by decide)
  · exact State.bump_works n.1 s _ _ (by decide)

include quiet in
theorem State.chainWords_works (run : List StationId) (words : Nat) : s.Works (s.chainWords run words) := by
  have hops (t : State) (q : t.Quiet) (l : List StationId) (back : Bool) :
      t.Works (l.foldl (fun s i => State.laneWords words s (i, back)) t) :=
    State.Works.foldl id _ (fun t _ _ => t.laneWords_works words _) l t q
  have inbye := hops s quiet run.dropLast false
  exact inbye.trans (hops _ (inbye.quiet quiet) _ true)

include quiet in
theorem State.runVred_works (grp : List StationId) (x : SInst) : s.Works (s.runVred grp x).st := by
  unfold State.runVred
  extract_lets w sol f1 f2 a dot rows rd total put s1 p q
  have hrd : rd.2 = (s, false) := by
    refine foldl_inv (fun p : List (List (List Val) × List (List Val)) × State × Bool => p.2 = (s, false)) _ grp _ (fun p i hp => ?_) rfl
    dsimp only
    have first : (p.2.1.readIn a i rows).2 = (s, false) := by rw [hp]; exact State.readIn_clean quiet i a rows _
    have second := State.readIn_if quiet i first (s.hnd (w.h 8)) rows dot
    rw [second, first, hp]
    rfl
  have stored (t : State) (t_quiet : t.Quiet) (h : HandleId) (col : List (Val × Flags)) : t.Works (put t h col).1 := by
    simp only [put]
    refine State.Works.foldl_fst (fun b i q => ?_) _ _ t_quiet
    exact State.writeRows_works q i _ _ _ _
  have chained : s.Works s1 := by
    simp only [s1, hrd]
    split
    · exact State.chainWords_works quiet _ _
    · exact .refl s
  have first : s.Works p.1 := chained.trans (stored s1 (chained.quiet quiet) _ _)
  rw [hrd, if_neg Bool.false_ne_true]
  split
  · exact first
  · exact first.trans (stored p.1 (first.quiet quiet) _ _)

/-! ### Conversions (R90, R91, R189) -/

include quiet in
theorem State.runVcvt_works (x : SInst) : s.Works (s.runVcvt i x).st := by
  unfold State.runVcvt
  extract_lets w sol d srv hr rowB t rc e src vs part put hi lo fl key k p mags t2
  have ht : t.2 = (s, false) := State.readIn_clean quiet i _ _ _
  have hrc : rc.st = s ∧ rc.ue = false := by
    simp only [rc, ht]
    cases srv
    · exact ⟨rfl, rfl⟩
    · exact State.bunkRead_clean quiet.data i _ _
  obtain ⟨record, clean⟩ := hrc
  have parts (t : State) (t_quiet : t.Quiet) (h : Handle) (l : List (List (Val × Cv))) : t.Works (put t h l) :=
    State.Works.foldl id _ (fun _ _ q => State.rowWrite_works q i _ _ _) _ t t_quiet
  have stored : s.Works p.1 := by
    simp only [p, record]
    exact State.writeRows_works quiet i d 0 _ _
  rw [ht, clean, Bool.or_self, if_neg Bool.false_ne_true, record]
  split
  · have high := parts s quiet d hi
    exact high.trans (parts _ (high.quiet quiet) _ _)
  · split
    · exact stored
    · exact stored.trans (show p.1.Works t2 from .modStn p.1 i _)

/-! ### Every kind (R98) -/

include quiet in
/-- A vector instruction other than a load works at the station. -/
theorem State.runVector_works (x : SInst) (program : x.kind ≠ .vopLoad) (table : x.kind ≠ .vlutLoad) : s.Works (s.runVector i x).st := by
  unfold State.runVector
  split
  next => exact State.runVop_works quiet i x
  next load => exact absurd load program
  next =>
    dsimp only
    split
    · exact .refl s
    · exact State.runVred_works quiet _ x
  next => exact State.runLut_works quiet i x false
  next => exact State.runLut_works quiet i x true
  next load => exact absurd load table
  next => exact State.runVcvt_works quiet i x
  next => exact State.runVrng_works quiet i x
  next => exact .refl s

/-- The image of a load is read and nothing else happens (R694). -/
theorem State.imageRead_clean (data : s.bunkErr = []) (h : Handle) (len : Nat) : (s.imageRead h i len).st = s ∧ (s.imageRead h i len).ue = false := by
  unfold State.imageRead
  refine foldl_inv (fun r : ReadRes => r.st = s ∧ r.ue = false) _ _ _ (fun r k hr => ?_) ⟨rfl, rfl⟩
  obtain ⟨st, ue⟩ := hr
  dsimp only
  rw [st, ue]
  exact State.bunkRead_clean data i _ _

end

end Sys2Proof.Machine
end

section
/-! Vector instructions that issue (R98, R42), and the loads of program and table slots (R107, R186). -/

namespace Sys2Proof.Machine

/-! ### The issue at a station -/

/-- From `s` to `t` memories and contexts stay: an instruction's own records, queues, counts and the trace may have changed. -/
structure State.Records (s t : State) : Prop where
  mem : t.mem = s.mem
  bunk : t.bunk = s.bunk
  side : t.side = s.side
  ctxs : t.ctxs = s.ctxs

theorem State.Records.trans {s t u : State} (h : s.Records t) (k : t.Records u) : s.Records u :=
  ⟨k.mem.trans h.mem, k.bunk.trans h.bunk, k.side.trans h.side, k.ctxs.trans h.ctxs⟩

theorem State.modInst_records (s : State) (no : Nat) (f : SInst → SInst) : s.Records (s.modInst no f) := by
  obtain ⟨n, e⟩ := s.modInst_frame no f
  rw [e]
  exact ⟨rfl, rfl, rfl, rfl⟩

theorem State.pcEvent_records (s : State) (ev unit n : Nat) : s.Records (s.pcEvent ev unit n) := by
  obtain ⟨r, e⟩ := s.pcEvent_frame ev unit n
  rw [e]
  exact ⟨rfl, rfl, rfl, rfl⟩

theorem State.modStn_records (s : State) (i : StationId) (f : Station → Station) : s.Records (s.modStn i f) := ⟨rfl, rfl, rfl, rfl⟩

section
variable (s : State) (i : StationId) (no : Nat)

theorem State.issueTraced_frame :
    ∃ l r h x, s.issueTraced i no = { s with llx := l, regs := r, hubs := h, dbg := { s.dbg with stop := x } } := by
  unfold State.issueTraced
  split
  · exact s.trace_frame _ _ _ _
  · exact ⟨s.llx, s.regs, s.hubs, s.dbg.stop, rfl⟩

theorem State.issueTraced_records : s.Records (s.issueTraced i no) := by
  obtain ⟨l, r, h, x, e⟩ := s.issueTraced_frame i no
  rw [e]
  exact ⟨rfl, rfl, rfl, rfl⟩

/-- The program slots stay when an instruction issues. -/
theorem State.popInst_drains : ((s.popInst i no).stn i).drains = (s.stn i).drains := by
  obtain ⟨l, r, h, x, e⟩ := s.issueTraced_frame i no
  rw [State.popInst_stn, e]
  rfl

/-- The instruction has then issued at the station. -/
theorem State.popInst_inst : ∃ cyc, (s.popInst i no).inst no =
    (s.inst no).map fun x => { x with issued := x.issued ||| single i, issueCyc := SMap.put x.issueCyc 0 i.val cyc } := by
  obtain ⟨l, r, h, x, e⟩ := s.issueTraced_frame i no
  rw [State.popInst_eq, State.inst_modInst, if_pos rfl, e]
  exact ⟨_, rfl⟩

/-- The instruction with the flags of its work at a station added (R111). -/
def SInst.flagged (fl : Flags) (x : SInst) : SInst := { x with flags := x.flags ||| fl.bits5, satCnt := x.satCnt + fl.cnt }

/-- A vector instruction has issued: it has left the queue and has the flags of its work at the station (R111). -/
def State.vectorIssued (fl : Flags) : State :=
  ((s.popInst i no).modInst no (SInst.flagged fl)).pcEvent 5 i.val 1

theorem State.vectorIssued_records (fl : Flags) : s.Records (s.vectorIssued i no fl) := by
  have popped : s.Records (s.popInst i no) := by
    rw [State.popInst_eq]
    exact ((s.issueTraced_records i no).trans (State.modStn_records _ _ _)).trans (State.modInst_records _ _ _)
  exact (popped.trans (State.modInst_records _ no (SInst.flagged fl))).trans (State.pcEvent_records _ _ _ _)

theorem State.vectorIssued_stn (fl : Flags) : (s.vectorIssued i no fl).stn i = (s.popInst i no).stn i := by
  obtain ⟨r, e⟩ := ((s.popInst i no).modInst no (SInst.flagged fl)).pcEvent_frame 5 i.val 1
  rw [State.vectorIssued, e]
  exact State.stn_modInst _ _ _ _

theorem State.vectorIssued_inst {x : SInst} (hx : s.inst no = some x) (fl : Flags) :
    ∃ y, (s.vectorIssued i no fl).inst no = some y ∧ has y.issued i = true ∧ y.flags = x.flags ||| fl.bits5 ∧
      y.satCnt = x.satCnt + fl.cnt := by
  obtain ⟨cyc, popped⟩ := s.popInst_inst i no
  obtain ⟨r, e⟩ := ((s.popInst i no).modInst no (SInst.flagged fl)).pcEvent_frame 5 i.val 1
  refine ⟨{ x with
    issued := x.issued ||| single i, issueCyc := SMap.put x.issueCyc 0 i.val cyc
    flags := x.flags ||| fl.bits5, satCnt := x.satCnt + fl.cnt }, ?_, ?_, rfl, rfl⟩
  · rw [State.vectorIssued, e]
    refine (State.inst_modInst _ _ _ _).trans ?_
    rw [if_pos rfl, popped, hx]
    rfl
  · have own : (single i).getLsbD i.val = true := has_single i
    simp [has, own]

end

/-! ### VECTOR_ISSUE -/

/-- A VLUT whose table slot is not its context's (R107). -/
def State.lutUnfit (s : State) (st : StationId) (x : SInst) : Prop :=
  (x.kind = .vlut ∨ x.kind = .vlutBack) ∧ slotMine ((s.stn st).tableSlot (x.w.f 48 46)) (s.lead x.cid) = false

section
variable {s : State} {st : StationId} {no : Nat} {x : SInst} (head : s.headInst st = some (no, x))

/-- The instruction at the head of a queue is dispatched. -/
theorem State.headInst_inst (head : s.headInst st = some (no, x)) : s.inst no = some x := by
  unfold State.headInst at head
  split at head
  · cases head
  · split at head
    · split at head
      · cases head
        assumption
      · cases head
    · cases head

include head in
theorem exec_vectorIssue_unfit (unfit : s.lutUnfit st x) :
    exec (.vectorIssue st) s = .next (s.faultCtx x.cid 0x0305 (srcStn st)) := by
  obtain ⟨kind, slot⟩ := unfit
  show execVectorIssue st s = _
  rcases kind with kind | kind
  all_goals simp [execVectorIssue, head, kind, slot]

/-- The work of a VLUT that is not fit is the same fault. -/
theorem State.runVector_unfit (unfit : s.lutUnfit st x) : s.runVector st x = ⟨s, {}, some 0x0305⟩ := by
  obtain ⟨kind, slot⟩ := unfit
  rcases kind with kind | kind
  all_goals simp [State.runVector, State.runLut, kind, slot]

/-- The test at the head of the queue, where the instruction is fit. -/
theorem State.lutUnfit_test (fit : ¬ s.lutUnfit st x) :
    ((x.kind == .vlut || x.kind == .vlutBack) && !slotMine ((s.stn st).tableSlot (x.w.f 48 46)) (s.lead x.cid)) = false := by
  rw [Bool.eq_false_iff]
  intro test
  simp only [Bool.and_eq_true, Bool.or_eq_true, beq_iff_eq, Bool.not_eq_true'] at test
  exact fit test

/-- A load whose slot is in use (R107, R186). -/
def State.slotBusy (s : State) (st : StationId) (x : SInst) : Bool :=
  match x.kind with
  | .vopLoad => s.progBusy st (x.w.f 44 42)
  | .vlutLoad => s.tableBusy st (x.w.f 48 46)
  | _ => false

/-- The state in which an instruction does its work: before a load, a securing in flight takes the slots as they are (R511). -/
def State.slotsSecured (s : State) (no : Nat) (x : SInst) : State := if x.kind == .vopLoad || x.kind == .vlutLoad then s.secSlots no else s

/-- The outcome of an instruction's work at a station: a fault, or the issue. -/
def VRes.outcome (r : VRes) (st : StationId) (no : Nat) (c : Cid) : State :=
  match r.fault with
  | some f => r.st.faultCtx c f (srcStn st)
  | none => r.st.vectorIssued st no r.fl

variable (vector : x.kind.vector = true)

include head vector in
/-- A fit instruction waits for its slot and its handles, and then does its work. -/
theorem exec_vectorIssue_fit (fit : ¬ s.lutUnfit st x) : exec (.vectorIssue st) s =
    .next (if s.slotBusy st x || !s.accessReady no st then s else ((s.slotsSecured no x).runVector st x).outcome st no x.cid) := by
  have outcome (r : VRes) : (match r.fault with
      | some f => Host.Outcome.next (r.st.faultCtx x.cid f (srcStn st))
      | none => Host.Outcome.next (r.st.vectorIssued st no r.fl)) =
        (Host.Outcome.next (r.outcome st no x.cid) : Host.Outcome State Fault Refusal) := by
    obtain ⟨_, _, fault⟩ := r
    cases fault <;> rfl
  show execVectorIssue st s = _
  simp only [execVectorIssue, head, State.lutUnfit_test fit, vector, Bool.not_true, Bool.false_or, Bool.false_eq_true, if_false]
  by_cases waits : (s.slotBusy st x || !s.accessReady no st) = true
  · rw [if_pos waits]
    exact if_pos waits
  · rw [if_neg waits]
    exact (if_neg waits).trans (outcome _)

include head vector in
theorem exec_vectorIssue_waits (fit : ¬ s.lutUnfit st x) (waits : s.accessReady no st = false) : exec (.vectorIssue st) s = .next s := by
  rw [exec_vectorIssue_fit head vector fit, waits, Bool.not_false, Bool.or_true, if_pos rfl]

/-- A load is no VLUT. -/
theorem State.lutUnfit_load (load : x.kind = .vopLoad ∨ x.kind = .vlutLoad) : ¬ s.lutUnfit st x := by
  rintro ⟨lut, -⟩
  obtain kind | kind := load
  all_goals simp [kind] at lut

include head vector in
theorem exec_vectorIssue_tableBusy (load : x.kind = .vlutLoad) (busy : s.tableBusy st (x.w.f 48 46) = true) :
    exec (.vectorIssue st) s = .next s := by
  have slot : s.slotBusy st x = true := by rw [State.slotBusy, load]; exact busy
  rw [exec_vectorIssue_fit head vector (State.lutUnfit_load (.inr load)), slot, Bool.true_or, if_pos rfl]

variable (ready : s.accessReady no st = true)

include head vector ready in
/-- An instruction that is no load does its work once its handles are ready. -/
theorem exec_vectorIssue_runs (program : x.kind ≠ .vopLoad) (table : x.kind ≠ .vlutLoad) :
    exec (.vectorIssue st) s = .next ((s.runVector st x).outcome st no x.cid) := by
  by_cases unfit : s.lutUnfit st x
  · rw [exec_vectorIssue_unfit head unfit, State.runVector_unfit unfit]
    rfl
  · have slot : s.slotBusy st x = false := by
      unfold State.slotBusy
      split
      next load => exact absurd load program
      next load => exact absurd load table
      next => rfl
    have state : s.slotsSecured no x = s := by simp [State.slotsSecured, program, table]
    rw [exec_vectorIssue_fit head vector unfit, slot, ready, state]
    rfl

include head vector ready in
/-- An instruction whose work faults stops its context (R98). -/
theorem exec_vectorIssue_faults (program : x.kind ≠ .vopLoad) (table : x.kind ≠ .vlutLoad) {f : BitVec 16}
    (fault : (s.runVector st x).fault = some f) :
    exec (.vectorIssue st) s = .next ((s.runVector st x).st.faultCtx x.cid f (srcStn st)) := by
  rw [exec_vectorIssue_runs head vector ready program table, VRes.outcome, fault]

include head vector ready in
/-- An instruction whose work does not fault has issued, with its results in the bunker (R98, R42). -/
theorem exec_vectorIssue_issues (program : x.kind ≠ .vopLoad) (table : x.kind ≠ .vlutLoad) (works : (s.runVector st x).fault = none)
    (quiet : s.Quiet) :
    ∃ t, exec (.vectorIssue st) s = .next t ∧ t.bunk = (s.runVector st x).st.bunk ∧ t.side = (s.runVector st x).st.side ∧
      t.mem = s.mem ∧ t.ctxs = s.ctxs ∧ no ∉ (t.stn st).queue ∧
      ∃ y, t.inst no = some y ∧ has y.issued st = true ∧ y.flags = x.flags ||| (s.runVector st x).fl.bits5 ∧
        y.satCnt = x.satCnt + (s.runVector st x).fl.cnt := by
  have work := State.runVector_works quiet st x program table
  have eq := exec_vectorIssue_runs head vector ready program table
  generalize s.runVector st x = r at work eq works ⊢
  rw [VRes.outcome, works] at eq
  have hx : r.st.inst no = some x := by rw [State.inst, work.insts]; exact State.headInst_inst head
  have kept := r.st.vectorIssued_records st no r.fl
  refine ⟨_, eq, kept.bunk, kept.side, kept.mem.trans work.mem, kept.ctxs.trans work.ctxs, ?_, r.st.vectorIssued_inst st no hx r.fl⟩
  rw [State.vectorIssued_stn]
  exact State.popInst_left _ st no

/-- The station with a program slot written. -/
def Station.putDrain (k : Nat) (z : Slot) (y : Station) : Station := { y with drains := SMap.put y.drains {} k z }

theorem Station.drainSlot_putDrain (k : Nat) (z : Slot) (y : Station) : (y.putDrain k z).drainSlot k = z := by
  rw [Station.drainSlot, Station.putDrain, SMap.val_put, if_pos rfl]

/-- The work of a program load without stored errors, for an image that keeps R186. -/
theorem State.runVector_vopLoad (load : x.kind = .vopLoad) (data : s.bunkErr = [])
    (image : drainImageOk (s.imageRead (s.hnd (x.w.h 18)) st 1088).data = true) :
    s.runVector st x = ⟨s.modStn st (Station.putDrain (x.w.f 44 42)
      ⟨some (s.lead x.cid), (s.imageRead (s.hnd (x.w.h 18)) st 1088).data⟩), {}, none⟩ := by
  obtain ⟨read, clean⟩ := State.imageRead_clean st data (s.hnd (x.w.h 18)) 1088
  rw [State.runVector, load]
  simp only [State.runVopLoad, image, read, clean, Bool.not_false, Bool.and_self, Bool.false_eq_true, if_true, if_false]
  rfl

include head vector ready in
/-- A load that issues leaves its program slot with the context (R186). -/
theorem exec_vectorIssue_loadsProgram (load : x.kind = .vopLoad) (free : s.progBusy st (x.w.f 44 42) = false) (data : s.bunkErr = [])
    (idle : s.rlf.securing = none) (image : drainImageOk (s.imageRead (s.hnd (x.w.h 18)) st 1088).data = true) :
    ∃ t, exec (.vectorIssue st) s = .next t ∧
      (t.stn st).drainSlot (x.w.f 44 42) = ⟨some (s.lead x.cid), (s.imageRead (s.hnd (x.w.h 18)) st 1088).data⟩ ∧ t.bunk = s.bunk := by
  have slot : s.slotBusy st x = false := by rw [State.slotBusy, load]; exact free
  have state : s.slotsSecured no x = s := by simp [State.slotsSecured, State.secSlots, idle]
  have eq := exec_vectorIssue_fit head vector (State.lutUnfit_load (.inl load))
  rw [slot, ready, state, State.runVector_vopLoad load data image] at eq
  refine ⟨_, eq, ?_, (State.vectorIssued_records _ st no {}).bunk⟩
  show ((State.vectorIssued _ st no {}).stn st).drainSlot _ = _
  rw [State.vectorIssued_stn, Station.drainSlot, State.popInst_drains, State.modStn_eq, State.stn_setStn_self]
  exact Station.drainSlot_putDrain _ _ _

end

end Sys2Proof.Machine
end

section
/-! Vector instructions that finish (R111, R184, R222), and the obligation on their issue and end. -/

namespace Sys2Proof.Machine

/-! ### A scale record's update leaves contexts and seams (R90) -/

/-- All watched cells and the contexts; events may change. -/
def unitSpared : Spared := ⟨watched, True, False⟩

theorem unitSpared_ok : unitSpared.Ok := fun _ => id

theorem State.SameSeams.of_unitSpares {s t : State} (h : State.Spares unitSpared s t) : s.SameSeams t :=
  .of_cells fun F hF i hi => h.cells F i 0 ⟨F, hF, i, hi, rfl⟩

section
variable {w : Spared} (ok : w.Ok) (s : State)

include ok in
theorem State.bunkNote_spares (sb scrub : Bool) (word pos : Nat) (ue : Bool) : State.Spares w s (s.bunkNote sb scrub word pos ue) := by
  have put {t : State} (h : State.Spares w s t) (F : Fld) (v : Nat) (free : watchedFields.all (F.apart 96 1) = true) :
      State.Spares w s (t.setFld F v (wordStn sb word).val) :=
    h.trans (t.setFld_spares_of ok F v _ 0 (not_watched 96 1 free (wordStn sb word).isLt (by decide)))
  have noted := put (put (put (put (put (put (put (.refl w s) Fld.BNK_ST_ERRADDR_BANK ((wordLine sb word).1 / 2048) (by decide))
    Fld.BNK_ST_ERRADDR_LINE ((wordLine sb word).1 % 2048) (by decide)) Fld.BNK_ST_ERRADDR_WORD (wordLine sb word).2 (by decide))
    Fld.BNK_ST_ERRADDR_POSITION pos (by decide)) Fld.BNK_ST_ERRADDR_UE ue.toNat (by decide))
    Fld.BNK_ST_ERRADDR_SIDEBAND sb.toNat (by decide)) Fld.BNK_ST_ERRADDR_SCRUB scrub.toNat (by decide)
  unfold State.bunkNote
  dsimp only
  split
  · exact put (put noted _ _ (by decide)) _ _ (by decide)
  · exact put (put noted _ _ (by decide)) _ _ (by decide)

theorem State.setBunkBits_spares (x : Bits72) : State.Spares w s (s.setBunkBits x) := .of_core rfl (fun _ => rfl) (fun _ => rfl)
theorem State.setSideBits_spares (x : Bits72) : State.Spares w s (s.setSideBits x) := .of_core rfl (fun _ => rfl) (fun _ => rfl)

include ok in
theorem State.bunkError_spares (sb scrub : Bool) (p : Nat × Ecc) : State.Spares w s (s.bunkError sb scrub p) := by
  have count {t : State} (h : State.Spares w s t) (F : Fld) (free : watchedFields.all (F.apart 96 1) = true) :
      State.Spares w s (t.bump F 1 (wordStn sb p.1).val) :=
    h.trans (t.bump_spares_of ok F 1 _ 0 (not_watched 96 1 free (wordStn sb p.1).isLt (by decide)))
  have told {t : State} (h : State.Spares w s t) (pos : Nat) (ue : Bool) (k : Nat) :
      State.Spares w s ((t.bunkNote sb scrub p.1 pos ue).ao k 1) :=
    (h.trans (t.bunkNote_spares ok sb scrub p.1 pos ue)).trans (State.ao_spares _ _ _)
  unfold State.bunkError
  dsimp only
  split
  · exact .refl w s
  · refine (told ?_ _ false 8).trans (State.canary_spares _ _ _)
    have fixed : State.Spares w s (if sb then s.setSideBits (s.sideBits.fix p.1) else s.setBunkBits (s.bunkBits.fix p.1)) :=
      .ite (fun _ => s.setSideBits_spares _) fun _ => s.setBunkBits_spares _
    have counted := State.Spares.ite (c := scrub = true) (fun _ => count fixed Fld.BNK_ST_ECC_CE_SCRUB (by decide))
      fun _ => count fixed Fld.BNK_ST_ECC_CE (by decide)
    exact .ite (fun _ => count counted Fld.BNK_ST_ECC_CE_SIDEBAND (by decide)) fun _ => counted
  · exact told (count (.refl w s) _ (by decide)) _ true 9

include ok in
theorem State.bunkPart_spares (he : ¬ w.events) (sb : Bool) (errs : List (Nat × Ecc)) : State.Spares w s (s.bunkPart sb errs) :=
  .foldl _ _ (fun t p _ => (t.bunkError_spares ok sb false p).trans
    (.ite (fun _ => State.raise_spares ok _ he _ _ _ _) fun _ => .refl w _)) s

include ok in
theorem State.bunkWrite_spares (he : ¬ w.events) (i : StationId) (a : Nat) (bs : List Byte) : State.Spares w s (s.bunkWrite i a bs) := by
  unfold State.bunkWrite
  refine .ite (fun _ => .refl w s) fun _ => .trans ?_ (State.inject_spares ok _ _ _ _)
  exact (s.bunkPart_spares ok he _ _).trans (State.setBunkBits_spares _ _)

include ok in
theorem State.recordUpdate_spares (he : ¬ w.events) (c : Cid) (h : HandleId) : State.Spares w s (s.recordUpdate c h) :=
  .trans (.foldl _ _ (fun t i _ => (t.bunkWrite_spares ok he i _ _).trans (State.bunkWrite_spares ok _ he i _ _)) s)
    (.foldl _ _ (fun t i _ => t.setStn_spares i _) _)

end

/-! ### The parts of the end (R111, R184, R222) -/

section
variable (s : State) (no : Nat) (x : SInst)

/-- A VCVT that serves a scale record updates it. -/
def State.vcvtRecorded : State := if x.kind = .vcvt && x.w.fb 3 && x.w.fb 40 then s.recordUpdate x.cid (x.w.h 4) else s

/-- FILL of every handle written advances. -/
def State.fillsAdvanced : State := (x.wrote s).foldl (fun s p => s.addFill p.1 p.2) s

/-- The instruction and its accesses are gone. -/
def State.vectorOver : State := (((stationsOf x.mask).foldl (fun s i => s.traceDone i x) s).endNo no).setInst no none

/-- The flag word goes to its scalar. -/
def State.flagGiven : State :=
  match x.flagNo with
  | some k => s.giveFlag x.cid k (flagWord x.flags x.satCnt)
  | none => s

/-- Only a VCVT updates a record. -/
theorem State.vcvtRecorded_other (h : x.kind ≠ .vcvt) : s.vcvtRecorded x = s := by simp [State.vcvtRecorded, h]

theorem State.vcvtRecorded_spares : State.Spares unitSpared s (s.vcvtRecorded x) :=
  .ite (fun _ => s.recordUpdate_spares unitSpared_ok id _ _) fun _ => .refl _ s

theorem State.fillsAdvanced_frame : ∃ h, s.fillsAdvanced x = { s with handles := h } :=
  foldl_rel (fun a b : State => ∃ h, b = { a with handles := h }) (fun a => ⟨a.handles, rfl⟩)
    (fun _ _ _ ⟨_, p⟩ ⟨h, q⟩ => ⟨h, by rw [q, p]⟩) _ _ (fun _ _ => ⟨_, rfl⟩) s

theorem State.vectorOver_ends : s.Ends (s.vectorOver no x) := by
  have traced : s.Ends ((stationsOf x.mask).foldl (fun s i => s.traceDone i x) s) :=
    foldl_rel State.Ends .refl (fun _ _ _ => .trans) _ _ (fun t i => t.traceDone_ends i x) s
  exact (traced.trans (State.endNo_ends _ no)).trans (State.setInst_ends _ no none)

theorem State.vectorOver_inst : (s.vectorOver no x).inst no = none := State.inst_setInst_self _ no none

theorem State.vectorOver_accs : ∀ a ∈ (s.vectorOver no x).accs, a.no ≠ no := by
  intro a ha
  have kept : a ∈ (State.endNo _ no).accs := ha
  rw [State.endNo_accs, List.mem_filter, bne_iff_ne] at kept
  exact kept.2

theorem State.flagGiven_frame : ∃ c, s.flagGiven x = { s with ctxs := c } := by
  unfold State.flagGiven
  split
  · exact foldl_rel (fun a b : State => ∃ c, b = { a with ctxs := c }) (fun a => ⟨a.ctxs, rfl⟩)
      (fun _ _ _ ⟨_, p⟩ ⟨h, q⟩ => ⟨h, by rw [q, p]⟩) _ _ (fun _ _ => ⟨_, rfl⟩) s
  · exact ⟨s.ctxs, rfl⟩

/-- The scalar that waits for the flag word has it (R184). -/
theorem State.flagGiven_ctx {k r : Nat} (hk : x.flagNo = some k) (single : s.joined x.cid = false)
    (waits : (s.ctx x.cid).flagWait.find? (fun p => p.2 == k) = some (r, k)) :
    (s.flagGiven x).ctx x.cid = { (s.ctx x.cid).wrote r (flagWord x.flags x.satCnt) with
      flagWait := (s.ctx x.cid).flagWait.filter fun q => q.2 != k } := by
  simp only [State.flagGiven, hk, State.giveFlag, State.copies, single, Bool.false_eq_true, if_false, List.foldl_cons, List.foldl_nil,
    State.modCtx_eq, State.ctx_setCtx_self, waits]
  rfl

/-- The handle that an instruction with one result writes (R177). -/
def SInst.writesOnly (x : SInst) (h : HandleId) : Prop :=
  (x.kind = .vop ∧ h = x.w.h 30) ∨ ((x.kind = .vlut ∨ x.kind = .vlutBack) ∧ h = x.w.h 34) ∨ (x.kind = .vrng ∧ h = x.w.h 37)

theorem SInst.wrote_only {h : HandleId} (only : x.writesOnly h) : x.wrote s = [(h, (s.hnd h).rows.toNat)] ∧ x.kind ≠ .vcvt := by
  obtain ⟨kind, rfl⟩ | ⟨kind | kind, rfl⟩ | ⟨kind, rfl⟩ := only
  all_goals
    rw [SInst.wrote, kind]
    exact ⟨rfl, nofun⟩

theorem State.fillsAdvanced_fill {h : HandleId} (only : x.writesOnly h) :
    ((s.fillsAdvanced x).hnd h).fill.toNat = min (2 ^ 21 - 1) ((s.hnd h).fill.toNat + (s.hnd h).rows.toNat) := by
  rw [State.fillsAdvanced, (x.wrote_only s only).1]
  exact s.addFill_fill h _

/-! ### VECTOR_FINISH -/

/-- The instruction's end up to its flag word. -/
def State.vectorEnded : State := ((s.vcvtRecorded x).fillsAdvanced x).vectorOver no x

theorem State.vectorEnded_bunk (h : x.kind ≠ .vcvt) : (s.vectorEnded no x).bunk = s.bunk := by
  obtain ⟨f, e⟩ := s.fillsAdvanced_frame x
  rw [State.vectorEnded, s.vcvtRecorded_other x h, (State.vectorOver_ends _ no x).bunk, e]

theorem State.vectorEnded_fill {h : HandleId} (only : x.writesOnly h) :
    ((s.vectorEnded no x).hnd h).fill.toNat = min (2 ^ 21 - 1) ((s.hnd h).fill.toNat + (s.hnd h).rows.toNat) := by
  rw [State.vectorEnded, s.vcvtRecorded_other x (x.wrote_only s only).2, (State.vectorOver_ends _ no x).fills, s.fillsAdvanced_fill x only]

/-- Until the flag word is given, contexts and seams are as they were. -/
theorem State.vectorEnded_ctxs : (s.vectorEnded no x).ctxs = s.ctxs ∧ s.SameSeams (s.vectorEnded no x) := by
  have recorded := s.vcvtRecorded_spares x
  have seams := State.SameSeams.of_unitSpares recorded
  obtain ⟨f, e⟩ := (s.vcvtRecorded x).fillsAdvanced_frame x
  have ended := ((s.vcvtRecorded x).fillsAdvanced x).vectorOver_ends no x
  have same : ((s.vcvtRecorded x).fillsAdvanced x).SameSeams (s.vectorEnded no x) :=
    .of_cells fun F hF i hi => ended.flds F i 0 fun m => not_watched_event m ⟨F, hF, i, hi, rfl⟩
  rw [e] at same
  refine ⟨?_, fun F hF i hi => (same F hF i hi).trans (seams F hF i hi)⟩
  rw [State.vectorEnded, ended.ctxs, e]
  exact recorded.ctxs trivial

theorem exec_vectorFinish_ends (hx : s.inst no = some x) (vector : x.kind.vector = true) (issued : subset x.mask x.issued = true) :
    exec (.vectorFinish no) s = .next ((s.vectorEnded no x).flagGiven x) := by
  show execVectorFinish no s = _
  simp only [execVectorFinish, hx, vector, issued, Bool.not_true, Bool.or_self, Bool.false_eq_true, if_false]
  rfl

/-- An instruction that has issued at every station of its mask finishes. -/
theorem exec_vectorFinish_finishes (hx : s.inst no = some x) (vector : x.kind.vector = true) (issued : subset x.mask x.issued = true) :
    ∃ t, exec (.vectorFinish no) s = .next t ∧ t.inst no = none ∧ (∀ a ∈ t.accs, a.no ≠ no) ∧ (x.kind ≠ .vcvt → t.bunk = s.bunk) ∧
      (∀ h, x.writesOnly h → (t.hnd h).fill.toNat = min (2 ^ 21 - 1) ((s.hnd h).fill.toNat + (s.hnd h).rows.toNat)) ∧
      (∀ k r, x.flagNo = some k → s.joined x.cid = false → (s.ctx x.cid).flagWait.find? (fun p => p.2 == k) = some (r, k) →
        t.ctx x.cid = { (s.ctx x.cid).wrote r (flagWord x.flags x.satCnt) with
          flagWait := (s.ctx x.cid).flagWait.filter fun q => q.2 != k }) := by
  have gone : (s.vectorEnded no x).inst no = none := State.vectorOver_inst _ no x
  have released : ∀ a ∈ (s.vectorEnded no x).accs, a.no ≠ no := State.vectorOver_accs _ no x
  have bunk := s.vectorEnded_bunk no x
  have fill := @State.vectorEnded_fill s no x
  obtain ⟨ctxs, seams⟩ := s.vectorEnded_ctxs no x
  have ctx : (s.vectorEnded no x).ctx x.cid = s.ctx x.cid := by rw [State.ctx, State.ctx, ctxs]
  have given := @State.flagGiven_ctx (s.vectorEnded no x) x
  rw [ctx, seams.joined] at given
  obtain ⟨c, e⟩ := (s.vectorEnded no x).flagGiven_frame x
  refine ⟨_, exec_vectorFinish_ends s no x hx vector issued, ?_⟩
  rw [e] at given ⊢
  exact ⟨gone, released, bunk, fun h => fill, fun k r => given⟩

end

/-- The flag word with its parts in the order of R111. -/
theorem flagWord_eq (b : BitVec 5) (cnt : Nat) : flagWord b cnt = BitVec.ofNat 64 (b.toNat + 65536 * min cnt (2 ^ 32 - 1)) := by
  rw [flagWord, Nat.mul_comm]
  rfl

/-- Settles O16: at the head of a queue by what its test finds (`exec_vectorIssue_fit`), the work itself by `State.Works`, and the end
part by part. -/
theorem vectorsIssueAndFinish : Obligations.VectorsIssueAndFinish := by
  unfold Obligations.VectorsIssueAndFinish
  refine ⟨fun st s no x head vector => ⟨exec_vectorIssue_unfit head, exec_vectorIssue_waits head vector,
    fun ready program table => ⟨fun f => exec_vectorIssue_faults head vector ready program table,
      fun works data side idle => exec_vectorIssue_issues head vector ready program table works ⟨data, side, idle⟩⟩,
    fun ready load free data idle => exec_vectorIssue_loadsProgram head vector ready load free data idle,
    fun _ => exec_vectorIssue_tableBusy head vector⟩, fun no s x hx vector issued => ?_⟩
  simp only [← flagWord_eq]
  exact exec_vectorFinish_finishes s no x hx vector issued

end Sys2Proof.Machine
end

section
/-! Segments at the sequencer (R122 to R124, R138, R173, R174, R496, R498): how SEGMENT begins one or is held, what ends its issue, and where
an evaluation begins and ends. -/

namespace Sys2Proof.Machine

variable {s : State} {c : Cid} {w : NWords}

/-! ### A context written twice -/

/-- The last write of a context is the one that counts. -/
@[simp] theorem State.setCtx_setCtx (s : State) (c : Cid) (x y : Ctx) : (s.setCtx c x).setCtx c y = s.setCtx c y := by
  simp only [State.setCtx, SMap.put_put]

/-! ### Bits of the words -/

/-- A bit of a word as a field of one bit. -/
theorem NWords.f_bit (w : NWords) (i : Nat) : w.f i i = (w.fb i).toNat := by
  rw [NWords.f, NWords.fb, bits, bit, fieldN, BitVec.getLsbD, Nat.testBit_eq_decide_div_mod_eq, Nat.add_sub_cancel_left, Nat.pow_one]
  rcases Nat.mod_two_eq_zero_or_one (w.opnd.toNat / 2 ^ i) with h | h <;> simp [h]

/-! ### SEGMENT begins (R122, R174) -/

/-- What the first work of a restored context changes: the relief, registers, the event and its trace. -/
theorem State.firstWork_frame (s : State) (c : Cid) : ∃ a l r h x, s.firstWork c = { s with
    rlf := { s.rlf with act := a }, llx := l, regs := r, hubs := h, dbg := { s.dbg with stop := x } } := by
  unfold State.firstWork
  split
  next x act =>
    split
    · exact ⟨s.rlf.act, s.llx, s.regs, s.hubs, s.dbg.stop, rfl⟩
    · dsimp only
      split
      · rw [(State.raise_frame _ _ _ _ _).choose_spec.choose_spec.choose_spec.choose_spec]
        exact ⟨_, _, _, _, _, rfl⟩
      · exact ⟨_, s.llx, _, s.hubs, s.dbg.stop, rfl⟩
  next => exact ⟨s.rlf.act, s.llx, s.regs, s.hubs, s.dbg.stop, rfl⟩

theorem State.firstWork_ctx (s : State) (c d : Cid) : (s.firstWork c).ctx d = s.ctx d := by
  obtain ⟨a, l, r, h, x, e⟩ := s.firstWork_frame c
  rw [e]
  rfl

/-- Without an activated relief there is no work to note. -/
theorem State.firstWork_none (act : s.rlf.act = none) : s.firstWork c = s := by rw [State.firstWork, act]

/-- A context whose segment `w` begins at the cycle `cyc`. -/
def Ctx.segmentBegun (x : Ctx) (w : NWords) (cyc : Nat) : Ctx :=
  { x with
    prog := { x.prog with pc := x.after 1, step := x.prog.step + BitVec.ofNat 63 (w.f 53 53) }
    inSeg := true, atStart := true, newstep := w.f 53 53 == 1, budget := BitVec.ofNat 16 (w.f 15 0), overBudget := false, segStart := cyc }

/-- SEGMENT where nothing holds it. -/
theorem exec_segment_begins (runs : s.canExec c = true) (closed : (s.ctx c).inSeg = false) (enc : Enc.segment w = true)
    (free : w.f 53 53 = 1 → (s.ctx c).prog.evalFlag = false ∧ s.stepHeld c = false ∧ s.copyHeld c = false) :
    exec (.segment c w) s = .next ((s.firstWork c).setCtx c ((s.ctx c).segmentBegun w s.seqCyc)) := by
  rw [NWords.f_bit] at free
  show execSegment c w s = _
  unfold execSegment Ctx.segmentBegun
  rw [NWords.f_bit]
  cases news : w.fb 53 with
  | false => simp [runs, closed, enc, State.modCtx_eq, State.firstWork_ctx, Ctx.after]
  | true =>
    obtain ⟨outside, step, copy⟩ := free (by rw [news]; rfl)
    simp [runs, closed, enc, outside, step, copy, State.modCtx_eq, State.firstWork_ctx, Ctx.after]

/-! ### SEGMENT is held at the bound (R496, R498) -/

/-- The context of the secured context's own kind is held when its next step passes S_c + L. -/
theorem State.stepHeld_of_bound (single : s.joined c = false) (mode : s.fld Fld.SFC_PROFILE_RESILIENCE = 0)
    (secured : s.lead s.securedCtx = c) (alone : s.fld Fld.RLF_CFG_JOINED = 0) (limit : s.fld Fld.RLF_CFG_L ≠ 0)
    (past : s.securedStep + s.fld Fld.RLF_CFG_L < (s.ctx c).prog.step.toNat + 1) : s.stepHeld c = true := by
  have lead : s.lead c = c := by simp [State.lead, single]
  simp [State.stepHeld, State.isSecured, State.bounded, State.flag, mode, lead, secured, alone, single, limit, past]

/-- A context whose segment is empty. -/
def Ctx.emptied (x : Ctx) : Ctx := { x with emptySeg := true, st := .waiting, segLen := 0 }

/-- The count of HOLDS is none of the cells that decide what a context is. -/
theorem not_watched_holds : ¬ watched (Fld.RLF_CNT_HOLDS.key 0 0) := not_watched 1 1 (by decide) (by decide) (by decide)

/-- SEGMENT with NEWSTEP of a context that is held. -/
theorem exec_segment_held (runs : s.canExec c = true) (closed : (s.ctx c).inSeg = false) (enc : Enc.segment w = true) (news : w.f 53 53 = 1)
    (outside : (s.ctx c).prog.evalFlag = false) (single : s.joined c = false) (held : s.stepHeld c = true) :
    exec (.segment c w) s = .next ({ s.bump Fld.RLF_CNT_HOLDS with rlf := { s.rlf with hold := true } }.setCtx c (s.ctx c).emptied) := by
  have news : w.fb 53 = true := by
    rw [NWords.f_bit] at news
    cases h : w.fb 53 with
    | false => rw [h] at news; cases news
    | true => rfl
  have counted : State.Spares watchSpared s { s.bump Fld.RLF_CNT_HOLDS with rlf := { s.rlf with hold := true } } :=
    (s.bump_spares_of watchSpared_ok _ _ _ _ not_watched_holds).trans (.of_core rfl (fun _ => rfl) (fun _ => rfl))
  have single' := (State.SameSeams.of_spares counted).joined c
  show execSegment c w s = _
  unfold execSegment
  simp only [runs, closed, enc, news, outside, held, State.copies, single, Bool.not_true, Bool.and_false, Bool.false_eq_true, if_false,
    Bool.true_or, Bool.and_true, List.any_cons, List.any_nil, Bool.or_self, Bool.not_false, if_true]
  exact congrArg Host.Outcome.next (State.modBoth_one _ c _ (single'.trans single))

/-! ### The ends of a segment's issue (R123, R124, R173) -/

/-- A context whose segment has issued all of its instructions. -/
def Ctx.issueEnded (x : Ctx) (halts : Bool) (bells : Nat) : Ctx :=
  { x.moved (x.after 1) with ended := true, halting := halts, waitBells := bells }

section
variable {e : Bool} (runs : s.canExec c = true) (opened : (s.ctx c).inSeg = true) (enc : e = true)
include runs opened enc

theorem State.commitSegment_ends (bound : (s.ctx c).unbound = []) (bells : Nat) :
    s.commitSegment c e bells = s.setCtx c ((s.ctx c).issueEnded false bells) := by
  simp only [State.commitSegment, runs, opened, enc, bound, Bool.not_true, Bool.false_eq_true, if_false, List.isEmpty_nil, State.modCtx_eq,
    State.nextPc_ctx]
  exact s.setCtx_setCtx c _ _

/-- A group without its RINGINJ (R174). -/
theorem State.commitSegment_unbound (unbound : (s.ctx c).unbound ≠ []) (bells : Nat) : s.commitSegment c e bells = s.seqFault c Ev.SEQ_GROUP := by
  simp [State.commitSegment, runs, opened, enc, unbound]

theorem State.endSegment_halts (bound : (s.ctx c).unbound = []) (outside : (s.ctx c).prog.evalFlag = false)
    (open' : (s.ctx c).evalEnded = false) : s.endSegment c e true 0 = s.setCtx c ((s.ctx c).issueEnded true 0) := by
  simp only [State.endSegment, runs, opened, enc, bound, outside, open', Bool.not_true, Bool.false_eq_true, if_false, List.isEmpty_nil,
    State.modCtx_eq, State.nextPc_ctx, Bool.or_self, Bool.and_false]
  exact s.setCtx_setCtx c _ _

/-- HALT inside an evaluation (R138). -/
theorem State.endSegment_evaluates (inside : (s.ctx c).prog.evalFlag = true) : s.endSegment c e true 0 = s.seqFault c Ev.EVAL_PLACE := by
  simp [State.endSegment, runs, opened, enc, inside]

end

/-! ### Evaluations (R138) -/

/-- A context past EVALBEGIN or EVALEND. -/
def Ctx.evaluates (x : Ctx) (flag ended : Bool) : Ctx :=
  { x.moved (x.after 1) with prog := { x.prog with pc := x.after 1, evalFlag := flag }, evalEnded := ended }

section
variable (issues : s.Issues c) (enc : Enc.none w = true)
include issues enc

/-- EVALBEGIN right after a SEGMENT without NEWSTEP. -/
theorem exec_evalbegin_begins (start : (s.ctx c).atStart = true) (same : (s.ctx c).newstep = false) (outside : (s.ctx c).prog.evalFlag = false) :
    exec (.evalbegin c w) s = .next (s.setCtx c ((s.ctx c).evaluates true false)) := by
  have ended : (s.ctx c).evalEnded = false := issues.2.2
  have next : exec (.evalbegin c w) s =
      .next ((s.modCtx c fun x => { x with prog := { x.prog with evalFlag := true } }).nextPc c 1) := by
    show execEvalbegin c w s = _
    simp [execEvalbegin, s.seqRun_issues c _ [] _ issues enc nofun, start, same, outside]
  have kept : (s.ctx c).evaluates true false = (s.ctx c).evaluates true (s.ctx c).evalEnded := by rw [ended]
  rw [next, kept, State.nextPc, State.modCtx_eq, State.modCtx_eq, State.ctx_setCtx_self, State.setCtx_setCtx]
  rfl

/-- EVALBEGIN elsewhere. -/
theorem exec_evalbegin_misplaced (place : (s.ctx c).atStart = false ∨ (s.ctx c).newstep = true ∨ (s.ctx c).prog.evalFlag = true) :
    exec (.evalbegin c w) s = .next (s.seqFault c Ev.EVAL_PLACE) := by
  show execEvalbegin c w s = _
  rw [execEvalbegin, s.seqRun_issues c _ [] _ issues enc nofun]
  rcases place with h | h | h <;> simp [h]

/-- EVALEND inside an evaluation. -/
theorem exec_evalend_ends (inside : (s.ctx c).prog.evalFlag = true) :
    exec (.evalend c w) s = .next (s.setCtx c ((s.ctx c).evaluates false true)) := by
  have next : exec (.evalend c w) s =
      .next ((s.modCtx c fun x => { x with prog := { x.prog with evalFlag := false }, evalEnded := true }).nextPc c 1) := by
    show execEvalend c w s = _
    simp [execEvalend, s.seqRun_issues c _ [] _ issues enc nofun, inside]
  rw [next, State.nextPc, State.modCtx_eq, State.modCtx_eq, State.ctx_setCtx_self, State.setCtx_setCtx]
  rfl

theorem exec_evalend_misplaced (outside : (s.ctx c).prog.evalFlag = false) :
    exec (.evalend c w) s = .next (s.seqFault c Ev.EVAL_PLACE) := by
  show execEvalend c w s = _
  simp [execEvalend, s.seqRun_issues c _ [] _ issues enc nofun, outside]

end

/-! ### The statement -/

/-- Settles O5: SEGMENT by what holds it (`exec_segment_begins`, `exec_segment_held`), the ends of its issue and of evaluations by where they
stand. -/
theorem segmentsBeginAndEnd : Obligations.SegmentsBeginAndEnd := by
  unfold Obligations.SegmentsBeginAndEnd
  refine ⟨fun c w s runs closed enc free => ?begins, fun c w s runs closed enc news outside single mode secured alone limit past => ?held,
    fun c w s runs opened => ?ends, fun c w s issues enc => ?evaluates⟩
  case begins =>
    refine ⟨_, exec_segment_begins runs closed enc free, State.ctx_setCtx_self _ _ _, s.firstWork_mem c, fun act => ?_⟩
    rw [State.firstWork_none act]
    rfl
  case held =>
    refine ⟨_, exec_segment_held runs closed enc news outside single (State.stepHeld_of_bound single mode secured alone limit past),
      State.ctx_setCtx_self _ _ _, fun d hd => State.ctx_setCtx_ne _ _ _ _ hd, s.fld_bump_self _ _ _ _ (by decide)⟩
  case ends =>
    refine ⟨fun bound => ⟨fun enc => ?_, fun enc => ?_, fun enc outside open' => ?_⟩, fun unbound => ⟨fun enc => ?_, fun enc => ?_⟩,
      fun enc inside => ?_⟩
    · exact congrArg Host.Outcome.next (State.commitSegment_ends runs opened enc bound 0)
    · exact congrArg Host.Outcome.next (State.commitSegment_ends runs opened enc bound (w.f 7 0))
    · exact congrArg Host.Outcome.next (State.endSegment_halts runs opened enc bound outside open')
    · exact congrArg Host.Outcome.next (State.commitSegment_unbound runs opened enc unbound 0)
    · exact congrArg Host.Outcome.next (State.commitSegment_unbound runs opened enc unbound (w.f 7 0))
    · exact congrArg Host.Outcome.next (State.endSegment_evaluates runs opened enc inside)
  case evaluates =>
    exact ⟨exec_evalbegin_begins issues enc, exec_evalbegin_misplaced issues enc, exec_evalend_ends issues enc,
      exec_evalend_misplaced issues enc⟩

end Sys2Proof.Machine
end

section
/-! Segments that complete (R122, R123), context commands (R117, R136, R137) and contexts whose purge is over (R230). -/

namespace Sys2Proof.Machine

variable {s : State} {c : Cid}

/-! ### A segment is over its budget (R122) -/

/-- Whether the open segment of a context has taken longer than its budget and has not been counted yet. -/
def State.LongSegment (s : State) (c : Cid) : Prop :=
  (s.ctx c).inSeg = true ∧ (s.ctx c).overBudget = false ∧ (s.ctx c).budget ≠ 0 ∧ 64 * (s.ctx c).budget.toNat < s.seqCyc - (s.ctx c).segStart

theorem State.overBudget_iff (lead : s.lead c = c) (running : (s.ctx c).st = .running) (sound : (s.ctx c).faulted = none) :
    s.overBudget c = true ↔ s.LongSegment c := by
  simp [State.overBudget, State.LongSegment, lead, running, sound, and_assoc]

/-- The count of OVER_BUDGET is not among the cells that an event may write. -/
theorem overBudget_not_event (c : Cid) : Fld.SEQ_CTX_CNT_OVER_BUDGET.key c.val 0 ∉ eventCells :=
  not_event 8 1 (by decide) c.isLt (by decide)

theorem State.fld_modBoth (s : State) (c : Cid) (f : Ctx → Ctx) (F : Fld) (i j : Nat) : (s.modBoth c f).fld F i j = s.fld F i j := by
  obtain ⟨x, e⟩ := s.modBoth_frame c f
  rw [e]
  rfl

/-- The look at the budget counts a segment that is over it. -/
theorem State.checkBudget_counts (lead : s.lead c = c) (late : s.overBudget c = true) :
    s.Counted (s.checkBudget c) Fld.SEQ_CTX_CNT_OVER_BUDGET 1 c.val := by
  rw [State.Counted, s.checkBudget_over c late, State.fld_modBoth, lead, State.raise_keepsFlds _ _ _ _ _ _ _ _ (overBudget_not_event c)]
  exact s.fld_bump_self _ _ _ _ (by decide)

/-! ### SEGMENT_COMPLETE (R123) -/

/-- A context whose segment is complete. -/
def Ctx.completed (len : Nat) (x : Ctx) : Ctx := { x with st := .waiting, segLen := len }

section
variable (lead : s.lead c = c) (running : (s.ctx c).st = .running) (sound : (s.ctx c).faulted = none) (free : s.ctxStopped c = false)
  (quiet : s.segQuiet c = true)
include lead running sound free quiet

theorem exec_segmentComplete_completes
    (empty : ∀ i ∈ stationsOf (s.seamSet c), (s.stn i).bank0.st = .empty ∧ (s.stn i).bank1.st = .empty) :
    exec (.segmentComplete c) s = .next ((s.checkBudget c).modBoth c (Ctx.completed (s.seqCyc - (s.ctx c).segStart))) := by
  have clear (p : BankSt → Bool) (h : p .empty = false) :
      ((stationsOf (s.seamSet c)).flatMap fun i => [(s.stn i).bank0.st, (s.stn i).bank1.st]).any p = false := by
    rw [List.any_flatMap, List.any_eq_false]
    intro i hi
    obtain ⟨zero, one⟩ := empty i hi
    simp [zero, one, h]
  show execSegmentComplete c s = _
  unfold execSegmentComplete
  simp only [lead, running, sound, free, quiet]
  rw [clear (fun b => b == .loaded || b == .done) rfl, clear (fun b => b != .empty) rfl]
  rfl

/-- What a complete segment leaves where no bank is in use: the context WAITS with its length; a segment over its budget counts, cut to the
width of the field, and nothing else happens to one that is not. -/
theorem exec_segmentComplete_waits
    (empty : ∀ i ∈ stationsOf (s.seamSet c), (s.stn i).bank0.st = .empty ∧ (s.stn i).bank1.st = .empty) :
    ∃ t, exec (.segmentComplete c) s = .next t ∧ (t.ctx c).st = .waiting ∧ (t.ctx c).segLen = s.seqCyc - (s.ctx c).segStart ∧
      (¬ s.LongSegment c → t = s.modBoth c (Ctx.completed (s.seqCyc - (s.ctx c).segStart))) ∧
      (s.LongSegment c → s.Counted t Fld.SEQ_CTX_CNT_OVER_BUDGET 1 c.val) := by
  have budget := State.overBudget_iff lead running sound
  have leadNow : (s.checkBudget c).lead c = c :=
    ((State.SameSeams.of_spares (s.checkBudget_spares watchSpared_ok id id c)).lead c).trans lead
  have ctx := (s.checkBudget c).ctx_modBoth_lead c (Ctx.completed (s.seqCyc - (s.ctx c).segStart))
  rw [leadNow] at ctx
  refine ⟨_, exec_segmentComplete_completes lead running sound free quiet empty, by rw [ctx]; rfl, by rw [ctx]; rfl, fun short => ?_,
    fun long => ?_⟩
  · rw [s.checkBudget_within c (Bool.eq_false_iff.mpr fun late => short (budget.mp late))]
  · rw [State.Counted, State.fld_modBoth]
    exact State.checkBudget_counts lead (budget.mpr long)

/-- A bank that holds a tile or a result when the segment is complete. -/
theorem exec_segmentComplete_faults
    (left : ∃ i ∈ stationsOf (s.seamSet c), (s.stn i).bank0.st = .loaded ∨ (s.stn i).bank1.st = .done) :
    exec (.segmentComplete c) s = .next (s.seqFault c Ev.SEQ_BANKS) := by
  have found : ((stationsOf (s.seamSet c)).flatMap fun i => [(s.stn i).bank0.st, (s.stn i).bank1.st]).any
      (fun b => b == .loaded || b == .done) = true := by
    obtain ⟨i, hi, bank⟩ := left
    rw [List.any_flatMap, List.any_eq_true]
    refine ⟨i, hi, ?_⟩
    rcases bank with h | h <;> simp [h]
  show execSegmentComplete c s = _
  unfold execSegmentComplete
  simp only [lead, running, sound, free, quiet]
  rw [found]
  rfl

end

/-! ### Context commands (R117, R136) -/

/-- The sequencer that controls a context keeps a command where no KILL waits. -/
theorem State.postCmd_takes (lead : s.lead c = c) (kill : (s.ctx c).cmd ≠ 3) (code : BitVec 3) (k : BitVec 2) :
    s.postCmd c code k = s.setCtx c { s.ctx c with cmd := code, cmdTarget := k } := by
  rw [State.postCmd, if_neg (by simpa [lead] using kill), State.modCtx_eq]

/-- The other sequencer takes none, and none takes the place of KILL. -/
theorem State.postCmd_ignores (h : s.lead c ≠ c ∨ (s.ctx c).cmd = 3) (code : BitVec 3) (k : BitVec 2) : s.postCmd c code k = s :=
  if_pos (by simpa using h)

/-! ### CONTEXT_PURGE_DONE (R230) -/

section
variable (purging : (s.ctx (s.lead c)).st = .purging)
include purging

theorem exec_contextPurgeDone_ends (handles : ∀ p ∈ s.usedHandles, p.2.owner ≠ s.lead c)
    (regions : ∀ r < 256, s.rgnState r = 2 → s.rgnOfCtx (s.lead c) r = false) :
    exec (.contextPurgeDone c) s = .next (s.modBoth c fun x => { x with st := .idle }) := by
  have noHandle : (s.usedHandles.any fun p => p.2.owner == s.lead c) = false := by
    rw [List.any_eq_false]
    exact fun p hp => by simpa using handles p hp
  have noRegion : ((List.range 256).any fun r => s.rgnState r == 2 && s.rgnOfCtx (s.lead c) r) = false := by
    rw [List.any_eq_false]
    intro r hr
    simpa using regions r (List.mem_range.mp hr)
  show execContextPurgeDone c s = _
  simp [execContextPurgeDone, purging, noHandle, noRegion]

/-- A handle of the context keeps it PURGING. -/
theorem exec_contextPurgeDone_waits (used : ∃ p ∈ s.usedHandles, p.2.owner = s.lead c) : exec (.contextPurgeDone c) s = .next s := by
  have handle : (s.usedHandles.any fun p => p.2.owner == s.lead c) = true := by
    obtain ⟨p, hp, own⟩ := used
    exact List.any_eq_true.mpr ⟨p, hp, by simp [own]⟩
  show execContextPurgeDone c s = _
  simp [execContextPurgeDone, purging, handle]

end

/-! ### The count at its limit -/

namespace BudgetAtLimit

/-- A device that runs with seams of 12 stations, its sequencers at cycle 65, OVER_BUDGET of context 0 at the last value of its 16 bits. -/
def base : State :=
  (({ State.reset with
      rst := { State.reset.rst with held := 0 }
      pwr := { State.reset.pwr with dataOn := true }
      time := { State.reset.time with cyc := [(58, 5000 * 65)] } } : State).setFld Fld.SFC_PROFILE_SEAM 3).setFld
    Fld.SEQ_CTX_CNT_OVER_BUDGET 65535

/-- Context 0 has issued all of a segment with a budget of 64 cycles, and nothing of it is under way. -/
def state : State := base.setCtx 0 { st := .running, inSeg := true, owner := true, ended := true, budget := 1 }

theorem quiet : state.segQuiet 0 = true := by decide +kernel
theorem empty : ∀ i ∈ stationsOf (state.seamSet 0), (state.stn i).bank0.st = .empty ∧ (state.stn i).bank1.st = .empty := by decide +kernel
theorem long : state.LongSegment 0 := ⟨rfl, rfl, by decide +kernel, by decide +kernel⟩
theorem count : state.fld Fld.SEQ_CTX_CNT_OVER_BUDGET = 65535 := by decide +kernel

/-- The count goes round to zero. -/
theorem wraps {t : State} (h : state.Counted t Fld.SEQ_CTX_CNT_OVER_BUDGET 1) : t.fld Fld.SEQ_CTX_CNT_OVER_BUDGET = 0 := by
  rw [State.Counted, count] at h
  exact h

end BudgetAtLimit

/-- Refutes O7: OVER_BUDGET has 16 bits ([47:32] of SEQ_CTX_CNT), and the statement counts it modulo 2 ^ 32. Where it stands at 65535 a
segment over its budget takes it to 0, and the statement asks for 65536. Counted at the width of the field the clause holds
(`exec_segmentComplete_waits`), as do the clauses on banks left (`exec_segmentComplete_faults`), commands (`State.postCmd_takes`,
`State.postCmd_ignores`) and purges (`exec_contextPurgeDone_ends`, `exec_contextPurgeDone_waits`) as they stand. -/
theorem not_contextsFinishAndTakeCommands : ¬ Obligations.ContextsFinishAndTakeCommands := by
  unfold Obligations.ContextsFinishAndTakeCommands
  rintro ⟨complete, -, -⟩
  have lead : BudgetAtLimit.state.lead 0 = 0 := by decide +kernel
  have free : BudgetAtLimit.state.ctxStopped 0 = false := by decide +kernel
  obtain ⟨waits, -⟩ := complete 0 BudgetAtLimit.state lead rfl rfl free BudgetAtLimit.quiet
  obtain ⟨t, next, -, -, -, counts⟩ := waits BudgetAtLimit.empty
  obtain ⟨u, next', -, -, -, counted⟩ := exec_segmentComplete_waits lead rfl rfl free BudgetAtLimit.quiet BudgetAtLimit.empty
  obtain rfl : t = u := by
    rw [next] at next'
    injection next'
  have asked : t.fld Fld.SEQ_CTX_CNT_OVER_BUDGET = (BudgetAtLimit.state.fld Fld.SEQ_CTX_CNT_OVER_BUDGET + 1) % 2 ^ 32 :=
    counts BudgetAtLimit.long
  rw [BudgetAtLimit.count, BudgetAtLimit.wraps (counted BudgetAtLimit.long)] at asked
  cases asked

end Sys2Proof.Machine
end

section
/-! Records stored by the sequencer (R139, R208, R323): MARKPOS and RNGSAVE. -/

namespace Sys2Proof.Machine

variable {s : State} {c : Cid} {w : NWords}

/-! ### Lengths of records -/

@[simp] theorem bytesOf_length (n x : Nat) : (bytesOf n x).length = n := by simp [bytesOf]

theorem posRecord_length (p : DataPos) (flags : Nat) : (posRecord p flags).length = 64 := by simp [posRecord]

theorem State.ctxRngRecord_length (s : State) (c : Cid) (p : ProgState) : (s.ctxRngRecord c p).length = 32 := by
  simp [State.ctxRngRecord, rngRecord]

/-! ### A record at s[SA] (R208) -/

/-- The context past a record that it has stored: it cannot return to its last bell (R126). -/
def Ctx.stored (x : Ctx) : Ctx := { x.moved (x.after 1) with pastReturn := true }

/-- Outside the context's regions a record is not stored. -/
theorem State.storeRecord_faults {b : List Byte} (out : s.ctxAddr c ((s.ctx c).s (w.f 53 49)).toNat b.length = none) :
    s.storeRecord c w b = s.seqFault c Ev.MEM_RANGE := by
  rw [State.storeRecord, out]
  exact s.checked_fault c [some Ev.MEM_RANGE] _ _ rfl

/-- Where no stored error or armed injection meets the write, memory takes the record and the context goes on. -/
theorem State.storeRecord_stores (single : s.joined c = false) (clean : s.memErr = []) (idle : s.injectWord = none) {b : List Byte} {a : Nat}
    (place : s.ctxAddr c ((s.ctx c).s (w.f 53 49)).toNat b.length = some a) :
    ∃ t, s.storeRecord c w b = t ∧ t.mem = SMap.putList s.mem 0 a b ∧ t.ctx c = (s.ctx c).stored ∧
      t = { s with mem := t.mem, memErr := t.memErr, ctxs := t.ctxs, dbg := t.dbg, regs := t.regs } := by
  obtain ⟨d, written⟩ := s.memWrite_clean a b clean idle
  have run : s.storeRecord c w b = (({ s with mem := SMap.putList s.mem 0 a b, dbg := d } : State).pastReturn c).nextPc c 1 := by
    rw [← written, State.storeRecord, place]
    refine (s.checked_ok c [none] _ rfl).trans ?_
    rw [place]
    rfl
  have single' : ({ s with mem := SMap.putList s.mem 0 a b, dbg := d } : State).joined c = false := single
  rw [run, State.nextPc, State.pastReturn, State.modBoth_one _ c _ single', State.modCtx_eq, State.ctx_setCtx_self, State.setCtx_setCtx]
  exact ⟨_, rfl, rfl, State.ctx_setCtx_self _ _ _, rfl⟩

/-! ### MARKPOS and RNGSAVE -/

/-- The record of the position that MARKPOS stores: the evaluation's inside an evaluation, else the training's (R139). -/
def State.markRecord (s : State) (c : Cid) : List Byte :=
  posRecord (if (s.ctx c).prog.evalFlag then (s.smp c).eval else (s.smp c).train) (s.posFlags c (s.ctx c).prog.evalFlag)

section
variable (issues : s.Issues c) (single : s.joined c = false) (enc : Enc.atSa w = true) (settled : (s.ctx c).Settled [w.f 53 49])
include issues single enc settled

theorem exec_markpos : exec (.markpos c w) s = .next (s.storeRecord c w (s.markRecord c)) := by
  have lead : s.lead c = c := by simp [State.lead, single]
  show execMarkpos c w s = _
  rw [execMarkpos, s.seqRun_issues c _ _ _ issues enc settled, s.crossRun_one c _ _ _ single]
  simp only [lead]
  rfl

/-- RNGSAVE in an evaluation (R139). -/
theorem exec_rngsave_evaluates (inside : (s.ctx c).prog.evalFlag = true) : exec (.rngsave c w) s = .next (s.seqFault c Ev.EVAL_ILLEGAL) := by
  show execRngsave c w s = _
  rw [execRngsave, s.seqRun_issues c _ _ _ issues enc settled, s.crossRun_one c _ _ _ single]
  exact congrArg _ (s.checked_fault c _ _ _ (by rw [inside]; rfl))

/-- RNGSAVE stores the seed, the step, the evaluation count and no flag. -/
theorem exec_rngsave (outside : (s.ctx c).prog.evalFlag = false) :
    exec (.rngsave c w) s = .next (s.storeRecord c w (s.ctxRngRecord c (s.ctx c).prog)) := by
  show execRngsave c w s = _
  rw [execRngsave, s.seqRun_issues c _ _ _ issues enc settled, s.crossRun_one c _ _ _ single]
  exact congrArg _ (s.checked_ok c _ _ (by rw [outside]; rfl))

end

/-- The words of a random-call record of a context that is not joined and not in an evaluation. -/
theorem State.ctxRngRecord_eq (single : s.joined c = false) {p : ProgState} (outside : p.evalFlag = false) :
    s.ctxRngRecord c p = bytesOf 8 (s.fld Fld.SEQ_CTX_SEED_SEED c.val % 2 ^ 64) ++ bytesOf 8 p.step.toNat ++ bytesOf 8 p.evalCnt.toNat ++
      bytesOf 8 0 := by
  have lead : s.lead c = c := by simp [State.lead, single]
  have widen (v : BitVec 63) : (v.setWidth 64).toNat = v.toNat := BitVec.toNat_setWidth_of_le (by decide)
  rw [State.ctxRngRecord, rngRecord, lead, widen, widen, outside, BitVec.toNat_ofNat]
  rfl

/-- Settles O38: both records by `State.storeRecord`, which stores where `ctxAddr` finds a place. -/
theorem recordsAreStored : Obligations.RecordsAreStored := by
  unfold Obligations.RecordsAreStored
  intro c w s issues single enc settled
  have mark := exec_markpos issues single enc settled
  have save := exec_rngsave issues single enc settled
  have markLength : (s.markRecord c).length = 64 := posRecord_length _ _
  have saveLength := s.ctxRngRecord_length c (s.ctx c).prog
  refine ⟨fun out => ?_, exec_rngsave_evaluates issues single enc settled, fun outside out => ?_, fun clean idle => ⟨fun b place => ?_,
    fun outside b place => ?_⟩⟩
  · rw [mark, State.storeRecord_faults (by rw [markLength]; exact out)]
  · rw [save outside, State.storeRecord_faults (by rw [saveLength]; exact out)]
  · obtain ⟨t, stored, rest⟩ := State.storeRecord_stores single clean idle (by rw [markLength]; exact place)
    rw [stored] at mark
    rw [State.markRecord, posRecord] at rest
    exact ⟨t, mark, rest⟩
  · obtain ⟨t, stored, rest⟩ := State.storeRecord_stores single clean idle (by rw [saveLength]; exact place)
    rw [State.ctxRngRecord_eq single outside] at rest
    exact ⟨t, by rw [save outside, stored], rest⟩

end Sys2Proof.Machine
end

section
/-! Trace rings (R639, R642, R645): what a record leaves in a ring of device memory, one record or a run of them. -/

namespace Sys2Proof.Machine

/-! ### Bytes -/

/-- A run of writes in two parts. -/
theorem SMap.putList_append {α : Type} [DecidableEq α] (m : SMap α) (d : α) (k : Nat) (a b : List α) :
    SMap.putList m d k (a ++ b) = SMap.putList (SMap.putList m d k a) d (k + a.length) b := by
  induction a generalizing m k with
  | nil => rfl
  | cons v a ih =>
    rw [List.cons_append, SMap.putList, SMap.putList, ih, List.length_cons, Nat.add_right_comm, Nat.add_assoc]

/-- A slice inside a list. -/
theorem sliceB_eq (l : List Byte) (lo n : Nat) (h : lo + n ≤ l.length) : sliceB l lo n = (l.drop lo).take n := by
  refine List.ext_getElem (by simp [sliceB]; omega) fun i hi _ => ?_
  have lt : i < n := by simpa [sliceB] using hi
  simp [sliceB, List.getElem?_eq_getElem (show lo + i < l.length by omega)]

/-- The records of a message hold its data. -/
theorem recordsOf_flatten (l : List Byte) (n : Nat) (h : l.length = 32 * n) : (recordsOf l).flatten = l := by
  have parts (k : Nat) (le : k ≤ n) : ((List.range k).map fun i => sliceB l (32 * i) 32).flatten = l.take (32 * k) := by
    induction k with
    | zero => rfl
    | succ k ih =>
      rw [List.range_succ, List.map_append, List.flatten_append, ih (by omega), Nat.mul_succ, List.take_add, List.map_singleton,
        List.flatten_singleton, sliceB_eq l _ _ (by omega)]
  rw [recordsOf, show l.length / 32 = n by omega, parts n (Nat.le_refl n), ← h, List.take_length]

theorem recordsOf_length (l : List Byte) : (recordsOf l).length = l.length / 32 := by simp [recordsOf]

theorem length_of_mem_recordsOf {l r : List Byte} (h : r ∈ recordsOf l) : r.length = 32 := by
  obtain ⟨k, -, rfl⟩ := List.mem_map.mp h
  simp [sliceB]

section
variable (time : Word) (src : Src) (c : Option Cid) (typ : Nat) (no : BitVec 32) (payload : List Byte)

/-- A trace record has 32 bytes (R640). -/
theorem traceBytes_length : (traceBytes time src c typ no payload).length = 32 := by simp [traceBytes, sliceB]

/-- Its type stands in byte 11. -/
theorem traceBytes_type : (traceBytes time src c typ no payload).getD 11 0 = BitVec.ofNat 8 typ := by
  have eight := bytesOf_length 8 time.toNat
  rw [traceBytes, List.append_assoc, List.append_assoc, List.getD_append_right _ _ _ _ (by omega), eight]
  rfl

end

/-! ### One record (R639, R642) -/

section
variable {s : State} {h : HubId}

/-- The ring's place moves on past a record: at its end it goes round, or the ring is full. -/
def State.ringMoved (s : State) (h : HubId) : State :=
  if s.fld Fld.DBG_TR_PTR_NEXT h.val + 1 < s.ringLen then s.setFld Fld.DBG_TR_PTR_NEXT (s.fld Fld.DBG_TR_PTR_NEXT h.val + 1) h.val
  else if s.flag Fld.DBG_TR_CFG_STOPFULL then (s.setFld Fld.DBG_TR_PTR_NEXT 0 h.val).setFld Fld.DBG_TR_PTR_FULL 1 h.val
  else (s.setFld Fld.DBG_TR_PTR_NEXT 0 h.val).setFld Fld.DBG_TR_PTR_WRAPPED 1 h.val

/-- Where a hub's next record goes. -/
def State.ringPlace (s : State) (h : HubId) : Nat := s.rgnBase (252 + h.val) + 32 * s.fld Fld.DBG_TR_PTR_NEXT h.val

/-- A ring of no length, or a full one, loses a record. -/
theorem State.ringPut_loses (lost : s.ringLen = 0 ∨ s.fld Fld.DBG_TR_PTR_FULL h.val = 1) (r : List Byte) :
    s.ringPut h.val r = s.bump Fld.DBG_TR_PTR_LOST 1 h.val :=
  if_pos (by simpa [State.flag] using lost)

section
variable (clean : s.memErr = []) (idle : s.injectWord = none) (len : s.ringLen ≠ 0) (room : s.fld Fld.DBG_TR_PTR_FULL h.val ≠ 1)
include clean idle len room

/-- Any other takes it into memory. -/
theorem State.ringPut_writes (r : List Byte) :
    ∃ d, s.ringPut h.val r = ({ s with mem := SMap.putList s.mem 0 (s.ringPlace h) r, dbg := d } : State).ringMoved h := by
  obtain ⟨d, written⟩ := s.memWrite_clean (s.ringPlace h) r clean idle
  refine ⟨d, ?_⟩
  unfold State.ringPut
  rw [if_neg (by simpa [State.flag, len] using room)]
  dsimp only
  rw [show s.memWrite (s.rgnBase (252 + h.val) + 32 * s.fld Fld.DBG_TR_PTR_NEXT h.val) r = _ from written]
  rfl

end

theorem State.ringMoved_frame (s : State) (h : HubId) : ∃ g, s.ringMoved h = { s with regs := g } := by
  unfold State.ringMoved
  split
  · exact ⟨_, rfl⟩
  · split <;> exact ⟨_, rfl⟩

/-- Two fields of one register have cells of their own. -/
theorem Fld.key_ne_of_lo {F G : Fld} (i k : Nat) (lowF : F.lo < 64) (lowG : G.lo < 64) (h : F.lo ≠ G.lo) : F.key i 0 ≠ G.key k 0 := by
  intro e
  simp only [Fld.key] at e
  omega

theorem State.ringMoved_next (fits : s.ringLen ≤ 2 ^ 25) (more : s.fld Fld.DBG_TR_PTR_NEXT h.val + 1 < s.ringLen) :
    (s.ringMoved h).fld Fld.DBG_TR_PTR_NEXT h.val = s.fld Fld.DBG_TR_PTR_NEXT h.val + 1 := by
  rw [State.ringMoved, if_pos more, State.fld_setFld_self _ _ _ _ _ (by decide)]
  exact Nat.mod_eq_of_lt (show _ < 2 ^ 25 by omega)

/-- At its end the ring begins again, and it is full if it stops there. -/
theorem State.ringMoved_end (last : s.ringLen ≤ s.fld Fld.DBG_TR_PTR_NEXT h.val + 1) :
    (s.ringMoved h).fld Fld.DBG_TR_PTR_NEXT h.val = 0 ∧
      (s.fld Fld.DBG_TR_CFG_STOPFULL = 1 → (s.ringMoved h).fld Fld.DBG_TR_PTR_FULL h.val = 1) ∧
      (s.fld Fld.DBG_TR_CFG_STOPFULL ≠ 1 → (s.ringMoved h).fld Fld.DBG_TR_PTR_WRAPPED h.val = 1) := by
  have zero (F : Fld) (low : F.lo < 64) (apart : Fld.DBG_TR_PTR_NEXT.lo ≠ F.lo) (v : Nat) :
      ((s.setFld Fld.DBG_TR_PTR_NEXT 0 h.val).setFld F v h.val).fld Fld.DBG_TR_PTR_NEXT h.val = 0 := by
    rw [State.fld_setFld_ne _ _ _ _ _ _ _ _ (Fld.key_ne_of_lo _ _ (by decide) low apart), State.fld_setFld_self _ _ _ _ _ (by decide)]
    rfl
  rw [State.ringMoved, if_neg (by omega)]
  cases stop : s.flag Fld.DBG_TR_CFG_STOPFULL with
  | true =>
    refine ⟨zero _ (by decide) (by decide) 1, fun _ => State.fld_setFld_self _ _ _ _ _ (by decide), fun no => absurd ?_ no⟩
    simpa [State.flag] using stop
  | false =>
    refine ⟨zero _ (by decide) (by decide) 1, fun yes => ?_, fun _ => State.fld_setFld_self _ _ _ _ _ (by decide)⟩
    simp [State.flag, yes] at stop

/-! ### A run of records (R645) -/

/-- The ring takes `k` records more before its end, and nothing disturbs its writes. -/
structure State.RingRoom (s : State) (h : HubId) (k : Nat) : Prop where
  clean : s.memErr = []
  idle : s.injectWord = none
  fits : s.ringLen ≤ 2 ^ 25
  notFull : s.fld Fld.DBG_TR_PTR_FULL h.val ≠ 1
  room : s.fld Fld.DBG_TR_PTR_NEXT h.val + k < s.ringLen

/-- From `s` to `t` the bytes `b`, `n` records, have gone into the ring of a hub. -/
structure State.RingTakes (s : State) (h : HubId) (n : Nat) (b : List Byte) (t : State) : Prop where
  mem : t.mem = SMap.putList s.mem 0 (s.ringPlace h) b
  memErr : t.memErr = s.memErr
  hubs : t.hubs = s.hubs
  ctxs : t.ctxs = s.ctxs
  next : t.fld Fld.DBG_TR_PTR_NEXT h.val = s.fld Fld.DBG_TR_PTR_NEXT h.val + n
  base : t.rgnBase (252 + h.val) = s.rgnBase (252 + h.val)

theorem State.RingTakes.hub {n : Nat} {b : List Byte} {t : State} (takes : s.RingTakes h n b t) (k : HubId) : t.hub k = s.hub k := by
  rw [State.hub, State.hub, takes.hubs]

/-- The cells that a ring's place does not touch as it moves on. -/
theorem State.ringMoved_fld (F : Fld) (a : Nat) (more : s.fld Fld.DBG_TR_PTR_NEXT h.val + 1 < s.ringLen) (ha : a < 256)
    (apart : Fld.DBG_TR_PTR_NEXT.apart 4 1 F = true) : (s.ringMoved h).fld F a = s.fld F a := by
  rw [State.ringMoved, if_pos more]
  exact s.fld_setFld_ne _ _ _ _ _ _ _ (Fld.key_ne_of_apart apart h.isLt (by decide) ha).symm

/-- A ring with room takes one record and has room for the others. -/
theorem State.RingRoom.put {k : Nat} (ready : s.RingRoom h (k + 1)) (r : List Byte) :
    (s.ringPut h.val r).RingRoom h k ∧ s.RingTakes h 1 r (s.ringPut h.val r) := by
  obtain ⟨clean, idle, fits, notFull, room⟩ := ready
  obtain ⟨d, e⟩ := State.ringPut_writes clean idle (by omega) notFull r
  have more : s.fld Fld.DBG_TR_PTR_NEXT h.val + 1 < s.ringLen := by omega
  let u : State := { s with mem := SMap.putList s.mem 0 (s.ringPlace h) r, dbg := d }
  have kept (F : Fld) (a : Nat) (ha : a < 256) (apart : Fld.DBG_TR_PTR_NEXT.apart 4 1 F = true) :
      (s.ringPut h.val r).fld F a = s.fld F a := by
    rw [e]
    exact State.ringMoved_fld (s := u) F a more ha apart
  have next : (s.ringPut h.val r).fld Fld.DBG_TR_PTR_NEXT h.val = s.fld Fld.DBG_TR_PTR_NEXT h.val + 1 := by
    rw [e]
    exact State.ringMoved_next (s := u) fits more
  have full := kept Fld.DBG_TR_PTR_FULL h.val (by omega) (by decide)
  have base := kept Fld.MEM_RGN_A_BASE (252 + h.val) (by omega) (by decide)
  have inject : (s.ringPut h.val r).injectWord = s.injectWord := State.injectWord_congr fun F hF => kept F 0 (by decide) (by
    revert F
    decide)
  obtain ⟨g, moved⟩ := u.ringMoved_frame h
  have frame : s.ringPut h.val r = { u with regs := g } := e.trans moved
  have len : (s.ringPut h.val r).ringLen = s.ringLen := by rw [frame]; rfl
  refine ⟨⟨by rw [frame]; exact clean, inject.trans idle, len ▸ fits, full ▸ notFull, by rw [next, len]; omega⟩,
    by rw [frame], by rw [frame], by rw [frame], by rw [frame], next, by rw [State.rgnBase, State.rgnBase, base]⟩

/-- A ring with room takes a run of records. -/
theorem State.RingRoom.run (l : List (List Byte)) (size : ∀ r ∈ l, r.length = 32) (ready : s.RingRoom h l.length) :
    s.RingTakes h l.length l.flatten (l.foldl (fun s r => s.ringPut h.val r) s) := by
  induction l generalizing s with
  | nil => exact ⟨rfl, rfl, rfl, rfl, rfl, rfl⟩
  | cons r l ih =>
    obtain ⟨left, one⟩ := ready.put r
    have rest := ih (fun q hq => size q (List.mem_cons_of_mem _ hq)) left
    have place : (s.ringPut h.val r).ringPlace h = s.ringPlace h + r.length := by
      rw [State.ringPlace, State.ringPlace, one.base, one.next, size r (List.mem_cons_self ..)]
      omega
    rw [List.foldl_cons, List.flatten_cons, List.length_cons]
    refine ⟨?_, rest.memErr.trans one.memErr, rest.hubs.trans one.hubs, rest.ctxs.trans one.ctxs, ?_, rest.base.trans one.base⟩
    · rw [rest.mem, one.mem, place, SMap.putList_append]
    · rw [rest.next, one.next]
      omega

end

end Sys2Proof.Machine
end

section
/-! TRACE_RECORD_WRITE and REMOTE_TRACE (R639, R642, R645). -/

namespace Sys2Proof.Machine

section
variable {s : State} {h : HubId}

/-! ### TRACE_RECORD_WRITE -/

/-- The hub's buffer has gone out. -/
def State.bufferGone (s : State) (h : HubId) : State := s.setHub h { s.hub h with trBuf := [], trDropped := 0 }

@[simp] theorem State.setHub_setHub (s : State) (h : HubId) (x y : Hub) : (s.setHub h x).setHub h y = s.setHub h y := by
  simp only [State.setHub, SMap.put_put]

/-- A hub that is off, or has nothing to write, keeps its records. -/
theorem exec_traceRecordWrite_rests (rest : s.domOn (44 + h.val) = false ∨ (s.hub h).trBuf = [] ∧ (s.hub h).trDropped = 0) :
    exec (.traceRecordWrite h) s = .next (s.setHub h (s.hub h)) := by
  show execTraceRecordWrite h s = _
  unfold execTraceRecordWrite
  dsimp only
  rw [if_pos, State.setHub_setHub]
  rcases rest with off | ⟨buffer, dropped⟩
  · rw [Bool.or_eq_true]
    exact .inl (congrArg Bool.not off)
  · simp [State.lostRecord, buffer, dropped]

/-- What a hub does with a buffer that has lost nothing: hub 0 sends it on where it is told to, any other writes it into its ring. -/
theorem exec_traceRecordWrite_gives (on : s.domOn (44 + h.val) = true) (kept : (s.hub h).trDropped = 0) (some' : (s.hub h).trBuf ≠ []) :
    exec (.traceRecordWrite h) s = .next (
      if h = 0 ∧ s.fld Fld.DBG_TR_CFG_REMOTE = 1 then
        (s.bufferGone h).sendMsg ((s.bufferGone h).msg (BitVec.ofNat 17 (s.fld Fld.DBG_TR_CFG_DEST)) 6 10 [] (s.hub h).trBuf.flatten)
      else (s.hub h).trBuf.foldl (fun s r => s.ringPut h.val r) (s.bufferGone h)) := by
  have lost : s.lostRecord h = [] := if_pos kept
  have stay : (!(s.bufferGone h).domOn (44 + h.val) || (s.hub h).trBuf.isEmpty) = false := by
    rw [show (s.bufferGone h).domOn (44 + h.val) = true from on]
    simpa using some'
  have remote : (decide (h = 0) && (s.bufferGone h).flag Fld.DBG_TR_CFG_REMOTE) = decide (h = 0 ∧ s.fld Fld.DBG_TR_CFG_REMOTE = 1) :=
    (Bool.decide_and _ _).symm
  have gone : s.setHub h { s.hub h with trBuf := [], trDropped := 0, trNo := (s.hub h).trNo } = s.bufferGone h := rfl
  show execTraceRecordWrite h s = _
  unfold execTraceRecordWrite
  simp only [lost, List.isEmpty_nil, if_true, List.append_nil, gone, stay, remote, decide_eq_true_eq, Bool.false_eq_true, if_false]
  rfl

/-- A hub's only record goes into its ring, or is lost. -/
theorem exec_traceRecordWrite_single (on : s.domOn (44 + h.val) = true) (kept : (s.hub h).trDropped = 0) {r : List Byte}
    (buffer : (s.hub h).trBuf = [r]) (near : ¬ (h = 0 ∧ s.fld Fld.DBG_TR_CFG_REMOTE = 1)) :
    exec (.traceRecordWrite h) s = .next ((s.bufferGone h).ringPut h.val r) := by
  rw [exec_traceRecordWrite_gives on kept (by rw [buffer]; exact List.cons_ne_nil _ _), if_neg near, buffer]
  rfl

/-- What a message of the device to an identity that it accepts leaves (R410). -/
theorem State.sendMsg_accepted {m : FMsg} (own : Option Cid) (accepted : s.accepts m.dst = true) :
    ∃ p, s.sendMsg m own = { s with fab := { s.fab with sent := s.fab.sent ++ [{ m with plane := p }] } } :=
  ⟨s.pickPlane m, if_pos accepted⟩

end

/-! ### REMOTE_TRACE -/

section
variable {s : State} {msg : FMsg}

/-- A message's source is one whose records the device takes (R645). -/
def State.TakesTrace (s : State) (msg : FMsg) : Prop :=
  s.fld Fld.DBG_TR_CFG_ACCEPT = 1 ∧ msg.src &&& BitVec.ofNat 17 (s.fld Fld.DBG_TR_CFG_AMASK) =
    BitVec.ofNat 17 (s.fld Fld.DBG_TR_CFG_ASRC) &&& BitVec.ofNat 17 (s.fld Fld.DBG_TR_CFG_AMASK)

theorem exec_remoteTrace_elsewhere (away : s.delivered 10 msg = false) : exec (.remoteTrace msg) s = .next s := by
  show execRemoteTrace msg s = _
  simp [execRemoteTrace, away]

/-- The records of another source are lost. -/
theorem exec_remoteTrace_refuses (here : s.delivered 10 msg = true) (other : ¬ s.TakesTrace msg) :
    exec (.remoteTrace msg) s = .next (s.bump Fld.DBG_TR_PTR_LOST 1 0) := by
  show execRemoteTrace msg s = _
  unfold execRemoteTrace
  dsimp only
  rw [here, if_neg (by decide), if_neg]
  simpa [State.flag, State.TakesTrace] using other

/-- The block record before the records of a message. -/
def State.blockRecord (s : State) (msg : FMsg) : List Byte :=
  traceBytes s.time.ns srcSurface none 0xC (s.hub 0).trNo (bytesOf 4 msg.src.toNat ++ bytesOf 2 (recordsOf msg.data).length)

theorem exec_remoteTrace_takes (here : s.delivered 10 msg = true) (ours : s.TakesTrace msg) :
    exec (.remoteTrace msg) s = .next ((s.blockRecord msg :: recordsOf msg.data).foldl (fun s r => s.ringPut 0 r)
      (s.setHub 0 { s.hub 0 with trNo := (s.hub 0).trNo + 1 })) := by
  show execRemoteTrace msg s = _
  unfold execRemoteTrace
  dsimp only
  rw [here, if_neg (by decide), if_pos]
  · rfl
  · simpa [State.flag, State.TakesTrace] using ours

/-- Where the ring has room for the block record and the `n` records of a message, memory holds them one after another. -/
theorem exec_remoteTrace_writes (here : s.delivered 10 msg = true) (ours : s.TakesTrace msg) {n : Nat} (size : msg.data.length = 32 * n)
    (ready : s.RingRoom 0 (1 + n)) :
    ∃ t, exec (.remoteTrace msg) s = .next t ∧ t.fld Fld.DBG_TR_PTR_NEXT 0 = s.fld Fld.DBG_TR_PTR_NEXT 0 + (1 + n) ∧
      (t.hub 0).trNo = (s.hub 0).trNo + 1 ∧ t.mem = SMap.putList s.mem 0 (s.ringPlace 0) (s.blockRecord msg ++ msg.data) ∧ t.memErr = [] := by
  have count : (s.blockRecord msg :: recordsOf msg.data).length = 1 + n := by
    rw [List.length_cons, recordsOf_length, size]
    omega
  have all : ∀ r ∈ s.blockRecord msg :: recordsOf msg.data, r.length = 32 := by
    intro r hr
    rcases List.mem_cons.mp hr with rfl | hr
    · exact traceBytes_length _ _ _ _ _ _
    · exact length_of_mem_recordsOf hr
  have ready' : (s.setHub 0 { s.hub 0 with trNo := (s.hub 0).trNo + 1 }).RingRoom 0 (s.blockRecord msg :: recordsOf msg.data).length := by
    rw [count]
    exact ⟨ready.clean, ready.idle, ready.fits, ready.notFull, ready.room⟩
  have takes := ready'.run _ all
  refine ⟨_, exec_remoteTrace_takes here ours, ?_, ?_, ?_, takes.memErr.trans ready.clean⟩
  · rw [← count]
    exact takes.next
  · exact (congrArg Hub.trNo (takes.hub 0)).trans (congrArg Hub.trNo (s.hub_setHub_self 0 _))
  · have mem := takes.mem
    rwa [List.flatten_cons, recordsOf_flatten _ _ size] at mem

/-- What a byte of memory reads after a run of bytes is written. -/
theorem State.memByte_written {t : State} {a : Nat} {b : List Byte} (written : t.mem = SMap.putList s.mem 0 a b) (clean : t.memErr = [])
    (before : s.memErr = []) (k : Nat) : t.memByte k = if a ≤ k ∧ k < a + b.length then b.getD (k - a) 0 else s.memByte k := by
  rw [t.memByte_clean k clean, s.memByte_clean k before, written, SMap.val_putList]

/-- The bytes of a block record and the data behind it, as memory holds them. -/
theorem State.memByte_block {t : State} {a n : Nat} (size : msg.data.length = 32 * n)
    (written : t.mem = SMap.putList s.mem 0 a (s.blockRecord msg ++ msg.data)) (clean : t.memErr = []) (before : s.memErr = []) :
    (∀ k, k < 32 * n → t.memByte (a + 32 + k) = msg.data.getD k 0) ∧ t.memByte (a + 11) = 0xC ∧
      ∀ k, k < a ∨ a + 32 * (1 + n) ≤ k → t.memByte k = s.memByte k := by
  have block : (s.blockRecord msg).length = 32 := traceBytes_length _ _ _ _ _ _
  have byte := State.memByte_written written clean before
  rw [List.length_append, block, size] at byte
  refine ⟨fun k hk => ?_, ?_, fun k hk => ?_⟩
  · rw [byte, if_pos (by omega), List.getD_append_right _ _ _ _ (by omega), block]
    congr 1
    omega
  · rw [byte, if_pos (by omega), List.getD_append _ _ _ _ (by omega), Nat.add_sub_cancel_left]
    exact traceBytes_type _ _ _ _ _ _
  · rw [byte, if_neg (by omega)]

end

end Sys2Proof.Machine
end

section
/-! The clauses of the statement on trace (R639, R642, R645). -/

namespace Sys2Proof.Machine

variable {s : State}

section
variable {h : HubId} (clean : s.memErr = []) (idle : s.injectWord = none)
include clean idle

/-- A record's way into a ring changes memory, its count of lines and registers. -/
theorem State.ringPut_frame (r : List Byte) : ∃ m d g, s.ringPut h.val r = { s with mem := m, dbg := d, regs := g } := by
  by_cases lost : s.ringLen = 0 ∨ s.fld Fld.DBG_TR_PTR_FULL h.val = 1
  · exact ⟨s.mem, s.dbg, _, State.ringPut_loses lost r⟩
  · rw [not_or] at lost
    obtain ⟨d, e⟩ := State.ringPut_writes clean idle lost.1 lost.2 r
    obtain ⟨g, moved⟩ := State.ringMoved_frame { s with mem := SMap.putList s.mem 0 (s.ringPlace h) r, dbg := d } h
    exact ⟨_, d, g, e.trans moved⟩

/-- What one record does to a ring: it is lost, or memory takes it and the ring moves on. -/
theorem State.ringPut_record (fits : s.ringLen ≤ 2 ^ 25) (r : List Byte) :
    (s.ringLen = 0 ∨ s.fld Fld.DBG_TR_PTR_FULL h.val = 1 →
      s.Counted (s.ringPut h.val r) Fld.DBG_TR_PTR_LOST 1 h.val ∧ (s.ringPut h.val r).mem = s.mem) ∧
    (s.ringLen ≠ 0 → s.fld Fld.DBG_TR_PTR_FULL h.val ≠ 1 →
      (s.ringPut h.val r).mem = SMap.putList s.mem 0 (s.ringPlace h) r ∧
      (s.fld Fld.DBG_TR_PTR_NEXT h.val + 1 < s.ringLen →
        (s.ringPut h.val r).fld Fld.DBG_TR_PTR_NEXT h.val = s.fld Fld.DBG_TR_PTR_NEXT h.val + 1) ∧
      (s.ringLen ≤ s.fld Fld.DBG_TR_PTR_NEXT h.val + 1 → (s.ringPut h.val r).fld Fld.DBG_TR_PTR_NEXT h.val = 0 ∧
        (s.fld Fld.DBG_TR_CFG_STOPFULL = 1 → (s.ringPut h.val r).fld Fld.DBG_TR_PTR_FULL h.val = 1) ∧
        (s.fld Fld.DBG_TR_CFG_STOPFULL ≠ 1 → (s.ringPut h.val r).fld Fld.DBG_TR_PTR_WRAPPED h.val = 1))) := by
  refine ⟨fun lost => ?_, fun len room => ?_⟩
  · rw [State.ringPut_loses lost r]
    exact ⟨s.bump_counted _ _ _ _ (by decide), rfl⟩
  · obtain ⟨d, e⟩ := State.ringPut_writes clean idle len room r
    rw [e]
    refine ⟨?_, State.ringMoved_next (s := { s with mem := SMap.putList s.mem 0 (s.ringPlace h) r, dbg := d }) fits,
      State.ringMoved_end (s := { s with mem := SMap.putList s.mem 0 (s.ringPlace h) r, dbg := d })⟩
    obtain ⟨g, moved⟩ := State.ringMoved_frame { s with mem := SMap.putList s.mem 0 (s.ringPlace h) r, dbg := d } h
    rw [moved]

end

end Sys2Proof.Machine
end

section
/-! What the end of a joined context's segment leaves beside the contexts (R121, R649): the token, time, debug, events and the count of
splits; and what an all-stop does that a command takes. -/

namespace Sys2Proof.Machine

/-! ### Parts that dropped work does not touch -/

/-- From `s` to `t` work has been dropped: the token, time, debug, events and the count of splits are as they were. -/
structure State.Drops (s t : State) : Prop where
  token : t.token = s.token
  time : t.time = s.time
  dbg : t.dbg = s.dbg
  llx : t.llx = s.llx
  splits : t.fld Fld.SEQ_CHARGE_SPLITS = s.fld Fld.SEQ_CHARGE_SPLITS

/-- The parts of the state that these are read from. -/
def State.charged (s : State) : Token × Time × Dbg × Llx × SMap Word × Variant := (s.token, s.time, s.dbg, s.llx, s.regs, s.variant)

namespace State.Drops

variable {s t u : State}

theorem of_charged (h : t.charged = s.charged) : s.Drops t := by
  simp only [State.charged, Prod.mk.injEq] at h
  obtain ⟨token, time, dbg, llx, regs, variant⟩ := h
  exact ⟨token, time, dbg, llx, by rw [State.fld, State.fld, regs, variant]⟩

theorem refl (s : State) : s.Drops s := of_charged rfl

theorem trans (h : s.Drops t) (k : t.Drops u) : s.Drops u :=
  ⟨k.token.trans h.token, k.time.trans h.time, k.dbg.trans h.dbg, k.llx.trans h.llx, k.splits.trans h.splits⟩

/-- Steps that drop work one after another. -/
theorem foldl {α : Type} (f : State → α → State) (h : ∀ (t : State) a, t.Drops (f t a)) (l : List α) (s : State) : s.Drops (l.foldl f s) :=
  foldl_rel State.Drops refl (fun _ _ _ => trans) f l h s

theorem ite {c : Prop} [Decidable c] (h : s.Drops t) (k : s.Drops u) : s.Drops (if c then t else u) := by
  split
  · exact h
  · exact k

end State.Drops

section
variable (s : State)

theorem State.setQue_drops (h : HubId) (q : QueueId) (x : Queue) : s.Drops (s.setQue h q x) := .of_charged rfl
theorem State.setHub_drops (h : HubId) (x : Hub) : s.Drops (s.setHub h x) := .of_charged rfl
theorem State.setStn_drops (i : StationId) (x : Station) : s.Drops (s.setStn i x) := .of_charged rfl
theorem State.setHnd_drops (h : HandleId) (x : Handle) : s.Drops (s.setHnd h x) := .of_charged rfl
theorem State.setSmp_drops (c : Cid) (x : Sampler) : s.Drops (s.setSmp c x) := .of_charged rfl
theorem State.dropNo_drops (no : Nat) : s.Drops (s.dropNo no) := .of_charged rfl
theorem State.startPurge_drops (h : HandleId) (keep : Bool) : s.Drops (s.startPurge h keep) := .of_charged rfl
theorem State.takeFree_drops : s.Drops s.takeFree.2 := .of_charged rfl
theorem State.coefDrop_drops (c : Cid) : s.Drops (s.coefDrop c) := .of_charged rfl

/-- A counter of another register. -/
theorem State.bump_drops (F : Fld) (k n m : Nat) {i j : Nat} (apart : F.apart n m Fld.SEQ_CHARGE_SPLITS = true) (hi : i < n) (hj : j < m) :
    s.Drops (s.bump F k i j) :=
  ⟨rfl, rfl, rfl, rfl, s.fld_bump_ne _ _ _ _ _ _ _ (Fld.key_ne_of_apart apart hi hj (by decide)).symm⟩

theorem State.modBoth_drops (c : Cid) (f : Ctx → Ctx) : s.Drops (s.modBoth c f) := by
  obtain ⟨x, e⟩ := s.modBoth_frame c f
  rw [e]
  exact .of_charged rfl

theorem State.settleProv_drops : s.Drops s.settleProv := by
  obtain ⟨h, e⟩ := s.settleProv_frame
  rw [e]
  exact .of_charged rfl

/-- The counts of a stream that is dropped (R289). -/
theorem State.streamCounts_drops (h : HubId) (q : QueueId) :
    s.Drops (((s.bump Fld.HAUL_Q_STATUS_GEN 1 h.val q.val).bump Fld.HAUL_Q_CNT_CANCELS 1 h.val q.val).bump Fld.HAUL_HUB_DISCARD_STREAMS 1 h.val) :=
  ((s.bump_drops Fld.HAUL_Q_STATUS_GEN 1 4 16 (by decide) h.isLt q.isLt).trans
    (State.bump_drops _ Fld.HAUL_Q_CNT_CANCELS 1 4 16 (by decide) h.isLt q.isLt)).trans
    (State.bump_drops _ Fld.HAUL_HUB_DISCARD_STREAMS 1 4 1 (by decide) h.isLt (by decide))

theorem State.dropStream_drops (h : HubId) (q : QueueId) : s.Drops (s.dropStream h q) := by
  unfold State.dropStream
  dsimp only
  split
  · exact .refl s
  · refine .trans ?_ (State.streamCounts_drops _ h q)
    exact ((s.setQue_drops h q _).trans (State.setHub_drops _ h _)).trans (State.dropNo_drops _ _)

theorem State.dropShadow_drops (h : HubId) (q : QueueId) : s.Drops (s.dropShadow h q) := by
  unfold State.dropShadow
  dsimp only
  split
  · exact .refl s
  · exact .trans ((s.setQue_drops h q _).trans (State.dropNo_drops _ _)) (State.streamCounts_drops _ h q)

theorem State.dropStreams_drops (c : Cid) (p : Stream → Bool) : s.Drops (s.dropStreams c p) := by
  refine .foldl _ (fun t q => ?_) _ s
  have shadow (b : Bool) : t.Drops (if b then t.dropShadow q.1 q.2 else t) := .ite (t.dropShadow_drops _ _) (.refl t)
  exact (shadow _).trans (.ite (State.dropStream_drops _ _ _) (.refl _))

theorem State.laneWords_drops (words : Nat) (n : StationId × Bool) : s.Drops (State.laneWords words s n) :=
  .ite (s.bump_drops Fld.RING_LANE_CNT_OUTBYE words 96 1 (by decide) n.1.isLt (by decide))
    (s.bump_drops Fld.RING_LANE_CNT_INBYE words 96 1 (by decide) n.1.isLt (by decide))

theorem State.passCut_drops (p : Pass) (words : Nat) : s.Drops (s.passCut p words) := by
  refine foldl_rel (fun a b : State × Nat => a.1.Drops b.1) (fun a => .refl a.1) (fun _ _ _ => .trans) _ _ (fun x n => ?_) (s, words)
  exact x.1.takeFree_drops.trans (State.laneWords_drops _ _ n)

theorem State.abortCtx_drops (c : Cid) : s.Drops (s.abortCtx c) := by
  unfold State.abortCtx
  extract_lets nos s1 s2 lds s3 s4 goneR goneC goneM gone m0 m1 fab s5
  have passes : s.Drops s1 := by
    refine .foldl _ (fun t e => ?_) _ s
    split
    · exact .ite (t.passCut_drops _ _) (.refl t)
    · exact .refl t
  have banks : s1.Drops s2 := .foldl _ (fun t i => t.setStn_drops i _) _ s1
  have lists : s2.Drops s3 := .of_charged rfl
  have streams : s3.Drops s4 := s3.dropStreams_drops c _
  have units : s4.Drops s5 := by
    clear_value s4
    exact .of_charged rfl
  exact ((((passes.trans banks).trans lists).trans streams).trans units).trans (s5.modBoth_drops c _)

theorem State.cancelAhead_drops (c : Cid) : s.Drops (s.cancelAhead c) := by
  unfold State.cancelAhead
  dsimp only
  refine .trans ?_ (State.modBoth_drops _ c _)
  refine .trans ?_ (State.setSmp_drops _ _ _)
  refine .trans ?_ (State.bump_drops _ Fld.SEQ_CTX_CNT_CANCELS _ 8 1 (by decide) (s.lead c).isLt (by decide))
  exact (s.dropStreams_drops c _).trans (.foldl _ (fun t p => (t.setHnd_drops _ _).trans (State.startPurge_drops _ _ _)) _ _)

theorem State.endFlight_drops (z : Securing) : s.Drops (s.endFlight z) := by
  have ended : s.Drops (s.endNo z.no) := (s.dropNo_drops _).trans (State.settleProv_drops _)
  unfold State.endFlight
  exact .ite (ended.trans (.of_charged rfl)) (ended.trans (.of_charged rfl))

theorem State.secureDrop_drops (c : Cid) : s.Drops (s.secureDrop c) := by
  unfold State.secureDrop
  split
  · exact .ite ((s.endFlight_drops _).trans (State.bump_drops _ Fld.RLF_CNT_ABANDONED 1 1 1 (by decide) (by decide) (by decide))) (.refl s)
  · exact .refl s

/-- After the look at the budget a dropped segment raises and counts nothing that a split charge tells. -/
theorem State.dropRest_drops (c : Cid) : (s.checkBudget c).Drops (s.dropSegment c) :=
  (((State.abortCtx_drops _ c).trans (State.cancelAhead_drops _ c)).trans (State.secureDrop_drops _ c)).trans (State.coefDrop_drops _ c)

theorem State.stopWith_drops (c : Cid) (code : BitVec 16) : s.Drops (s.stopWith c code) :=
  (s.modBoth_drops c _).trans (State.modBoth_drops _ c _)

end

end Sys2Proof.Machine
end

section
/-! SPLIT_CHARGE (R121, R649): the all-stop it takes, the event it tells, the joined context it stops. -/

namespace Sys2Proof.Machine

section
variable {s : State}

/-! ### An all-stop that stands (R646, R649) -/

/-- While an all-stop stands none is taken. -/
theorem State.takeStop_standing (stop : s.dbg.stop.isSome = true) (c : Option Cid) (k : BitVec 3) : s.takeStop c k = s := by
  obtain ⟨x, e⟩ := Option.isSome_iff_exists.mp stop
  rw [State.takeStop, e]

/-- The trigger then raises nothing. -/
theorem State.trigger_standing (stop : s.dbg.stop.isSome = true) (src : Src) (c : Option Cid) (typ : Nat) :
    ∃ r h, s.trigger src c typ = { s with regs := r, hubs := h } := by
  have none' (d : Option Cid) : (s.setFld Fld.DBG_TRIG_FIRED 1).takeStop d 2 = s.setFld Fld.DBG_TRIG_FIRED 1 :=
    State.takeStop_standing (s := s.setFld Fld.DBG_TRIG_FIRED 1) stop d 2
  have fired : ∃ r h, s.setFld Fld.DBG_TRIG_FIRED 1 = { s with regs := r, hubs := h } := ⟨_, s.hubs, rfl⟩
  unfold State.trigger
  split
  · dsimp only
    split
    · obtain ⟨h, e⟩ := foldl_rel (fun a b : State => ∃ h, b = { a with hubs := h }) (fun a => ⟨a.hubs, rfl⟩)
        (fun _ _ _ ⟨_, x⟩ ⟨y, z⟩ => ⟨y, by rw [z, x]⟩)
        (fun (s : State) (h : HubId) => s.modHub h fun x => { x with trPost := some (s.fld Fld.DBG_TRIG_POST) }) (List.finRange 4)
        (fun t a => ⟨_, rfl⟩) (s.setFld Fld.DBG_TRIG_FIRED 1)
      exact ⟨_, h, e⟩
    · rw [none', ite_self]
      exact fired
    · cases c with
      | none => rw [ite_self]; exact fired
      | some d =>
        dsimp only
        rw [none', ite_self]
        exact fired
    · exact fired
  · exact ⟨s.regs, s.hubs, rfl⟩

/-- A raise while an all-stop stands leaves it. -/
theorem State.raise_standing (stop : s.dbg.stop.isSome = true) (code : BitVec 16) (src : Src) (c : Option Cid) (d : Nat) :
    ∃ l r h, s.raise code src c d = { s with llx := l, regs := r, hubs := h } := by
  obtain ⟨l, r, h, e⟩ := s.raise0_frame code src c d
  have stop0 : (s.raise0 code src c d).dbg.stop.isSome = true := by rw [e]; exact stop
  obtain ⟨r', h', e'⟩ := State.trigger_standing stop0 src c 6
  exact ⟨l, r', h', by rw [State.raise, e', e]⟩

/-! ### An all-stop that a command takes -/

/-- An all-stop is taken where none stands: DBG_ALLSTOP is raised, and the all-stop stands. -/
theorem State.takeStop_takes (free : s.dbg.stop = none) (c : Option Cid) (k : BitVec 3) :
    ∃ l r h, s.takeStop c k = { s with llx := l, regs := r, hubs := h, dbg := { s.dbg with stop := some ⟨c, k⟩ } } ∧ l.evNo = s.llx.evNo + 1 := by
  unfold State.takeStop
  rw [free]
  dsimp only
  generalize stopped : ((({ s with dbg := { s.dbg with stop := some ⟨c, k⟩ } } : State).setFld Fld.DBG_STOP_STAT_SCOPE
    (if c.isSome then 1 else 0)).setFld Fld.DBG_STOP_STAT_CAUSE k.toNat).bump Fld.DBG_STOP_STAT_STOPS = u
  obtain ⟨l, r, h, e⟩ := u.raise0_frame evDbgAllstop srcDev c 0
  obtain ⟨f, -, -, -, -, -, -, number⟩ := u.enqueue_recent evDbgAllstop srcDev c 0 0
  rw [← State.raise0_llx, e] at number
  subst stopped
  exact ⟨l, r, h, e, number⟩

/-- After the command an all-stop stands: the one that stood, or this one with one event. Nothing but events, registers and trace has
changed beside. -/
theorem State.stopNow_stands (s : State) (c : Option Cid) (k : BitVec 3) :
    ∃ l r h x, s.stopNow c k = { s with llx := l, regs := r, hubs := h, dbg := { s.dbg with stop := some x } } ∧
      (l.evNo = s.llx.evNo ∨ l.evNo = s.llx.evNo + 1) ∧ (s.dbg.stop.isSome = true → s.dbg.stop = some x) := by
  unfold State.stopNow
  cases stop : s.dbg.stop with
  | some x => exact ⟨s.llx, s.regs, s.hubs, x, (if_pos rfl).trans (by rw [← stop]), .inl rfl, fun _ => rfl⟩
  | none =>
    obtain ⟨l, r, h, e, number⟩ := State.takeStop_takes stop c k
    obtain ⟨r', h', e'⟩ := State.trigger_standing (s := s.takeStop c k) (by rw [e]; rfl) srcDev c 6
    exact ⟨l, r', h', ⟨c, k⟩, by rw [if_neg (by decide), e', e], .inr number, nofun⟩

theorem State.stopNow_keepsFlds (s : State) (c : Option Cid) (k : BitVec 3) : s.KeepsFlds (s.stopNow c k) := by
  unfold State.stopNow
  split
  · exact .refl s
  · exact (s.takeStop_keepsFlds c k).trans (State.trigger_keepsFlds _ _ _ _)

end

end Sys2Proof.Machine
end

section
/-! SPLIT_CHARGE as the whole (R121, R649), and the statement on trace and splits. -/

namespace Sys2Proof.Machine

section
variable {s : State} {w : Cid}

/-! ### Contexts that are stopped -/

theorem State.modBoth_lead (s : State) (c d : Cid) (f : Ctx → Ctx) : (s.modBoth c f).lead d = s.lead d := by
  obtain ⟨x, e⟩ := s.modBoth_frame c f
  rw [e]
  rfl

theorem State.modBoth_joined (s : State) (c d : Cid) (f : Ctx → Ctx) : (s.modBoth c f).joined d = s.joined d := by
  obtain ⟨x, e⟩ := s.modBoth_frame c f
  rw [e]
  rfl

/-- Both copies of a joined context are changed. -/
theorem State.ctx_modBoth_east (joined : s.joined w = true) (f : Ctx → Ctx) : (s.modBoth w f).ctx (east w) = f (s.ctx (east w)) := by
  rw [State.modBoth, if_pos joined, State.modCtx, State.ctx_setCtx_self, State.modCtx, State.ctx_setCtx_ne _ _ _ _ (west_ne_east w).symm]

/-- A change that leaves a context's last-bell image. -/
theorem State.modBoth_image (s : State) (c d : Cid) {f : Ctx → Ctx} (keeps : ∀ x, (f x).image = x.image) :
    ((s.modBoth c f).ctx d).image = (s.ctx d).image := by
  have one (t : State) (e : Cid) : ((t.modCtx e f).ctx d).image = (t.ctx d).image := by
    rw [State.modCtx, State.ctx_setCtx]
    split
    next same => rw [keeps, same]
    next => rfl
  unfold State.modBoth
  split
  · rw [one, one]
  · exact one _ _

theorem State.checkBudget_image (s : State) (c d : Cid) : ((s.checkBudget c).ctx d).image = (s.ctx d).image := by
  cases late : s.overBudget c with
  | false => rw [s.checkBudget_within c late]
  | true =>
    obtain ⟨l, r, h, x, raised⟩ :=
      (s.bump Fld.SEQ_CTX_CNT_OVER_BUDGET 1 (s.lead c).val).raise_frame Ev.SEG_BUDGET (srcSeq (s.lead c)) (some (s.lead c)) 0
    rw [s.checkBudget_over c late, State.modBoth_image (keeps := by exact fun _ => rfl), raised]
    rfl

/-- The end of a segment leaves the last-bell image. -/
theorem State.dropSegment_image (s : State) (c d : Cid) : ((s.dropSegment c).ctx d).image = (s.ctx d).image := by
  have ok := allSpared_lonely.ok
  obtain ⟨t, aborts, e⟩ := (s.checkBudget c).abortCtx_split ok c
  obtain ⟨u, cancels, e'⟩ := ((s.checkBudget c).abortCtx c).cancelAhead_split ok c
  have rest := (State.secureDrop_spares ok (((s.checkBudget c).abortCtx c).cancelAhead c) c).trans (State.coefDrop_spares _ c)
  calc ((s.dropSegment c).ctx d).image
      = ((((s.checkBudget c).abortCtx c).cancelAhead c).ctx d).image := congrArg Ctx.image (rest.ctx trivial d)
    _ = (((s.checkBudget c).abortCtx c).ctx d).image := by rw [e', State.modBoth_image (keeps := by exact fun _ => rfl), cancels.ctx trivial d]
    _ = ((s.checkBudget c).ctx d).image := by rw [e, State.modBoth_image (keeps := by exact fun _ => rfl), aborts.ctx trivial d]
    _ = (s.ctx d).image := s.checkBudget_image c d

theorem State.stopWith_ctx_lead (s : State) (c : Cid) (code : BitVec 16) :
    (s.stopWith c code).ctx (s.lead c) = (s.ctx (s.lead c)).stoppedBy code := by
  have tags := (s.stopCtx c code).ctx_modBoth_lead c fun x => { x with tags := x.tagImage }
  rw [State.stopCtx, State.modBoth_lead, State.ctx_modBoth_lead] at tags
  exact tags

theorem State.stopWith_ctx_east (joined : s.joined w = true) (code : BitVec 16) :
    (s.stopWith w code).ctx (east w) = (s.ctx (east w)).stoppedBy code := by
  have stops := State.ctx_modBoth_east joined (Ctx.stopped code)
  have tags := State.ctx_modBoth_east (s := s.modBoth w (Ctx.stopped code)) ((s.modBoth_joined w w _).trans joined)
    fun x => { x with tags := x.tagImage }
  rw [stops] at tags
  exact tags

/-! ### The parts of a split charge -/

/-- The all-stop of the joined context, the event and the count. -/
def State.splitTold (s : State) (w : Cid) : State :=
  ((s.stopNow (some w) 3).raise Ev.SPLIT_CHARGE srcDev (some w)).bump Fld.SEQ_CHARGE_SPLITS

/-- The joined context's segment is dropped, and the context stopped. -/
def State.splitDropped (s : State) (w : Cid) : State := ((s.splitTold w).dropSegment w).stopWith w Ev.SPLIT_CHARGE

/-- The token has no holder and no request, and its epoch is one more. -/
def State.tokenFreed (s : State) : State :=
  { s with token := { s.token with holder := none, epoch := s.token.epoch + 1, reqWest := false, reqEast := false } }

@[simp] theorem State.tokenFreed_dbg (s : State) : s.tokenFreed.dbg = s.dbg := rfl
@[simp] theorem State.tokenFreed_llx (s : State) : s.tokenFreed.llx = s.llx := rfl
@[simp] theorem State.tokenFreed_mem (s : State) : s.tokenFreed.mem = s.mem := rfl
@[simp] theorem State.tokenFreed_ctx (s : State) (c : Cid) : s.tokenFreed.ctx c = s.ctx c := rfl
@[simp] theorem State.tokenFreed_fld (s : State) (F : Fld) (i j : Nat) : s.tokenFreed.fld F i j = s.fld F i j := rfl
@[simp] theorem State.tokenFreed_holder (s : State) : s.tokenFreed.token.holder = none := rfl
@[simp] theorem State.tokenFreed_epoch (s : State) : s.tokenFreed.token.epoch = s.token.epoch + 1 := rfl

/-- The state that a split charge leaves before the all-stop is released. -/
def State.splitDone (s : State) (w : Cid) : State := (s.splitDropped w).tokenFreed

theorem exec_splitCharge_rests {c : Fin 4} (h : s.joined ⟨c.val, by omega⟩ = false ∨ (s.ctx ⟨c.val, by omega⟩).owner = false ∨
    s.busyCtx ⟨c.val, by omega⟩ = false) : exec (.splitCharge c) s = .next s := by
  have idle : (!(s.joined ⟨c.val, by omega⟩ && (s.ctx ⟨c.val, by omega⟩).owner && s.busyCtx ⟨c.val, by omega⟩)) = true := by
    rcases h with h | h | h <;> simp [h]
  show execSplitCharge c s = _
  unfold execSplitCharge
  dsimp only
  rw [if_pos idle]

theorem exec_splitCharge_splits {c : Fin 4} (hw : w = ⟨c.val, by omega⟩) (joined : s.joined w = true) (owner : (s.ctx w).owner = true)
    (busy : s.busyCtx w = true) :
    exec (.splitCharge c) s = .next (if s.dbg.stop.isNone then (s.splitDone w).restart else s.splitDone w) := by
  subst hw
  show execSplitCharge c s = _
  unfold execSplitCharge State.splitDone State.tokenFreed State.splitDropped State.splitTold
  dsimp only
  rw [if_neg (by simp [joined, owner, busy])]

/-- What is told: the all-stop stands, the event is among the newest two, and the split is counted. -/
theorem State.splitTold_tells (s : State) (w : Cid) :
    ∃ l r h x f, s.splitTold w = { s with llx := l, regs := r, hubs := h, dbg := { s.dbg with stop := some x } } ∧
      (s.dbg.stop.isSome = true → s.dbg.stop = some x) ∧ (s.splitTold w).ShowsLast f 2 ∧ f.code = Ev.SPLIT_CHARGE ∧
      (f.number - s.llx.evNo).toNat < 4 ∧ f.source = 0 ∧ f.unit = 0 := by
  obtain ⟨l, r, h, x, stopped, number, same⟩ := s.stopNow_stands (some w) 3
  have stop : (s.stopNow (some w) 3).dbg.stop.isSome = true := by rw [stopped]; rfl
  obtain ⟨l', r', h', raised⟩ := State.raise_standing stop Ev.SPLIT_CHARGE srcDev (some w) 0
  obtain ⟨f, shows, code, no, source, unit, -⟩ := (s.stopNow (some w) 3).raise_shows Ev.SPLIT_CHARGE srcDev (some w) 0
  refine ⟨l', _, h', x, f, by rw [State.splitTold, raised, stopped]; rfl, same, shows, code, ?_, source, unit⟩
  have number : f.number = s.llx.evNo ∨ f.number = s.llx.evNo + 1 := by rw [no, stopped]; exact number
  rcases number with e | e <;> rw [e] <;> simp

theorem splits_not_event : Fld.SEQ_CHARGE_SPLITS.key 0 0 ∉ eventCells := not_event 1 1 (by decide) (by decide) (by decide)

/-- Up to the event no register field outside the events' cells has changed. -/
theorem State.splitRaised_keepsFlds (s : State) (w : Cid) : s.KeepsFlds ((s.stopNow (some w) 3).raise Ev.SPLIT_CHARGE srcDev (some w)) :=
  (s.stopNow_keepsFlds _ _).trans (State.raise_keepsFlds _ _ _ _ _)

theorem State.splitTold_counted (s : State) (w : Cid) : s.Counted (s.splitTold w) Fld.SEQ_CHARGE_SPLITS 1 := by
  rw [State.Counted, State.splitTold, State.fld_bump_self _ _ _ _ _ (by decide), s.splitRaised_keepsFlds w _ _ _ splits_not_event]

theorem State.splitTold_seams (s : State) (w : Cid) : s.SameSeams (s.splitTold w) := by
  intro F hF i hi
  have other : F.key i 0 ≠ Fld.SEQ_CHARGE_SPLITS.key 0 0 := by
    revert i F
    decide
  have event : F.key i 0 ∉ eventCells := by
    revert i F
    decide
  rw [State.splitTold, State.fld_bump_ne _ _ _ _ _ _ _ _ other, s.splitRaised_keepsFlds w F i 0 event]

end

end Sys2Proof.Machine
end

section
/-! SPLIT_CHARGE and the trace: what the commands leave (R121, R639, R642, R645, R649). -/

namespace Sys2Proof.Machine

variable {s : State} {w : Cid}

/-! ### A split charge -/

/-- While an all-stop stands, the look at the budget keeps the token, the all-stop and the count of splits, and raises at most one event. -/
theorem State.checkBudget_standing (stop : s.dbg.stop.isSome = true) (c : Cid) {f : EvFrame} (shows : s.ShowsLast f 2) :
    (s.checkBudget c).token = s.token ∧ (s.checkBudget c).dbg = s.dbg ∧
      (s.checkBudget c).fld Fld.SEQ_CHARGE_SPLITS = s.fld Fld.SEQ_CHARGE_SPLITS ∧ (s.checkBudget c).ShowsLast f 4 := by
  cases late : s.overBudget c with
  | false =>
    rw [s.checkBudget_within c late]
    exact ⟨rfl, rfl, rfl, shows.mono (by decide)⟩
  | true =>
    have counted := s.bump_drops Fld.SEQ_CTX_CNT_OVER_BUDGET 1 8 1 (j := 0) (by decide) (s.lead c).isLt (by decide)
    have raised := State.ShowsLast.raise (s := s.bump Fld.SEQ_CTX_CNT_OVER_BUDGET 1 (s.lead c).val) (n := 2) shows (by decide) Ev.SEG_BUDGET
      (srcSeq (s.lead c)) (some (s.lead c)) 0
    have splits := State.raise_keepsFlds (s.bump Fld.SEQ_CTX_CNT_OVER_BUDGET 1 (s.lead c).val) Ev.SEG_BUDGET (srcSeq (s.lead c))
      (some (s.lead c)) 0 _ _ _ splits_not_event
    obtain ⟨l, r, h, e⟩ := State.raise_standing (s := s.bump Fld.SEQ_CTX_CNT_OVER_BUDGET 1 (s.lead c).val) stop Ev.SEG_BUDGET
      (srcSeq (s.lead c)) (some (s.lead c)) 0
    rw [s.checkBudget_over c late]
    have marked := ((s.bump Fld.SEQ_CTX_CNT_OVER_BUDGET 1 (s.lead c).val).raise Ev.SEG_BUDGET (srcSeq (s.lead c))
      (some (s.lead c))).modBoth_drops c fun x => { x with overBudget := true }
    refine ⟨marked.token.trans (by rw [e]; rfl), marked.dbg.trans (by rw [e]; rfl), marked.splits.trans (splits.trans counted.splits), ?_⟩
    rw [State.ShowsLast, marked.llx]
    exact raised

/-- What a split charge leaves beside the contexts: the all-stop stands, the split is told and counted, and the token is nobody's. -/
theorem State.splitDone_tells (s : State) (w : Cid) :
    ∃ x, (s.splitDone w).dbg.stop = some x ∧ (s.dbg.stop.isSome = true → s.dbg.stop = some x) ∧ s.Told (s.splitDone w) Ev.SPLIT_CHARGE ∧
      s.Counted (s.splitDone w) Fld.SEQ_CHARGE_SPLITS 1 ∧ (s.splitDone w).token.holder = none ∧
      (s.splitDone w).token.epoch = s.token.epoch + 1 := by
  obtain ⟨l, r, h, x, f, told, same, shows, code, number, source, unit⟩ := s.splitTold_tells w
  have stop : (s.splitTold w).dbg.stop = some x := by rw [told]
  obtain ⟨token, dbg, splits, shows⟩ := State.checkBudget_standing (by rw [stop]; rfl) w shows
  have drops : ((s.splitTold w).checkBudget w).Drops (s.splitDropped w) := (State.dropRest_drops _ w).trans (State.stopWith_drops _ w _)
  unfold State.splitDone
  refine ⟨x, ?_, same, ⟨f, ?_, code, number, source, unit⟩, ?_, State.tokenFreed_holder _, ?_⟩
  · rw [State.tokenFreed_dbg, drops.dbg, dbg, stop]
  · rw [State.tokenFreed_llx, drops.llx]
    exact shows.mem
  · rw [State.Counted, State.tokenFreed_fld, drops.splits, splits, s.splitTold_counted w]
  · rw [State.tokenFreed_epoch, drops.token, token, told]

theorem State.splitDone_mem (s : State) (w : Cid) : (s.splitDone w).mem = s.mem := by simp [State.splitDone, State.splitDropped, State.splitTold]

/-- The seams as the context's segment is dropped. -/
theorem State.splitSeams (s : State) (w : Cid) : s.SameSeams ((s.splitTold w).dropSegment w) := by
  have dropped := State.SameSeams.of_spares (State.dropSegment_spares watchSpared_ok id id (s := s.splitTold w) w)
  exact fun F hF i hi => (dropped F hF i hi).trans (s.splitTold_seams w F hF i hi)

theorem Ctx.stoppedBy_prog (x : Ctx) (code : BitVec 16) : (x.stoppedBy code).prog = x.image := rfl

/-- Both halves stop, the West one with its last-bell image. -/
theorem State.splitDone_ctxs (joined : s.joined w = true) (lead : s.lead w = w) :
    ((s.splitDone w).ctx w).st = .stopped ∧ ((s.splitDone w).ctx w).stopEvent = Ev.SPLIT_CHARGE ∧
      ((s.splitDone w).ctx w).prog = (s.ctx w).image ∧ ((s.splitDone w).ctx (east w)).st = .stopped := by
  have seams := s.splitSeams w
  have west := ((s.splitTold w).dropSegment w).stopWith_ctx_lead w Ev.SPLIT_CHARGE
  have east' := State.stopWith_ctx_east ((seams.joined w).trans joined) Ev.SPLIT_CHARGE
  rw [(seams.lead w).trans lead] at west
  obtain ⟨l, r, h, x, f, told, -⟩ := s.splitTold_tells w
  have image : (((s.splitTold w).dropSegment w).ctx w).image = (s.ctx w).image := by
    rw [State.dropSegment_image, told]
    rfl
  simp only [State.splitDone, State.splitDropped, State.tokenFreed_ctx]
  rw [west, east', Ctx.stoppedBy_prog, image]
  exact ⟨rfl, rfl, rfl, rfl⟩

/-! ### The release of the all-stop (R649) -/

/-- The release of an all-stop that stands. -/
theorem State.restart_standing (stop : s.dbg.stop.isSome = true) :
    s.restart = ({ s with dbg := { s.dbg with stop := none }, time := { s.time with allFallback := true } } : State).bump
      Fld.CLK_XING_CNT_FALLBACKS := by
  obtain ⟨x, e⟩ := Option.isSome_iff_exists.mp stop
  rw [State.restart, e]

/-- It leaves the count of splits. -/
theorem State.restart_splits (stop : s.dbg.stop.isSome = true) : s.restart.fld Fld.SEQ_CHARGE_SPLITS = s.fld Fld.SEQ_CHARGE_SPLITS := by
  rw [State.restart_standing stop]
  exact (State.bump_drops _ Fld.CLK_XING_CNT_FALLBACKS 1 1 1 (by decide) (by decide) (by decide)).splits

/-- What a split charge gives: the token and the joined context as they were told, and the all-stop released if this command took it. -/
def State.SplitGives (s : State) (w : Cid) (t : State) : Prop :=
  s.Counted t Fld.SEQ_CHARGE_SPLITS 1 ∧ t.token.holder = none ∧ t.token.epoch = s.token.epoch + 1 ∧ s.Told t Ev.SPLIT_CHARGE ∧
    (t.ctx w).st = .stopped ∧ (t.ctx w).stopEvent = Ev.SPLIT_CHARGE ∧ (t.ctx w).prog = (s.ctx w).image ∧ (t.ctx (east w)).st = .stopped ∧
    (s.dbg.stop = none → t.dbg.stop = none ∧ t.time.allFallback = true) ∧ (s.dbg.stop.isSome = true → t.dbg.stop = s.dbg.stop) ∧
    t.mem = s.mem

theorem State.splitDone_gives (joined : s.joined w = true) (lead : s.lead w = w) :
    s.SplitGives w (if s.dbg.stop.isNone then (s.splitDone w).restart else s.splitDone w) := by
  obtain ⟨x, stop, same, told, counted, holder, epoch⟩ := s.splitDone_tells w
  obtain ⟨stopped, event, prog, east'⟩ := State.splitDone_ctxs joined lead
  have mem := s.splitDone_mem w
  cases before : s.dbg.stop with
  | none =>
    have standing : (s.splitDone w).dbg.stop.isSome = true := by rw [stop]; rfl
    have splits := State.restart_splits standing
    have restart := State.restart_standing standing
    generalize s.splitDone w = t at *
    rw [Option.isNone_none, if_pos rfl]
    refine ⟨splits.trans counted, ?_, ?_, ?_, ?_, ?_, ?_, ?_, fun _ => ?_, fun stands => absurd stands (by rw [before]; exact Bool.false_ne_true), ?_⟩
    all_goals rw [restart]
    exacts [holder, epoch, told, stopped, event, prog, east', ⟨rfl, rfl⟩, mem]
  | some y =>
    rw [Option.isNone_some, if_neg Bool.false_ne_true]
    exact ⟨counted, holder, epoch, told, stopped, event, prog, east', fun free => absurd (before.symm.trans free) nofun,
      fun stands => stop.trans (same stands).symm, mem⟩

/-! ### The statement -/

/-- What the hub's one record leaves: it is lost, or in the ring of device memory. -/
def State.RecordPut (s : State) (h : HubId) (r : List Byte) (t : State) : Prop :=
  (s.ringLen = 0 ∨ s.fld Fld.DBG_TR_PTR_FULL h.val = 1 → s.Counted t Fld.DBG_TR_PTR_LOST 1 h.val ∧ t.mem = s.mem) ∧
  (s.ringLen ≠ 0 → s.fld Fld.DBG_TR_PTR_FULL h.val ≠ 1 →
    t.mem = SMap.putList s.mem 0 (s.ringPlace h) r ∧
    (s.fld Fld.DBG_TR_PTR_NEXT h.val + 1 < s.ringLen → t.fld Fld.DBG_TR_PTR_NEXT h.val = s.fld Fld.DBG_TR_PTR_NEXT h.val + 1) ∧
    (s.ringLen ≤ s.fld Fld.DBG_TR_PTR_NEXT h.val + 1 → t.fld Fld.DBG_TR_PTR_NEXT h.val = 0 ∧
      (s.fld Fld.DBG_TR_CFG_STOPFULL = 1 → t.fld Fld.DBG_TR_PTR_FULL h.val = 1) ∧
      (s.fld Fld.DBG_TR_CFG_STOPFULL ≠ 1 → t.fld Fld.DBG_TR_PTR_WRAPPED h.val = 1)))

/-- TRACE_RECORD_WRITE of a hub that holds one record and writes to its ring. -/
theorem exec_traceRecordWrite_puts {h : HubId} (clean : s.memErr = []) (idle : s.injectWord = none) (fits : s.ringLen ≤ 2 ^ 25)
    (on : s.domOn (44 + h.val) = true) (kept : (s.hub h).trDropped = 0) {r : List Byte} (buffer : (s.hub h).trBuf = [r])
    (near : ¬ (h = 0 ∧ s.fld Fld.DBG_TR_CFG_REMOTE = 1)) :
    ∃ t, exec (.traceRecordWrite h) s = .next t ∧ (t.hub h).trBuf = [] ∧ (t.hub h).trNo = (s.hub h).trNo ∧ t.ctxs = s.ctxs ∧
      s.RecordPut h r t := by
  obtain ⟨m, d, g, e⟩ := State.ringPut_frame (s := s.bufferGone h) (h := h) clean idle r
  have hub : ((s.bufferGone h).ringPut h.val r).hub h = { s.hub h with trBuf := [], trDropped := 0 } := by
    rw [e]
    exact s.hub_setHub_self h _
  exact ⟨_, exec_traceRecordWrite_single on kept buffer near, by rw [hub], by rw [hub], by rw [e]; rfl,
    State.ringPut_record (s := s.bufferGone h) clean idle fits r⟩

/-- TRACE_RECORD_WRITE of hub 0 where it sends its records to an identity that the device accepts. -/
theorem exec_traceRecordWrite_sends (on : s.domOn 44 = true) (kept : (s.hub 0).trDropped = 0) (some' : (s.hub 0).trBuf ≠ [])
    (remote : s.fld Fld.DBG_TR_CFG_REMOTE = 1) (accepted : s.accepts (BitVec.ofNat 17 (s.fld Fld.DBG_TR_CFG_DEST)) = true) :
    ∃ t m, exec (.traceRecordWrite 0) s = .next t ∧ t.fab.sent = s.fab.sent ++ [m] ∧ m.kind = 10 ∧ m.vl = 6 ∧
      m.data = (s.hub 0).trBuf.flatten ∧ (t.hub 0).trBuf = [] ∧ t.mem = s.mem := by
  have gives := exec_traceRecordWrite_gives (h := 0) on kept some'
  rw [if_pos ⟨rfl, remote⟩] at gives
  obtain ⟨p, sent⟩ := State.sendMsg_accepted (s := s.bufferGone 0)
    (m := (s.bufferGone 0).msg (BitVec.ofNat 17 (s.fld Fld.DBG_TR_CFG_DEST)) 6 10 [] (s.hub 0).trBuf.flatten) none accepted
  rw [sent] at gives
  exact ⟨_, _, gives, rfl, rfl, rfl, rfl, congrArg Hub.trBuf (s.hub_setHub_self 0 _), rfl⟩

/-- REMOTE_TRACE where the ring has room: the block record and the message's records lie in memory one after another. -/
theorem exec_remoteTrace_stores {msg : FMsg} (here : s.delivered 10 msg = true) (ours : s.TakesTrace msg) {n : Nat}
    (size : msg.data.length = 32 * n) (ready : s.RingRoom 0 (1 + n)) :
    ∃ t, exec (.remoteTrace msg) s = .next t ∧ t.fld Fld.DBG_TR_PTR_NEXT 0 = s.fld Fld.DBG_TR_PTR_NEXT 0 + (1 + n) ∧
      (t.hub 0).trNo = (s.hub 0).trNo + 1 ∧ (∀ k, k < 32 * n → t.memByte (s.ringPlace 0 + 32 + k) = msg.data.getD k 0) ∧
      t.memByte (s.ringPlace 0 + 11) = 0xC ∧
      ∀ a, a < s.ringPlace 0 ∨ s.ringPlace 0 + 32 * (1 + n) ≤ a → t.memByte a = s.memByte a := by
  obtain ⟨t, run, next, number, mem, clean⟩ := exec_remoteTrace_writes here ours size ready
  exact ⟨t, run, next, number, State.memByte_block size mem clean ready.clean⟩

/-- Settles O52: a hub's records by `exec_traceRecordWrite_puts` and `exec_traceRecordWrite_sends`, a message's by `exec_remoteTrace_stores`, a
split charge by `State.splitDone_gives`. -/
theorem traceAndSplits : Obligations.TraceAndSplits := by
  unfold Obligations.TraceAndSplits
  intro s _ clean idle short
  have ring : s.rst.tail.toNat * 2 ^ 21 = s.ringLen := Nat.mul_comm _ _
  have fits : s.ringLen ≤ 2 ^ 25 := by omega
  dsimp only
  rw [ring]
  refine ⟨fun h => ⟨fun rest => ?rests, fun on kept r buffer _ near => ?puts, fun h0 on kept some' remote accepted => ?sends⟩,
    fun msg => ⟨exec_remoteTrace_elsewhere, fun here other => ?refuses, fun here ours n size room more => ?takes⟩,
    fun c => ⟨exec_splitCharge_rests, fun joined owner busy => ?splits⟩⟩
  case rests => exact ⟨_, exec_traceRecordWrite_rests rest, s.hub_setHub_self h _, rfl⟩
  case puts => exact exec_traceRecordWrite_puts clean idle fits on kept buffer fun ⟨h0, remote⟩ => near h0 remote
  case sends =>
    subst h0
    exact exec_traceRecordWrite_sends on kept some' remote accepted
  case refuses => exact ⟨_, exec_remoteTrace_refuses here other, s.bump_counted _ _ _ _ (by decide), rfl⟩
  case takes =>
    have ready : s.RingRoom 0 (1 + n) := ⟨clean, idle, fits, room, by rw [← Nat.add_assoc]; exact more⟩
    obtain ⟨t, run, next, number, data, type, rest⟩ := exec_remoteTrace_stores here ours size ready
    have place (k : Nat) : s.rgnBase 252 + 32 * (s.fld Fld.DBG_TR_PTR_NEXT 0 + k) = s.ringPlace 0 + 32 * k := by
      rw [Nat.mul_add, ← Nat.add_assoc]
      rfl
    refine ⟨t, run, by rw [next, Nat.add_assoc], number, fun k hk => ?_, type, fun a ha => rest a ?_⟩
    · rw [place 1]
      exact data k hk
    · rwa [Nat.add_assoc, place (1 + n)] at ha
  case splits =>
    have lead : s.lead ⟨c.val, by omega⟩ = ⟨c.val, by omega⟩ := by
      rw [State.lead, if_pos joined]
      exact Fin.ext (Nat.mod_eq_of_lt c.isLt)
    exact ⟨_, exec_splitCharge_splits rfl joined owner busy, State.splitDone_gives joined lead⟩

end Sys2Proof.Machine
end
